-- ==== Sys2Proof/Word.lean ====
section
/-! DEFINITION. The plainest data of the model: bytes, machine words, sparse maps keyed by a unit number, ordered sets of
numbers, and sparse byte memories. The operations on maps, sets and memories stand in Machine/Mem.lean. -/

namespace Sys2Proof

/-- One byte. -/
abbrev Byte := BitVec 8

/-- A 32-bit word (an accumulator entry, an FP32 pattern, a BAR0 register). -/
abbrev Word := BitVec 32

/-- A sparse map from unit numbers to records, in rising key order. A key that is not listed has the record that the
reader of the map names as the unit's initial record. -/
abbrev SMap (α : Type) := List (Nat × α)

/-- A set of unit numbers, strictly rising. -/
abbrev NSet := List Nat

/-- A sparse byte memory: strictly rising addresses, no entry equal to 0, which an unlisted address reads as. -/
abbrev Mem := List (Nat × Byte)

end Sys2Proof
end

