-- ==== Sys2Proof/Syntax.lean ====
section
/-! DEFINITION. The commands of the block: one constructor of Instr for each row of spec/opcode_table.json, with the row's
operands, and the records that operands are made of. What the device reads from host memory or from a peer stands in the
command (log 11), and so does the outcome of a physical or cryptographic happening (log 2, log 12). -/

namespace Sys2Proof

/-- What every request row takes from the header of its request: the function whose mailbox it came through, its sequence
number, the response buffer (R294), and whether its body is bad: too short, or a reserved field is nonzero (R14). -/
structure Req where
  fn : Nat
  seq : Nat
  respAddr : Nat
  respLen : Nat
  rsv : Bool
  deriving DecidableEq, Repr

/-- CONTEXT_BIND body, the context table entry (R256). `root` is a facet address. -/
structure BindBody where
  context : Nat
  facet : Nat
  function : Nat
  pasid : Nat
  root : Nat
  weight : Nat
  deriving DecidableEq, Repr

/-- QUEUE_CREATE body (R316). -/
structure QueueBody where
  facet : Nat
  privileged : Bool
  report : Bool
  source : Nat
  subLog2 : Nat
  compLog2 : Nat
  subBase : Nat
  compBase : Nat
  fenceBase : Nat
  fenceCount : Nat
  deriving DecidableEq, Repr

/-- Tier configuration (R451). -/
structure TierCfg where
  kind : Nat
  endpoint : Nat
  offer : Nat
  deriving DecidableEq, Repr

/-- FACET_CREATE body (R358). Bitmaps are lists of rising numbers. -/
structure FacetBody where
  function : Nat
  mode : Nat
  confidential : Bool
  member : Bool
  cls : Nat
  minRate : Nat
  timeLimit : Nat
  peerTimeout : Nat
  master : Nat
  kvFormat : Nat
  kvBlocks : Nat
  rungs : List Nat
  tier : TierCfg
  memberCount : Nat
  masterDevice : Nat
  masterFacet : Nat
  halfPorts : List Nat
  cores : List Nat
  channels : List Nat
  deriving DecidableEq, Repr

/-- FACET_RESIZE body (R361). `moves` are (source, target) channel pairs. -/
structure ResizeBody where
  facet : Nat
  setMaster : Bool
  setLimits : Bool
  master : Nat
  moves : List (Nat × Nat)
  minRate : Nat
  timeLimit : Nat
  peerTimeout : Nat
  halfPorts : List Nat
  cores : List Nat
  channels : List Nat
  deriving DecidableEq, Repr

/-- One operation of a core program (R134, R135); `wait` is the wait_mask. -/
inductive Op where
  | pass (wait mask rep pcw input engineStride tokenStride : Nat)
  | planeLoad (wait mask image imageStride : Nat)
  | planeSwap (wait mask : Nat)
  | vec (wait vop fmt vd va vb vc addr count mod : Nat)
  | dmaIn (wait hint : Nat) (list : Bool) (base va listLen dst length : Nat)
  | dmaOut (wait hint : Nat) (list : Bool) (base va listLen src length : Nat)
  | send (wait dest queue flits src : Nat)
  | recv (wait queue flits dst : Nat)
  | prismSend (wait prism flits src : Nat)
  | barrier (wait number : Nat) (facetScope : Bool) (participants : Nat)
  | waitEvent (wait event threshold : Nat)
  | fin (wait : Nat)
  deriving DecidableEq, Repr

/-- One program of a segment (R129); `offset` is where its operations lie in the container. -/
structure Program where
  offset : Nat
  logicalCore : Nat
  group : Nat
  queueMap : List Nat
  ops : List Op
  deriving DecidableEq, Repr

/-- One entry of a segment's prism table (R130). -/
structure PrismEntry where
  source : Nat
  queue : Nat
  leaves : List Nat
  deriving DecidableEq, Repr

/-- What a segment container says (R127 to R130). -/
structure Segment where
  streamed : Bool
  twoPlane : Bool
  coreCount : Nat
  weightSet : Nat
  soloEstimate : Nat
  size : Nat
  programs : List Program
  prisms : List PrismEntry
  deriving DecidableEq, Repr

/-- SEGMENT_LOAD body (R355) with the bytes of the container it names. -/
structure SegBody where
  facet : Nat
  ladder : Nat
  containerAddr : Nat
  length : Nat
  container : List Byte
  deriving DecidableEq, Repr

/-- One index entry of a weight set (R530). -/
structure WsEntry where
  chunk : Nat
  engine : Nat
  plane : Nat
  deriving DecidableEq, Repr

/-- One rung of a weight set (R529). -/
structure WsRung where
  coreCount : Nat
  streamed : Bool
  entries : List WsEntry
  deriving DecidableEq, Repr

/-- What a weight set container's header and index say (R529, R530). -/
structure WsHeader where
  sealedKey : Bool
  headerSet : Nat
  chunkCount : Nat
  chunkOffset : Nat
  bindingSet : Nat
  rungs : List WsRung
  deriving DecidableEq, Repr

/-- WEIGHT_SET_LOAD body (R532) with the bytes of the container it names, and the outcome of its two cryptographic checks
(log 12). -/
structure WsBody where
  facet : Nat
  replicated : Bool
  keySlot : Nat
  setId : Nat
  containerAddr : Nat
  length : Nat
  container : List Byte
  tagOk : Bool
  unwrapOk : Bool
  deriving DecidableEq, Repr

/-- Firmware image header (R514) with Lantern's verdict on its signatures and digest (log 12). -/
structure FwImage where
  formatOk : Bool
  keyIndex : Nat
  floor : Bool
  svn : Nat
  build : Nat
  sigsOk : Bool
  length : Nat
  /-- Bytes 0x0000 to 0x00FF, over which the signatures and measurement 2 go. -/
  header : List Byte
  deriving DecidableEq, Repr

/-- POWER_LIMITS body (R509). -/
structure PowerBody where
  dimDisable : Bool
  peakW : Nat
  sustW : Nat
  peakWindow : Nat
  vmaxW : Nat
  vmaxE : Nat
  tSoft : Nat
  dimDelay : Nat
  deriving DecidableEq, Repr

/-- Writable registers of a generator block (R232, R233). -/
structure TgCfg where
  stopOnFail : Bool
  invertOdd : Bool
  raw : Bool
  op : Nat
  pattern : Nat
  start : Nat
  count : Nat
  fixedPat : Nat
  seed : Nat
  loops : Nat
  deriving DecidableEq, Repr

/-- What a generator run counted (R232). -/
structure TgResult where
  lines : Nat
  mismatch : Nat
  firstFail : Nat
  corrected : Nat
  uncorr : Nat
  parity : Nat
  deriving DecidableEq, Repr

/-- What the pins of a DRAM access were off by (R208, R212). -/
inductive LineOutcome where
  | clean
  /-- The symbols of the 72 that read wrong, and, where they are three or more, the data of the codeword within two symbols
  that the decoder finds, if it finds one. -/
  | symbols (wrong : List Nat) (found : Option (List Byte))
  /-- Repeats after interface parity errors; more than 3 means that all failed. -/
  | parity (repeats : Nat)
  deriving DecidableEq, Repr

/-- What a read of the traffic generator met (R229): its number among the generator's accesses of the run, the outcome of the DRAM
access, and in raw mode the bits of the 576 that read wrong. -/
structure TgRead where
  step : Nat
  out : LineOutcome
  flips : List Nat
  deriving DecidableEq, Repr

/-- Payload of a COPY or FILL (R331). Spaces: 0 virtual, 1 facet address, 2 host bus. Hints: 0 KEEP, 1 STREAM, 2 LAST. -/
structure CopyArgs where
  src : Nat
  dst : Nat
  length : Nat
  srcSpace : Nat
  dstSpace : Nat
  srcHint : Nat
  dstHint : Nat
  pattern : Nat
  deriving DecidableEq, Repr

/-- Payload of a configure command (R418). -/
structure CfgArgs where
  ladder : Nat
  draftLadder : Nat
  budget : Nat
  draftLen : Nat
  kvLow : Nat
  deriving DecidableEq, Repr

/-- Payload of SEQ_ADMIT with seq_id not 0 (R431). -/
structure AdmitArgs where
  seqId : Nat
  ladder : Nat
  record : Nat
  donor : Nat
  shared : Nat
  deriving DecidableEq, Repr

/-- Payload of STATE_EXPORT (R454). -/
structure ExportArgs where
  seqId : Nat
  resolve : Bool
  facet : Nat
  device : Nat
  deriving DecidableEq, Repr

/-- Payload of STATE_IMPORT (R456). -/
structure ImportArgs where
  tier : Nat
  seqId : Nat
  resolve : Bool
  outLog2 : Nat
  outSource : Nat
  outRing : Nat
  share : Nat
  firstTokenNs : Nat
  deriving DecidableEq, Repr

/-- Opcode payload of a descriptor (R328). -/
inductive Payload where
  | nop
  | runSegment (ladder : Nat) (args : List Nat)
  | copy (a : CopyArgs)
  | fill (a : CopyArgs)
  | fenceSignal (entries : List (Nat × Nat))
  | fenceWait (any : Bool) (entries : List (Nat × Nat))
  | configure (a : CfgArgs)
  | seqAdmit (a : AdmitArgs)
  | seqCancel (seqId : Nat)
  | stateExport (a : ExportArgs)
  | stateImport (a : ImportArgs)
  | shadowInvalidate (target : Nat) (all : Bool) (va pages : Nat)
  | reserved (code : Nat)
  deriving DecidableEq, Repr

/-- A command descriptor (R326, R327). `rsv` is the byte offset of the first nonzero reserved field, if any. -/
structure Desc where
  context : Nat
  waitEn : Bool
  signalEn : Bool
  signalOnError : Bool
  deadline : Nat
  waitFence : Nat
  signalFence : Nat
  waitValue : Nat
  signalValue : Nat
  tag : Nat
  rsv : Option Nat
  payload : Payload
  deriving DecidableEq, Repr

/-- A stop sequence of a sequence record (R428). -/
structure StopSeq where
  progress : Nat
  tokens : List Nat
  deriving DecidableEq, Repr

/-- A sequence record (R428). Temperature and top_p are FP32 patterns. -/
structure SeqRecord where
  seqId : Nat
  weightSet : Nat
  hold : Bool
  hostDrafts : Bool
  tree : Bool
  maxDrafts : Nat
  share : Nat
  promptLen : Nat
  prompt : Nat
  outRing : Nat
  outLog2 : Nat
  kvFormat : Nat
  outSource : Nat
  maxTokens : Nat
  firstTokenNs : Nat
  interTokenNs : Nat
  temperature : Nat
  topP : Nat
  topK : Nat
  seed : Nat
  endTokens : List Nat
  stops : List StopSeq
  position : Nat
  generated : Nat
  prefilled : Nat
  lastToken : Nat
  tier : Nat
  modules : Nat
  blockUnits : Nat
  offerUnknown : Bool
  offeredEpoch : Nat
  rsv : Bool
  deriving DecidableEq, Repr

/-- A host draft set read from an output ring header (R447). -/
structure DraftSet where
  gen : Nat
  count : Nat
  tokens : List Nat
  parents : List Nat
  deriving DecidableEq, Repr

/-- What the builder reads of one sequence in host memory: the 512-byte header of its output ring (R447), and the prompt
bytes of a chunk that lies on HOST pages (R428). -/
structure RingRead where
  seqId : Nat
  header : List Byte
  prompt : List Byte
  deriving DecidableEq, Repr

/-- What the columns' charges were off by in the passes of a full calibration (R107 step 3, log 8): by column times 4 plus
range, the errors in 1/16 unit, those of the zero passes first, then of the passes at +25 %, -25 %, +75 % and -75 %. A column
and range that is not listed, and a pass beyond a list's end, has no error. -/
abbrev CalErrors := SMap (List Int)

/-- One plane image of a stream image as its sealed path gives it (R87): 0 the chunk's first copy was good, 1 that copy failed
and the replica was good, 2 both failed; and the plaintext. -/
structure StreamImage where
  outcome : Nat
  image : List Byte
  deriving DecidableEq, Repr

/-- Header of a routed transaction with its data (R398, R399). -/
structure Txn where
  op : Nat
  encrypted : Bool
  endpointSpace : Bool
  last : Bool
  keyGen : Nat
  masterDevice : Nat
  masterFacet : Nat
  context : Nat
  tag : Nat
  addr : Nat
  data : List Byte
  rsv : Bool
  deriving DecidableEq, Repr

/-- A flit as the receiver's decoder gives it (R388): its 256 bytes, and how many symbols the code corrected, none where the
codeword was not correctable. `link` is the half-port of a split port that it arrived on. `auth` is the outcome of the tag check of an encrypted transaction and `plain` its plaintext
(log 12). -/
structure Flit where
  link : Nat
  bytes : List Byte
  symbols : Option Nat
  auth : Bool
  plain : List Byte
  deriving DecidableEq, Repr

/-- Outcome of an access to the pooled tier (R455, R457): an answered word, or an ERROR or timeout. -/
inductive TierAnswer where
  | word (w : Nat)
  | failed
  deriving DecidableEq, Repr

/-- Outcome of a CAS on an ownership word. -/
inductive CasAnswer where
  | won
  | compareFailed
  | failed
  deriving DecidableEq, Repr

/-- One command of the block. Field comments are given where the name does not say which operand of the rule it is. -/
inductive Instr where
  -- mailbox and management requests
  | mbxDoorbell (fn seq : Nat) (buffer : List Byte)
  | getInfoDevice (fn : Nat)
  | getInfoClusters (fn : Nat)
  | getInfoFrameMap (fn : Nat)
  | contextBind (fn : Nat)
  | contextUnbind (fn : Nat)
  | contextUnbindComplete (ctx : Nat)
  | queueCreate (fn : Nat)
  | queueDestroy (fn : Nat)
  | queueDestroyComplete (queue : Nat)
  | facetCreate (fn : Nat)
  | memberJoinTimeout (facet : Nat)
  | facetResize (fn : Nat)
  | placementSwitch (facet : Nat)
  | resizeOldPlacementDrained (facet : Nat)
  | slotMoveDone (facet source : Nat)
  | facetDestroy (fn : Nat)
  | facetPark (fn : Nat)
  | facetUnpark (fn : Nat)
  | halfUnparkReady (half : Nat)
  | segmentLoad (fn : Nat) (container : List Byte)
  | segmentUnload (fn : Nat)
  | weightSetLoad (fn : Nat) (container : List Byte) (tagOk unwrapOk : Bool)
  | weightSetLoadDone (facet set : Nat) (images : List StreamImage)
  | weightSetUnload (fn : Nat)
  | quiesce (fn : Nat)
  | quiesceDone (function : Nat)
  | resume (fn : Nat)
  | computeReset (fn : Nat)
  | fwUpdate (fn : Nat) (image : List Byte) (sigsOk : Bool)
  | fwImageVerified
  | fwQuietPoint
  | fwHandoverDone
  | clusterControllerUpdate (selfCheck : Bool)
  | powerLimitsSet (fn : Nat)
  | powerLimitsRead (fn : Nat)
  | powerLimitsDusk (fn : Nat)
  | pf0D3hotEntry
  | duskEntered
  | powerLimitsWake (fn : Nat)
  | pf0D0Entry
  | woke (ms : Nat)
  | memtestAcquire (fn : Nat)
  | memtestConfigure (fn : Nat)
  | memtestStart (fn : Nat)
  | memtestStop (fn : Nat) (steps : Nat) (reads : List TgRead)
  | memtestRead (fn : Nat)
  | memtestRelease (fn : Nat)
  | memtestRetire (fn : Nat)
  | tgRunEnd (ch : Nat) (reads : List TgRead)
  | telemetry (fn : Nat)
  | accountingRead (fn : Nat)
  -- doorbells, queues, commands
  | dbSubmit (fn queue tail : Nat)
  | dbCompHead (fn queue head : Nat)
  | residentSlotAssign (queue : Nat)
  | slotReview (next : List (Nat × Nat))
  | commandFetch (queue : Nat) (bytes : List Byte)
  | fenceReread (cmd : Nat)
  | commandDeadlineExpiry (cmd : Nat)
  | commandTimeLimit (cmd : Nat)
  | nop (cmd : Nat)
  | runSegment (cmd : Nat)
  | copy (cmd : Nat) (hostData : List Byte)
  | fill (cmd : Nat)
  | fenceSignal (cmd : Nat)
  | fenceWait (cmd : Nat)
  | seqConfigure (cmd : Nat)
  | seqAdmit (cmd : Nat) (image : List Byte)
  | seqCancel (cmd : Nat)
  | stateExport (cmd : Nat)
  | stateImport (cmd : Nat)
  | shadowInvalidate (cmd : Nat)
  | commandComplete (cmd : Nat)
  | placementSchedule (facet : Nat)
  | weightSwitchDone (facet : Nat)
  -- engines
  | pass (core mask rep pcw input engineStride tokenStride : Nat) (upset : List Nat)
  | anDroopReplay (engine : Nat)
  | engineDroopStop (engine : Nat)
  | engineDroopResume (engine : Nat)
  | planeLoad (core mask image imageStride : Nat)
  | planeLoadDone (engine retries : Nat) (faultRow : Bool)
  | planeSwap (core mask : Nat)
  -- vector engine
  | vload (core vd addr count : Nat) (upset : List Nat)
  | vstore (core va addr count : Nat)
  | vadd (core fmt vd va vb count : Nat) (scalar : Bool)
  | vmul (core fmt vd va vb count : Nat) (scalar : Bool)
  | vfma (core fmt vd va vb vc count : Nat) (scalar : Bool)
  | vmax (core fmt vd va vb count : Nat) (scalar : Bool)
  | vsum (core fmt vd va count : Nat)
  | vrmax (core fmt vd va count : Nat)
  | vsfn (core fmt vd va count kind : Nat)
  | vcvt (core fmt vd va vb count target : Nat)
  | vacc (core vd va vb addr count : Nat) (upset : List Nat)
  | vrope (core fmt vd va vb vc count : Nat)
  | vqk (core vd va vb addr count : Nat) (k4 : Bool) (hd heads : Nat) (upset : List Nat)
  | vpv (core vd va addr count : Nat) (k4 : Bool) (hd heads : Nat) (upset : List Nat)
  | vtopk (core vd va vc count k : Nat) (lists : Bool)
  | vsample (core vd va addr count : Nat) (upset : List Nat)
  -- core data movement and control
  | dmaIn (core hint : Nat) (list : Bool) (base va listLen dst length : Nat) (hostData : List Byte) (upset : List Nat)
  | dmaOut (core hint : Nat) (list : Bool) (base va listLen src length : Nat) (upset : List Nat)
  | send (core dest queue flits src : Nat) (upset : List Nat)
  | recv (core queue flits dst : Nat) (upset : List Nat)
  | prismSend (core prism flits src : Nat) (upset : List Nat)
  | barrier (core number : Nat) (facetScope : Bool) (participants : Nat)
  | waitEvent (core event threshold : Nat)
  | endOp (core : Nat)
  -- sealed loads, scrub, calibration
  | sealedChunkStart (cluster engine plane facet set chunk buffer : Nat) (scrub : Bool)
  | sealedChunkDone (cluster : Nat) (tagOk : Bool) (image : List Byte) (retries : Nat) (faultRow : Bool) (upset : List Nat)
  | planeScrubVisit (engine plane row : Nat) (upset : List Nat)
  | scrubGapTimeout (engine : Nat)
  | scrubRewriteDone (engine : Nat) (ok : Bool)
  | calibrationPeriodExpiry (engine : Nat)
  | calibrationStart (engine : Nat)
  | calibrationDone (engine : Nat) (errors : CalErrors)
  | calibrationAbandon (engine : Nat)
  | calibrationOverdue (engine : Nat)
  | startUpCalibration (half : Nat)
  | calibrationLoadSettled (half : Nat)
  | startUpCalibrationDone (half : Nat) (errors : SMap (List CalErrors))
  | coreClearingDone (core : Nat)
  -- local time
  | halfRateSample (west east : Nat)
  | ltcTrim
  | refclkLoss
  | refclkRestore
  | ltcCaptureGo (value : Nat)
  | ltcCaptureDone
  -- regulation
  | guaranteeMonitorWindow (master target held entries : Nat)
  | fctShareCtrlCommit (value : Nat)
  | shareCommitApplied
  -- memory
  | channelRequest (master ch line hint : Nat) (write : Bool) (offset : Nat) (data : List Byte) (out : LineOutcome) (cmd : Nat)
  | ceDegradeWindow (ch : Nat)
  | patrolScrubLine (ch : Nat) (out : LineOutcome)
  | channelRetire (ch : Nat)
  | frameCopyLine (ch : Nat) (out : LineOutcome)
  | frameSwitch (ch : Nat)
  | frameSourceDrained (ch : Nat)
  | zeroFillDone (ch : Nat)
  | stackTemperatureSample (stack : Nat) (temp : Int)
  | channelTrainingDone (failed : List Nat)
  -- coherence: `line` is channel times 2^25 plus the line within the channel
  | readShared (cluster line : Nat) (filterUe : Bool)
  | readOwn (cluster line : Nat) (filterUe : Bool)
  | upgrade (cluster line : Nat)
  | writeBack (cluster line : Nat)
  | cleanEvictNotice (cluster line : Nat)
  | snoopForward (cluster line : Nat) (ue : Bool)
  | snoopInvalidation (cluster line : Nat)
  | snoopAck (cluster line : Nat)
  | completionAck (cluster line offset : Nat) (data : List Byte)
  | nonAllocatingRead (line hint : Nat)
  | nonAllocatingWrite (line hint offset : Nat) (data : List Byte)
  -- translation
  | translationWalk (cluster ctx va : Nat) (write : Bool) (cmd : Nat)
  | walkComplete (ctx vpage : Nat)
  | atsTranslationCompletion (ctx vpage status hpa size : Nat) (r w : Bool)
  | atsInvalidateRequest (fn : Nat) (pasid : Option Nat) (base pages tag : Nat)
  | invalidationDrained (id : Nat)
  | invalidationDrainTimeout (id : Nat) (aborted : List (Nat × Nat))
  | prgResponse (fn index code : Nat)
  -- host port and functions
  | bar2Read (addr len : Nat)
  | bar2Write (addr : Nat) (data : List Byte)
  | bar2Atomic (addr kind size a b : Nat)
  | configSpaceAccess (fn : Nat) (write : Bool) (off value : Nat)
  | functionLevelReset (fn : Nat)
  | numvfsLower (n : Nat)
  | tdispLockInterface (fn : Nat)
  | evcModeWrite (fn value : Nat)
  | evcRingHeadWrite (fn value : Nat)
  | evcPendingAck (fn word mask : Nat)
  | evcStatusWrite (fn value : Nat)
  | registerWrite (fn off value : Nat) (wide : Bool)
  -- Voxlink
  | vxlPortEnable (port : Nat)
  | vxlPortDisable (port : Nat)
  | vxlRetrain (port : Nat)
  | vxlTrainingDone (port : Nat) (ok : Bool) (failedLanes : List Nat) (id role : Nat) (valid : Bool)
  | vxlLaneLockLoss (port lane : Nat)
  | vxlLaneErrorWindow (port lane count : Nat)
  | vxlRetrainDone (port : Nat) (ok : Bool) (failedLanes : List Nat) (ackLo ackHi : Nat)
  | vxlTrainRetry (port : Nat)
  | vxlFlitReceive (port : Nat) (f : Flit)
  | vxlNakReceive (port half ack : Nat)
  | vxlReplayLimit (port half : Nat)
  | vxlIdleTimer (port half : Nat)
  | vxlCredit (port half req rsp msg : Nat)
  | vxlIdent (port half id role : Nat) (valid : Bool)
  | vxlDeviceIdWrite (value : Nat)
  | vxlPrbsCtrlWrite (port value : Nat)
  | vxlRead (port src : Nat) (t : Txn)
  | vxlReadData (port src : Nat) (t : Txn)
  | vxlWrite (port src : Nat) (t : Txn)
  | vxlWriteAck (port src : Nat) (t : Txn)
  | vxlCas (port src : Nat) (t : Txn)
  | vxlFetchadd (port src : Nat) (t : Txn)
  | vxlAtomicData (port src : Nat) (t : Txn)
  | vxlDispatch (port src : Nat) (t : Txn)
  | vxlDispatchDone (port src : Nat) (t : Txn)
  | vxlSignal (port src : Nat) (t : Txn)
  | vxlPrismWrite (port src : Nat) (t : Txn)
  | vxlCollective (port src : Nat) (t : Txn)
  | collectiveSlotTimeout (port slot : Nat)
  | vxlJoin (port src : Nat) (t : Txn)
  | vxlJoinAck (port src : Nat) (t : Txn)
  | vxlError (port src : Nat) (t : Txn)
  | peerTimeoutExpiry (tag : Nat)
  -- serving
  | stepBuild (facet : Nat) (rings : List RingRead)
  | stepCopiesDone (facet : Nat)
  | stepRunComplete (facet : Nat)
  | seqDeadlineExpiry (facet seqId : Nat) (inter : Bool)
  | exportLastPassDone (facet seqId : Nat)
  | exportWordRead (facet seqId : Nat) (a : TierAnswer)
  | exportWritesAcked (facet seqId : Nat) (ok : Bool)
  | exportCasAnswer (facet seqId : Nat) (a : CasAnswer)
  | exportPoll (facet seqId : Nat) (a : TierAnswer)
  | exportOfferDeadline (facet seqId : Nat)
  | exportReclaimAnswer (facet seqId : Nat) (a : CasAnswer)
  | importSlotReserved (cmd : Nat)
  | importWordRead (cmd : Nat) (a : TierAnswer) (record : List Byte)
  | importCasAnswer (cmd : Nat) (a : CasAnswer)
  | importBlockReadsDone (facet seqId : Nat) (ok : Bool) (data : List Byte)
  | importReleaseAnswer (facet seqId : Nat) (a : CasAnswer)
  -- accounting, monitors, recovery
  | accountingPublish (confidential : Bool)
  | energyReconcile (measured : Nat)
  | slowdownWindow (facet : Nat)
  | overloadWindow (facet : Nat)
  | waitForSnapshot (cluster : Nat)
  | hangDetect (facet : Nat) (cycle : List Nat)
  | eclipseFenced (facet : Nat)
  | eclipsePenumbraEnd (facet : Nat)
  | eclipseCleared (facet : Nat) (failed : List Nat)
  | eclipseCalibrated (facet : Nat) (errors : SMap (List CalErrors))
  | eclipse (facet duration : Nat)
  | coreReplacementDone (facet failed : Nat)
  -- power and cooling
  | governorSample (peakAvg sustAvg : Nat)
  | governorRailSettled (half : Nat)
  | dimDelayExpiry (half : Nat)
  | dieSensorSample (cluster : Nat) (temps : List Int)
  | thermtrip (subject : Nat) (temp : Int)
  | coolOkDeassert
  | coolOkAssert
  | coolOkStable
  | coolLoss
  | haltSaveTimeout
  | haltTablesSaved
  -- security
  | spdmGetVersion (fn : Nat)
  | spdmGetCapabilities (fn : Nat)
  | spdmNegotiateAlgorithms (fn : Nat) (supported : Bool)
  | spdmGetDigests (fn : Nat)
  | spdmGetCertificate (fn slot offset length : Nat)
  | spdmChallenge (fn slot : Nat)
  | spdmGetMeasurements (fn index : Nat) (signed : Bool)
  | spdmKeyExchange (fn : Nat)
  | spdmFinish (fn session : Nat) (macOk : Bool)
  | spdmHeartbeat (fn session : Nat)
  | spdmKeyUpdate (fn session : Nat)
  | spdmEndSession (fn session : Nat)
  | getPqChain (fn : Nat)
  | pqSign (fn : Nat) (session : Option Nat) (target : Nat)
  | keySetMemory (fn session : Nat) (body : List Byte)
  | keySetLink (fn session : Nat) (body : List Byte)
  | keySetWeight (fn session : Nat) (body : List Byte)
  | keyClear (fn session : Nat) (body : List Byte)
  | bindingSet (session : Nat) (body : List Byte)
  | getNonce (fn : Nat)
  | nonceExpiry
  | lcTransition (fn : Nat) (session : Option Nat) (body : List Byte) (byOwner byPsilum : Bool)
  | keyRotated (facet : Nat)
  | tamper (source : Nat)
  -- start-up and sideband
  | aonGood (slotId : Nat)
  | railRaiseDone (rail : Nat)
  | railFailure (rail : Nat)
  | perstAssert
  | perstDeassert (bank0Ok bank1Ok : Bool)
  | mcStart
  | i3cSetdasa (addr : Nat)
  | i3cEntdaa (addr : Nat)
  | mctpControl (code eid : Nat)
  | pldmDiscovery (code arg : Nat)
  | pldmGetSensorReading (id : Nat)
  | pldmGetStateSensorReadings (id : Nat)
  | pldmSetEventReceiver (eid : Nat)
  | pldmFruRead
  | sensorRefresh (readings : SMap Int)
  | vddAonLoss
  | testAccessPortAccess (core off : Nat) (write : Bool) (data : List Byte)
  | tdispStartInterface (fn : Nat)
  deriving DecidableEq, Repr

end Sys2Proof
end

