-- ==== Sys2Proof/WellFormed.lean ====
section
/-! DEFINITION. Well-formed commands: every unit number that a command names exists on the module (R18, R19, R24, R49, R190,
R199, R312, R315, R350, R351), and a field that the spec gives a width fits it. What a request body, a descriptor or a core
operation holds is not checked here: the device answers it. -/

namespace Sys2Proof

def okFn (n : Nat) : Bool := decide (n < 64)
def okCore (n : Nat) : Bool := decide (n < 544)
def okEngine (n : Nat) : Bool := decide (n < 4352)
def okCluster (n : Nat) : Bool := decide (n < 32)
def okChan (n : Nat) : Bool := decide (n < 256)
def okStack (n : Nat) : Bool := decide (n < 8)
def okFacet (n : Nat) : Bool := decide (n < 64)
def okPort (n : Nat) : Bool := decide (n < 6)
/-- A half of the die, of a port, or a plane. -/
def okTwo (n : Nat) : Bool := decide (n < 2)
/-- A line of a channel, and a line of the module. -/
def okLine (n : Nat) : Bool := decide (n < 2 ^ 25)
def okGlobal (n : Nat) : Bool := decide (n < 2 ^ 33)
/-- Bytes within a line. -/
def okPart (off : Nat) (d : List Byte) : Bool := decide (off + d.length ≤ 64)
def okIdentity (n : Nat) : Bool := decide (n < 65536)
def okWord (n : Nat) : Bool := decide (n < 2 ^ 32)
/-- A number lies in one of a list of ranges: first, end. -/
def inRanges (l : List (Nat × Nat)) (n : Nat) : Bool := l.any fun r => decide (r.1 ≤ n) && decide (n < r.2)
/-- Master numbers of R190. -/
def okMaster (m : Nat) : Bool := inRanges [(0, 0x220), (0x400, 0x420), (0x500, 0x50C), (0x600, 0x640), (0x700, 0x720)] m
/-- Targets of R190: a channel, or 0x100 plus an edge router's number less 32. -/
def okTarget (t : Nat) : Bool := decide (t < 256) || decide (0x100 ≤ t) && decide (t < 0x10A)
/-- A master of R190, or one of R187: 0x800 the MC, 0x801 Lantern, 0x802 to 0x807 the link-collective engines of ports A to F,
0x808 the page-migration engine. -/
def okRequester (m : Nat) : Bool := okMaster m || inRanges [(0x800, 0x809)] m
def okRail (n : Nat) : Bool := decide (n < 7)
/-- A cluster, or 0x100 plus a stack. -/
def okTrip (n : Nat) : Bool := okCluster n || (decide (0x100 ≤ n) && okStack (n - 0x100))

/-- Every command names only what exists. -/
def Instr.wf : Instr → Bool
  | .mbxDoorbell fn seq _ => okFn fn && decide (seq < 65536)
  | .getInfoDevice fn => okFn fn
  | .getInfoClusters fn => okFn fn
  | .getInfoFrameMap fn => okFn fn
  | .contextBind fn => okFn fn
  | .contextUnbind fn => okFn fn
  | .contextUnbindComplete _ => true
  | .queueCreate fn => okFn fn
  | .queueDestroy fn => okFn fn
  | .queueDestroyComplete _ => true
  | .facetCreate fn => okFn fn
  | .memberJoinTimeout f => okFacet f
  | .facetResize fn => okFn fn
  | .placementSwitch f => okFacet f
  | .resizeOldPlacementDrained f => okFacet f
  | .slotMoveDone f src => okFacet f && okChan src
  | .facetDestroy fn => okFn fn
  | .facetPark fn => okFn fn
  | .facetUnpark fn => okFn fn
  | .halfUnparkReady half => okTwo half
  | .segmentLoad fn _ => okFn fn
  | .segmentUnload fn => okFn fn
  | .weightSetLoad fn _ _ _ => okFn fn
  | .weightSetLoadDone f _ _ => okFacet f
  | .weightSetUnload fn => okFn fn
  | .quiesce fn => okFn fn
  | .quiesceDone fn => okFn fn
  | .resume fn => okFn fn
  | .computeReset fn => okFn fn
  | .fwUpdate fn _ _ => okFn fn
  | .fwImageVerified => true
  | .fwQuietPoint => true
  | .fwHandoverDone => true
  | .clusterControllerUpdate _ => true
  | .powerLimitsSet fn => okFn fn
  | .powerLimitsRead fn => okFn fn
  | .powerLimitsDusk fn => okFn fn
  | .pf0D3hotEntry => true
  | .duskEntered => true
  | .powerLimitsWake fn => okFn fn
  | .pf0D0Entry => true
  | .woke _ => true
  | .memtestAcquire fn => okFn fn
  | .memtestConfigure fn => okFn fn
  | .memtestStart fn => okFn fn
  | .memtestStop fn _ _ => okFn fn
  | .memtestRead fn => okFn fn
  | .memtestRelease fn => okFn fn
  | .memtestRetire fn => okFn fn
  | .tgRunEnd ch _ => okChan ch
  | .telemetry fn => okFn fn
  | .accountingRead fn => okFn fn
  | .dbSubmit fn q tail => okFn fn && decide (q < 16384) && decide (tail < 65536)
  | .dbCompHead fn q head => okFn fn && decide (q < 16384) && decide (head < 65536)
  | .residentSlotAssign _ => true
  | .slotReview _ => true
  | .commandFetch _ _ => true
  | .fenceReread _ => true
  | .commandDeadlineExpiry _ => true
  | .commandTimeLimit _ => true
  | .nop _ => true
  | .runSegment _ => true
  | .copy _ _ => true
  | .fill _ => true
  | .fenceSignal _ => true
  | .fenceWait _ => true
  | .seqConfigure _ => true
  | .seqAdmit _ _ => true
  | .seqCancel _ => true
  | .stateExport _ => true
  | .stateImport _ => true
  | .shadowInvalidate _ => true
  | .commandComplete _ => true
  | .placementSchedule f => okFacet f
  | .weightSwitchDone f => okFacet f
  | .pass c _ _ _ _ _ _ _ => okCore c
  | .anDroopReplay e => okEngine e
  | .engineDroopStop e => okEngine e
  | .engineDroopResume e => okEngine e
  | .planeLoad c _ _ _ => okCore c
  | .planeLoadDone e _ _ => okEngine e
  | .planeSwap c _ => okCore c
  | .vload c _ _ _ _ => okCore c
  | .vstore c _ _ _ => okCore c
  | .vadd c _ _ _ _ _ _ => okCore c
  | .vmul c _ _ _ _ _ _ => okCore c
  | .vfma c _ _ _ _ _ _ _ => okCore c
  | .vmax c _ _ _ _ _ _ => okCore c
  | .vsum c _ _ _ _ => okCore c
  | .vrmax c _ _ _ _ => okCore c
  | .vsfn c _ _ _ _ _ => okCore c
  | .vcvt c _ _ _ _ _ _ => okCore c
  | .vacc c _ _ _ _ _ _ => okCore c
  | .vrope c _ _ _ _ _ _ => okCore c
  | .vqk c _ _ _ _ _ _ _ _ _ => okCore c
  | .vpv c _ _ _ _ _ _ _ _ => okCore c
  | .vtopk c _ _ _ _ _ _ => okCore c
  | .vsample c _ _ _ _ _ => okCore c
  | .dmaIn c _ _ _ _ _ _ _ _ _ => okCore c
  | .dmaOut c _ _ _ _ _ _ _ _ => okCore c
  | .send c _ _ _ _ _ => okCore c
  | .recv c _ _ _ _ => okCore c
  | .prismSend c _ _ _ _ => okCore c
  | .barrier c _ _ _ => okCore c
  | .waitEvent c _ _ => okCore c
  | .endOp c => okCore c
  | .sealedChunkStart k e p f _ _ b _ => okCluster k && okEngine e && okTwo p && okFacet f && decide (b < 4)
  | .sealedChunkDone k _ _ _ _ _ => okCluster k
  | .planeScrubVisit e p row _ => okEngine e && okTwo p && decide (row < 256)
  | .scrubGapTimeout e => okEngine e
  | .scrubRewriteDone e _ => okEngine e
  | .calibrationPeriodExpiry e => okEngine e
  | .calibrationStart e => okEngine e
  | .calibrationDone e _ => okEngine e
  | .calibrationAbandon e => okEngine e
  | .calibrationOverdue e => okEngine e
  | .startUpCalibration half => okTwo half
  | .calibrationLoadSettled half => okTwo half
  | .startUpCalibrationDone half _ => okTwo half
  | .coreClearingDone c => okCore c
  | .halfRateSample _ _ => true
  | .ltcTrim => true
  | .refclkLoss => true
  | .refclkRestore => true
  | .ltcCaptureGo v => okWord v
  | .ltcCaptureDone => true
  | .guaranteeMonitorWindow m t _ _ => okMaster m && okTarget t
  | .fctShareCtrlCommit v => okWord v
  | .shareCommitApplied => true
  | .channelRequest m ch line _ _ off d _ _ => okRequester m && okChan ch && okLine line && okPart off d
  | .ceDegradeWindow ch => okChan ch
  | .patrolScrubLine ch _ => okChan ch
  | .channelRetire ch => okChan ch
  | .frameCopyLine ch _ => okChan ch
  | .frameSwitch ch => okChan ch
  | .frameSourceDrained ch => okChan ch
  | .zeroFillDone ch => okChan ch
  | .stackTemperatureSample k _ => okStack k
  | .channelTrainingDone _ => true
  | .readShared k gl _ => okCluster k && okGlobal gl
  | .readOwn k gl _ => okCluster k && okGlobal gl
  | .upgrade k gl => okCluster k && okGlobal gl
  | .writeBack k gl => okCluster k && okGlobal gl
  | .cleanEvictNotice k gl => okCluster k && okGlobal gl
  | .snoopForward k gl _ => okCluster k && okGlobal gl
  | .snoopInvalidation k gl => okCluster k && okGlobal gl
  | .snoopAck k gl => okCluster k && okGlobal gl
  | .completionAck k gl off d => okCluster k && okGlobal gl && okPart off d
  | .nonAllocatingRead gl _ => okGlobal gl
  | .nonAllocatingWrite gl _ off d => okGlobal gl && okPart off d
  | .translationWalk k _ _ _ _ => okCluster k
  | .walkComplete _ _ => true
  | .atsTranslationCompletion _ _ _ _ _ _ _ => true
  | .atsInvalidateRequest fn _ _ _ tag => okFn fn && decide (tag < 32)
  | .invalidationDrained _ => true
  | .invalidationDrainTimeout _ l => l.all fun x => okCluster x.1
  | .prgResponse fn idx _ => okFn fn && decide (idx < 512)
  | .bar2Read a n => decide (a + n ≤ 2 ^ 39)
  | .bar2Write a d => decide (a + d.length ≤ 2 ^ 39)
  | .bar2Atomic a _ n _ _ => decide (a + n ≤ 2 ^ 39)
  | .configSpaceAccess fn _ off v => okFn fn && decide (off < 4096) && off % 4 == 0 && okWord v
  | .functionLevelReset fn => okFn fn
  | .numvfsLower n => okFn n
  | .tdispLockInterface fn => okFn fn
  | .evcModeWrite fn v => okFn fn && okWord v
  | .evcRingHeadWrite fn v => okFn fn && okWord v
  | .evcPendingAck fn w m => okFn fn && decide (w < 128) && decide (m < 2 ^ 64)
  | .evcStatusWrite fn v => okFn fn && okWord v
  | .registerWrite fn off v _ => okFn fn && decide (off < 2 ^ 26) && decide (v < 2 ^ 64)
  | .vxlPortEnable p => okPort p
  | .vxlPortDisable p => okPort p
  | .vxlRetrain p => okPort p
  | .vxlTrainingDone p _ _ _ _ _ => okPort p
  | .vxlLaneLockLoss p l => okPort p && decide (l < 16)
  | .vxlLaneErrorWindow p l _ => okPort p && decide (l < 16)
  | .vxlRetrainDone p _ _ a b => okPort p && decide (a < 4096) && decide (b < 4096)
  | .vxlTrainRetry p => okPort p
  | .vxlFlitReceive p f => okPort p && okTwo f.link
  | .vxlNakReceive p half ack => okPort p && okTwo half && decide (ack < 4096)
  | .vxlReplayLimit p half => okPort p && okTwo half
  | .vxlIdleTimer p half => okPort p && okTwo half
  | .vxlCredit p half _ _ _ => okPort p && okTwo half
  | .vxlIdent p half _ _ _ => okPort p && okTwo half
  | .vxlDeviceIdWrite v => okWord v
  | .vxlPrbsCtrlWrite p v => okPort p && okWord v
  | .vxlRead p src _ => okPort p && okIdentity src
  | .vxlReadData p src _ => okPort p && okIdentity src
  | .vxlWrite p src _ => okPort p && okIdentity src
  | .vxlWriteAck p src _ => okPort p && okIdentity src
  | .vxlCas p src _ => okPort p && okIdentity src
  | .vxlFetchadd p src _ => okPort p && okIdentity src
  | .vxlAtomicData p src _ => okPort p && okIdentity src
  | .vxlDispatch p src _ => okPort p && okIdentity src
  | .vxlDispatchDone p src _ => okPort p && okIdentity src
  | .vxlSignal p src _ => okPort p && okIdentity src
  | .vxlPrismWrite p src _ => okPort p && okIdentity src
  | .vxlCollective p src _ => okPort p && okIdentity src
  | .collectiveSlotTimeout p _ => okPort p
  | .vxlJoin p src _ => okPort p && okIdentity src
  | .vxlJoinAck p src _ => okPort p && okIdentity src
  | .vxlError p src _ => okPort p && okIdentity src
  | .peerTimeoutExpiry tag => decide (tag < 65536)
  | .stepBuild f _ => okFacet f
  | .stepCopiesDone f => okFacet f
  | .stepRunComplete f => okFacet f
  | .seqDeadlineExpiry f _ _ => okFacet f
  | .exportLastPassDone f _ => okFacet f
  | .exportWordRead f _ _ => okFacet f
  | .exportWritesAcked f _ _ => okFacet f
  | .exportCasAnswer f _ _ => okFacet f
  | .exportPoll f _ _ => okFacet f
  | .exportOfferDeadline f _ => okFacet f
  | .exportReclaimAnswer f _ _ => okFacet f
  | .importSlotReserved _ => true
  | .importWordRead _ _ _ => true
  | .importCasAnswer _ _ => true
  | .importBlockReadsDone f _ _ _ => okFacet f
  | .importReleaseAnswer f _ _ => okFacet f
  | .accountingPublish _ => true
  | .energyReconcile _ => true
  | .slowdownWindow f => okFacet f
  | .overloadWindow f => okFacet f
  | .waitForSnapshot k => okCluster k
  | .hangDetect f _ => okFacet f
  | .eclipseFenced f => okFacet f
  | .eclipsePenumbraEnd f => okFacet f
  | .eclipseCleared f _ => okFacet f
  | .eclipseCalibrated f _ => okFacet f
  | .eclipse f _ => okFacet f
  | .coreReplacementDone f c => okFacet f && okCore c
  | .governorSample _ _ => true
  | .governorRailSettled half => okTwo half
  | .dimDelayExpiry half => okTwo half
  | .dieSensorSample k l => okCluster k && l.length == 8
  | .thermtrip n _ => okTrip n
  | .coolOkDeassert => true
  | .coolOkAssert => true
  | .coolOkStable => true
  | .coolLoss => true
  | .haltSaveTimeout => true
  | .haltTablesSaved => true
  | .spdmGetVersion fn => okFn fn
  | .spdmGetCapabilities fn => okFn fn
  | .spdmNegotiateAlgorithms fn _ => okFn fn
  | .spdmGetDigests fn => okFn fn
  | .spdmGetCertificate fn _ _ _ => okFn fn
  | .spdmChallenge fn _ => okFn fn
  | .spdmGetMeasurements fn _ _ => okFn fn
  | .spdmKeyExchange fn => okFn fn
  | .spdmFinish fn _ _ => okFn fn
  | .spdmHeartbeat fn _ => okFn fn
  | .spdmKeyUpdate fn _ => okFn fn
  | .spdmEndSession fn _ => okFn fn
  | .getPqChain fn => okFn fn
  | .pqSign fn _ _ => okFn fn
  | .keySetMemory fn _ _ => okFn fn
  | .keySetLink fn _ _ => okFn fn
  | .keySetWeight fn _ _ => okFn fn
  | .keyClear fn _ _ => okFn fn
  | .bindingSet _ _ => true
  | .getNonce fn => okFn fn
  | .nonceExpiry => true
  | .lcTransition fn _ _ _ _ => okFn fn
  | .keyRotated f => okFacet f
  | .tamper src => decide (src < 4)
  | .aonGood slot => decide (slot < 8)
  | .railRaiseDone r => okRail r
  | .railFailure r => okRail r
  | .perstAssert => true
  | .perstDeassert _ _ => true
  | .mcStart => true
  | .i3cSetdasa a => decide (a < 128)
  | .i3cEntdaa a => decide (a < 128)
  | .mctpControl _ e => decide (e < 256)
  | .pldmDiscovery _ _ => true
  | .pldmGetSensorReading _ => true
  | .pldmGetStateSensorReadings _ => true
  | .pldmSetEventReceiver e => decide (e < 256)
  | .pldmFruRead => true
  | .sensorRefresh _ => true
  | .vddAonLoss => true
  | .testAccessPortAccess c off _ d => okCore c && decide (off + d.length ≤ 2 ^ 21)
  | .tdispStartInterface fn => okFn fn

end Sys2Proof
end

