-- ==== Sys2Proof/Decode.lean ====
section
/-! DEFINITION. The rows of the opcode table give no bits: commands reach the block as they are, and no word spells one. -/

namespace Sys2Proof

/-- The command that a word spells by the table's bits. No row gives bits. -/
def decodeTableWord (_nbits _w : Nat) : Option Instr := none

end Sys2Proof
end

