-- ==== Sys2Proof/Machine/Mem.lean ====
section
/-! DEFINITION. Operations on sparse maps, number sets and sparse byte memories, and the little-endian byte order that
every multi-byte field of the spec has (R127, R256, R316 and the other layout tables). -/

namespace Sys2Proof

/-- The record listed under a key. -/
def SMap.look {α : Type} : SMap α → Nat → Option α
  | [], _ => none
  | (k, v) :: r, n => if n = k then some v else if n < k then none else SMap.look r n

/-- List a record under a key, replacing the one that stands there. -/
def SMap.put {α : Type} : SMap α → Nat → α → SMap α
  | [], n, x => [(n, x)]
  | (k, v) :: r, n, x =>
    if n = k then (k, x) :: r else if n < k then (n, x) :: (k, v) :: r else (k, v) :: SMap.put r n x

/-- Unlist a key. -/
def SMap.del {α : Type} (m : SMap α) (n : Nat) : SMap α := m.filter fun e => e.1 != n

/-- The record under a key, or a default. -/
def SMap.getD {α : Type} (m : SMap α) (n : Nat) (d : α) : α := (SMap.look m n).getD d

/-- Whether a key is listed. -/
def SMap.has {α : Type} (m : SMap α) (n : Nat) : Bool := (SMap.look m n).isSome

/-- Change the record under a key if it is listed. -/
def SMap.modify {α : Type} (m : SMap α) (n : Nat) (f : α → α) : SMap α :=
  m.map fun e => if e.1 = n then (e.1, f e.2) else e

/-- Keys are strictly rising. -/
def SMap.sorted {α : Type} : SMap α → Bool
  | [] => true
  | [_] => true
  | a :: b :: r => decide (a.1 < b.1) && SMap.sorted (b :: r)

/-- Add a number to a set. -/
def NSet.add : NSet → Nat → NSet
  | [], n => [n]
  | k :: r, n => if n = k then k :: r else if n < k then n :: k :: r else k :: NSet.add r n

/-- Remove a number from a set. -/
def NSet.del (m : NSet) (n : Nat) : NSet := m.filter fun k => k != n

/-- The set of the numbers of a list. -/
def NSet.ofList (l : List Nat) : NSet := l.foldl NSet.add []

/-- Union of two sets. -/
def NSet.union (a b : NSet) : NSet := b.foldl NSet.add a

/-- Members of the first set that are not in the second. -/
def NSet.diff (a b : NSet) : NSet := a.filter fun k => !b.contains k

/-- Members of both sets. -/
def NSet.inter (a b : NSet) : NSet := a.filter fun k => b.contains k

/-- One byte of a memory; an unlisted address reads 0. -/
def Mem.read (m : Mem) (a : Nat) : Byte := SMap.getD m a 0

/-- Write one byte, keeping the canonical form. -/
def Mem.write (m : Mem) (a : Nat) (b : Byte) : Mem := if b = 0 then SMap.del m a else SMap.put m a b

/-- The `n` bytes from address `a` on. -/
def Mem.readN (m : Mem) (a n : Nat) : List Byte := (List.range n).map fun i => Mem.read m (a + i)

/-- Write a list of bytes from address `a` on. -/
def Mem.writeN : Mem → Nat → List Byte → Mem
  | m, _, [] => m
  | m, a, b :: r => Mem.writeN (Mem.write m a b) (a + 1) r

/-- The memory whose bytes from address `a` on are those of a list, and every other byte 0. -/
def Mem.ofBytes : Nat → List Byte → Mem
  | _, [] => []
  | a, b :: r => if b = 0 then Mem.ofBytes (a + 1) r else (a, b) :: Mem.ofBytes (a + 1) r

/-- Write zeros over `n` bytes from address `a` on. -/
def Mem.zero (m : Mem) (a n : Nat) : Mem := m.filter fun e => decide (e.1 < a) || decide (a + n ≤ e.1)

/-- The canonical form: addresses strictly rising, no listed byte 0. -/
def Mem.wf (m : Mem) : Bool := SMap.sorted m && m.all fun e => e.2 != 0

/-- `n` as `w` little-endian bytes. -/
def toLe : Nat → Nat → List Byte
  | 0, _ => []
  | w + 1, n => BitVec.ofNat 8 n :: toLe w (n / 256)

/-- The number that little-endian bytes spell. -/
def ofLe : List Byte → Nat
  | [] => 0
  | b :: r => b.toNat + 256 * ofLe r

/-- Bits [hi:lo] of a number. -/
def bits (n hi lo : Nat) : Nat := n / 2 ^ lo % 2 ^ (hi + 1 - lo)

/-- Bit `i` of a number as 0 or 1. -/
def bit (n i : Nat) : Nat := n / 2 ^ i % 2

/-- A Bool as 0 or 1. -/
def b2n (b : Bool) : Nat := if b then 1 else 0

/-- Two's-complement reading of the low `w` bits of a number. -/
def signed (w n : Nat) : Int :=
  let m := n % 2 ^ w
  if 2 * m < 2 ^ w then (m : Int) else (m : Int) - (2 ^ w : Nat)

/-- The larger integer not above the bounds: `x` held within [lo, hi]. -/
def clampInt (lo hi x : Int) : Int := if x < lo then lo else if hi < x then hi else x

/-- A value held within [lo, hi] (the clamping of R194, R226, R301, R488). -/
def clampNat (lo hi x : Nat) : Nat := if x < lo then lo else if hi < x then hi else x

/-- Quotient rounded up. -/
def ceilDiv (a b : Nat) : Nat := (a + b - 1) / b

/-- A saturating add (the counters that saturate: R196, R225, R302, R412). -/
def satAdd (w a b : Nat) : Nat := Nat.min (2 ^ w - 1) (a + b)

end Sys2Proof
end

