-- ==== Sys2Proof/Config.lean ====
section
/-! DEFINITION. What the spec fixes for the module, and the free values: constants without a body, of which nothing in
Lean can prove a value (log 7). -/

namespace Sys2Proof.Config

/-- Free value number n (log 7, DESIGN CHOICE): State.freeCtr numbers the draws. -/
opaque freeNat : Nat → Nat

/-- The silicon's special functions (R148): kind (0 exp, 1 reciprocal, 2 rsqrt, 3 SiLU, 4 GELU) and FP32 operand to FP32
result. R148 fixes a bound and no value, and says equal inputs give equal outputs (log 9). -/
opaque specialFn : Nat → BitVec 32 → BitVec 32

/-- Keys that order the rows of an engine's pattern ROM (R102): engine, reference column, row. The spec gives no pattern; each
value stands in the 64 rows of one quarter of that order (log 8). -/
opaque patternKey : Nat → Nat → Nat → Nat

/-- Payload of a NaN that an operation forms, by format: R146 keeps a NaN a NaN and fixes no payload (log 9). -/
opaque nanPayload : Nat → Nat

/-- Data of a line as DRAM holds it: memory key, line and plaintext to 64 bytes (R200, R206, R523). The spec prints no cipher
(log 12). -/
opaque memCipher : List Byte → Nat → List Byte → List Byte

/-- Ciphertext and tag of a transaction: key, IV, additional data, plaintext (R405). The spec prints no cipher (log 12). -/
opaque linkSeal : List Byte → List Byte → List Byte → List Byte → List Byte

/-- SHA-384 to 48 bytes, and the digest of Lantern's ROM (R514, R520, R534, R538). The spec names the hash and does not print it
(log 12). -/
opaque sha384 : List Byte → List Byte
opaque romDigest : List Byte

/-- The weight key that a binding-set key unwraps (R529, R532): binding-set key, wrapped key (log 12). -/
opaque keyUnwrap : List Byte → List Byte → List Byte

/-- The certificate chains of the two identity keys in DER (R518, R519, R521). The spec prints no certificate (log 12). -/
opaque rsaChain : List Byte
opaque pqChain : List Byte

/-- The SLH-DSA signature of a PQ_SIGN by the number drawn for it (R521; log 12). -/
opaque pqSignature : Nat → List Byte

/-- The four check symbols of a line's first 68 symbols (R206). The spec prints no generator of the code (log 12). -/
opaque memCheck : List Byte → List Byte

/-- Energy coefficient of an activity in pJ as fused at test (R505: within 15 % of the table), by activity number. -/
opaque energyCoeff : Nat → Nat

/-- Handshake rate of a half at test in 1 M/s (R299: west_rate_test, east_rate_test): 0 west, 1 east. -/
opaque rateAtTest : Nat → Nat

def clusters : Nat := 32
def slotsPerCluster : Nat := 17
def cores : Nat := 544
def engines : Nat := 4352
def channels : Nat := 256
def stackCount : Nat := 8
def facets : Nat := 64
def queues : Nat := 16384
def functions : Nat := 64
/-- Bytes of one channel (R198). -/
def channelBytes : Nat := 2 ^ 31
/-- Bytes of the scratchpad's data region (R136, R156). -/
def dataRegion : Nat := 0x1C0000
/-- Bytes of one scratchpad (R152). -/
def scratchBytes : Nat := 0x200000
/-- Resident slots (R323). -/
def residentSlots : Nat := 48
/-- Hardware table slots (R417). -/
def hwSlots : Nat := 16384
/-- First address of the pool window (R422). -/
def poolBase : Nat := 0xFF0000000000

end Sys2Proof.Config
end

