-- ==== Sys2Proof/Machine/State.lean ====
section
/-! DEFINITION. The state of the module as plain data: every register, buffer, counter, mode and pin the spec names, the
queue of waiting commands, and the three fields of the model itself (`out`, `freeCtr`, `nextCmd`). A unit that a map does
not list has its initial record. -/

namespace Sys2Proof.Machine

/-- What left the module (log 11), in order. -/
inductive Emit where
  /-- A memory write of a function's requester ID: rings, response buffers, host pages. -/
  | hostWrite (fn addr : Nat) (data : List Byte)
  | msix (fn vector : Nat)
  /-- Completion of a BAR2 or configuration read; none is Completer Abort, `poison` poisoned data. -/
  | completion (data : Option (List Byte)) (poison : Bool)
  /-- Configuration Request Retry Status (R311). -/
  | configRetry (fn : Nat)
  /-- What the test access port shifts out (R156). -/
  | testPort (data : List Byte)
  /-- ATS Translation Request (R269). -/
  | atsRequest (fn pasid va : Nat)
  /-- ATS Invalidate Completion (R273). -/
  | invalidateCompletion (fn tag : Nat)
  /-- PRI Page Request (R276). -/
  | pageRequest (fn pasid va : Nat) (w : Bool) (index : Nat)
  /-- A Voxlink flit of 256 bytes on a link: port, and half-port of a split port (R385, R388). -/
  | flit (port half : Nat) (bytes : List Byte)
  /-- An access to a tier in host memory (R408, R451): 0 read, 1 write, 2 CAS; address and data, a read's length in
  4 bytes. -/
  | hostTier (fn op addr : Nat) (data : List Byte)
  /-- A message on the sideband (R560). -/
  | sideband (kind : Nat) (data : List Byte)
  /-- A DOE object of a function (R519): message code and fields. -/
  | doe (fn code : Nat) (data : List Byte)
  /-- AER report (R58, R211): function and kind. -/
  | aer (fn kind : Nat)
  deriving DecidableEq, Repr

/-- The accepted request that an action in progress ends: its function, sequence number and opcode (R296, R304). -/
structure Ticket where
  fn : Nat
  seq : Nat
  op : Nat
  deriving DecidableEq, Repr

/-- A glint (R304): the event record as a function receives it. -/
structure Glint where
  kind : Nat
  fn : Nat
  subject : Nat
  detail : Nat
  second : Option (Nat × Nat)
  withheld : Bool
  deriving DecidableEq, Repr

/-- Local time (R40 to R51). Counters 0 to 31 are the clusters', 32 to 41 the edge routers', 42 the MC's. -/
structure Time where
  ltc : SMap Nat := []
  epoch : SMap Nat := []
  /-- Rate offset of a counter in parts per million (R42, R43). -/
  rate : SMap Int := []
  westFirst : Bool := true
  eastFirst : Bool := true
  refclkOk : Bool := true
  trimValid : Bool := false
  captSource : Nat := 0
  captMc : Nat := 0
  captLocal : Nat := 0
  captEpoch : Nat := 0
  captDone : Bool := false
  captError : Bool := false
  captBusy : Bool := false
  westRate : Nat := 0
  eastRate : Nat := 0
  /-- High halves latched by 32-bit reads (R48): LTC_MC_NOW, LTC_CAPT_MC, LTC_CAPT_LOCAL. -/
  latchNow : Nat := 0
  latchMc : Nat := 0
  latchLocal : Nat := 0
  deriving DecidableEq, Repr

/-- Share-class limits of one class (R192). -/
structure ClassCfg where
  queueMax : Nat := 100
  queueMin : Nat := 0
  cacheMax : Nat := 100
  cacheMin : Nat := 0
  deriving DecidableEq, Repr

/-- Management registers of PF0's BAR0 beside those of the other groups. -/
structure Regs where
  bar2Valid : Bool := false
  bar2Facet : Nat := 0
  classes : SMap ClassCfg := []
  inForce : SMap ClassCfg := []
  commitError : Bool := false
  commitBusy : Bool := false
  monitorEn : Bool := true
  pmeCap : Nat := 2048
  lceCap : Nat := 128
  linkClass : Nat := 0
  fnClass : SMap Nat := []
  gmiss : SMap Nat := []
  /-- Masters whose monitor window in progress gives no verdict (R190). -/
  spoiled : NSet := []
  scrubPeriod : Nat := 24
  autoRetire : Bool := true
  ceDegrade : Nat := 10000
  switchMargin : Nat := 0
  slotQuantum : Nat := 10
  privFirst : Bool := true
  slowEn : Bool := true
  slowThr : Nat := 320
  overEn : Bool := true
  overThr : Nat := 10
  detectEn : Bool := true
  hangEclipse : Bool := true
  numVFs : Nat := 0
  /-- Other configuration-space words, by function times 4096 plus offset. -/
  cfg : SMap Nat := []
  bar2Discards : Nat := 0
  prgDiscards : Nat := 0
  fenceRegress : Nat := 0
  deriving DecidableEq, Repr

/-- A function: mailbox, event controller, MSI-X, address services and TDISP state (R286 to R311, R276, R536). -/
structure Fn where
  reqAddr : Nat := 0
  respSeq : Nat := 0
  done : Bool := false
  outstanding : Bool := false
  overrun : Bool := false
  noResponse : Bool := false
  /-- Sequence number that the outstanding doorbell wrote (R296). -/
  curSeq : Nat := 0
  /-- Header and body that the management block read for the outstanding doorbell (R294, R296). -/
  request : List Byte := []
  /-- Requests answered ACCEPTED and not done (R298). -/
  accepted : List Ticket := []
  evcMode : Nat := 0
  ringVector : Nat := 0
  modeError : Bool := false
  lost : Bool := false
  lostCount : Nat := 0
  restored : Bool := false
  headError : Bool := false
  ringBase : Nat := 0
  ringSize : Nat := 6
  head : Nat := 0
  tail : Nat := 0
  phase : Bool := true
  logCount : Nat := 0
  /-- Event kinds whose EVC_ENABLE bit is 0. -/
  disabled : NSet := []
  vmap : SMap Nat := []
  pendBits : NSet := []
  inService : NSet := []
  holding : List Glint := []
  dropped : Nat := 0
  /-- Glint log: place (0 to 511) to the 16-byte record. -/
  glog : SMap (List Byte) := []
  msix : SMap Nat := []
  quiesced : Bool := false
  quiesceReq : Option Ticket := none
  ats : Bool := false
  pri : Bool := false
  priAlloc : Nat := 0
  priFailed : Bool := false
  ideStream : Bool := false
  /-- 0 CONFIG_UNLOCKED, 1 CONFIG_LOCKED, 2 RUN, 3 ERROR (R536). -/
  tdi : Nat := 0
  tdiReported : Bool := false
  /-- E of the function's contexts that are unbound, in 1/8 ns (R474). -/
  e8 : Nat := 0
  /-- Attributed energy of contexts that are unbound, in pJ. -/
  energy : Nat := 0
  /-- Modelled energy of such contexts in the open 100 ms window, in pJ (R506). -/
  modelled : Nat := 0
  resetEnded : Nat := 0
  d3hot : Bool := false
  /-- MCs accounting publication of the function record. -/
  published : Option (List Nat × Nat) := none
  deriving DecidableEq, Repr

/-- Accounting of a context (R466, R467, R471, R473, R506). -/
structure Acct where
  /-- E in 1/8 ns. -/
  e8 : Nat := 0
  passes : Nat := 0
  vec : Nat := 0
  energy : Nat := 0
  hbm : Nat := 0
  link : Nat := 0
  commands : Nat := 0
  misses : Nat := 0
  /-- Modelled energy of the open 100 ms window in pJ (R506). -/
  modelled : Nat := 0
  deriving DecidableEq, Repr

/-- A context table entry (R256). -/
structure Ctx where
  facet : Nat
  fn : Nat
  pasid : Nat
  root : Nat
  weight : Nat
  unbinding : Option Ticket := none
  acct : Acct := {}
  /-- Offset of the virtual time in 2^-16 ns (R467). -/
  vtOffset : Nat := 0
  /-- The last publication: the counters and the MC's LTC (R471). -/
  published : Option (Acct × Nat) := none
  deriving DecidableEq, Repr

/-- A queue (R316 to R325). -/
structure Queue where
  fn : Nat
  facet : Nat
  privileged : Bool
  report : Bool
  source : Nat
  subLog2 : Nat
  compLog2 : Nat
  subBase : Nat
  compBase : Nat
  fenceBase : Nat
  fenceCount : Nat
  frame : Nat
  tail : Nat := 0
  completed : Nat := 0
  compHead : Nat := 0
  fetched : Nat := 0
  resident : Bool := false
  marked : Bool := false
  destroying : Option Ticket := none
  /-- Completion records of ended commands that wait for ring space, without phase (R324). -/
  waiting : List (List Byte) := []
  current : Option Nat := none
  deriving DecidableEq, Repr

/-- Where a command stands in R329: at step 6, past step 7, or decided and before step 8. -/
inductive Phase where
  | waiting
  | running
  | ended
  deriving DecidableEq, Repr

/-- Sender of a DISPATCH: module identity, tag, and whether the facet's traffic is encrypted. -/
structure Remote where
  port : Nat
  src : Nat
  tag : Nat
  txn : Txn
  deriving DecidableEq, Repr

/-- A command accepted and not completed (R326 to R348). -/
structure Cmd where
  queue : Nat
  index : Nat
  fn : Nat
  facet : Nat
  report : Bool
  desc : Desc
  /-- Cluster whose LTC counts the deadline and the limit (R46). -/
  clk : Nat
  acceptedAt : Nat
  startedAt : Nat := 0
  /-- Local ns of step 7 to the end, once ended (R334). -/
  duration : Nat := 0
  phase : Phase := .waiting
  ready : Bool := false
  ran : Bool := false
  late : Bool := false
  /-- Statuses met while running, in order of detection, each with its detail (R335, R347). -/
  met : List (Nat × Nat) := []
  status : Nat := 0
  runStatus : Nat := 0
  detail : Nat := 0
  signalled : Bool := false
  regress : Bool := false
  lostCtx : Bool := false
  /-- Cores it runs on, and the solo estimate scaled at its start (R475). -/
  cores : NSet := []
  scaled : Nat := 0
  /-- A command that a DISPATCH began: where its DISPATCH_DONE goes (R400). -/
  remote : Option Remote := none
  /-- Members whose DISPATCH_DONE is due. -/
  members : Nat := 0
  /-- Serving commands: step of the handoff, word read (R456). -/
  stage : Nat := 0
  word : Nat := 0
  slot : Nat := 0
  /-- The sequence record that an import has read. -/
  image : Option SeqRecord := none
  deriving DecidableEq, Repr

/-- One frame-map slot (R263). -/
structure Slot where
  channel : Nat
  target : Nat := 0
  cursor : Nat := 0
  copying : Bool := false
  deriving DecidableEq, Repr

/-- A loaded segment of a ladder with the frames of its copy (R127, R357), and the mapping of its logical cores to physical
ones while its rung is the placement (R131). -/
structure Loaded where
  seg : Segment
  frames : NSet
  mapping : SMap Nat := []
  deriving DecidableEq, Repr

/-- A placement ladder (R355): weight set, and core count to segment. -/
structure Ladder where
  weightSet : Nat
  rungs : SMap Loaded := []
  deriving DecidableEq, Repr

/-- A weight set of a facet (R217, R219, R532): its header and index, and the frames of its copies, byte n of the container
in frame n / 65536 of a list; frame i of `streamFrames` holds image i of the stream image. -/
structure WSet where
  keySlot : Nat
  sealedSet : Bool
  replicated : Bool
  ready : Bool := false
  quarantined : Bool := false
  hdr : WsHeader
  frames : List Nat
  replicaFrames : List Nat := []
  streamFrames : List Nat := []
  ticket : Option Ticket := none
  /-- Chunks whose first, and second, copy has failed (R218). -/
  badFirst : NSet := []
  badSecond : NSet := []
  deriving DecidableEq, Repr

/-- A resize in progress (R363). -/
structure Resize where
  ticket : Option Ticket
  cores : NSet
  channels : NSet
  halfPorts : NSet
  master : Nat
  rung : Nat
  moves : List (Nat × Nat)
  /-- Channels, move targets among them, and half-ports that the request added. -/
  added : NSet := []
  addedPorts : NSet := []
  /-- Cores and channels that leave the facet at step 6. -/
  oldCores : NSet := []
  oldChannels : NSet := []
  switched : Bool := false
  drained : Bool := false
  /-- A degrade of R367 runs the same steps without a request. -/
  degrade : Bool := false
  deriving DecidableEq, Repr

/-- An eclipse of a facet (R481 to R487). -/
structure Eclipse where
  phase : Nat
  cause : Nat
  /-- COMPUTE_RESET requests that end with it (R490). -/
  tickets : List Ticket := []
  cores : NSet
  startedAt : Nat := 0
  failed : NSet := []
  /-- Work that reached its time limit: commands, or 2^32 plus the facet (R484). -/
  limited : NSet := []
  deriving DecidableEq, Repr

/-- Replacement of a failed core (R367). -/
structure Replace where
  failed : Nat
  spare : Nat
  deriving DecidableEq, Repr

/-- A memory key change of a facet (R526). -/
structure Rekey where
  oldSlot : Nat
  channels : NSet
  deriving DecidableEq, Repr

/-- A facet (R350 to R383). A number that is not listed is unused (NONE). -/
structure Facet where
  /-- 1 CREATING, 2 ACTIVE, 3 RESIZING, 4 DESTROYING (R353). -/
  state : Nat
  fn : Nat
  mode : Nat
  confidential : Bool
  member : Bool
  joined : Bool := false
  degraded : Bool := false
  cls : Nat
  master : Nat
  gen : Nat := 0
  rung : Nat
  cores : NSet
  channels : NSet
  halfPorts : NSet
  minRate : Nat
  timeLimit : Nat
  peerTimeout : Nat
  rungs : List Nat
  kvFormat : Nat
  kvBlocks : Nat
  poolSlots : List Nat := []
  tier : TierCfg
  memberCount : Nat
  joinedCount : Nat := 0
  masterDevice : Nat
  masterFacet : Nat
  map : SMap Slot := []
  /-- Frames the firmware uses: queue descriptors, segment copies, weight sets, stream images, KV pool. -/
  used : NSet := []
  ladders : SMap Ladder := []
  nextLadder : Nat := 1
  sets : SMap WSet := []
  resize : Option Resize := none
  creating : Option Ticket := none
  destroying : Option Ticket := none
  /-- Weight set that the active planes hold, and the weight switch in progress (command, set; R469). -/
  planesSet : Option Nat := none
  switching : Option (Nat × Nat) := none
  /-- Sealed loads that are due: engine times 2 plus plane, to weight set and chunk (R364, R367, R469, R483). -/
  loads : SMap (Nat × Nat) := []
  /-- Core calibrated in each cluster at the present command boundary (R111). -/
  boundaryCals : SMap Nat := []
  /-- Failed cores whose replacement waits its turn (R121). -/
  failWait : NSet := []
  running : Option Nat := none
  /-- Command chosen by the placement for its next start (R468). -/
  chosen : Option Nat := none
  progress : Nat := 0
  lastCtx : Nat := 0
  eclipse : Option Eclipse := none
  replace : Option Replace := none
  seamLow : Bool := false
  slowArmed : Bool := true
  slowDur : Nat := 0
  slowEst : Nat := 0
  slowN : Nat := 0
  overRun : Nat := 0
  overArmed : Bool := true
  checked : Nat := 0
  missed : Nat := 0
  memSlot : Nat := 0
  rekey : Option Rekey := none
  suspects : Nat := 0
  repairs : Nat := 0
  retired : Nat := 0
  earlyCals : Nat := 0
  clipped : Nat := 0
  droops : Nat := 0
  reranges : Nat := 0
  /-- MC LTC value of the last NUMERIC_SUSPECT completion (R123). -/
  suspectAt : Option Nat := none
  /-- Member modules that have joined (R373). -/
  memberDevs : NSet := []
  /-- Statuses that the step run in progress has met (R439), and its activity, to be divided among contexts (R466). -/
  stepMet : List (Nat × Nat) := []
  stepAcct : Acct := {}
  deriving DecidableEq, Repr

/-- A prism tree in the routers (R174, R175), by identity: the facet, ladder, rung and table entry it was built for, and its
physical source core, leaf cores and leaf queue; a tree of a rung that is not the placement has no cores. -/
structure PrismTree where
  facet : Nat
  ladder : Nat
  rung : Nat
  entry : Nat
  source : Option Nat
  leaves : NSet
  queue : Nat
  /-- The tree of an old placement (R175, R197). -/
  old : Bool := false
  deriving DecidableEq, Repr

/-- A frame copy in progress from a channel (R215): the target, the frame in copy, the lines of it already copied, whether
the frame-map entry has switched and the source drains. -/
structure FrameCopy where
  target : Nat
  frame : Nat := 0
  line : Nat := 0
  draining : Bool := false
  deriving DecidableEq, Repr

/-- Traffic-generator block of a channel (R232 to R234). -/
structure Tg where
  cfg : TgCfg := ⟨false, false, false, 0, 0, 0, 0, 0, 1, 1⟩
  running : Bool := false
  done : Bool := false
  failed : Bool := false
  res : TgResult := ⟨0, 0, 0, 0, 0, 0⟩
  deriving DecidableEq, Repr

/-- A channel (R198, R225). States: 0 OFF, 1 FREE, 2 BOUND, 3 RETIRING, 4 RETIRED, 5 TESTING, 6 ZEROING. -/
structure Chan where
  state : Nat := 0
  degraded : Bool := false
  thermal : Nat := 0
  selfRefresh : Bool := false
  facet : Nat := 0
  ceCount : Nat := 0
  /-- Corrections of the last local second, as MEM_CHAN shows them (R225). -/
  ceLast : Nat := 0
  ceRun : Nat := 0
  corrected : Nat := 0
  repeats : Nat := 0
  patrol : Nat := 0
  passes : Nat := 0
  /-- Retirement recorded in the non-volatile store (R213). -/
  recorded : Bool := false
  prev : Nat := 0
  tg : Tg := {}
  /-- Ranges tested since ACQUIRE in code mode: pattern, first line, end line (R230). -/
  cover : List (Nat × Nat × Nat) := []
  copy : Option FrameCopy := none
  /-- Retirement waiting for a FREE target (MEM_RETIRE_BLOCKED, R214). -/
  blocked : Bool := false
  /-- Retirement that waits its turn (R213, R221). -/
  retireWait : Bool := false
  ticket : Option Ticket := none
  /-- State to take when ZEROING ends. -/
  after : Nat := 1
  deriving DecidableEq, Repr

/-- Metadata of a line in DRAM (R206, R207). -/
structure LineMeta where
  keySlot : Nat := 0
  poisoned : Bool := false
  scrubPass : Bool := false
  /-- Patrol pass in which the line was rewritten after a correction; its repaired bit stands in that pass (R207). -/
  repaired : Option Nat := none
  /-- What a raw write of the traffic generator left on the 72 pins (R229). -/
  raw : Option (List Byte) := none
  deriving DecidableEq, Repr

/-- A line of a memory-side cache (R200): global line, plaintext data, dirty and poison marks, key slot. -/
structure MscLine where
  gl : Nat
  data : List Byte
  dirty : Bool
  poisoned : Bool
  keySlot : Nat
  /-- Share class that allocated the line; none outside every class (R185, R187). -/
  cls : Option Nat
  deriving DecidableEq, Repr

/-- A line of a cluster cache (R238): M or S. `bad` is what its words read: 0 good, 1 one bad bit, 2 uncorrectable (R252). -/
structure CLine where
  gl : Nat
  m : Bool
  data : List Byte
  keySlot : Nat
  bad : Nat := 0
  deriving DecidableEq, Repr

/-- A snoop-filter entry (R240). -/
structure FEntry where
  gl : Nat
  m : Bool
  pres : NSet
  deriving DecidableEq, Repr

/-- Kind of a request at a home (R242, R247). -/
inductive HomeReq where
  | readShared (cluster : Nat)
  | readOwn (cluster : Nat)
  | upgrade (cluster : Nat)
  | writeBack (cluster : Nat)
  | cleanEvict (cluster : Nat)
  | naRead (hint : Nat)
  | naWrite (hint offset : Nat) (data : List Byte)
  deriving DecidableEq, Repr

/-- A transaction that blocks a line (R244): the request, the acknowledgements still due, data received for the requester,
and whether it has been granted and only the completion acknowledgement is due. -/
structure HomeTxn where
  req : HomeReq
  acks : NSet
  fwd : Option Nat
  data : Option (List Byte × Nat)
  granted : Bool
  noFill : Bool := false
  deriving DecidableEq, Repr

/-- Counters of a cluster's cache and home (R254). -/
structure CohCount where
  cacheUe : Nat := 0
  filterUe : Nat := 0
  hits : Nat := 0
  misses : Nat := 0
  forwards : Nat := 0
  invalidations : Nat := 0
  evictions : Nat := 0
  blocked : Nat := 0
  cacheCe : Nat := 0
  deriving DecidableEq, Repr

/-- Coherence (08). Sets are keyed by cluster times the number of sets plus the set, each a list from the most to the
least recently used way (log 17). -/
structure Coh where
  lines : SMap (List CLine) := []
  filter : SMap (List FEntry) := []
  /-- Blocked lines by global line. -/
  blocked : SMap HomeTxn := []
  /-- Requests that wait at a home behind a blocked line, in arrival order. -/
  waiting : List (Nat × HomeReq) := []
  /-- Write-back buffers: cluster, line (R243). -/
  wbBuf : List (Nat × CLine) := []
  counts : SMap CohCount := []
  deriving DecidableEq, Repr

/-- A mirror entry (R267). `size` is log2 of the page; `frame` the facet frame number of a DEVICE page or the page address
of a HOST page. -/
structure MEnt where
  ctx : Nat
  va : Nat
  size : Nat
  host : Bool
  place : Nat
  r : Bool
  w : Bool
  deriving DecidableEq, Repr

/-- An access that waits on a walk, a translation or a page request: cluster, command and direction; `faults` counts the
faults in a row of R277. -/
structure Waiter where
  cluster : Nat
  cmd : Nat
  write : Bool
  faults : Nat
  /-- Share class of the master (R268). -/
  cls : Option Nat := none
  deriving DecidableEq, Repr

/-- A walk in progress (R268): virtual page (64 KiB), waiters, HOST entry page size once an ATS request is out. -/
structure Walk where
  ctx : Nat
  vpage : Nat
  /-- Address of the access that started it. -/
  va : Nat
  waiters : List Waiter
  restart : Bool := false
  ats : Option Nat := none
  deriving DecidableEq, Repr

/-- An invalidation (R273): source, scope, the commands with undrained requests. -/
structure Inval where
  id : Nat
  /-- SHADOW_INVALIDATE command, or none for an ATS request. -/
  cmd : Option Nat
  fn : Nat
  /-- Contexts it covers; HOST entries only when `hostOnly`. -/
  ctxs : NSet
  hostOnly : Bool
  base : Nat
  len : Nat
  whole : Bool
  tag : Nat
  recorded : NSet
  deriving DecidableEq, Repr

/-- A page request outstanding (R276). -/
structure PageReq where
  index : Nat
  fn : Nat
  pasid : Nat
  vpage : Nat
  waiters : List (Nat × Waiter)
  deriving DecidableEq, Repr

/-- Translation counters of a cluster (R285). -/
structure XlCount where
  mirrorHits : Nat := 0
  dieHits : Nat := 0
  walks : Nat := 0
  ats : Nat := 0
  faults : Nat := 0
  invalidated : Nat := 0
  aborted : Nat := 0
  deriving DecidableEq, Repr

/-- Address translation (09). -/
structure Xl where
  die : SMap (List MEnt) := []
  clus : SMap (List MEnt) := []
  walks : List Walk := []
  invals : List Inval := []
  invWait : List Inval := []
  tracker : List PageReq := []
  /-- Accesses that wait for a tracker entry or allocation (R276): context, address, waiter. -/
  trackWait : List (Nat × Nat × Waiter) := []
  nextInval : Nat := 0
  counts : SMap XlCount := []
  deriving DecidableEq, Repr

/-- Park or unpark in progress (R56): half, whether unpark, step, request. -/
structure ParkStep where
  half : Nat
  unpark : Bool
  step : Nat
  ticket : Option Ticket
  deriving DecidableEq, Repr

/-- A halt in progress (R502). -/
structure Halt where
  trip : Bool
  step : Nat
  saved : Bool
  subject : Nat
  temp : Int
  deriving DecidableEq, Repr

/-- Power, rails, pins, start-up (16, 18). Power states: 0 D0, 1 ENTERING_DUSK, 2 DUSK, 3 WAKING, 4 HALTED. -/
structure Pwr where
  aonGood : Bool := false
  perst : Bool := true
  /-- The PCIe reference clock has been there since PERST# deassertion, so that the link can train (R553, R564). -/
  pcie : Bool := false
  /-- Rails in range, by AVSBus address. -/
  railsOn : NSet := []
  /-- Step of R550 in progress, 0 before AON good, 7 when the order has ended. -/
  order : Nat := 0
  stage : Nat := 0
  railFail : NSet := []
  bootDegraded : Bool := false
  channelsOk : Nat := 0
  /-- MC LTC value at which the milestones of R554 started. -/
  bootAt : Nat := 0
  readyMs : Nat := 0
  mbxMs : Nat := 0
  coolOk : Bool := false
  coolTimer : Bool := false
  coolStable : Bool := false
  coolDips : Nat := 0
  alert : Bool := false
  thermTripN : Bool := false
  slotId : Nat := 0
  state : Nat := 0
  coolHalt : Bool := false
  tripHalt : Bool := false
  /-- Last die temperatures before a halt exceeded 95 degrees (R504). -/
  hotTrip : Bool := false
  westDim : Bool := false
  eastDim : Bool := false
  limiting : Nat := 0
  floor : Bool := false
  issue : Nat := 16
  peakAvg : Nat := 0
  sustAvg : Nat := 0
  westMv : Nat := 750
  eastMv : Nat := 750
  unattr : Nat := 0
  peakW : Nat := 1900
  sustW : Nat := 1600
  peakWindow : Nat := 10
  vmaxW : Nat := 750
  vmaxE : Nat := 750
  tSoft : Nat := 95
  dimDelay : Nat := 10
  dimDisable : Bool := false
  dieTemp : SMap Int := []
  /-- Readings of each sensor in the last second, oldest first: MC LTC value and temperature; and the sensors whose engines
  stand outside the limits of R118. -/
  tempRef : SMap (List (Nat × Int)) := []
  slewing : NSet := []
  westRow : Nat := 0
  eastRow : Nat := 0
  /-- Issue levels of the thermal response of each half (R500). -/
  westN : Nat := 16
  eastN : Nat := 16
  /-- MC LTC values at which the governor's present conditions began (R494); none where they do not hold. -/
  lowSince : Option Nat := none
  calmSince : Option Nat := none
  overSince : Option Nat := none
  raiseAt : Nat := 0
  settling : Bool := false
  westParked : Bool := false
  eastParked : Bool := false
  park : Option ParkStep := none
  mbxReady : Bool := false
  dusk : Bool := false
  fetchStop : Bool := false
  halt : Option Halt := none
  tablesLost : Bool := false
  lockedUntilPerst : Bool := false
  /-- Start-up calibration stage of a half (R114): 0 not begun, 1 load running, 2 settled, 3 done. -/
  westCal : Nat := 0
  eastCal : Nat := 0
  trained : Bool := false
  mcRunning : Bool := false
  deriving DecidableEq, Repr

/-- A firmware update in progress (R370, R372): phase 1 verify, 2 seeking the quiet point, 3 handover, 4 clusters, 5 the
return of clusters to the old image, 6 the handover back. -/
structure FwUpdate where
  phase : Nat
  img : FwImage
  ticket : Ticket
  cluster : Nat := 0
  deriving DecidableEq, Repr

/-- A bank of the firmware store (R514): build, security version and the first 256 bytes of the image that it holds. The payload
is code, of which nothing in the model reads a byte (log 12). -/
structure Bank where
  build : Nat := 1
  svn : Nat := 0
  header : List Byte := []
  deriving DecidableEq, Repr

/-- Firmware (R299, R300, R370). -/
structure Fw where
  build : Nat := 1
  update : Option FwUpdate := none
  handover : Bool := false
  /-- Firmware events held during a handover, with the functions they go to. -/
  held : List (List Nat × Glint) := []
  ccUpdated : NSet := []
  /-- Security version and header of the running image, and the image that a rollback returns to (R372, R520). -/
  svn : Nat := 0
  header : List Byte := []
  prev : Bank := {}
  deriving DecidableEq, Repr

/-- Sideband (R559 to R561). -/
structure Side where
  dynAddr : Option Nat := none
  eid : Nat := 0
  tid : Nat := 0
  receiver : Option Nat := none
  sensors : SMap Int := []
  crossed : NSet := []
  deriving DecidableEq, Repr

/-- A flit in an inbound queue (R151): its 128 bytes, the length of its message on the first flit (0 on the others), and
whether its parity is bad. -/
structure QFlit where
  data : List Byte
  len : Nat
  bad : Bool := false
  deriving DecidableEq, Repr

/-- What a core waits for at a wait-for snapshot (R478): kind and object, with the MC LTC value of its last handshake. -/
structure WaitRec where
  kind : Nat
  obj : Nat
  since : Nat
  /-- Flits that a SEND or PRISM_SEND needs room for. -/
  need : Nat := 0
  deriving DecidableEq, Repr

/-- A core (R126, R161). Status: 0 RESERVE, 1 FREE, 2 BOUND, 3 RETIRED. Byte memories: `scratch` by offset, `acc` by
block times 1024 plus 4 times entry, `vreg` by register times 1024, `feed` by engine times 256. -/
structure Core where
  status : Nat := 1
  powered : Bool := false
  cleared : Bool := false
  facet : Nat := 0
  scratch : Mem := []
  acc : Mem := []
  vreg : Mem := []
  feed : Mem := []
  /-- Accumulator entries, and scratchpad bytes, whose parity is bad (R144, R155). -/
  accBad : NSet := []
  scratchBad : NSet := []
  /-- The sequencer (R133, R141): the number of the first operation that has not completed, those after it that have, the
  fetch buffer from that first one on, and what is done of each operation that has started and not completed (repeats,
  flits, pieces). -/
  pc : Nat := 0
  done : NSet := []
  fbuf : List Byte := []
  part : SMap Nat := []
  inq : SMap (List QFlit) := []
  events : SMap Nat := []
  /-- Arrival at a barrier: number, scope, participants (R140). -/
  atBarrier : Option (Nat × Bool × Nat) := none
  /-- WAIT_EVENT in force: counter, threshold. -/
  waiting : Option (Nat × Nat) := none
  ended : Bool := false
  cmd : Option Nat := none
  lastCtx : Option Nat := none
  /-- Chunk buffers of the secure part in use (R82). -/
  buffers : NSet := []
  parityErrors : Nat := 0
  ops : Nat := 0
  stallVector : Nat := 0
  stallLoader : Nat := 0
  stallIn : Nat := 0
  stallOut : Nat := 0
  stallMgmt : Nat := 0
  rotateExtra : Nat := 0
  waitFor : Option WaitRec := none
  /-- The last reduced result that a link-collective engine delivered (R181, log 33). -/
  reduced : List Byte := []
  /-- The wait in the latest snapshot, with the cores waited on (R478). -/
  snap : Option (WaitRec × List Nat) := none
  deriving DecidableEq, Repr

/-- What a plane holds (R81, R98, R107): nothing, a chunk of a set by sealed load, an image of a stream image, or the
calibration image. -/
inductive PlaneSrc where
  | empty
  | chunk (facet set chunk : Nat)
  | stream (facet set image : Nat)
  | calibration
  deriving DecidableEq, Repr

/-- A plane (R59, R66, R91). `data` is the image of its data columns; `spare` holds spare column j of row i in nibble j % 2 of
byte 2i + j / 2; `parity` the 8 parity bits of row i in byte i; `refFlip` what the cell of reference column k in row i differs
by from the pattern ROM, at 8i + k; `mapped` the data columns that spares 0, 1, ... held when the plane was loaded (R62). -/
structure Plane where
  data : Mem := []
  spare : Mem := []
  parity : Mem := []
  refFlip : Mem := []
  mapped : List Nat := []
  src : PlaneSrc := .empty
  loading : Bool := false
  /-- Cluster LTC value and epoch of the load or clearing, whose readback was good, and of each row's last good scrub since
  (R94). -/
  base : Nat × Nat := (0, 0)
  scrubbed : SMap (Nat × Nat) := []
  /-- Commands that used the plane, with the cluster's LTC value at the last use (R94). -/
  users : SMap Nat := []
  deriving DecidableEq, Repr

/-- Tracked correction of one ADC (R103, R104): the last 64 unclipped reference conversions (expected, measured, both in
1/16 unit), the last 1,024 residuals in ppm of full scale, offset in 1/16 unit, gain with 0x4000 = 1. -/
structure AdcTrack where
  win : List (Int × Int) := []
  res : List Int := []
  off : Int := 0
  gain : Int := 16384
  deriving DecidableEq, Repr

/-- Calibration in progress (R107). -/
structure CalRun where
  /-- The cause, as in `calCall`; 0 at start-up. -/
  cause : Nat
  /-- Cluster LTC value and engine temperature at step 2. -/
  began : Nat
  temp : Int
  /-- What the shadow plane held. -/
  prev : PlaneSrc
  /-- Calibration passes run between ordinary passes, and ordinary passes since the last one (R110). -/
  passes : Nat := 0
  ordinary : Nat := 0
  /-- A PLANE_LOAD or swap took the shadow plane: the passes run are kept and the rest wait for a window (R125). -/
  paused : Bool := false
  deriving DecidableEq, Repr

/-- A scrub rewrite that is due (R94): plane, row, the row's last good scrub (LTC value, epoch), whether the plane was active,
whether only reference cells differ, the chunk buffer that holds its source, whether PLANE_SCRUB_FAULT has been raised. -/
structure Rewrite where
  one : Bool
  row : Nat
  last : Nat × Nat
  act : Bool
  refOnly : Bool
  buffer : Option Nat := none
  told : Bool := false
  deriving DecidableEq, Repr

/-- A matrix engine (R59 to R101, R102 to R125). Status: 0 UNCALIBRATED, 1 IN_SERVICE, 2 HELD, 3 RETIRED, 4 RESERVE. -/
structure Engine where
  status : Nat := 0
  /-- Plane 1 is active. -/
  active1 : Bool := false
  plane0 : Plane := {}
  plane1 : Plane := {}
  repairs : List Nat := []
  passNo : Nat := 0
  /-- Held reference columns of the last pass: expected sums E_k, sums on the columns, range (R61, R102). -/
  heldRefs : Option (List Int × List Int × Nat) := none
  droopRow : Nat := 0
  /-- Pass discarded by droop that waits to run again (R78): the droop of the next pass. -/
  stopped : Bool := false
  /-- HELD for a scrub rewrite (R94) or by a failed check (R120). -/
  heldScrub : Bool := false
  heldCheck : Bool := false
  /-- HELD because the set of its plane is quarantined (R219). -/
  heldSet : Bool := false
  /-- Correction table (R107): offset in 1/16 ADC step and gain (0x4000 = 1) by column times 4 plus range; unlisted, offset 0
  and gain 1. Columns 512 to 515 are the spares and 516 to 523 the reference columns. -/
  corr : SMap (Int × Nat) := []
  track : SMap AdcTrack := []
  /-- Scrub read that waits for a gap: plane 1, row; and the scrub rewrites that are due, oldest first. -/
  scrubWait : Option (Bool × Nat) := none
  rewrites : List Rewrite := []
  swapWait : Bool := false
  cal : Option CalRun := none
  /-- Why a full calibration is called for (R108): 0 not, 1 period, 2 temperature, 3 tracking, 4 repair or restart, 5 a
  failed check. -/
  calCall : Nat := 0
  /-- Commands that took part since the last good check (R120). -/
  cmds : NSet := []
  goodLtc : Nat := 0
  goodEpoch : Nat := 0
  passes : Nat := 0
  droops : Nat := 0
  reranges : Nat := 0
  clipped : Nat := 0
  accSat : Nat := 0
  scrubFaults : Nat := 0
  loadRetries : Nat := 0
  planeWait : Nat := 0
  calResult : Nat := 3
  calCount : Nat := 0
  calLtc : Nat := 0
  calEpoch : Nat := 0
  calTemp : Int := 0
  gainMin : Nat := 0
  gainMax : Nat := 0
  offsetMax : Nat := 0
  noiseMax : Nat := 0
  noiseMean : Nat := 0
  trackOffMax : Nat := 0
  trackGainMax : Nat := 0
  checksFailed : Nat := 0
  earlyCals : Nat := 0
  tempCals : Nat := 0
  deriving DecidableEq, Repr

/-- The chunk in a decryption unit's hand (R82): target engine and plane, set and chunk, chunk buffer, whether it is a scrub
rewrite (R94), whether it rebuilds an image of the stream image (R220). -/
structure ChunkJob where
  engine : Nat
  plane1 : Bool
  facet : Nat
  set : Nat
  chunk : Nat
  buffer : Nat
  scrub : Bool
  rebuild : Option Nat := none
  /-- It is read from the second copy of a replicated set (R218). -/
  second : Bool := false
  deriving DecidableEq, Repr

/-- An entry of a router's prism table (R174): output ports (0 east, 1 west, 2 north, 3 south), the mask of the cluster's
core slots that receive the flit, and the leaf queue. -/
structure RouterEntry where
  ports : NSet
  mask : Nat
  queue : Nat
  deriving DecidableEq, Repr

/-- A cluster's router (R164, R167, R171, R174): its prism table by identity, and the parity errors it has received. -/
structure Router where
  prisms : SMap RouterEntry := []
  parity : Nat := 0
  deriving DecidableEq, Repr

/-- A cluster: the chunk in its decryption unit, the slots taken since the last scrub rewrite (R84), whether its reserve is
used (R21). -/
structure Cluster where
  job : Option ChunkJob := none
  sinceScrub : Nat := 4
  /-- Facet that had the last slot of those taken in turn (R84). -/
  lastFacet : Nat := 0
  reserveUsed : Bool := false
  router : Router := {}
  /-- Facets that the cluster DMA and the plane stream port last worked for (R182). -/
  dmaFacet : Option Nat := none
  streamFacet : Option Nat := none
  deriving DecidableEq, Repr

/-- An entry of the flight record (R543). -/
structure FlightEntry where
  seq : Nat
  lc : Nat
  withheld : Bool
  kind : Nat
  ltc : Nat
  subject : Nat
  detail : Nat
  deriving DecidableEq, Repr

/-- An SPDM session (R519, R522): established by FINISH; `pq` once PQ_SIGN has answered its target 2. -/
structure Session where
  fn : Nat
  id : Nat
  established : Bool := false
  pq : Bool := false
  deriving DecidableEq, Repr

/-- One position of a link key entry: whether it holds a key, the nonces sent, and the receive window (R405, R527). -/
structure LinkPos where
  loaded : Bool := false
  key : List Byte := []
  sent : Nat := 0
  high : Nat := 0
  seen : NSet := []
  deriving DecidableEq, Repr

/-- An entry of the link key table (R405, R527). Positions are for key_gen 0 and 1. -/
structure LinkKey where
  fn : Nat
  salt : Nat
  pos0 : LinkPos := {}
  pos1 : LinkPos := {}
  /-- Position 1 is the sending one. -/
  send1 : Bool := false
  deriving DecidableEq, Repr

/-- Connection state of a function's DOE responder (R519): versions, capabilities and algorithms agreed, and the responses
that PQ_SIGN may name. -/
structure Spdm where
  version : Bool := false
  caps : Bool := false
  algs : Bool := false
  challenged : Bool := false
  measured : Bool := false
  deriving DecidableEq, Repr

/-- What fuses and Lantern's store hold for good (R516 to R518, R537): the life-cycle state, the svn floor, the revoked key
indexes, the number that stands for the SHA-384 of the owner key (0 before the claim), whether the identity keys exist, and the
identity tag. States: 0 BLANK, 1 TEST, 2 PROVISIONED, 3 DEPLOYED, 4 RETURN, 5 END. -/
structure Fuses where
  lcState : Nat := 2
  /-- Reserve slot of each cluster, unlisted slot 16 (R20, log 4). -/
  reserveSlots : SMap Nat := []
  svnFloor : Nat := 0
  revoked : NSet := []
  ownerKey : Nat := 0
  identityKeys : Bool := true
  identityTag : Nat := 0
  deriving DecidableEq, Repr

/-- A weight key slot (R528, R532): its owner, 64 where the firmware owns it for a sealed set, and its key. -/
structure WeightKey where
  owner : Nat
  key : List Byte
  deriving DecidableEq, Repr

/-- A binding slot (R534): the key, and the SHA-384 of the list of members. -/
structure Binding where
  key : List Byte
  members : List Byte
  deriving DecidableEq, Repr

/-- Security (17). No command reads a key out (R523). -/
structure Sec where
  tampered : Bool := false
  bootBank : Nat := 0
  recordedBank : Nat := 0
  fallback : Bool := false
  imageOk : Bool := false
  bank0 : Bank := {}
  bank1 : Bank := {}
  /-- Binding slots by identity (R534). -/
  bindings : SMap Binding := []
  /-- Memory key slots 1 to 255 in use, and slot 0 from start-up on (R523, R525). -/
  memSlots : SMap (List Byte) := []
  memKey0 : List Byte := []
  linkKeys : SMap LinkKey := []
  weightSlots : SMap WeightKey := []
  sessions : List Session := []
  nextSession : Nat := 1
  spdm : SMap Spdm := []
  /-- The nonce of GET_NONCE while it is fresh (R521). -/
  nonce : Option Nat := none
  /-- A life-cycle transition has run: every request is BUSY until PERST# (R539). -/
  lcDone : Bool := false
  flight : List FlightEntry := []
  flightSeq : Nat := 0
  deriving DecidableEq, Repr

/-- A routed or CONTROL flit in a sender (R388, R389): kind, vnet, dest, transaction and its nonce, replays so far. -/
structure TxFlit where
  kind : Nat
  seq : Nat
  half : Nat
  vnet : Nat
  dest : Nat
  txn : Option Txn
  nonce : Nat := 0
  replays : Nat := 0
  deriving DecidableEq, Repr

/-- One link of a port (R385, R390, R391): next sequence number, replay buffer, held flits, next number due, the credits
that the peer has granted per vnet. -/
structure VLink where
  txSeq : Nat := 0
  buf : List TxFlit := []
  held : List TxFlit := []
  rxNext : Nat := 0
  credReq : Nat := 0
  credRsp : Nat := 0
  credMsg : Nat := 0
  /-- A flit was discarded; flits are discarded until the replay reaches it. -/
  nakked : Bool := false
  deriving DecidableEq, Repr

/-- A Voxlink port (R411, R412). States: 0 DISABLED, 1 TRAINING, 2 IDENT, 3 UP, 4 RETRAINING, 5 DOWN, 6 TEST. -/
structure Port where
  enable : Bool := false
  split : Bool := false
  /-- Configuration of the last training. -/
  splitNow : Bool := false
  maxWidth : Nat := 0
  loopback : Nat := 0
  state : Nat := 0
  widthLo : Nat := 3
  widthHi : Nat := 3
  peerValid : Bool := false
  peerRole : Nat := 0
  peerId : Nat := 0xFFFF
  laneFail : Nat := 0
  gen : Bool := false
  check : Bool := false
  pattern : Nat := 0
  /-- Draw from which the PRBS checker's counts are free numbers, one per lane; none before a check (R410). -/
  prbsFrom : Option Nat := none
  echo : Nat := 0
  corr : Nat := 0
  drop : Nat := 0
  lo : VLink := {}
  hi : VLink := {}
  /-- Half of the flit that a joined port sent last (R386). -/
  lastHalf : Nat := 1
  deriving DecidableEq, Repr

/-- A transaction sent that awaits its response (R400): what it is for. -/
structure VOut where
  port : Nat
  op : Nat
  facet : Nat
  /-- Command, or 2^32 plus the facet for a step run, that it belongs to. -/
  cmd : Nat
  dest : Nat
  endpoint : Bool
  /-- Sequence of a tier access, 0 for none. -/
  seqId : Nat := 0
  /-- Responses still due. -/
  left : Nat := 1
  deriving DecidableEq, Repr

/-- A slot of a link-collective engine (R181, R402). Elements are FP32 patterns. -/
structure CSlot where
  /-- Global facet identity, and the facet of this module. -/
  device : Nat
  gfacet : Nat
  facet : Nat
  op : Nat
  fp32 : Bool
  expected : Nat
  hop : Nat
  step : Nat
  got : Nat
  elems : List Nat
  cores : NSet
  txn : Txn
  deriving DecidableEq, Repr

/-- Voxlink (13). -/
structure Vxl where
  idValid : Bool := false
  id : Nat := 0xFFFF
  ports : SMap Port := []
  groups : SMap Nat := []
  routes : SMap Nat := []
  epRoutes : SMap Nat := []
  outst : SMap VOut := []
  slots : SMap CSlot := []
  /-- Statuses that accesses of other modules have met while they waited on a translation, by their number (R400). -/
  failed : SMap Nat := []
  deriving DecidableEq, Repr

/-- An export in progress (R455, R459): step 1 to 6 and 8 for a reclaim, offeree, word read at E2, deadline. -/
structure Export where
  step : Nat
  cmd : Option Nat
  device : Nat
  facet : Nat
  word : Nat := 0
  deadline : Option Nat := none
  evict : Bool := false
  deriving DecidableEq, Repr

/-- A sequence in the table: its record and table entry (R428 to R430), and what the builder keeps of it. States: 1 WAITING,
2 RUNNING, 3 DRAINING, 4 EVICTED, 5 DONE (held). -/
structure Seq where
  rec_ : SeqRecord
  context : Nat
  report : Bool
  state : Nat := 1
  prefilling : Bool := false
  import_ : Bool := false
  /-- Import reads done: RUNNING at the next build (R457). -/
  ready : Bool := false
  /-- An imported sequence whose blocks are being read. -/
  reading : Bool := false
  importEpoch : Nat := 0
  offered : Bool := false
  firstDeadline : Nat := 0
  lastTokenLtc : Nat := 0
  /-- Clusters whose LTC counts the first-token deadline, the last token and an offer's deadline (R46, R464). -/
  firstClk : Nat := 0
  tokenClk : Nat := 0
  offerClk : Nat := 0
  blocks : List Nat := []
  age : Nat
  outTail : Nat := 0
  /-- TOKEN records that wait for ring room, without phase (log 29). -/
  tokWait : List (List Byte) := []
  head : Nat := 0
  headBad : Bool := false
  draftBad : Bool := false
  drafts : DraftSet := ⟨0, 0, [], []⟩
  /-- List entries still owed a copy, with the block to copy (the count limit of R426); the list holds no block there. -/
  owed : List (Nat × Nat) := []
  /-- Drafts placed in the step being built (draft_count), parents of its nodes, tokens of its nodes. -/
  placed : Nat := 0
  nodes : List (Nat × Nat) := []
  /-- First slot in the target run's work list, and slots, of the step in progress; tokens of its prefill slots. -/
  at_ : Option Nat := none
  slots : Nat := 0
  fillToks : List Nat := []
  fixups : List (Nat × Nat) := []
  short : Bool := false
  /-- Every draft of the last step was accepted (R441). -/
  allAccepted : Bool := false
  draftToks : List Nat := []
  missNext : Bool := false
  interMissed : Bool := false
  /-- END decided, to be taken at the next build: reason and status. -/
  leave : Option (Nat × Nat) := none
  /-- END record that waits for ring room. -/
  endRec : Option (Nat × Nat) := none
  hold : Bool := false
  exp : Option Export := none
  /-- The ownership word that the last offer was to replace (R458). -/
  offerFrom : Option Nat := none
  deriving DecidableEq, Repr

/-- A step in progress (R434, R437): its number, the run in progress (0 the target run, j draft run j), whether copies
remain, the copies, the slots of the sequences in it. -/
structure Step where
  n : Nat
  run : Nat
  copies : List (Nat × Nat)
  copiesDone : Bool
  started : Bool := false
  startedAt : Nat := 0
  acceptedAt : Nat := 0
  /-- Table slots of the sequences in it, in the order of their placement. -/
  members : List Nat
  /-- Member modules whose DISPATCH_DONE is due for the run in progress. -/
  due : Nat := 0
  /-- The last run has completed and the results are in. -/
  done : Bool := false
  deriving DecidableEq, Repr

/-- Serving state of a facet with a KV pool (14): the sequence table, configuration, block counts, free list (blocks from
`fresh` on, then `freed`), release list. -/
structure Serve where
  table : Bool
  units : Nat
  kvFormat : Nat
  blocks : Nat
  poolSlots : List Nat
  configured : Bool := false
  ladder : Nat := 0
  draftLadder : Nat := 0
  budget : Nat := 0
  draftLen : Nat := 0
  kvLow : Nat := 0
  kvArmed : Bool := true
  refs : SMap Nat := []
  fresh : Nat := 0
  freed : List Nat := []
  release : List Nat := []
  seqs : SMap Seq := []
  nextAge : Nat := 0
  stepNo : Nat := 0
  step : Option Step := none
  steps : Nat := 0
  tokens : Nat := 0
  proposed : Nat := 0
  acceptedDrafts : Nat := 0
  evictions : Nat := 0
  exhausted : Nat := 0
  handedOff : Nat := 0
  imports : Nat := 0
  /-- Imported sequences whose release CAS awaits its answer (R457 step I5). -/
  releases : List Nat := []
  /-- Saved for dusk or a halt, with deadlines as time remaining (R465). -/
  saved : Bool := false
  deriving DecidableEq, Repr

/-! ## Outcomes -/

/-- Why a step stops with a fault. -/
inductive Fault where
  /-- A command names a unit, number or code that the module does not have (Instr.wf is false). Raised by every meaning
  through `checked`. Safe: no such command can be sent on the hardware. -/
  | noSuchUnit
  deriving DecidableEq, Repr

/-- Why a step refuses. -/
inductive Refusal where
  /-- The command has no meaning yet. Raised only by an arm of exec. Safe: nothing is claimed of it. -/
  | notModelled (mnemonic : String)
  deriving DecidableEq, Repr

/-- The machine. -/
structure State where
  /-- The commands that wait, first in, first out. -/
  pending : List Instr := []
  out : List Emit := []
  freeCtr : Nat := 0
  nextCmd : Nat := 1
  time : Time := {}
  reg : Regs := {}
  fns : SMap Fn := []
  ctxs : SMap Ctx := []
  lost : NSet := []
  queues : SMap Queue := []
  cmds : SMap Cmd := []
  facets : SMap Facet := []
  clusters : SMap Cluster := []
  cores : SMap Core := []
  engines : SMap Engine := []
  chans : SMap Chan := []
  dram : Mem := []
  lineMeta : SMap LineMeta := []
  msc : SMap (List MscLine) := []
  /-- Temperatures of the stacks in 0.1 degrees, unlisted 250 (log 4). -/
  stackTemp : SMap Int := []
  coh : Coh := {}
  xl : Xl := {}
  pwr : Pwr := {}
  fw : Fw := {}
  fuses : Fuses := {}
  sec : Sec := {}
  side : Side := {}
  vxl : Vxl := {}
  /-- Serving state by facet. -/
  serve : SMap Serve := []
  /-- Prism trees by identity, 0 to 255. -/
  prisms : SMap PrismTree := []
  deriving DecidableEq, Repr

/-- The module as VDD_AON is applied: before AON good, PERST# held, every rail off, every register at its Reset value
(log 3, log 4). -/
def State.reset : State := {}

end Sys2Proof.Machine
end

