-- ==== Sys2Proof/Machine/Flags.lean ====
section
/-! DEFINITION. Status codes (R297, R346), event kinds (R304 and the chapters' event tables), and the rules over them: which
statuses lose a context (R346), which of several is reported (R347), what a withheld glint keeps (R566). -/

namespace Sys2Proof.Machine

/-! ## Command statuses (R346) -/

def stOk : Nat := 0x00
def stDeadlineMissed : Nat := 0x10
def stTimeLimit : Nat := 0x11
def stMalformed : Nat := 0x20
def stBadHandle : Nat := 0x21
def stUnmapped : Nat := 0x30
def stPageRequestFailed : Nat := 0x31
def stInvalidationAbort : Nat := 0x32
def stDataPoisoned : Nat := 0x40
def stWeightPoison : Nat := 0x41
def stMemIfFail : Nat := 0x42
def stContextLost : Nat := 0x50
def stStateLost : Nat := 0x60
def stHandoffLost : Nat := 0x61
def stKvExhausted : Nat := 0x62
def stComputeReset : Nat := 0x70
def stFunctionReset : Nat := 0x71
def stQuiesced : Nat := 0x72
def stUnreachable : Nat := 0x73
def stNumericSuspect : Nat := 0x80
def stPeerTimeout : Nat := 0x90

/-- Statuses that lose the context whatever the queue's policy (R346). -/
def losesContext (st : Nat) : Bool :=
  [stTimeLimit, stMalformed, stUnmapped, stPageRequestFailed, stInvalidationAbort, stDataPoisoned, stMemIfFail,
    stComputeReset, stFunctionReset, stUnreachable, stPeerTimeout].contains st

/-- The status of a command that ran, of those it met in order of detection (R347). -/
def combineStatus (met : List (Nat × Nat)) : Nat × Nat :=
  let has (st : Nat) := met.find? fun e => e.1 == st
  match has stFunctionReset with
  | some e => e
  | none =>
  match has stComputeReset with
  | some e => e
  | none =>
  match has stTimeLimit with
  | some e => e
  | none =>
  match met.find? fun e => losesContext e.1 with
  | some e => e
  | none =>
  match has stWeightPoison with
  | some e => e
  | none =>
  match met.find? fun e => [stStateLost, stHandoffLost, stKvExhausted, stBadHandle].contains e.1 with
  | some e => e
  | none =>
  match has stNumericSuspect with
  | some e => e
  | none => (stOk, 0)

/-! ## Synrus statuses (R297) -/

def syOk : Nat := 0
def syAccepted : Nat := 1
def syBusy : Nat := 2
def syMalformed : Nat := 3
def syDenied : Nat := 4
def syNotFound : Nat := 5
def syNoSpace : Nat := 6
def syShortBuffer : Nat := 7
def syRejected : Nat := 8
def syUnsupported : Nat := 9

/-! ## Request codes (R298) -/

def opGetInfo : Nat := 0x0001
def opContextBind : Nat := 0x0010
def opContextUnbind : Nat := 0x0011
def opQueueCreate : Nat := 0x0020
def opQueueDestroy : Nat := 0x0021
def opFacetCreate : Nat := 0x0030
def opFacetResize : Nat := 0x0031
def opFacetDestroy : Nat := 0x0032
def opFacetPark : Nat := 0x0033
def opSegmentLoad : Nat := 0x0040
def opWeightSetLoad : Nat := 0x0050
def opWeightSetUnload : Nat := 0x0051
def opQuiesce : Nat := 0x0060
def opResume : Nat := 0x0061
def opComputeReset : Nat := 0x0062
def opFwUpdate : Nat := 0x0070
def opPowerLimits : Nat := 0x0071
def opMemtest : Nat := 0x0072
def opTelemetry : Nat := 0x0080
def opAccountingRead : Nat := 0x0081

/-- Every request code of Synrus 3.2 (R298). -/
def requestCodes : List Nat :=
  [opGetInfo, opContextBind, opContextUnbind, opQueueCreate, opQueueDestroy, opFacetCreate, opFacetResize, opFacetDestroy,
    opFacetPark, opSegmentLoad, opWeightSetLoad, opWeightSetUnload, opQuiesce, opResume, opComputeReset, opFwUpdate,
    opPowerLimits, opMemtest, opTelemetry, opAccountingRead]

/-- Request codes that only PF0 may send (R298). -/
def pf0Only (op : Nat) : Bool :=
  [opFacetCreate, opFacetResize, opFacetDestroy, opFacetPark, opQuiesce, opResume, opComputeReset, opFwUpdate,
    opPowerLimits, opMemtest].contains op

/-! ## Event kinds -/

def evMbxDone : Nat := 0x0001
def evRequestDone : Nat := 0x0002
def evGlintLost : Nat := 0x0003
def evCompletion : Nat := 0x0010
def evOutput : Nat := 0x0011
def evQueueOverrun : Nat := 0x0012
def evFenceRegress : Nat := 0x0013
def evLtcUntrimmed : Nat := 0x0020
def evSeamSlow : Nat := 0x0021
def evAnDroop : Nat := 0x0030
def evPlaneScrubFault : Nat := 0x0031
def evEngineSuspect : Nat := 0x0032
def evEngineRepaired : Nat := 0x0033
def evEngineRetired : Nat := 0x0034
def evCalibrationOverdue : Nat := 0x0035
def evThermalSlew : Nat := 0x0036
def evSecureAccess : Nat := 0x0037
def evGuaranteeMiss : Nat := 0x0040
def evMemUe : Nat := 0x0050
def evMemDegraded : Nat := 0x0051
def evMemRetired : Nat := 0x0052
def evMemRetireBlocked : Nat := 0x0053
def evMemHot : Nat := 0x0054
def evMemThrottle : Nat := 0x0055
def evWeightRepaired : Nat := 0x0056
def evWeightQuarantined : Nat := 0x0057
def evCacheUe : Nat := 0x0058
def evSnoopFilterUe : Nat := 0x0059
def evShadowEntryBad : Nat := 0x0060
def evAtsError : Nat := 0x0061
def evInvalidationAborted : Nat := 0x0062
def evPriResponseFailure : Nat := 0x0063
def evHang : Nat := 0x0070
def evSlowdown : Nat := 0x0071
def evOverload : Nat := 0x0072
def evEclipse : Nat := 0x0073
def evSeqEvicted : Nat := 0x0080
def evSeqHandoff : Nat := 0x0081
def evKvLow : Nat := 0x0082
def evSeqDeadline : Nat := 0x0083
def evTierReleaseFail : Nat := 0x0084
def evSeqDraftBad : Nat := 0x0085
def evOutHeadBad : Nat := 0x0086
def evFacetSwitched : Nat := 0x0090
def evFacetCoreReplaced : Nat := 0x0091
def evFacetDegraded : Nat := 0x0092
def evFacetJoined : Nat := 0x0093
def evFwUpdated : Nat := 0x0094
def evFunctionResetDone : Nat := 0x0095
def evVxlLinkUp : Nat := 0x0098
def evVxlLinkDown : Nat := 0x0099
def evVxlDegraded : Nat := 0x009A
def evVxlNoRoute : Nat := 0x009B
def evVxlMisroute : Nat := 0x009C
def evVxlAuthFail : Nat := 0x009D
def evVxlNoKey : Nat := 0x009E
def evPwrThrottle : Nat := 0x00A0
def evPwrFloor : Nat := 0x00A1
def evThermalLimit : Nat := 0x00A2
def evThermtrip : Nat := 0x00A3
def evCoolLoss : Nat := 0x00A4
def evDuskEntered : Nat := 0x00A5
def evWoke : Nat := 0x00A6
def evTamper : Nat := 0x00B0
def evKeyRotated : Nat := 0x00B1
def evLcChanged : Nat := 0x00B2
def evBootFallback : Nat := 0x00B3

/-- Subject and detail of a withheld glint (R566, R124): a field whose layout carries the facet number keeps it, the three
engine events keep the engine, everything else reads 0. -/
def withhold (kind subject detail : Nat) : Nat × Nat :=
  if [evSeamSlow, evHang, evSlowdown, evOverload, evEclipse, evSeqEvicted, evSeqHandoff, evKvLow, evSeqDeadline,
      evTierReleaseFail, evSeqDraftBad, evOutHeadBad, evFacetSwitched, evFacetCoreReplaced, evFacetDegraded,
      evFacetJoined, evKeyRotated, evEngineSuspect].contains kind then (subject, 0)
  else if kind = evEngineRepaired then (subject, 0)
  else if kind = evEngineRetired then (subject, detail)
  else if [evVxlNoRoute, evVxlAuthFail, evVxlNoKey].contains kind then (0, bits detail 5 0)
  else (0, 0)

/-- Kinds that the flight record keeps (R543). -/
def flightKinds : List Nat :=
  [evEngineRetired, evMemUe, evMemRetired, evCacheUe, evSnoopFilterUe, evHang, evEclipse, evPwrFloor, evThermtrip,
    evCoolLoss, evFwUpdated, evTamper, evLcChanged, evBootFallback]

end Sys2Proof.Machine
end

