-- ==== Sys2Proof/Machine/Ops.lean ====
section
/-! DEFINITION. Named operations over the state that every family shares: unit records with their initial values, the
geometry of the die, free values, local time, the event controller, and the mailbox exchange. -/

namespace Sys2Proof.Machine

/-- The outcome of a meaning: a command that names a unit the module does not have faults; every other one has its
effect. `ok` is the command's arm of Instr.wf. -/
def checked (ok : Bool) (s : State) (f : State → State) : Host.Outcome State Fault Refusal :=
  if ok then .next (f s) else .fault .noSuchUnit

/-! ## Geometry (R19, R22 to R25, R190) -/

def clusterOfCore (c : Nat) : Nat := c / 17
def slotOfCore (c : Nat) : Nat := c % 17
def coreOfEngine (e : Nat) : Nat := e / 8
def clusterOfEngine (e : Nat) : Nat := clusterOfCore (coreOfEngine e)
/-- Half of a cluster: false west, true east (R22). -/
def eastCluster (k : Nat) : Bool := decide (4 ≤ k % 8)
def eastCore (c : Nat) : Bool := eastCluster (clusterOfCore c)
/-- Cluster beneath a channel, the inverse of R23. -/
def homeOf (ch : Nat) : Nat :=
  let stack := ch / 32
  let pos := ch % 32 / 8
  (stack / 4 * 2 + pos / 2) * 8 + (stack % 4 * 2 + pos % 2)
/-- First near channel of a cluster (R23). -/
def firstNear (k : Nat) : Nat :=
  let r := k / 8
  let c := k % 8
  (r / 2 * 4 + c / 2) * 32 + (r % 2 * 2 + c % 2) * 8
def eastChan (ch : Nat) : Bool := eastCluster (homeOf ch)
/-- Voxlink ports C, E and F lie in the east half (R24). -/
def eastPort (p : Nat) : Bool := p == 2 || p == 4 || p == 5
/-- Half-port h is half h mod 2 of port h / 2 (R190). -/
def eastHalfPort (h : Nat) : Bool := eastPort (h / 2)
/-- Edge-router counter 32 to 41 of R49: whether it lies in the east half (R24). -/
def eastEdge (n : Nat) : Bool := n == 34 || n == 36 || n == 37 || n == 40 || n == 41

/-! ## Unit records -/

/-- Reserve slot of a cluster, as its fuses say (R20). -/
def reserveSlot (s : State) (k : Nat) : Nat := SMap.getD s.fuses.reserveSlots k 16
/-- Reserve core of a cluster. -/
def reserveCore (s : State) (k : Nat) : Nat := k * 17 + reserveSlot s k
/-- A core is its cluster's reserve core. -/
def isReserve (s : State) (c : Nat) : Bool := slotOfCore c == reserveSlot s (clusterOfCore c)
/-- Initial record of a core (R20). -/
def coreInit (s : State) (c : Nat) : Core := { status := if isReserve s c then 0 else 1 }
/-- Initial record of an engine: RESERVE on a reserve core, else UNCALIBRATED (R97, R100). -/
def engineInit (s : State) (e : Nat) : Engine := { status := if isReserve s (coreOfEngine e) then 4 else 0 }

def fnOf (s : State) (f : Nat) : Fn := SMap.getD s.fns f {}
def coreOf (s : State) (c : Nat) : Core := SMap.getD s.cores c (coreInit s c)
def engineOf (s : State) (e : Nat) : Engine := SMap.getD s.engines e (engineInit s e)
def chanOf (s : State) (c : Nat) : Chan := SMap.getD s.chans c {}
def clusterOf (s : State) (k : Nat) : Cluster := SMap.getD s.clusters k {}

def setFn (f : Nat) (r : Fn) (s : State) : State := { s with fns := SMap.put s.fns f r }
def setCore (c : Nat) (r : Core) (s : State) : State := { s with cores := SMap.put s.cores c r }
def setEngine (e : Nat) (r : Engine) (s : State) : State := { s with engines := SMap.put s.engines e r }
def setChan (c : Nat) (r : Chan) (s : State) : State := { s with chans := SMap.put s.chans c r }
def setCluster (k : Nat) (r : Cluster) (s : State) : State := { s with clusters := SMap.put s.clusters k r }
def setFacet (n : Nat) (r : Facet) (s : State) : State := { s with facets := SMap.put s.facets n r }
def setQueue (n : Nat) (r : Queue) (s : State) : State := { s with queues := SMap.put s.queues n r }
def setCmd (n : Nat) (r : Cmd) (s : State) : State := { s with cmds := SMap.put s.cmds n r }
def setCtx (n : Nat) (r : Ctx) (s : State) : State := { s with ctxs := SMap.put s.ctxs n r }

def updFn (f : Nat) (g : Fn → Fn) (s : State) : State := setFn f (g (fnOf s f)) s
def updCore (c : Nat) (g : Core → Core) (s : State) : State := setCore c (g (coreOf s c)) s
def updEngine (e : Nat) (g : Engine → Engine) (s : State) : State := setEngine e (g (engineOf s e)) s
def updChan (c : Nat) (g : Chan → Chan) (s : State) : State := setChan c (g (chanOf s c)) s
def updCluster (k : Nat) (g : Cluster → Cluster) (s : State) : State := setCluster k (g (clusterOf s k)) s
/-- Change a facet, queue, command or context if it exists. -/
def updFacet (n : Nat) (g : Facet → Facet) (s : State) : State := { s with facets := SMap.modify s.facets n g }
def updQueue (n : Nat) (g : Queue → Queue) (s : State) : State := { s with queues := SMap.modify s.queues n g }
def updCmd (n : Nat) (g : Cmd → Cmd) (s : State) : State := { s with cmds := SMap.modify s.cmds n g }
def updCtx (n : Nat) (g : Ctx → Ctx) (s : State) : State := { s with ctxs := SMap.modify s.ctxs n g }

/-- Fold an operation over a list of numbers. -/
def forAll (l : List Nat) (g : Nat → State → State) (s : State) : State := l.foldl (fun t n => g n t) s

def emit (e : Emit) (s : State) : State := { s with out := s.out ++ [e] }

/-- Draw the next free value (log 7). -/
def draw (s : State) : Nat × State := (Config.freeNat s.freeCtr, { s with freeCtr := s.freeCtr + 1 })

/-! ## Local time (R12, R40 to R46) -/

def ltcOf (s : State) (n : Nat) : Nat := SMap.getD s.time.ltc n 0
def epochOf (s : State) (n : Nat) : Nat := SMap.getD s.time.epoch n 0
def mcNow (s : State) : Nat := ltcOf s 42

def facetOf (s : State) (n : Nat) : Option Facet := SMap.look s.facets n
/-- Whether a facet is confidential (R566). -/
def confFacet (s : State) (n : Nat) : Bool := ((facetOf s n).map (·.confidential)).getD false
/-- Whether a core is bound to a confidential facet. -/
def confCore (s : State) (c : Nat) : Bool := (coreOf s c).status == 2 && confFacet s (coreOf s c).facet
def confEngine (s : State) (e : Nat) : Bool := confCore s (coreOfEngine e)
/-- Whether a channel is bound to a confidential facet. -/
def confChan (s : State) (c : Nat) : Bool :=
  ((chanOf s c).state == 2 || (chanOf s c).state == 3) && confFacet s (chanOf s c).facet
/-- A half is parked (R56) or its core rail is off. -/
def parked (s : State) (east : Bool) : Bool := if east then s.pwr.eastParked else s.pwr.westParked
/-- Function that owns a facet; PF0 where there is none. -/
def ownerOf (s : State) (n : Nat) : Nat := ((facetOf s n).map (·.fn)).getD 0

/-! ## The event controller (R301 to R309) -/

/-- Vectors of a function (R286). -/
def vectorsOf (f : Nat) : Nat := if f = 0 then 128 else 32
/-- An MSI-X message; a vector beyond the last is taken modulo the count (R301). -/
def sendVector (f v : Nat) (s : State) : State := emit (.msix f (v % vectorsOf f)) s

/-- One 16-byte record (R304). -/
def glintRecord (kind : Nat) (phase more withheld : Bool) (fn subject detail : Nat) : List Byte :=
  toLe 2 kind ++ [BitVec.ofNat 8 (b2n phase + 2 * b2n more + 4 * b2n withheld), BitVec.ofNat 8 fn] ++ toLe 4 subject ++
    toLe 8 detail

/-- Records of a glint; the phases are those of the places that they take. -/
def glintRecords (g : Glint) (ph1 ph2 : Bool) : List (List Byte) :=
  match g.second with
  | none => [glintRecord g.kind ph1 false g.withheld g.fn g.subject g.detail]
  | some (s2, d2) =>
    [glintRecord g.kind ph1 true g.withheld g.fn g.subject g.detail,
     glintRecord g.kind ph2 false g.withheld g.fn s2 d2]

def glintSize (g : Glint) : Nat := if g.second.isSome then 2 else 1

/-- Write a glint to the glint log (R303). -/
def logGlint (g : Glint) (r : Fn) : Fn :=
  let ph (n : Nat) : Bool := n / 512 % 2 == 0
  let n := r.logCount
  let recs := glintRecords g (ph n) (ph (n + 1))
  let w := recs.foldl (fun (a : SMap (List Byte) × Nat) b => (SMap.put a.1 (a.2 % 512) b, a.2 + 1)) (r.glog, n)
  { r with glog := w.1, logCount := w.2 }

/-- Records that the ring holds. -/
def ringUsed (r : Fn) : Nat := (r.tail + 2 ^ r.ringSize - r.head) % 2 ^ r.ringSize
/-- Records that the ring still takes (R306: at most 2^s - 1). -/
def ringSpace (r : Fn) : Nat := 2 ^ r.ringSize - 1 - ringUsed r

/-- Write one record at the tail and advance it; the phase inverts on each lap (R306). -/
def ringRecord (f : Nat) (rec : List Byte) (s : State) : State :=
  let r := fnOf s f
  let t := (r.tail + 1) % 2 ^ r.ringSize
  setFn f { r with tail := t, phase := if t = 0 then !r.phase else r.phase }
    (emit (.hostWrite f (r.ringBase + 16 * r.tail) rec) s)

/-- Write a glint to the ring; the ring vector goes out when the ring was empty (R306). -/
def ringWrite (f : Nat) (g : Glint) (s : State) : State :=
  let r := fnOf s f
  let wraps := (r.tail + 1) % 2 ^ r.ringSize == 0
  let recs := glintRecords g r.phase (if wraps then !r.phase else r.phase)
  let s1 := recs.foldl (fun t b => ringRecord f b t) s
  if r.head = r.tail then sendVector f r.ringVector s1 else s1

/-- The glint that tells of drops (R304, R306). -/
def lostGlint (f n : Nat) : Glint := ⟨evGlintLost, f, n, 0, none, false⟩

/-- Glints of the holding buffer that are not a GLINT_LOST marker. -/
def heldCount (l : List Glint) : Nat := (l.filter fun g => g.kind != evGlintLost).length

/-- Write held glints, oldest first, as the ring has space. -/
def drainHeld (f : Nat) : List Glint → State → State
  | [], s => updFn f (fun r => { r with holding := [] }) s
  | g :: rest, s =>
    if glintSize g ≤ ringSpace (fnOf s f) then drainHeld f rest (ringWrite f g s)
    else updFn f (fun r => { r with holding := g :: rest }) s

/-- Note the drops so far as a GLINT_LOST glint: it goes to the log, and the count of drops starts again (R303, R306). -/
def noteDrops (f : Nat) (s : State) : State :=
  updFn f (fun r =>
    let r0 := { r with dropped := 0 }
    if r.disabled.contains evGlintLost then r0 else logGlint (lostGlint f r.dropped) r0) s

/-- Write what waits: the holding buffer, then GLINT_LOST at the place where the drops began (R306). -/
def flushRing (f : Nat) (s : State) : State :=
  let s1 := drainHeld f (fnOf s f).holding s
  let r := fnOf s1 f
  if r.holding.isEmpty && decide (0 < r.dropped) && decide (1 ≤ ringSpace r) then
    if r.disabled.contains evGlintLost then noteDrops f s1
    else ringWrite f (lostGlint f r.dropped) (noteDrops f s1)
  else s1

/-- Deliver a glint in QUEUE mode (R306). -/
def ringPush (f : Nat) (g : Glint) (s : State) : State :=
  let r := fnOf s f
  if r.holding.isEmpty && r.dropped == 0 && decide (glintSize g ≤ ringSpace r) then ringWrite f g s
  else if heldCount r.holding < 64 then
    if r.dropped = 0 then setFn f { r with holding := r.holding ++ [g] } s
    else if r.disabled.contains evGlintLost then
      updFn f (fun q => { q with holding := q.holding ++ [g] }) (noteDrops f s)
    else updFn f (fun q => { q with holding := q.holding ++ [lostGlint f r.dropped, g] }) (noteDrops f s)
  else setFn f { r with dropped := r.dropped + 1, lost := true, lostCount := satAdd 16 r.lostCount 1 } s

/-- Set a pending bit; in PENDING mode a group out of service sends its vector (R305). -/
def firePending (f src : Nat) (s : State) : State :=
  let r := fnOf s f
  let grp := src / 64
  let r1 := { r with pendBits := NSet.add r.pendBits src }
  if r.evcMode = 1 && !r.inService.contains grp then
    sendVector f (SMap.getD r.vmap grp 0) (setFn f { r1 with inService := NSet.add r.inService grp } s)
  else setFn f r1 s

/-- A source fires (R303, R305, R306). -/
def fireSource (f src : Nat) (g : Glint) (s : State) : State :=
  if (fnOf s f).evcMode = 2 then ringPush f g s else firePending f src s

/-- An event kind reaches one function: a disabled kind is neither delivered nor logged (R303). -/
def deliver (g : Glint) (f : Nat) (s : State) : State :=
  let r := fnOf s f
  if r.disabled.contains g.kind then s else fireSource f g.kind g (setFn f (logGlint g r) s)

/-- The glint as it goes out, withheld for a confidential facet (R566). -/
def shapeGlint (kind concerns subject detail : Nat) (second : Option (Nat × Nat)) (conf : Bool) : Glint :=
  if conf then
    let w := withhold kind subject detail
    ⟨kind, concerns, w.1, w.2, none, true⟩
  else ⟨kind, concerns, subject, detail, second, false⟩

/-- Add to the flight record, a ring of 256 entries (R543). -/
def flightAdd (g : Glint) (s : State) : State :=
  if flightKinds.contains g.kind then
    let e : FlightEntry := ⟨s.sec.flightSeq, s.fuses.lcState, g.withheld, g.kind, mcNow s, g.subject, g.detail⟩
    let l := s.sec.flight ++ [e]
    { s with sec := { s.sec with flight := l.drop (l.length - 256), flightSeq := s.sec.flightSeq + 1 } }
  else s

/-- Deliver a glint to a list of functions, each once. -/
def deliverAll (g : Glint) (fns : List Nat) (s : State) : State :=
  (NSet.ofList fns).foldl (fun t f => deliver g f t) s

/-- Raise an event of hardware. -/
def raiseTo (fns : List Nat) (kind concerns subject detail : Nat) (second : Option (Nat × Nat)) (conf : Bool)
    (s : State) : State :=
  let g := shapeGlint kind concerns subject detail second conf
  deliverAll g fns (flightAdd g s)

/-- Raise an event of the firmware: held while a handover is in progress (R300). -/
def raiseFw (fns : List Nat) (kind concerns subject detail : Nat) (second : Option (Nat × Nat)) (conf : Bool)
    (s : State) : State :=
  let g := shapeGlint kind concerns subject detail second conf
  if s.fw.handover then { flightAdd g s with fw := { s.fw with held := s.fw.held ++ [(fns, g)] } }
  else deliverAll g fns (flightAdd g s)

/-- Raise an event to PF0. -/
def raisePf0 (kind subject detail : Nat) (conf : Bool) (s : State) : State :=
  raiseTo [0] kind 0 subject detail none conf s

/-! ## The mailbox (R294 to R298) -/

/-- What a request row answers: Synrus status, body, and the bytes needed with SHORT_BUFFER. -/
structure Reply where
  status : Nat
  body : List Byte := []
  needed : Nat := 0
  deriving DecidableEq, Repr

/-- The 16-byte response header (R295). -/
def responseHeader (seq status bodyLen needed : Nat) : List Byte :=
  toLe 2 seq ++ [BitVec.ofNat 8 status, 0] ++ toLe 4 bodyLen ++ toLe 4 needed ++ toLe 4 0

/-- Step 5 of R296: MBX_RESP_SEQ, outstanding, done and the MBX_DONE event. -/
def mbxDone (fn seq status : Nat) (s : State) : State :=
  raiseTo [fn] evMbxDone fn seq status none false
    (updFn fn (fun r => { r with respSeq := seq, outstanding := false, done := true }) s)

/-- Steps 4 and 5 of R296: the body, then the header, then step 5. -/
def respond (fn seq addr : Nat) (r : Reply) (s : State) : State :=
  let s1 := if r.body.isEmpty then s else emit (.hostWrite fn (addr + 16) r.body) s
  mbxDone fn seq r.status (emit (.hostWrite fn addr (responseHeader seq r.status r.body.length r.needed)) s1)

/-- Compute takes requests: start-up has reached READY, the module is in D0, and no lock of R539 or R541 holds. -/
def computeUp (s : State) : Bool :=
  s.pwr.stage == 5 && s.pwr.state == 0 && !s.pwr.dusk && !s.pwr.lockedUntilPerst

/-- A firmware update stands between steps 3 and 6 of R370. -/
def updateBusy (s : State) : Bool :=
  match s.fw.update with
  | some u => decide (2 ≤ u.phase)
  | none => false

/-- Requests that a quiesced function may still send (R377). -/
def quiesceExempt (op : Nat) : Bool := op == opGetInfo || op == opTelemetry || op == opAccountingRead

/-- The request row may run: its doorbell is the outstanding one (R296; log 13). -/
def inHand (h : Req) (s : State) : Bool := (fnOf s h.fn).outstanding && (fnOf s h.fn).curSeq == h.seq

/-- The status that ends a request before its own checks, if any: DENIED (R298), BUSY (R310, R377, R539), MALFORMED (R14),
in this order (log 13). `compute` says that the request needs compute. -/
def gate (h : Req) (op : Nat) (compute : Bool) (s : State) : Option Nat :=
  if pf0Only op && h.fn != 0 then some syDenied
  else if (fnOf s h.fn).quiesced && !quiesceExempt op then some syBusy
  else if compute && !computeUp s then some syBusy
  else if h.rsv then some syMalformed
  else none

/-- Steps 3 to 5 of R296 for a request that the firmware carries out before it answers: the common checks, the request's own
work, the response. `act` answers the reply and the state with the work done; SHORT_BUFFER undoes the work (R297). -/
def serve (h : Req) (op : Nat) (compute : Bool) (act : State → Reply × State) (s : State) : State :=
  if !inHand h s then s
  else match gate h op compute s with
  | some st => respond h.fn h.seq h.respAddr { status := st } s
  | none =>
    let a := act s
    if h.respLen < 16 + a.1.body.length then
      respond h.fn h.seq h.respAddr { status := syShortBuffer, needed := 16 + a.1.body.length } s
    else respond h.fn h.seq h.respAddr a.1 a.2

def ticketOf (h : Req) (op : Nat) : Ticket := ⟨h.fn, h.seq, op⟩

/-- Steps 3 to 5 of R296 for a request that the firmware may accept for later: `check` gives the answer, and after the
response of an ACCEPTED request `act` begins its work. A seventeenth accepted request of the function is answered BUSY
(R298). -/
def serveJob (h : Req) (op : Nat) (compute : Bool) (check : State → Reply) (act : State → State) (s : State) : State :=
  if !inHand h s then s
  else match gate h op compute s with
  | some st => respond h.fn h.seq h.respAddr { status := st } s
  | none =>
    let r := check s
    if r.status != syAccepted then respond h.fn h.seq h.respAddr r s
    else if 16 ≤ (fnOf s h.fn).accepted.length then respond h.fn h.seq h.respAddr { status := syBusy } s
    else if h.respLen < 16 + r.body.length then
      respond h.fn h.seq h.respAddr { status := syShortBuffer, needed := 16 + r.body.length } s
    else
      act (respond h.fn h.seq h.respAddr r
        (updFn h.fn (fun f => { f with accepted := f.accepted ++ [ticketOf h op] }) s))

/-- End an accepted request: REQUEST_DONE with its final status (R304), unless it was abandoned (R310). -/
def requestDone (t : Ticket) (status : Nat) (s : State) : State :=
  if (fnOf s t.fn).accepted.contains t then
    raiseFw [t.fn] evRequestDone t.fn t.seq (t.op + status * 2 ^ 16) none false
      (updFn t.fn (fun r => { r with accepted := r.accepted.erase t }) s)
  else s

/-- End the accepted request of an action, if a request began it. -/
def requestDoneOpt (t : Option Ticket) (status : Nat) (s : State) : State :=
  match t with
  | some t => requestDone t status s
  | none => s

end Sys2Proof.Machine
end

