-- ==== Sys2Proof/Machine/MemOps.lean ====
section
/-! DEFINITION. Memory operations (07 R198 to R221, 08 R235 to R253, 09 R263): DRAM lines with their metadata, the memory-side
caches, the cluster caches with the snoop filters, and accesses by facet address. A line has a global number, its channel
times 2^25 plus the line within the channel; DRAM holds plaintext beside the line's key slot (log 12). -/

namespace Sys2Proof.Machine

def glOf (ch off : Nat) : Nat := ch * 2 ^ 25 + off / 64
def chOfLine (gl : Nat) : Nat := gl / 2 ^ 25
def metaOf (s : State) (gl : Nat) : LineMeta := SMap.getD s.lineMeta gl {}

/-- List a line's metadata; an all-zero record is not listed. -/
def setMeta (gl : Nat) (m : LineMeta) (s : State) : State :=
  { s with lineMeta := if m = {} then SMap.del s.lineMeta gl else SMap.put s.lineMeta gl m }

def dramLine (s : State) (gl : Nat) : List Byte := Mem.readN s.dram (gl * 64) 64
def dramWrite (gl : Nat) (data : List Byte) (s : State) : State := { s with dram := Mem.writeN s.dram (gl * 64) data }

/-- The 64 zero bytes of a line. -/
def zeroLine : List Byte := List.replicate 64 0

/-- The first `n` bytes of a list, zeros beyond its end. -/
def takePad (n : Nat) (l : List Byte) : List Byte := l.take n ++ List.replicate (n - l.length) 0

/-- Put bytes into a line at an offset. -/
def mergeLine (line : List Byte) (off : Nat) (data : List Byte) : List Byte :=
  line.take off ++ data ++ line.drop (off + data.length)

/-- Memory key slot of the facet that a channel is bound to, slot 0 otherwise (R523). -/
def keySlotOf (s : State) (ch : Nat) : Nat :=
  if (chanOf s ch).state = 2 || (chanOf s ch).state = 3 then
    ((facetOf s (chanOf s ch).facet).map (·.memSlot)).getD 0
  else 0

/-! ## DRAM (R208 to R212) -/

/-- What a read gives: data, or the status that ends the access. -/
inductive Rd where
  | data (d : List Byte)
  | fail (status : Nat)
  deriving DecidableEq, Repr

/-- Mark a channel degraded and tell PF0 and the owner (R212, R304): cause 0 parity, 1 corrections. With auto_retire the
firmware retires it, which CHANNEL_RETIRE carries out. -/
def degradeChan (ch cause : Nat) (s : State) : State :=
  let c := chanOf s ch
  if c.degraded then s
  else raiseTo [0, if c.state = 2 || c.state = 3 then ownerOf s c.facet else 0] evMemDegraded
    (if c.state = 2 || c.state = 3 then ownerOf s c.facet else 0) ch cause none (confChan s ch)
    (setChan ch { c with degraded := true } s)

/-- What the decoder makes of a read word (R208). -/
inductive Decoded where
  | good
  /-- One or two wrong symbols, corrected. -/
  | fixed
  /-- Three or more, within two symbols of another codeword: that codeword's data, without report. -/
  | other (d : List Byte)
  /-- Three or more, reported uncorrectable. -/
  | lost
  deriving DecidableEq, Repr

/-- The decoder corrects any one or two of the 72 symbols; three or more end uncorrectable or at another codeword (R208). -/
def decodeLine : LineOutcome → Decoded
  | .clean => .good
  | .parity _ => .good
  | .symbols wrong found =>
    let n := (NSet.ofList (wrong.filter fun k => decide (k < 72))).length
    if n = 0 then .good
    else if n ≤ 2 then .fixed
    else match found with
      | some d => .other (takePad 64 d)
      | none => .lost

/-- A correction is counted, and the line rewritten with repaired set in the channel's patrol pass (R207, R209). -/
def noteFix (gl : Nat) (s : State) : State :=
  let ch := chOfLine gl
  updChan ch (fun c => { c with ceCount := c.ceCount + 1, corrected := c.corrected + 1 })
    (setMeta gl { metaOf s gl with repaired := some (chanOf s ch).passes } s)

/-- Repeats of a transfer are counted; one that fails all three marks the channel degraded (R212). -/
def countParity (ch : Nat) (out : LineOutcome) (s : State) : State :=
  match out with
  | .parity n => if n ≤ 3 then updChan ch (fun c => { c with repeats := c.repeats + n }) s else degradeChan ch 0 s
  | _ => s

/-- The effect of the code on a read from DRAM: a correction is written back and counted (R209), a miscorrection likewise with
the wrong data (R208), and an uncorrectable line is rewritten poisoned with zero data and raises MEM_UE (R211). -/
def dramFix (gl : Nat) (out : LineOutcome) (s : State) : State :=
  let ch := chOfLine gl
  match decodeLine out with
  | .good => countParity ch out s
  | .fixed => noteFix gl s
  | .other d => noteFix gl (dramWrite gl d s)
  | .lost =>
    raisePf0 evMemUe ch (gl % 2 ^ 25) (confChan s ch)
      (setMeta gl { metaOf s gl with poisoned := true } (dramWrite gl zeroLine s))

/-- Whether an outcome fails the access MEM_IF_FAIL (R212). -/
def ifFails : LineOutcome → Bool
  | .parity n => decide (3 < n)
  | _ => false

/-! ## The memory-side cache (R200 to R205) -/

def mscKey (gl : Nat) : Nat := gl / 2 ^ 30 * 32768 + gl % 32768
def mscSet (s : State) (gl : Nat) : List MscLine := SMap.getD s.msc (mscKey gl) []
def mscFind (s : State) (gl : Nat) : Option MscLine := (mscSet s gl).find? fun l => l.gl == gl

/-- List the ways of a set, an empty set not at all. -/
def setMscSet (k : Nat) (l : List MscLine) (s : State) : State :=
  { s with msc := if l.isEmpty then SMap.del s.msc k else SMap.put s.msc k l }

/-- Write a dirty line back to DRAM (R200). -/
def mscWriteBack (l : MscLine) (s : State) : State :=
  if l.dirty then
    setMeta l.gl { metaOf s l.gl with keySlot := l.keySlot, poisoned := l.poisoned } (dramWrite l.gl l.data s)
  else s

/-- Share class of a facet's masters (R182). -/
def facetClass (s : State) (n : Nat) : Option Nat := (facetOf s n).map (·.cls)

/-- Share class of the facet that a line's channel is bound to: that of the cluster cache that holds the line (R182, R239). -/
def lineClass (s : State) (gl : Nat) : Option Nat :=
  let c := chanOf s (chOfLine gl)
  if c.state = 2 || c.state = 3 then facetClass s c.facet else none

/-- Lines of a class in a base die, of 524,288. -/
def classLines (s : State) (die cls : Nat) : Nat :=
  (s.msc.filter fun e => e.1 / 32768 == die).foldl
    (fun n e => n + (e.2.filter fun l => l.cls == some cls).length) 0

def classCfg (s : State) (cls : Nat) : ClassCfg := SMap.getD s.reg.inForce cls {}

/-- A class that is held at every queue target (R184). -/
def classHeld (s : State) (cls : Option Nat) : Bool :=
  match cls with
  | none => false
  | some k => (classCfg s k).queueMax == 0

/-- A class holds its maximum of a base die's lines, or more (R185). -/
def atMax (s : State) (die cls : Nat) : Bool := decide ((classCfg s cls).cacheMax * 524288 ≤ 100 * classLines s die cls)

/-- Whether an allocation for one class may take a line of another as its victim (R185). -/
def mayEvict (s : State) (die : Nat) (mine : Option Nat) (l : MscLine) : Bool :=
  match l.cls with
  | none => true
  | some k => mine == some k || decide ((classCfg s k).cacheMin * 524288 < 100 * classLines s die k)

/-- Where a new line goes. -/
inductive Room where
  | free
  | victim (l : MscLine)
  /-- Nowhere: the set has no line that R185 lets it replace. -/
  | closed
  deriving DecidableEq, Repr

/-- Room for a class's new line in a set: at its maximum it takes the least recently used of its own lines, else a free way, else
the least recently used line that R185 lets it take. Where the set has no such line the request does not allocate (DESIGN CHOICE,
log 16: R185 names no victim there). -/
def mscRoom (s : State) (die : Nat) (mine : Option Nat) (ways : List MscLine) : Room :=
  let full := match mine with
    | some k => atMax s die k
    | none => false
  let take (l : List MscLine) : Room :=
    match l.getLast? with
    | some v => .victim v
    | none => .closed
  if full then take (ways.filter fun l => l.cls == mine)
  else if ways.length < 16 then .free
  else take (ways.filter (mayEvict s die mine))

/-- Put a line into its set, most or least recently used. A line that the set holds stays in its class; a new one takes room under
R185, and where there is none its data goes to DRAM if it is dirty (R200). -/
def mscPut (mru : Bool) (l : MscLine) (s : State) : State :=
  let k := mscKey l.gl
  let rest := (mscSet s l.gl).filter fun m => m.gl != l.gl
  let list (x : MscLine) (w : List MscLine) : List MscLine := if mru then x :: w else w ++ [x]
  match mscFind s l.gl with
  | some old => setMscSet k (list { l with cls := old.cls } rest) s
  | none =>
    match mscRoom s (l.gl / 2 ^ 30) l.cls rest with
    | .free => setMscSet k (list l rest) s
    | .victim v => setMscSet k (list l (rest.filter fun m => m.gl != v.gl)) (mscWriteBack v s)
    | .closed => mscWriteBack l s

def mscDrop (gl : Nat) (s : State) : State :=
  setMscSet (mscKey gl) ((mscSet s gl).filter fun m => m.gl != gl) s

/-- Read a line at the base die for a class under a hint (R201): 0 KEEP, 1 STREAM, 2 LAST. `out` is the outcome of the DRAM access
of a miss. Answers the data or the failing status. -/
def baseRead (cls : Option Nat) (gl hint : Nat) (out : LineOutcome) (s : State) : Rd × State :=
  match mscFind s gl with
  | some l =>
    let s1 := if hint = 0 then mscPut true l s else if hint = 1 then s else mscDrop gl s
    (if l.poisoned then .fail stDataPoisoned else .data l.data, s1)
  | none =>
    let s1 := dramFix gl out s
    if ifFails out then (.fail stMemIfFail, s1)
    else
      let m := metaOf s1 gl
      let l : MscLine := ⟨gl, dramLine s1 gl, false, m.poisoned, m.keySlot, cls⟩
      let s2 := if hint = 0 then mscPut true l s1 else if hint = 1 then mscPut false l s1 else s1
      (if m.poisoned then .fail stDataPoisoned else .data l.data, s2)

/-- Write bytes into a line at the base die for a class under a hint (R201, R204, R211): a write of all 64 bytes clears the poison mark,
a partial one keeps it and reads the line first. -/
def baseWrite (cls : Option Nat) (gl hint off : Nat) (data : List Byte) (keySlot : Nat) (out : LineOutcome) (s : State) : State :=
  let whole := off == 0 && data.length == 64
  match mscFind s gl with
  | some l =>
    mscPut (hint == 0) ⟨gl, mergeLine l.data off data, true, l.poisoned && !whole, keySlot, cls⟩ s
  | none =>
    if whole then mscPut (hint == 0) ⟨gl, data, true, false, keySlot, cls⟩ s
    else
      let s1 := dramFix gl out s
      mscPut (hint == 0) ⟨gl, mergeLine (dramLine s1 gl) off data, true, (metaOf s1 gl).poisoned, keySlot, cls⟩ s1

/-- Write every dirty line of a stack back and empty its cache (R205). -/
def mscFlushStack (stack : Nat) (s : State) : State :=
  let mine := s.msc.filter fun e => e.1 / 32768 == stack
  let s1 := mine.foldl (fun t e => e.2.foldl (fun u l => mscWriteBack l u) t) s
  { s1 with msc := s1.msc.filter fun e => e.1 / 32768 != stack }

/-! ## Cluster caches and snoop filters (R238 to R246) -/

def cacheKey (k gl : Nat) : Nat := k * 8192 + gl % 8192
def cacheSet (s : State) (k gl : Nat) : List CLine := SMap.getD s.coh.lines (cacheKey k gl) []
def cacheFind (s : State) (k gl : Nat) : Option CLine := (cacheSet s k gl).find? fun l => l.gl == gl
/-- Line number within a home (R240). -/
def homeLine (gl : Nat) : Nat := chOfLine gl % 8 * 2 ^ 25 + gl % 2 ^ 25
def filterKey (gl : Nat) : Nat := homeOf (chOfLine gl) * 32768 + homeLine gl % 32768
def filterSet (s : State) (gl : Nat) : List FEntry := SMap.getD s.coh.filter (filterKey gl) []
def filterFind (s : State) (gl : Nat) : Option FEntry := (filterSet s gl).find? fun e => e.gl == gl

def setCacheSet (key : Nat) (l : List CLine) (s : State) : State :=
  { s with coh := { s.coh with lines := if l.isEmpty then SMap.del s.coh.lines key else SMap.put s.coh.lines key l } }
def setFilterSet (key : Nat) (l : List FEntry) (s : State) : State :=
  { s with coh := { s.coh with filter := if l.isEmpty then SMap.del s.coh.filter key else SMap.put s.coh.filter key l } }

/-- Whether a cluster's coherence counters count: not while it has a core or a near channel of a confidential facet
(R254). -/
def cohCounts (s : State) (k : Nat) : Bool :=
  !((List.range 17).any (fun i => confCore s (k * 17 + i)) || (List.range 8).any (fun i => confChan s (firstNear k + i)))

/-- Change a cluster's coherence counters if they count. -/
def countCoh (k : Nat) (g : CohCount → CohCount) (s : State) : State :=
  if cohCounts s k then
    { s with coh := { s.coh with counts := SMap.put s.coh.counts k (g (SMap.getD s.coh.counts k {})) } }
  else s

/-- Drop a line from a cluster's cache. -/
def cacheDrop (k gl : Nat) (s : State) : State :=
  setCacheSet (cacheKey k gl) ((cacheSet s k gl).filter fun l => l.gl != gl) s

/-- Take a cluster out of a line's presence vector; an entry with none left is freed. -/
def filterClear (k gl : Nat) (s : State) : State :=
  let l := (filterSet s gl).filterMap fun e =>
    if e.gl == gl then
      (let p := NSet.del e.pres k
       if p.isEmpty then none else some { e with pres := p })
    else some e
  setFilterSet (filterKey gl) l s

/-- A corrected word of a cluster-cache line is counted (R252). -/
def countCe (k : Nat) (l : CLine) (s : State) : State :=
  if l.bad = 1 then countCoh k (fun c => { c with cacheCe := c.cacheCe + 1 }) s else s

/-- Facet address of a line of a bound channel; 0 where no slot holds the channel (R335). -/
def faOfLine (s : State) (gl : Nat) : Nat :=
  match facetOf s (chanOf s (chOfLine gl)).facet with
  | none => 0
  | some f =>
    match f.map.find? fun e => e.2.channel == chOfLine gl || (e.2.copying && e.2.target == chOfLine gl) with
    | some e => e.1 * 2 ^ 31 + gl % 2 ^ 25 * 64
    | none => 0

/-- An M line with an uncorrectable word is written back poisoned, and raises CACHE_UE (R252). -/
def poisonBack (k : Nat) (l : CLine) (s : State) : State :=
  let s1 := mscPut true ⟨l.gl, l.data, true, true, l.keySlot, lineClass s l.gl⟩ s
  let c := SMap.getD s1.coh.counts k {}
  raisePf0 evCacheUe k (faOfLine s l.gl) (confChan s (chOfLine l.gl))
    { s1 with coh := { s1.coh with counts := SMap.put s1.coh.counts k { c with cacheUe := satAdd 16 c.cacheUe 1 } } }

/-- Write an M line's data back from cluster `k`'s cache at its home with KEEP (R203, R252). -/
def writeBackLine (k : Nat) (l : CLine) (s : State) : State :=
  if l.bad = 2 then poisonBack k l s
  else baseWrite (lineClass s l.gl) l.gl 0 0 l.data l.keySlot .clean (countCe k l s)

/-- The cache of cluster `k` gives up a line it may hold; M data is written back first. -/
def surrender (k gl : Nat) (s : State) : State :=
  match cacheFind s k gl with
  | none => filterClear k gl s
  | some l => filterClear k gl (cacheDrop k gl (if l.m then writeBackLine k l s else s))

/-- Invalidate every cached copy of a line, M data written back first (R248, R250). -/
def invalidateAll (gl : Nat) (s : State) : State :=
  match filterFind s gl with
  | none => s
  | some e => e.pres.foldl (fun t k => surrender k gl t)
      (countCoh (homeOf (chOfLine gl)) (fun c => { c with invalidations := c.invalidations + e.pres.length }) s)

/-- The victim of a full filter set: the least recently used entry whose line is not blocked (R246). -/
def filterVictim (s : State) (l : List FEntry) : Option Nat :=
  (l.reverse.find? fun e => !SMap.has s.coh.blocked e.gl).map (·.gl)

/-- A transaction on a line finds an entry at its home: its own, a free way, or a victim (R246). Where every way of the set is
blocked it waits. -/
def hasRoom (s : State) (gl : Nat) : Bool :=
  (filterFind s gl).isSome || decide ((filterSet s gl).length < 16) || (filterVictim s (filterSet s gl)).isSome

/-- Make room for one entry in a line's filter set (R246). -/
def filterRoom (gl : Nat) (s : State) : State :=
  if (filterSet s gl).length < 16 then s
  else match filterVictim s (filterSet s gl) with
  | none => s
  | some v => countCoh (homeOf (chOfLine gl)) (fun c => { c with evictions := c.evictions + 1 }) (invalidateAll v s)

/-- Record a line's state and sharers at its home, most recently used. -/
def filterRecord (gl : Nat) (m : Bool) (pres : NSet) (s : State) : State :=
  let s1 := if (filterFind s gl).isSome then s else filterRoom gl s
  setFilterSet (filterKey gl) (⟨gl, m, pres⟩ :: (filterSet s1 gl).filter fun e => e.gl != gl) s1

/-- Put a line into a cluster's cache, most recently used; a seventeenth line of its set is evicted: M data is written
back, a clean line is notified (R238, R242). -/
def cacheFill (k : Nat) (l : CLine) (s : State) : State :=
  let rest := (cacheSet s k l.gl).filter fun x => x.gl != l.gl
  let s1 := (rest.drop 15).foldl (fun t v => surrender k v.gl t) s
  setCacheSet (cacheKey k l.gl) (l :: rest.take 15) s1

/-- The owner of a line, if some cluster holds it in M (R242). -/
def ownerOfLine (s : State) (gl : Nat) : Option Nat :=
  match filterFind s gl with
  | some e => if e.m then e.pres.head? else none
  | none => none

/-- An owner writes its data back and goes to S (R242, R248). -/
def downgradeOwner (gl : Nat) (s : State) : State :=
  match ownerOfLine s gl with
  | none => s
  | some k =>
    match cacheFind s k gl with
    | none => s
    | some l =>
      filterRecord gl false [k]
        (setCacheSet (cacheKey k gl) ((cacheSet s k gl).map fun x => if x.gl == gl then { x with m := false } else x)
          (writeBackLine k l s))

/-- The coherent value of a line without any effect: owner, memory-side cache, DRAM (R201, R242). -/
def lineValue (s : State) (gl : Nat) : List Byte × Bool :=
  match (ownerOfLine s gl).bind (fun k => cacheFind s k gl) with
  | some l => (l.data, false)
  | none =>
    match mscFind s gl with
    | some l => (l.data, l.poisoned)
    | none => (dramLine s gl, (metaOf s gl).poisoned)

/-! ## Accesses that the home carries out at once -/

/-- A non-allocating read (R248). -/
def homeRead (cls : Option Nat) (gl hint : Nat) (s : State) : Rd × State :=
  match ownerOfLine s gl with
  | some k =>
    match cacheFind s k gl with
    | some l =>
      (.data l.data, downgradeOwner gl (countCoh (homeOf (chOfLine gl)) (fun c => { c with forwards := c.forwards + 1 }) s))
    | none => baseRead cls gl (if hint = 2 then 1 else hint) .clean s
  | none => baseRead cls gl (if hint = 2 && (filterFind s gl).isSome then 1 else hint) .clean s

/-- The frame copy in progress from a line's channel, if the line lies in the part already copied (R215). -/
def forwardTarget (s : State) (gl : Nat) : Option Nat :=
  match (chanOf s (chOfLine gl)).copy with
  | none => none
  | some c =>
    let n := gl % 2 ^ 25
    if n / 1024 = c.frame && (decide (n % 1024 < c.line) || c.draining) then some (c.target * 2 ^ 25 + n) else none

/-- A non-allocating write (R248); the source home of a frame copy forwards it to the target (R215). -/
def homeWrite (cls : Option Nat) (gl hint off : Nat) (data : List Byte) (s : State) : State :=
  let s1 := invalidateAll gl s
  let s2 := baseWrite cls gl hint off data (keySlotOf s1 (chOfLine gl)) .clean s1
  match forwardTarget s gl with
  | none => s2
  | some t => baseWrite cls t hint off data (keySlotOf s2 (chOfLine t)) .clean s2

/-- ReadOwn at the home for an access carried out at once (R242): an owner sends its data and goes to I; else every S copy is
invalidated and the line is read, unless the write that asks covers it whole (R211). -/
def homeOwn (cls : Option Nat) (gl : Nat) (whole : Bool) (s : State) : Rd × State :=
  match (ownerOfLine s gl).bind fun o => (cacheFind s o gl).map fun l => (o, l) with
  | some x =>
    let s1 := countCoh (homeOf (chOfLine gl)) (fun c => { c with forwards := c.forwards + 1 }) (cacheDrop x.1 gl s)
    if x.2.bad = 2 then (if whole then (.data zeroLine, s1) else (.fail stDataPoisoned, filterClear x.1 gl (poisonBack x.1 x.2 s1)))
    else (.data x.2.data, filterClear x.1 gl (countCe x.1 x.2 s1))
  | none =>
    let s1 := invalidateAll gl s
    if whole then (.data zeroLine, s1) else baseRead cls gl 0 .clean s1

/-- Whether a cluster may allocate lines of a channel: a core of it is bound to the facet that owns the channel (R239). -/
def mayAllocate (s : State) (k ch : Nat) : Bool :=
  ((chanOf s ch).state == 2 || (chanOf s ch).state == 3) &&
    (List.range 17).any fun i => (coreOf s (k * 17 + i)).status == 2 && (coreOf s (k * 17 + i)).facet == (chanOf s ch).facet

/-- A line in the part of a frame that a copy has passed gets no new copy (R249). -/
def noFillLine (s : State) (gl : Nat) : Bool := (forwardTarget s gl).isSome

/-- What an access finds of a line in its cluster's cache (R252): a corrected word is counted; an S line with an uncorrectable one is
dropped with a clean-evict notice and fetched again; such an M line goes back poisoned, and the access fails. -/
def cacheCheck (k gl : Nat) (s : State) : Option Nat × State :=
  match cacheFind s k gl with
  | none => (none, s)
  | some l =>
    if l.bad = 0 then (none, s)
    else if l.bad = 1 then
      (none, setCacheSet (cacheKey k gl) ((cacheSet s k gl).map fun x => if x.gl == gl then { x with bad := 0 } else x) (countCe k l s))
    else if l.m then (some stDataPoisoned, filterClear k gl (cacheDrop k gl (poisonBack k l s)))
    else (none, filterClear k gl (cacheDrop k gl s))

/-- A read that a cluster's cache serves, or that goes to the home (R239, R242, R247). -/
def clusterFetch (cls : Option Nat) (k gl hint : Nat) (s : State) : Rd × State :=
  match cacheFind s k gl with
  | some l =>
    (.data l.data, countCoh k (fun c => { c with hits := c.hits + 1 })
      (setCacheSet (cacheKey k gl) (l :: (cacheSet s k gl).filter fun x => x.gl != gl) s))
  | none =>
    let s0 := countCoh k (fun c => { c with misses := c.misses + 1 }) s
    if hint != 0 || !mayAllocate s0 k (chOfLine gl) || noFillLine s0 gl then homeRead cls gl hint s0
    else
      let r := homeRead cls gl 0 s0
      match r.1 with
      | .fail st => (.fail st, r.2)
      | .data d =>
        let pres := ((filterFind r.2 gl).map (·.pres)).getD []
        let s2 := filterRecord gl false (NSet.add pres k) r.2
        (.data d, cacheFill k { gl := gl, m := false, data := d, keySlot := keySlotOf s2 (chOfLine gl) } s2)

/-- A read by a core's cluster under a hint. -/
def clusterRead (cls : Option Nat) (k gl hint : Nat) (s : State) : Rd × State :=
  let c := cacheCheck k gl s
  match c.1 with
  | some st => (.fail st, c.2)
  | none => clusterFetch cls k gl hint c.2

/-- A write that a cluster's cache takes, or that goes to the home (R237, R242, R247). Answers the failing status of the fill, if
any. -/
def clusterStore (cls : Option Nat) (k gl hint off : Nat) (data : List Byte) (s : State) : Option Nat × State :=
  let put (l : CLine) (t : State) : State :=
    setCacheSet (cacheKey k gl)
      ({ l with data := mergeLine l.data off data, m := true } :: (cacheSet t k gl).filter fun x => x.gl != gl) t
  match cacheFind s k gl with
  | some l =>
    if l.m then (none, put l (countCoh k (fun c => { c with hits := c.hits + 1 }) s))
    else if hint = 0 && !noFillLine s gl then
      -- Upgrade
      let others := (((filterFind s gl).map (·.pres)).getD []).filter fun x => x != k
      let s0 := countCoh (homeOf (chOfLine gl)) (fun c => { c with invalidations := c.invalidations + others.length }) s
      let s1 := others.foldl (fun t x => surrender x gl t) (countCoh k (fun c => { c with misses := c.misses + 1 }) s0)
      (none, put l (filterRecord gl true [k] s1))
    else (none, homeWrite cls gl hint off data (countCoh k (fun c => { c with misses := c.misses + 1 }) s))
  | none =>
    let s0 := countCoh k (fun c => { c with misses := c.misses + 1 }) s
    if hint != 0 || !mayAllocate s0 k (chOfLine gl) || noFillLine s0 gl then (none, homeWrite cls gl hint off data s0)
    else
      -- ReadOwn
      let r := homeOwn cls gl (off == 0 && data.length == 64) s0
      match r.1 with
      | .fail st => (some st, r.2)
      | .data d =>
        let s1 := filterRecord gl true [k] r.2
        (none, cacheFill k { gl := gl, m := true, data := mergeLine d off data, keySlot := keySlotOf s1 (chOfLine gl) } s1)

/-- A write by a core's cluster under a hint. -/
def clusterWrite (cls : Option Nat) (k gl hint off : Nat) (data : List Byte) (s : State) : Option Nat × State :=
  let c := cacheCheck k gl s
  match c.1 with
  | some st => (some st, c.2)
  | none => clusterStore cls k gl hint off data c.2

/-! ## Facet addresses (R263) -/

/-- Channel and offset of a facet address through a frame map. -/
def resolve (m : SMap Slot) (fa : Nat) : Option (Nat × Nat) :=
  let frame := fa / 2 ^ 16 % 2 ^ 15
  match SMap.look m (fa / 2 ^ 31) with
  | none => none
  | some sl =>
    some (if sl.copying && decide (frame < sl.cursor) then sl.target else sl.channel, fa % 2 ^ 31)

/-- The global line of a facet address, or the status that ends the access: UNMAPPED in an invalid slot, UNREACHABLE over a
parked half (R58, R264). -/
def lineOf (s : State) (facet fa : Nat) : Sum Nat Nat :=
  match facetOf s facet with
  | none => .inr stUnmapped
  | some f =>
    match resolve f.map fa with
    | none => .inr stUnmapped
    | some (ch, off) => if parked s (eastChan ch) then .inr stUnreachable else .inl (glOf ch off)

/-- The pieces of a byte range, none across a line: address within the space, count. -/
def pieces : Nat → Nat → Nat → List (Nat × Nat)
  | 0, _, _ => []
  | fuel + 1, a, n =>
    if n = 0 then []
    else
      let k := Nat.min n (64 - a % 64)
      (a, k) :: pieces fuel (a + k) (n - k)

def linePieces (a n : Nat) : List (Nat × Nat) := pieces (n / 64 + 2) a n

/-- Who makes an access: the cluster whose cache it goes through, if any, and its share class (R182; none outside every class,
R187). -/
structure Via where
  cluster : Option Nat
  cls : Option Nat
  deriving DecidableEq, Repr

/-- A core's port, with its sequencer and its plane loader; class 0 when it is not bound (R182). -/
def coreVia (s : State) (c : Nat) : Via :=
  ⟨some (clusterOfCore c), some (if (coreOf s c).status = 2 then (facetClass s (coreOf s c).facet).getD 0 else 0)⟩

/-- A unit that works for a facet: the cluster DMA, the plane stream port, a bound half-port. -/
def facetVia (s : State) (n : Nat) : Via := ⟨none, facetClass s n⟩

/-- The cluster controller of a facet's master cluster, which goes through that cluster's cache (R239). -/
def ctlVia (s : State) (n : Nat) : Via := ⟨(facetOf s n).map (·.master), facetClass s n⟩

/-- PCIe ingress of a function. -/
def fnVia (s : State) (f : Nat) : Via := ⟨none, some (SMap.getD s.reg.fnClass f 0)⟩

/-- The privileged masters: the MC, Lantern, the link-collective engines, the page-migration engine (R187). -/
def privVia : Via := ⟨none, none⟩

/-- An access that its cluster's cache does not serve waits at the home while a transaction blocks the line, or while every way of
its filter set is blocked (R244, R246). -/
def mustWait (via : Via) (gl : Nat) (write : Bool) (s : State) : Bool :=
  (SMap.has s.coh.blocked gl || (via.cluster.isSome && !hasRoom s gl)) &&
    match via.cluster.bind fun k => cacheFind s k gl with
    | some l => write && !l.m
    | none => true

/-- Whether some line of a range makes an access wait. -/
def rangeWaits (via : Via) (facet fa n : Nat) (write : Bool) (s : State) : Bool :=
  (linePieces fa n).any fun p =>
    match lineOf s facet p.1 with
    | .inl gl => mustWait via gl write s
    | .inr _ => false

def readLine (via : Via) (gl hint : Nat) (s : State) : Rd × State :=
  match via.cluster with
  | some k => clusterRead via.cls k gl hint s
  | none => homeRead via.cls gl hint s

def writeLine (via : Via) (gl hint off : Nat) (data : List Byte) (s : State) : Option Nat × State :=
  match via.cluster with
  | some k => clusterWrite via.cls k gl hint off data s
  | none => (none, homeWrite via.cls gl hint off data s)

/-- Read bytes at a facet address, line by line. -/
def faReadAux (via : Via) (facet hint : Nat) : List (Nat × Nat) → List Byte → State → Sum (List Byte) (Nat × Nat) × State
  | [], acc, s => (.inl acc, s)
  | (a, k) :: rest, acc, s =>
    match lineOf s facet a with
    | .inr st => (.inr (st, a), s)
    | .inl gl =>
      let r := readLine via gl hint s
      match r.1 with
      | .fail st => (.inr (st, a / 64 * 64), r.2)
      | .data d => faReadAux via facet hint rest (acc ++ (d.drop (a % 64)).take k) r.2

/-- Read `n` bytes at a facet address: the bytes, or the failing status and address. -/
def faRead (via : Via) (facet hint fa n : Nat) (s : State) : Sum (List Byte) (Nat × Nat) × State :=
  faReadAux via facet hint (linePieces fa n) [] s

/-- Write bytes at a facet address, line by line; effects before a failure stay (R344). -/
def faWriteAux (via : Via) (facet hint : Nat) : List (Nat × Nat) → List Byte → State → Option (Nat × Nat) × State
  | [], _, s => (none, s)
  | (a, k) :: rest, d, s =>
    match lineOf s facet a with
    | .inr st => (some (st, a), s)
    | .inl gl =>
      let r := writeLine via gl hint (a % 64) (d.take k) s
      match r.1 with
      | some st => (some (st, a / 64 * 64), r.2)
      | none => faWriteAux via facet hint rest (d.drop k) r.2

def faWrite (via : Via) (facet hint fa : Nat) (data : List Byte) (s : State) : Option (Nat × Nat) × State :=
  faWriteAux via facet hint (linePieces fa data.length) data s

/-! ## Whole channels (R223, R250) -/

/-- Write back and invalidate every cached line of a channel. -/
def flushChan (ch : Nat) (s : State) : State :=
  let gls := (s.coh.filter.flatMap fun e => e.2.map (·.gl)).filter fun gl => chOfLine gl == ch
  gls.foldl (fun t gl => invalidateAll gl t) s

/-- Begin a zero-fill: cached lines go back first, then every line takes zero data, key slot 0, state 0 (R223, R250). The
channel is ZEROING until ZERO_FILL_DONE gives it state `after`. -/
def zeroChan (ch after : Nat) (s : State) : State :=
  let s1 := flushChan ch s
  let base := ch * 2 ^ 25
  let inCh (gl : Nat) : Bool := chOfLine gl == ch
  let s2 := { s1 with
    dram := Mem.zero s1.dram (base * 64) (2 ^ 31)
    lineMeta := s1.lineMeta.filter fun e => !inCh e.1
    msc := (s1.msc.map fun e => (e.1, e.2.filter fun l => !inCh l.gl)).filter fun e => !e.2.isEmpty }
  updChan ch (fun c => { c with state := 6, facet := 0, after := after }) s2

/-- When the last core of a facet leaves a cluster, the cluster's cache gives up the facet's lines (R250). -/
def flushCluster (k : Nat) (chans : NSet) (s : State) : State :=
  let gls := (s.coh.lines.filter fun e => e.1 / 8192 == k).flatMap fun e => e.2.map (·.gl)
  (gls.filter fun gl => chans.contains (chOfLine gl)).foldl (fun t gl => surrender k gl t) s

/-- Every cluster cache writes back its M lines (R251). -/
def flushAllM (s : State) : State :=
  let ms := s.coh.lines.flatMap fun e => (e.2.filter (·.m)).map fun l => (e.1 / 8192, l.gl)
  ms.foldl (fun t x => surrender x.1 x.2 t) s

end Sys2Proof.Machine
end

