-- ==== Sys2Proof/Machine/CmdOps.lean ====
section
/-! DEFINITION. Operations on commands, contexts and fences (11 R312 to R348) that the families share. -/

namespace Sys2Proof.Machine

def cmdOf (s : State) (id : Nat) : Option Cmd := SMap.look s.cmds id

/-- Decide the status of a command that has not run or has ended (R313, R336, R338, R346): it stands before step 8 of R329.
A status that loses the context sets its bit at this moment; the caller sweeps the others. -/
def decideCmd (s : State) (c : Cmd) (st run detail : Nat) (ran : Bool) : Cmd :=
  let loses := losesContext st || losesContext run || (st == stDeadlineMissed && !c.report)
  { c with
    phase := .ended, status := st, runStatus := run, detail := detail, ran := ran
    lostCtx := c.desc.context != 0 && (loses || s.lost.contains c.desc.context)
    duration := if ran then Nat.min (2 ^ 32 - 1) (ltcOf s c.clk - c.startedAt) else 0 }

/-- Whether deciding this status loses the context of the command. -/
def lossOf (c : Cmd) (st run : Nat) : Bool :=
  c.desc.context != 0 && (losesContext st || losesContext run || (st == stDeadlineMissed && !c.report))

/-- Set a context's bit; its commands that have not started complete CONTEXT_LOST at once (R313, R348). -/
def loseContext (n : Nat) (s : State) : State :=
  if n = 0 then s
  else
    let s1 := { s with lost := NSet.add s.lost n }
    { s1 with cmds := s1.cmds.map fun e =>
        if e.2.desc.context = n && e.2.phase = .waiting then (e.1, decideCmd s1 e.2 stContextLost stContextLost 0 false) else e }

/-- End a command with a status that is already final, and lose its context where the status does (R346). -/
def endCmd (id st run detail : Nat) (ran : Bool) (s : State) : State :=
  match cmdOf s id with
  | none => s
  | some c =>
    if c.phase = .ended then s
    else
      let s1 := setCmd id (decideCmd s c st run detail ran) s
      if lossOf c st run then loseContext c.desc.context s1 else s1

/-- Complete a command without running it. -/
def endUnstarted (id st detail : Nat) (s : State) : State := endCmd id st st detail false s

/-- A step run of facet f stands where a command number does as 2^32 + f: it has no context (R434). -/
def stepRun (f : Nat) : Nat := 2 ^ 32 + f

/-- An access that another module asks for stands where a command number does as 2^48 plus its source, tag and context. -/
def remoteAccess (src tag ctx : Nat) : Nat := 2 ^ 48 + src * 2 ^ 32 + tag * 2 ^ 16 + ctx

/-- A running command meets a status; one that loses the context sets the bit when it is decided (R313). -/
def meetStatus (id st detail : Nat) (s : State) : State :=
  if 2 ^ 48 ≤ id then { s with vxl := { s.vxl with failed := SMap.put s.vxl.failed id st } }
  else if 2 ^ 32 ≤ id then updFacet (id - 2 ^ 32) (fun f => { f with stepMet := f.stepMet ++ [(st, detail)] }) s
  else match cmdOf s id with
  | none => s
  | some c =>
    if c.phase = .running then
      let s1 := setCmd id { c with met := c.met ++ [(st, detail)] } s
      if losesContext st then loseContext c.desc.context s1 else s1
    else s

/-- End a running command: the first status that applies (R347), DEADLINE_MISSED where it ran past its deadline. -/
def finishCmd (id : Nat) (s : State) : State :=
  match cmdOf s id with
  | none => s
  | some c =>
    if c.phase = .running then
      let r := combineStatus c.met
      if c.late then endCmd id stDeadlineMissed r.1 0 true s else endCmd id r.1 r.1 r.2 true s
    else s

/-- Start a command: step 7 of R329. -/
def startCmd (id : Nat) (s : State) : State :=
  updCmd id (fun c => { c with phase := .running, ran := true, startedAt := ltcOf s c.clk }) s

/-- Records that a queue's completion ring may still take (R324). -/
def compRoom (q : Queue) : Bool :=
  decide ((q.completed + 65536 - q.compHead) % 65536 < 2 ^ q.compLog2 - 1)

/-- A command may start: it waits, its fences are satisfied, its queue's completion ring is not full and holds no record back
(R324, R329). -/
def mayStart (s : State) (id : Nat) : Bool :=
  match cmdOf s id with
  | none => false
  | some c =>
    c.phase == .waiting && c.ready &&
      match SMap.look s.queues c.queue with
      | none => false
      | some q => compRoom q && q.waiting.isEmpty

/-! ## Accounting and virtual time (R466, R467, R505) -/

/-- Add activity to the context of a command or of another module's access, or to the step run that it names. -/
def addAcct (id : Nat) (g : Acct → Acct) (s : State) : State :=
  if 2 ^ 48 ≤ id then updCtx (id % 2 ^ 16) (fun x => { x with acct := g x.acct }) s
  else if 2 ^ 32 ≤ id then updFacet (id - 2 ^ 32) (fun f => { f with stepAcct := g f.stepAcct }) s
  else match cmdOf s id with
  | none => s
  | some c => updCtx c.desc.context (fun x => { x with acct := g x.acct }) s

/-- Coefficient of an activity in pJ: 0 W8 pass, 1 W4 pass, 2 vector handshake, 3 memory byte, 4 link byte. The part's
fused value lies within 15 % of the table of R505. -/
def coeff (k : Nat) : Nat :=
  let base := match k with
    | 0 => 3000
    | 1 => 3300
    | 2 => 180
    | 3 => 16
    | _ => 30
  clampNat (base * 85 / 100) (base * 115 / 100) (Config.energyCoeff k)

/-- Energy with its digital part, `pct` per cent, scaled by the square of the core rail's voltage. -/
def scaledEnergy (mv pct e : Nat) : Nat := e * ((100 - pct) * 562500 + pct * mv * mv) / 56250000

/-- Set-point of the half that a core lies in. -/
def mvOfCore (s : State) (c : Nat) : Nat := if eastCore c then s.pwr.eastMv else s.pwr.westMv

/-- Charge passes on `n` engines of a core (R466, R505). -/
def chargePass (id core n : Nat) (w4 : Bool) (s : State) : State :=
  let e := n * scaledEnergy (mvOfCore s core) 40 (coeff (if w4 then 1 else 0))
  addAcct id (fun a => { a with e8 := a.e8 + 256 * n, passes := a.passes + n, modelled := a.modelled + e }) s

/-- Charge vector handshakes. -/
def chargeVec (id core n : Nat) (s : State) : State :=
  let e := n * scaledEnergy (mvOfCore s core) 100 (coeff 2)
  addAcct id (fun a => { a with e8 := a.e8 + 5 * n, vec := a.vec + n, modelled := a.modelled + e }) s

/-- Charge bytes of device memory. -/
def chargeHbm (id n : Nat) (s : State) : State :=
  addAcct id (fun a => { a with hbm := a.hbm + n, modelled := a.modelled + n * coeff 3 }) s

/-- Charge Voxlink payload bytes. -/
def chargeLink (id n : Nat) (s : State) : State :=
  addAcct id (fun a => { a with link := a.link + n, modelled := a.modelled + n * coeff 4 }) s

/-- Charge Voxlink payload bytes to a context. -/
def chargeCtxLink (ctx n : Nat) (s : State) : State :=
  updCtx ctx (fun x => { x with acct := { x.acct with
    link := x.acct.link + n, modelled := x.acct.modelled + n * coeff 4 } }) s

/-- Virtual time of a context in 2^-16 ns (R467). -/
def vtOf (c : Ctx) : Nat := c.acct.e8 * 8192 / Nat.max 1 c.weight + c.vtOffset

/-- Whether a command is ready or running (R467, R468). -/
def readyOrRunning (c : Cmd) : Bool := c.phase == .running || (c.phase == .waiting && c.ready)

/-- A command becomes ready; a context that had no ready or running command in the facet is raised to the lowest virtual
time of the facet's other contexts that have one (R467). -/
def markReady (id : Nat) (s : State) : State :=
  match cmdOf s id with
  | none => s
  | some c =>
    let s1 := setCmd id { c with ready := true } s
    let busy := (s.cmds.filter fun e => e.2.facet == c.facet && readyOrRunning e.2).map (·.2.desc.context)
    match SMap.look s.ctxs c.desc.context with
    | none => s1
    | some x =>
      if busy.contains c.desc.context then s1
      else
        let others := (NSet.ofList busy).filterMap fun n => if n = 0 then none else (SMap.look s.ctxs n).map vtOf
        match others with
        | [] => s1
        | v :: r =>
          let low := r.foldl Nat.min v
          setCtx c.desc.context { x with vtOffset := x.vtOffset + (low - vtOf x) } s1

/-! ## Fences (R339 to R343) -/

def fenceAddr (q : Queue) (i : Nat) : Nat := q.fenceBase + 8 * i

/-- Read a fence through its line's home. -/
def readFence (q : Queue) (i : Nat) (s : State) : Sum Nat (Nat × Nat) × State :=
  let r := faRead (facetVia s q.facet) q.facet 0 (fenceAddr q i) 8 s
  match r.1 with
  | .inl d => (.inl (ofLe d), r.2)
  | .inr e => (.inr e, r.2)

/-- The fences that a command waits on: the descriptor's wait, and a FENCE_WAIT's entries with their mode (R329 step 6). -/
def ownWait (d : Desc) : List (Nat × Nat) := if d.waitEn then [(d.waitFence, d.waitValue)] else []
def listWait (d : Desc) : Bool × List (Nat × Nat) :=
  match d.payload with
  | .fenceWait any l => (any, l)
  | _ => (false, [])

/-- Read a list of waits: whether each is satisfied, or the first failure. -/
def readWaits (q : Queue) : List (Nat × Nat) → List Bool → State → Sum (List Bool) (Nat × Nat) × State
  | [], acc, s => (.inl acc.reverse, s)
  | (i, v) :: r, acc, s =>
    let x := readFence q i s
    match x.1 with
    | .inr e => (.inr e, x.2)
    | .inl n => readWaits q r (decide (v ≤ n) :: acc) x.2

/-- Re-read the fences that a waiting command waits on (R341): satisfied, not yet, or the status that completes it. -/
def checkWaits (id : Nat) (s : State) : State :=
  match cmdOf s id with
  | none => s
  | some c =>
    if c.phase != .waiting || c.ready then s
    else match SMap.look s.queues c.queue with
    | none => s
    | some q =>
      let own := readWaits q (ownWait c.desc) [] s
      match own.1 with
      | .inr e => endUnstarted id e.1 e.2 own.2
      | .inl a =>
        let w := listWait c.desc
        let lst := readWaits q w.2 [] own.2
        match lst.1 with
        | .inr e => endUnstarted id e.1 e.2 lst.2
        | .inl b =>
          let okList := if w.1 then b.isEmpty || b.any (fun x => x) else b.all (fun x => x)
          if a.all (fun x => x) && okList then markReady id lst.2 else lst.2

/-- A command waits on the fence at a facet address. -/
def waitsOnFence (s : State) (addr : Nat) (c : Cmd) : Bool :=
  c.phase == .waiting && !c.ready &&
    match SMap.look s.queues c.queue with
    | none => false
    | some q => (ownWait c.desc ++ (listWait c.desc).2).any fun w => fenceAddr q w.1 == addr

/-- The commands of a facet that wait on a fence look at their fences again at every device signal of it (R341). -/
def recheckWaits (facet addr : Nat) (s : State) : State :=
  forAll ((s.cmds.filter fun e => e.2.facet == facet && waitsOnFence s addr e.2).map (·.1)) checkWaits s

/-- Count a signal at or below its fence's value (R342). -/
def countRegress (s : State) : State := { s with reg := { s.reg with fenceRegress := s.reg.fenceRegress + 1 } }

/-- Signal a fence: an atomic maximum at its home (R340, R342). Answers whether the signal was a regression, or the failing
status. FENCE_REGRESS goes to the queue's function. -/
def signalFence (q : Queue) (i v : Nat) (s : State) : Sum Bool (Nat × Nat) × State :=
  let r := readFence q i s
  match r.1 with
  | .inr e => (.inr e, r.2)
  | .inl n =>
    if n < v then
      let w := faWrite (facetVia s q.facet) q.facet 0 (fenceAddr q i) (toLe 8 v) r.2
      (.inl false, recheckWaits q.facet (fenceAddr q i) w.2)
    else
      (.inl true, recheckWaits q.facet (fenceAddr q i)
        (raiseTo [q.fn] evFenceRegress q.fn i v none (confFacet r.2 q.facet) (countRegress r.2)))

/-! ## Commands by what they name -/

/-- Ids of the commands that hold a property. -/
def cmdsWhere (s : State) (p : Cmd → Bool) : List Nat := (s.cmds.filter fun e => p e.2).map (·.1)

/-- Complete every waiting command that holds a property with a status, without running it. -/
def endWaiting (p : Cmd → Bool) (st : Nat) (s : State) : State :=
  forAll (cmdsWhere s fun c => c.phase == .waiting && p c) (fun id t => endUnstarted id st 0 t) s

/-- Whether a payload runs on the facet's placement or its sequence table (RUN_SEGMENT and serving commands). -/
def isRun : Payload → Bool
  | .runSegment _ _ => true
  | _ => false

def isServing : Payload → Bool
  | .configure _ => true
  | .seqAdmit _ => true
  | .seqCancel _ => true
  | .stateExport _ => true
  | .stateImport _ => true
  | _ => false

end Sys2Proof.Machine
end

