-- ==== Sys2Proof/Machine/Mesh.lean ====
section
/-! DEFINITION. The mesh (06 R164 to R177): neighbours, routes, seam channels, the routers' prism tables and their trees; and the
masters with the limits of their share classes (R178, R182 to R187). -/

namespace Sys2Proof.Machine

/-! ## Geometry and routes (R24, R167 to R170) -/

def meshRow (k : Nat) : Nat := k / 8
def meshCol (k : Nat) : Nat := k % 8

/-- Cluster that an edge router attaches to, by its number in R49 (R24). -/
def edgeCluster (n : Nat) : Nat := [1, 3, 6, 25, 28, 30, 8, 16, 15, 23].getD (n - 32) 0

/-- Neighbour of a cluster's router: 0 east, 1 west, 2 north, 3 south; none at the die's edge (R167). -/
def neighbour (k dir : Nat) : Option Nat :=
  match dir with
  | 0 => if meshCol k < 7 then some (k + 1) else none
  | 1 => if 0 < meshCol k then some (k - 1) else none
  | 2 => if 0 < meshRow k then some (k - 8) else none
  | 3 => if meshRow k < 3 then some (k + 8) else none
  | _ => none

/-- The link from a cluster in a direction is a pair of seam channels (R52, R167). -/
def seamLink (k dir : Nat) : Bool := (dir == 0 && meshCol k == 3) || (dir == 1 && meshCol k == 4)

/-- Output that a flit for cluster `d` takes at cluster `k`: along the row first, then along the column (R169). -/
def hopOf (k d : Nat) : Option Nat :=
  if meshCol k < meshCol d then some 0
  else if meshCol d < meshCol k then some 1
  else if meshRow d < meshRow k then some 2
  else if meshRow k < meshRow d then some 3
  else none

/-- Route from a cluster to another: each router with the output taken (R169). A route has at most 10 links. -/
def routeAux : Nat → Nat → Nat → List (Nat × Nat)
  | 0, _, _ => []
  | n + 1, k, d =>
    match hopOf k d with
    | none => []
    | some dir => (k, dir) :: (match neighbour k dir with
      | some m => routeAux n m d
      | none => [])

def route (k d : Nat) : List (Nat × Nat) := routeAux 10 k d

/-- Routers that a flit passes from one cluster to another, both ends among them. -/
def routeClusters (k d : Nat) : List Nat := (route k d).map (·.1) ++ [d]

/-- Seam channel of a row that a flit takes: by address bit 7 on REQ and RSP, by the two clusters on SNP and MSG (R170). -/
def seamChannel (memory : Bool) (addr src dst : Nat) : Nat := if memory then bit addr 7 else (src + dst) % 2

/-- A route that enters a parked half (R58). -/
def routeParked (s : State) (k d : Nat) : Bool := (routeClusters k d).any fun c => parked s (eastCluster c)

/-! ## Prism tables (R174 to R177) -/

/-- Bit mask of a set of numbers. -/
def maskOf (l : NSet) : Nat := l.foldl (fun a i => a + 2 ^ i) 0

/-- The router entries of a tree from a source core to leaf cores along R169: at each router its outputs and the slots of the
leaves in its cluster. -/
def treeEntries (source : Nat) (leaves : NSet) (queue : Nat) : SMap RouterEntry :=
  let src := clusterOfCore source
  let hops := leaves.flatMap fun c => route src (clusterOfCore c)
  let sites := NSet.ofList (src :: hops.map (·.1) ++ leaves.map clusterOfCore)
  sites.map fun k =>
    (k, ⟨NSet.ofList ((hops.filter fun h => h.1 == k).map (·.2)),
        maskOf (NSet.ofList ((leaves.filter fun c => clusterOfCore c == k).map slotOfCore)), queue⟩)

def updRouter (k : Nat) (f : Router → Router) (s : State) : State := updCluster k (fun c => { c with router := f c.router }) s

/-- Write an identity's entries into the routers (R174). -/
def writeTree (i : Nat) (es : SMap RouterEntry) (s : State) : State :=
  es.foldl (fun t e => updRouter e.1 (fun r => { r with prisms := SMap.put r.prisms i e.2 }) t) s

/-- Take an identity out of every router. -/
def eraseTree (i : Nat) (s : State) : State :=
  forAll (List.range 32) (fun k t =>
    if SMap.has (clusterOf t k).router.prisms i then updRouter k (fun r => { r with prisms := SMap.del r.prisms i }) t else t) s

/-- Core slots of a mask. -/
def slotsOf (mask : Nat) : List Nat := (List.range 17).filter fun i => bit mask i == 1

/-- Cores that the routers deliver an identity's flits to, from a cluster on (R174). A tree is no deeper than 10 links. -/
def treeCores (s : State) (i : Nat) : Nat → Nat → List Nat
  | 0, _ => []
  | n + 1, k =>
    match SMap.look (clusterOf s k).router.prisms i with
    | none => []
    | some e => (slotsOf e.mask).map (· + 17 * k) ++
        e.ports.flatMap fun d => match neighbour k d with
          | some m => treeCores s i n m
          | none => []

/-- Leaf cores of an identity's tree from a source core, as the routers hold it. -/
def prismLeaves (s : State) (i source : Nat) : NSet := NSet.ofList (treeCores s i 11 (clusterOfCore source))

/-- A flit arrives at a cluster with bad parity: its router counts it (R171). -/
def routerParity (k : Nat) (s : State) : State := updRouter k (fun r => { r with parity := r.parity + 1 }) s

/-! ## Masters (R182, R187, R190) -/

/-- The facet that a master works for (R182). A cluster's DMA and its plane stream port work for the facet whose work they carried
last. -/
def masterFacet (s : State) (m : Nat) : Option Nat :=
  if m < 0x220 then (if (coreOf s m).status = 2 then some (coreOf s m).facet else none)
  else if 0x400 ≤ m && m < 0x420 then (clusterOf s (m - 0x400)).dmaFacet
  else if 0x500 ≤ m && m < 0x50C then (s.facets.find? fun e => e.2.halfPorts.contains (m - 0x500)).map (·.1)
  else if 0x700 ≤ m && m < 0x720 then (clusterOf s (m - 0x700)).streamFacet
  else none

/-- Class of a master (R182). -/
def masterClass (s : State) (m : Nat) : Nat :=
  if 0x600 ≤ m && m < 0x640 then SMap.getD s.reg.fnClass (m - 0x600) 0
  else match (masterFacet s m).bind (facetClass s) with
  | some c => c
  | none => if 0x500 ≤ m && m < 0x50C then s.reg.linkClass else 0

/-- Class of a requester: none for the privileged ones (R187). -/
def requesterClass (s : State) (m : Nat) : Option Nat := if 0x800 ≤ m then none else some (masterClass s m)

/-- Outstanding transactions at which a privileged master is held (R187). -/
def requesterCap (s : State) (m : Nat) : Nat :=
  if m = 0x800 then 16 else if m = 0x801 then 4 else if m = 0x808 then s.reg.pmeCap else s.reg.lceCap

/-- Voxlink ingress of a half-port (R182). -/
def linkVia (s : State) (h : Nat) : Via := ⟨none, some (masterClass s (0x500 + h))⟩

/-- The windows in progress of these masters give no verdict (R190). -/
def spoilWindows (l : List Nat) (s : State) : State :=
  { s with reg := { s.reg with spoiled := NSet.union s.reg.spoiled (NSet.ofList l) } }

/-- A master of which an update may have changed the class: its window gives no verdict then (R190). -/
def reclass (m : Nat) (upd : State → State) (s : State) : State :=
  let s1 := upd s
  if masterClass s1 m = masterClass s m then s1 else spoilWindows [m] s1

/-- The cluster DMA carries work of a facet. -/
def dmaWorks (k n : Nat) (s : State) : State :=
  reclass (0x400 + k) (updCluster k (fun c => { c with dmaFacet := some n })) s

/-- The plane stream port reads a facet's stream image. -/
def streamWorks (k n : Nat) (s : State) : State :=
  reclass (0x700 + k) (updCluster k (fun c => { c with streamFacet := some n })) s

/-- The masters of half-ports. -/
def portMasters (l : List Nat) : List Nat := l.map (· + 0x500)

/-! ## Queue targets (R178, R183, R184) -/

/-- Entries of a target: class pool, privileged, skid (R183). Targets are numbered as in R190. -/
def poolEntries (t : Nat) : Nat × Nat × Nat := if t < 256 then (128, 16, 32) else (208, 16, 32)

/-- Entries of a target reserved for a class (R184). -/
def classReserved (s : State) (t cls : Nat) : Nat := (poolEntries t).1 * (classCfg s cls).queueMin / 100

/-- Entries of a target that a class may hold (R184). -/
def classCap (s : State) (t cls : Nat) : Nat :=
  let m := (classCfg s cls).queueMax
  if m = 0 then 0 else Nat.max 1 ((poolEntries t).1 * m / 100)

/-- Requests of a class that hold an entry of a channel's request queue: those that wait behind blocked lines (R244). Every other
request is served in the step that brings it (log 16). -/
def classWaits (s : State) (ch cls : Nat) : Nat :=
  (s.coh.waiting.filter fun w => chOfLine w.1 == ch && lineClass s w.1 == some cls).length

/-- A channel controller admits a request: its class holds fewer entries than its cap, and the class pool has one (R184, R186). The
privileged masters have entries of their own (R187). -/
def admitted (s : State) (ch : Nat) (cls : Option Nat) : Bool :=
  match cls with
  | none => true
  | some k =>
    decide (classWaits s ch k < classCap s ch k) &&
      decide (((List.range 8).map (classWaits s ch)).foldl (· + ·) 0 < (poolEntries ch).1)

end Sys2Proof.Machine
end

