-- ==== Sys2Proof/Machine/Coherence.lean ====
section
/-! DEFINITION. Cluster cache coherence message by message (08 R242 to R253): a home's transactions, forwards, invalidations
and acknowledgements, the write-back buffers, and the accesses that do not allocate. -/

namespace Sys2Proof.Machine

def blockedTxn (s : State) (gl : Nat) : Option HomeTxn := SMap.look s.coh.blocked gl
def setTxn (gl : Nat) (t : HomeTxn) (s : State) : State := { s with coh := { s.coh with blocked := SMap.put s.coh.blocked gl t } }
def clearTxn (gl : Nat) (s : State) : State := { s with coh := { s.coh with blocked := SMap.del s.coh.blocked gl } }

/-- Clusters whose presence bit is set for a line. -/
def sharers (s : State) (gl : Nat) : NSet := ((filterFind s gl).map (·.pres)).getD []

def countForward (gl : Nat) (s : State) : State :=
  countCoh (homeOf (chOfLine gl)) (fun c => { c with forwards := c.forwards + 1 }) s
def countInvalidations (gl n : Nat) (s : State) : State :=
  if n = 0 then s else countCoh (homeOf (chOfLine gl)) (fun c => { c with invalidations := c.invalidations + n }) s

/-- Read the line at the base die and grant it with its data; a poisoned line or failed interface ends the transaction with
no copy (R211, R252). -/
def grantFromMemory (gl : Nat) (t : HomeTxn) (s : State) : State :=
  let r := baseRead (lineClass s gl) gl 0 .clean s
  match r.1 with
  | .data d => setTxn gl { t with data := some (d, keySlotOf r.2 (chOfLine gl)), granted := true } r.2
  | .fail _ => clearTxn gl r.2

/-- A home starts a transaction on a line that is not blocked (R242, R248). Transactions with a completion acknowledgement
block the line (R244). -/
def homeTake (gl : Nat) (q : HomeReq) (s : State) : State :=
  let fresh : HomeTxn := ⟨q, [], none, none, false, noFillLine s gl⟩
  match q with
  | .readShared c =>
    match (ownerOfLine s gl).filter (· != c) with
    | some k => countForward gl (setTxn gl { fresh with acks := [k], fwd := some k } s)
    | none => grantFromMemory gl fresh (if (filterFind s gl).isSome then s else filterRoom gl s)
  | .readOwn c =>
    match (ownerOfLine s gl).filter (· != c) with
    | some k => countForward gl (setTxn gl { fresh with acks := [k], fwd := some k } s)
    | none =>
      let others := (sharers s gl).filter (· != c)
      if others.isEmpty then grantFromMemory gl fresh (if (filterFind s gl).isSome then s else filterRoom gl s)
      else countInvalidations gl others.length (setTxn gl { fresh with acks := others } s)
  | .upgrade c =>
    let others := (sharers s gl).filter (· != c)
    if (sharers s gl).contains c then
      if others.isEmpty then setTxn gl { fresh with granted := true } s
      else countInvalidations gl others.length (setTxn gl { fresh with acks := others } s)
    else
      -- the sender lost a race: carried out as ReadOwn
      let f := { fresh with req := .readOwn c }
      match ownerOfLine s gl with
      | some k => countForward gl (setTxn gl { f with acks := [k], fwd := some k } s)
      | none =>
        if others.isEmpty then grantFromMemory gl f (if (filterFind s gl).isSome then s else filterRoom gl s)
        else countInvalidations gl others.length (setTxn gl { f with acks := others } s)
  | .writeBack c =>
    let buf := s.coh.wbBuf.find? fun b => b.1 == c && b.2.gl == gl
    let s1 := { s with coh := { s.coh with wbBuf := s.coh.wbBuf.filter fun b => !(b.1 == c && b.2.gl == gl) } }
    match buf with
    | none => s1
    | some b => filterClear c gl (if ownerOfLine s gl == some c then writeBackLine c b.2 s1 else s1)
  | .cleanEvict c =>
    filterClear c gl
      { s with coh := { s.coh with wbBuf := s.coh.wbBuf.filter fun b => !(b.1 == c && b.2.gl == gl) } }
  | .naRead hint => (homeRead (lineClass s gl) gl hint s).2
  | .naWrite hint off data => homeWrite (lineClass s gl) gl hint off data s

/-- Serve the requests that wait for a line, in arrival order, until one blocks it (R244). -/
def serveWaiting (gl : Nat) : Nat → State → State
  | 0, s => s
  | n + 1, s =>
    if SMap.has s.coh.blocked gl then s
    else match s.coh.waiting.find? fun w => w.1 == gl with
    | none => s
    | some w => serveWaiting gl n (homeTake gl w.2 { s with coh := { s.coh with waiting := s.coh.waiting.erase w } })

/-- Unblock a line and serve what waits for it. -/
def unblock (gl : Nat) (s : State) : State := serveWaiting gl s.coh.waiting.length (clearTxn gl s)

/-- A request arrives at a home: it waits behind a blocked line, or starts (R244). -/
def homeArrive (gl : Nat) (q : HomeReq) (s : State) : State :=
  if SMap.has s.coh.blocked gl then
    countCoh (homeOf (chOfLine gl)) (fun c => { c with blocked := c.blocked + 1 })
      { s with coh := { s.coh with waiting := s.coh.waiting ++ [(gl, q)] } }
  else serveWaiting gl s.coh.waiting.length (homeTake gl q s)

/-- An uncorrectable filter entry: the home invalidates the whole set in every cluster, clears it and raises
SNOOP_FILTER_UE (R253). -/
def filterError (gl : Nat) (s : State) : State :=
  let key := filterKey gl
  let k := homeOf (chOfLine gl)
  let s1 := (filterSet s gl).foldl (fun t e => invalidateAll e.gl t) s
  let s2 := setFilterSet key [] s1
  let c := SMap.getD s2.coh.counts k {}
  raisePf0 evSnoopFilterUe k (key % 32768) (confChan s (chOfLine gl))
    { s2 with coh := { s2.coh with counts := SMap.put s2.coh.counts k { c with filterUe := satAdd 16 c.filterUe 1 } } }

/-- A home takes requests for a channel that is in service over a half that is not parked (R58, R216). One that its class's cap holds
stays at its port (R184, R186). -/
def homeServes (s : State) (gl : Nat) : Bool :=
  let st := (chanOf s (chOfLine gl)).state
  (st == 1 || st == 2 || st == 3) && !parked s (eastChan (chOfLine gl)) && admitted s (chOfLine gl) (lineClass s gl)

/-- A caching request of a cluster: its cache may hold lines of the channel's facet (R239). One that finds no filter entry stays at its
port (R246). -/
def cacheRequest (k gl : Nat) (ue : Bool) (q : HomeReq) (s : State) : State :=
  if homeServes s gl && mayAllocate s k (chOfLine gl) && (SMap.has s.coh.blocked gl || hasRoom s gl) then
    homeArrive gl q (countCoh k (fun c => { c with misses := c.misses + 1 }) (if ue then filterError gl s else s))
  else s

/-- READ_SHARED (R242): from a cache in I; `filterUe` says that the home's entry read uncorrectable (R253). -/
def readSharedEff (k gl : Nat) (ue : Bool) (s : State) : State :=
  if (cacheFind s k gl).isSome then s else cacheRequest k gl ue (.readShared k) s

def execReadShared (k gl : Nat) (ue : Bool) (s : State) : Host.Outcome State Fault Refusal :=
  checked (okCluster k && okGlobal gl) s (readSharedEff k gl ue)

/-- READ_OWN (R242): from a cache in I. -/
def readOwnEff (k gl : Nat) (ue : Bool) (s : State) : State :=
  if (cacheFind s k gl).isSome then s else cacheRequest k gl ue (.readOwn k) s

def execReadOwn (k gl : Nat) (ue : Bool) (s : State) : Host.Outcome State Fault Refusal :=
  checked (okCluster k && okGlobal gl) s (readOwnEff k gl ue)

/-- UPGRADE (R242): from a cache in S, which may have lost its copy on the way. -/
def upgradeEff (k gl : Nat) (s : State) : State :=
  if ((cacheFind s k gl).map (·.m)).getD false then s else cacheRequest k gl false (.upgrade k) s

def execUpgrade (k gl : Nat) (s : State) : Host.Outcome State Fault Refusal :=
  checked (okCluster k && okGlobal gl) s (upgradeEff k gl)

/-- A cache evicts a line in a state into its write-back buffer and tells the home (R242, R243). -/
def evictLine (k gl : Nat) (m : Bool) (q : HomeReq) (s : State) : State :=
  match cacheFind s k gl with
  | some l =>
    if l.m == m && homeServes s gl then
      homeArrive gl q (cacheDrop k gl { s with coh := { s.coh with wbBuf := s.coh.wbBuf ++ [(k, l)] } })
    else s
  | none => s

/-- WRITE_BACK (R242): a cache evicts an M line. -/
def writeBackEff (k gl : Nat) (s : State) : State := evictLine k gl true (.writeBack k) s

def execWriteBack (k gl : Nat) (s : State) : Host.Outcome State Fault Refusal :=
  checked (okCluster k && okGlobal gl) s (writeBackEff k gl)

/-- CLEAN_EVICT_NOTICE (R242): a cache evicts an S line. -/
def cleanEvictNoticeEff (k gl : Nat) (s : State) : State := evictLine k gl false (.cleanEvict k) s

def execCleanEvictNotice (k gl : Nat) (s : State) : Host.Outcome State Fault Refusal :=
  checked (okCluster k && okGlobal gl) s (cleanEvictNoticeEff k gl)

/-- The line that a cluster answers a forward from: its cache, or its write-back buffer (R243). -/
def heldLine (s : State) (k gl : Nat) : Option CLine :=
  match cacheFind s k gl with
  | some l => some l
  | none => (s.coh.wbBuf.find? fun b => b.1 == k && b.2.gl == gl).map (·.2)

/-- An M line with an uncorrectable word goes back poisoned and raises CACHE_UE (R252). -/
def cacheError (k gl : Nat) (l : CLine) (s : State) : State := filterClear k gl (cacheDrop k gl (poisonBack k l s))

/-- SNOOP_FORWARD (R242, R243, R252): the owner sends the data; it goes to S and writes back for a ReadShared, to I for a
ReadOwn. With `ue` a word of the M line is uncorrectable, and the access that needed it ends with no copy. -/
def snoopForwardEff (k gl : Nat) (ue : Bool) (s : State) : State :=
  match blockedTxn s gl, heldLine s k gl with
  | some t, some l =>
    if t.fwd != some k then s
    else if ue || l.bad == 2 then unblock gl (cacheError k gl l s)
    else
      let t1 := { t with fwd := none, data := some (l.data, l.keySlot) }
      match t.req with
      | .readShared _ =>
        let s1 := if (cacheFind s k gl).isSome then downgradeOwner gl s else writeBackLine k l s
        setTxn gl t1 s1
      | _ => setTxn gl t1 (cacheDrop k gl s)
  | _, _ => s

def execSnoopForward (k gl : Nat) (ue : Bool) (s : State) : Host.Outcome State Fault Refusal :=
  checked (okCluster k && okGlobal gl) s (snoopForwardEff k gl ue)

/-- SNOOP_INVALIDATION (R243): the cache drops its copy, M data written back first. It acknowledges whether or not it held
the line. -/
def snoopInvalidationEff (k gl : Nat) (s : State) : State :=
  match blockedTxn s gl with
  | none => s
  | some t =>
    if t.acks.contains k && t.fwd != some k then
      match cacheFind s k gl with
      | none => s
      | some l => cacheDrop k gl (if l.m then writeBackLine k l s else s)
    else s

def execSnoopInvalidation (k gl : Nat) (s : State) : Host.Outcome State Fault Refusal :=
  checked (okCluster k && okGlobal gl) s (snoopInvalidationEff k gl)

/-- Whether a cluster has carried out the snoop that the home waits for. -/
def snooped (s : State) (k gl : Nat) (t : HomeTxn) : Bool :=
  match t.req with
  | .readShared _ => t.fwd.isNone
  | _ => t.fwd.isNone && (cacheFind s k gl).isNone

/-- SNOOP_ACK (R242, R243): when every acknowledgement has arrived the home sends data or a grant. -/
def snoopAckEff (k gl : Nat) (s : State) : State :=
  match blockedTxn s gl with
  | none => s
  | some t =>
    if t.acks.contains k && snooped s k gl t then
      let t1 := { t with acks := NSet.del t.acks k }
      if !t1.acks.isEmpty then setTxn gl t1 s
      else match t.req with
      | .upgrade _ => setTxn gl { t1 with granted := true } s
      | _ =>
        if t1.data.isSome then setTxn gl { t1 with granted := true } s
        else
          -- a poisoned line ends the transaction, and what waits is served
          let u := grantFromMemory gl t1 s
          serveWaiting gl u.coh.waiting.length u
    else s

def execSnoopAck (k gl : Nat) (s : State) : Host.Outcome State Fault Refusal :=
  checked (okCluster k && okGlobal gl) s (snoopAckEff k gl)

/-- Cluster that a transaction answers. -/
def requesterOf : HomeReq → Option Nat
  | .readShared c => some c
  | .readOwn c => some c
  | .upgrade c => some c
  | _ => none

/-- The requester has the data or the grant: its cache takes the line, and a ReadOwn or Upgrade merges the write that caused
it (R245). Data marked no-fill is not allocated, and its write goes to the home (R249). -/
def takeGrant (k gl off : Nat) (data : List Byte) (t : HomeTxn) (s : State) : State :=
  match t.req with
  | .readShared _ =>
    match t.data with
    | none => s
    | some (d, slot) =>
      if t.noFill then s
      else cacheFill k { gl := gl, m := false, data := d, keySlot := slot } (filterRecord gl false (NSet.add (sharers s gl) k) s)
  | .upgrade _ =>
    match cacheFind s k gl with
    | none => s
    | some l => cacheFill k { l with m := true, data := mergeLine l.data off data } (filterRecord gl true [k] s)
  | .readOwn _ =>
    match t.data with
    | none => s
    | some (d, slot) =>
      if t.noFill then homeWrite (lineClass s gl) gl 0 off data s
      else cacheFill k { gl := gl, m := true, data := mergeLine d off data, keySlot := slot } (filterRecord gl true [k] s)
  | _ => s

/-- COMPLETION_ACK (R244, R245): the line is unblocked and the next waiting request is served. -/
def completionAckEff (k gl off : Nat) (data : List Byte) (s : State) : State :=
  match blockedTxn s gl with
  | none => s
  | some t =>
    if t.granted && requesterOf t.req == some k && decide (off + data.length ≤ 64) then
      unblock gl (takeGrant k gl off data t s)
    else s

def execCompletionAck (k gl off : Nat) (data : List Byte) (s : State) : Host.Outcome State Fault Refusal :=
  checked (okCluster k && okGlobal gl && okPart off data) s (completionAckEff k gl off data)

/-- NON_ALLOCATING_READ (R248). -/
def nonAllocatingReadEff (gl hint : Nat) (s : State) : State :=
  if homeServes s gl then homeArrive gl (.naRead hint) s else s

def execNonAllocatingRead (gl hint : Nat) (s : State) : Host.Outcome State Fault Refusal :=
  checked (okGlobal gl) s (nonAllocatingReadEff gl hint)

/-- NON_ALLOCATING_WRITE (R248). -/
def nonAllocatingWriteEff (gl hint off : Nat) (data : List Byte) (s : State) : State :=
  if homeServes s gl && decide (off + data.length ≤ 64) then homeArrive gl (.naWrite hint off data) s else s

def execNonAllocatingWrite (gl hint off : Nat) (data : List Byte) (s : State) : Host.Outcome State Fault Refusal :=
  checked (okGlobal gl && okPart off data) s (nonAllocatingWriteEff gl hint off data)

end Sys2Proof.Machine
end

