-- ==== Sys2Proof/Machine/Container.lean ====
section
/-! DEFINITION. The byte forms of segment containers (05 R127 to R130, R134, R135) and of weight set containers (17 R529,
R530): reading them from little-endian bytes. What a reading refuses is MALFORMED (R132, R532). -/

namespace Sys2Proof.Machine

/-! ## Fields -/

/-- The `n` bytes of a byte string from offset `a` on. -/
def slice (l : List Byte) (a n : Nat) : List Byte := (l.drop a).take n

/-- A little-endian field of `n` bytes at offset `a`. -/
def field (l : List Byte) (a n : Nat) : Nat := ofLe (slice l a n)

/-- Every byte of a range is 0 (R14). -/
def zeroBytes (l : List Byte) (a n : Nat) : Bool := (slice l a n).all (· == 0)

/-- A range lies within a byte string. -/
def within (l : List Byte) (a n : Nat) : Bool := decide (a + n ≤ l.length)

/-- Numbers of the bits that are set in a bitmap of bytes. -/
def bitList (l : List Byte) : List Nat :=
  ((List.range l.length).zip l).flatMap fun x => ((List.range 8).filter fun i => bit x.2.toNat i == 1).map (· + 8 * x.1)

/-- One step of the reflected IEEE 802.3 division. -/
def crcBit (c : BitVec 32) : BitVec 32 := if c.getLsbD 0 then (c >>> 1) ^^^ 0xEDB88320#32 else c >>> 1

/-- One byte into the CRC register. -/
def crcByte (c : BitVec 32) (b : Byte) : BitVec 32 :=
  crcBit (crcBit (crcBit (crcBit (crcBit (crcBit (crcBit (crcBit (c ^^^ b.zeroExtend 32))))))))

/-- CRC-32 with the IEEE 802.3 polynomial (R128). -/
def crc32 (l : List Byte) : Nat := ((l.foldl crcByte 0xFFFFFFFF#32) ^^^ 0xFFFFFFFF#32).toNat

/-! ## Operations (R134, R135) -/

/-- The fields of byte 0 and 1 that every operation has: reserved bits [7:5] of byte 1 are 0. -/
def opWaitByte (l : List Byte) : Option Nat := if field l 1 1 < 32 then some (field l 1 1) else none

/-- A DMA's ctl byte: hint, list, base; none where a reserved bit or code is used. -/
def dmaCtl (last : Bool) (b : Nat) : Option (Nat × Bool × Nat) :=
  if bit b 3 = 0 && bit b 7 = 0 && decide (bits b 1 0 ≤ (if last then 2 else 1)) then some (bits b 1 0, bit b 2 == 1, bits b 6 4)
  else none

/-- The va and list count of a DMA: in list mode an operand address and a count. -/
def dmaVa (l : List Byte) (list : Bool) : Option (Nat × Nat) :=
  if list then (if field l 4 4 < 2 ^ 22 then some (field l 4 4, field l 8 2) else none) else some (field l 4 6, 0)

/-- The vop codes that R147 lists. -/
def vopKnown (v : Nat) : Bool := (decide (1 ≤ v) && decide (v ≤ 12)) || v == 0x10 || v == 0x11 || v == 0x18 || v == 0x19

/-- Bytes 2 to 15 of an operation of a class; none where a reserved byte, bit or code is used. -/
def opFields (wait : Nat) (l : List Byte) : Option Op :=
  let f := field l
  let z := zeroBytes l
  match f 0 1 with
  | 0x01 => if f 3 1 < 64 && decide (f 8 4 < 2 ^ 22) then some (.pass wait (f 2 1) (f 3 1) (f 4 4) (f 8 4) (f 12 2) (f 14 2)) else none
  | 0x02 => if z 3 1 && z 10 6 then some (.planeLoad wait (f 2 1) (f 4 4) (f 8 2)) else none
  | 0x03 => if z 3 13 then some (.planeSwap wait (f 2 1)) else none
  | 0x10 =>
    if vopKnown (f 2 1) && decide (f 3 1 ≤ 7) && decide (f 4 1 < 32) && decide (f 5 1 < 32) && decide (f 6 1 < 32) &&
        decide (f 7 1 < 32) && decide (f 8 4 < 2 ^ 22) then
      some (.vec wait (f 2 1) (f 3 1) (f 4 1) (f 5 1) (f 6 1) (f 7 1) (f 8 4) (f 12 2) (f 14 2)) else none
  | 0x20 =>
    match dmaCtl true (f 2 1) with
    | none => none
    | some (hint, list, base) =>
      match dmaVa l list with
      | some (va, n) => if z 3 1 && decide (f 10 3 < 2 ^ 22) then some (.dmaIn wait hint list base va n (f 10 3) (f 13 3)) else none
      | none => none
  | 0x21 =>
    match dmaCtl false (f 2 1) with
    | none => none
    | some (hint, list, base) =>
      match dmaVa l list with
      | some (va, n) => if z 3 1 && decide (f 10 3 < 2 ^ 22) then some (.dmaOut wait hint list base va n (f 10 3) (f 13 3)) else none
      | none => none
  | 0x30 =>
    if f 4 1 < 8 && decide (f 5 1 < 32) && z 6 2 && decide (f 8 4 < 2 ^ 22) && z 12 4 then
      some (.send wait (f 2 2) (f 4 1) (f 5 1) (f 8 4)) else none
  | 0x31 =>
    if z 2 2 && decide (f 4 1 < 8) && z 6 2 && decide (f 8 4 < 2 ^ 22) && z 12 4 then some (.recv wait (f 4 1) (f 5 1) (f 8 4)) else none
  | 0x32 =>
    if z 3 2 && z 6 2 && decide (f 8 4 < 2 ^ 22) && z 12 4 then some (.prismSend wait (f 2 1) (f 5 1) (f 8 4)) else none
  | 0x40 =>
    if f 2 1 < 16 && decide (f 3 1 < 2) && z 6 10 then some (.barrier wait (f 2 1) (f 3 1 == 1) (f 4 2)) else none
  | 0x41 => if f 2 1 < 16 && z 3 1 && z 8 8 then some (.waitEvent wait (f 2 1) (f 4 4)) else none
  | 0x7F => if z 2 14 then some (.fin wait) else none
  | _ => none

/-- The operation that 16 bytes spell. -/
def decodeOp (l : List Byte) : Option Op := (opWaitByte l).bind fun w => if l.length = 16 then opFields w l else none

/-- The operations that `n` times 16 bytes spell; none where one is not well formed. -/
def decodeOps : Nat → List Byte → Option (List Op)
  | 0, _ => some []
  | n + 1, l =>
    match decodeOp (l.take 16), decodeOps n (l.drop 16) with
    | some o, some r => some (o :: r)
    | _, _ => none

/-! ## The segment container -/

/-- Program table entry i (R129) with its program. -/
def programAt (c : List Byte) (table i : Nat) : Option Program :=
  let a := table + 32 * i
  let off := field c (a + 4) 4
  let n := field c (a + 8) 4
  if within c a 32 && zeroBytes c (a + 3) 1 && zeroBytes c (a + 12) 4 && off % 16 == 0 && decide (1 ≤ n) &&
      decide (n ≤ 2 ^ 24) && within c off (16 * n) then
    (decodeOps n (c.drop off)).map fun ops =>
      { offset := off, logicalCore := field c a 2, group := field c (a + 2) 1
        queueMap := (List.range 8).map fun q => field c (a + 16 + 2 * q) 2, ops := ops }
  else none

/-- Prism table entry i (R130). -/
def prismAt (c : List Byte) (table i : Nat) : Option PrismEntry :=
  let a := table + 80 * i
  if within c a 80 && zeroBytes c (a + 3) 13 && decide (field c (a + 2) 1 < 8) then
    some { source := field c a 2, queue := field c (a + 2) 1, leaves := bitList (slice c (a + 16) 64) }
  else none

/-- All the answers of a list, if there is one everywhere. -/
def allSome {α : Type} : List (Option α) → Option (List α)
  | [] => some []
  | none :: _ => none
  | some a :: r => (allSome r).map (a :: ·)

/-- The container's header rules (R128, R132): magic, version, sizes, reserved fields and codes, CRC. -/
def segHeaderOk (c : List Byte) (size : Nat) : Bool :=
  slice c 0 4 == [0x56, 0x58, 0x53, 0x47] && field c 4 2 == 0x0100 && field c 6 2 == 128 && decide (field c 8 1 ≤ 1) &&
    decide (field c 9 1 ≤ 1) && zeroBytes c 0x16 2 && zeroBytes c 0x28 88 && field c 0x10 4 % 16 == 0 &&
    (if field c 0x14 2 = 0 then field c 0x18 4 == 0 else field c 0x18 4 % 16 == 0) && decide (field c 0x14 2 ≤ 256) &&
    decide (128 ≤ size) && within c 0 size &&
    crc32 (slice c 0 0x24 ++ toLe 4 0 ++ slice c 0x28 (size - 0x28)) == field c 0x24 4

/-- The segment that a container's bytes spell (R127 to R130); none where R132 refuses them already for their form. The
container is what lies within total_size of the buffer. -/
def decodeSegment (buf : List Byte) : Option Segment :=
  let size := field buf 0x1C 4
  let c := buf.take size
  let n := field c 0x0A 2
  let m := field c 0x14 2
  if segHeaderOk c size then
    match allSome ((List.range n).map (programAt c (field c 0x10 4))), allSome ((List.range m).map (prismAt c (field c 0x18 4))) with
    | some ps, some rs =>
      some { streamed := field c 8 1 == 1, twoPlane := field c 9 1 == 1, coreCount := n, weightSet := field c 0x0C 4
             soloEstimate := field c 0x20 4, size := size, programs := ps, prisms := rs }
    | _, _ => none
  else none

/-! ## The weight set container -/

/-- An index entry (R530); the plane byte of a streamed rung is reserved. -/
def wsEntryAt (c : List Byte) (streamed : Bool) (a : Nat) : Option WsEntry :=
  if zeroBytes c (a + 7) 1 && (if streamed then field c (a + 6) 1 == 0 else decide (field c (a + 6) 1 ≤ 1)) &&
      decide (field c (a + 4) 2 < 4096) then
    some { chunk := field c a 4, engine := field c (a + 4) 2, plane := field c (a + 6) 1 }
  else none

/-- Rung i of the header (R529) with its index entries. -/
def wsRungAt (c : List Byte) (i : Nat) : Option WsRung :=
  let a := 0x50 + 16 * i
  let streamed := field c (a + 2) 1 == 1
  let n := field c (a + 4) 4
  let off := field c (a + 8) 4
  if decide (field c (a + 2) 1 ≤ 1) && zeroBytes c (a + 3) 1 && zeroBytes c (a + 12) 4 && within c off (8 * n) then
    (allSome ((List.range n).map fun k => wsEntryAt c streamed (off + 8 * k))).map fun es =>
      { coreCount := field c a 2, streamed := streamed, entries := es }
  else none

/-- The header and index that a weight set container's bytes spell; none where a field breaks R529 or R530. -/
def decodeWeightSet (c : List Byte) : Option WsHeader :=
  let mode := field c 6 1
  let rungs := field c 0x14 2
  if within c 0 256 && slice c 0 4 == [0x56, 0x58, 0x57, 0x53] && field c 4 2 == 0x0100 && decide (mode ≤ 1) &&
      zeroBytes c 7 1 && decide (1 ≤ field c 0x0C 4) && zeroBytes c 0x16 2 && zeroBytes c 0x1C 4 && zeroBytes c 0x4C 4 &&
      zeroBytes c 0xD0 32 && field c 8 4 != 0 && field c 0x48 4 % 16 == 0 && decide (1 ≤ rungs) && decide (rungs ≤ 8) &&
      zeroBytes c (0x50 + 16 * rungs) (16 * (8 - rungs)) &&
      (mode == 1 || (field c 0x18 4 == 0 && zeroBytes c 0x20 40)) &&
      within c (field c 0x48 4) (65552 * field c 0x0C 4) then
    (allSome ((List.range rungs).map (wsRungAt c))).map fun rs =>
      { sealedKey := mode == 1, headerSet := field c 8 4, chunkCount := field c 0x0C 4, chunkOffset := field c 0x48 4
        bindingSet := field c 0x18 4, rungs := rs }
  else none

end Sys2Proof.Machine
end

