-- ==== Sys2Proof/Machine/Fp.lean ====
section
/-! DEFINITION. Number formats of the vector engine (R145, R146): a pattern is decoded to an exact number, an operation is
computed exactly, and one rounding to nearest even encodes the result. -/

namespace Sys2Proof

/-- An exact number: a NaN, an infinity, or sign, magnitude `m` and exponent `e`, with value m times 2 to the e. -/
inductive Num where
  | nan
  | inf (neg : Bool)
  | fin (neg : Bool) (m : Nat) (e : Int)
  deriving DecidableEq, Repr

/-- A floating-point format: exponent and mantissa bits, whether it is E4M3 (no infinity, one NaN mantissa, OCP 8-bit
specification), and whether subnormals are flushed (FP32 and BF16, R146). -/
structure Fmt where
  code : Nat
  ebits : Nat
  mbits : Nat
  e4m3 : Bool
  flush : Bool
  deriving DecidableEq, Repr

namespace Fmt
def bf16 : Fmt := ⟨0, 8, 7, false, true⟩
def e4m3Fmt : Fmt := ⟨1, 4, 3, true, false⟩
def e5m2 : Fmt := ⟨2, 5, 2, false, false⟩
def fp32 : Fmt := ⟨3, 8, 23, false, true⟩
def fp16 : Fmt := ⟨7, 5, 10, false, false⟩
def bias (f : Fmt) : Nat := 2 ^ (f.ebits - 1) - 1
/-- Bits of one pattern. -/
def width (f : Fmt) : Nat := 1 + f.ebits + f.mbits
/-- Magnitude bits of the largest finite value. -/
def maxFinite (f : Fmt) : Nat :=
  if f.e4m3 then (2 ^ f.ebits - 1) * 2 ^ f.mbits + (2 ^ f.mbits - 2)
  else (2 ^ f.ebits - 2) * 2 ^ f.mbits + (2 ^ f.mbits - 1)
end Fmt

/-- Exact number of a pattern (R146: FP32 and BF16 subnormals read as zero of their sign). -/
def fpDecode (f : Fmt) (w : Nat) : Num :=
  let neg := bit w (f.ebits + f.mbits) == 1
  let ex := bits w (f.ebits + f.mbits - 1) f.mbits
  let ma := w % 2 ^ f.mbits
  if ex = 0 then
    if f.flush then .fin neg 0 0 else .fin neg ma (1 - (f.bias : Int) - f.mbits)
  else if f.e4m3 && ex = 2 ^ f.ebits - 1 && ma = 2 ^ f.mbits - 1 then .nan
  else if !f.e4m3 && ex = 2 ^ f.ebits - 1 then (if ma = 0 then .inf neg else .nan)
  else .fin neg (2 ^ f.mbits + ma) ((ex : Int) - f.bias - f.mbits)

/-- A NaN pattern; the payload is free (log 9). -/
def fpNan (f : Fmt) : Nat :=
  let p := Config.nanPayload f.code
  let sgn := p % 2 * 2 ^ (f.ebits + f.mbits)
  if f.e4m3 then sgn + (2 ^ (f.ebits + f.mbits) - 1)
  else sgn + (2 ^ f.ebits - 1) * 2 ^ f.mbits + 2 ^ (f.mbits - 1) + p / 2 % 2 ^ (f.mbits - 1)

/-- `m / 2^k` rounded to nearest, ties to even. -/
def rneShift (m k : Nat) : Nat :=
  let q := m / 2 ^ k
  let r := m % 2 ^ k
  if k = 0 then m
  else if r * 2 < 2 ^ k then q
  else if 2 ^ k < r * 2 then q + 1
  else q + q % 2

/-- Pattern of an exact number: nearest, ties to even; beyond the largest finite value, and for infinities, that value
(R146). -/
def fpEncode (f : Fmt) : Num → Nat
  | .nan => fpNan f
  | .inf neg => b2n neg * 2 ^ (f.ebits + f.mbits) + f.maxFinite
  | .fin neg m e =>
    let sgn := b2n neg * 2 ^ (f.ebits + f.mbits)
    if m = 0 then sgn
    else
      let top : Int := (Nat.log2 m : Int) + e
      let emin : Int := 1 - (f.bias : Int)
      let q : Int := (if top < emin then emin else top) - f.mbits
      let M := if q ≤ e then m * 2 ^ (e - q).toNat else rneShift m (q - e).toNat
      -- M may have rounded up to the next power of two; the sum below carries it into the exponent field
      let mag : Nat := if M < 2 ^ f.mbits then M else ((q - (emin - f.mbits)).toNat) * 2 ^ f.mbits + M
      if M < 2 ^ f.mbits && f.flush then sgn
      else if f.maxFinite < mag then sgn + f.maxFinite
      else sgn + mag

/-- Exact integer as a number. -/
def Num.ofInt (x : Int) : Num := .fin (decide (x < 0)) x.natAbs 0

/-- Signed magnitude scaled to exponent `e0`, which lies at or below the number's exponent. -/
def Num.scaled (neg : Bool) (m : Nat) (e e0 : Int) : Int :=
  let v : Int := (m * 2 ^ (e - e0).toNat : Nat)
  if neg then -v else v

/-- Exact sum. -/
def Num.add : Num → Num → Num
  | .nan, _ => .nan
  | _, .nan => .nan
  | .inf a, .inf b => if a = b then .inf a else .nan
  | .inf a, _ => .inf a
  | _, .inf b => .inf b
  | .fin a m e, .fin b n f =>
    let e0 := if e < f then e else f
    let x := Num.scaled a m e e0 + Num.scaled b n f e0
    if x = 0 then .fin (a && b) 0 0 else .fin (decide (x < 0)) x.natAbs e0

def Num.neg : Num → Num
  | .nan => .nan
  | .inf a => .inf (!a)
  | .fin a m e => .fin (!a) m e

/-- Exact product. -/
def Num.mul : Num → Num → Num
  | .nan, _ => .nan
  | _, .nan => .nan
  | .inf a, .inf b => .inf (a != b)
  | .inf a, .fin b m _ => if m = 0 then .nan else .inf (a != b)
  | .fin a m _, .inf b => if m = 0 then .nan else .inf (a != b)
  | .fin a m e, .fin b n f => .fin (a != b) (m * n) (e + f)

/-- Quotient with 64 guard bits and a sticky bit, so that one rounding of it is the rounding of the exact quotient. -/
def Num.div : Num → Num → Num
  | .nan, _ => .nan
  | _, .nan => .nan
  | .inf _, .inf _ => .nan
  | .inf a, .fin b _ _ => .inf (a != b)
  | .fin a _ _, .inf b => .fin (a != b) 0 0
  | .fin a m e, .fin b n f =>
    if n = 0 then (if m = 0 then .nan else .inf (a != b))
    else
      let t := m * 2 ^ 64
      .fin (a != b) (2 * (t / n) + (if t % n = 0 then 0 else 1)) (e - f - 65)

/-- `a < b` for numbers; false where either is a NaN. -/
def Num.lt : Num → Num → Bool
  | .nan, _ => false
  | _, .nan => false
  | .inf a, .inf b => a && !b
  | .inf a, .fin _ _ _ => a
  | .fin _ _ _, .inf b => !b
  | .fin a m e, .fin b n f =>
    let e0 := if e < f then e else f
    decide (Num.scaled a m e e0 < Num.scaled b n f e0)

def Num.isNan : Num → Bool
  | .nan => true
  | _ => false

/-- Nearest integer, ties to even, saturated to [lo, hi]; a NaN gives 0 (R146). -/
def Num.toInt (lo hi : Int) : Num → Int
  | .nan => 0
  | .inf neg => if neg then lo else hi
  | .fin neg m e =>
    let r : Int := if 0 ≤ e then (m * 2 ^ e.toNat : Nat) else (rneShift m (-e).toNat : Nat)
    clampInt lo hi (if neg then -r else r)

/-- Bits of one element of a format code (R145). -/
def elemBits : Nat → Nat
  | 0 => 16
  | 1 => 8
  | 2 => 8
  | 3 => 32
  | 4 => 32
  | 5 => 8
  | 6 => 4
  | _ => 16

/-- Elements of one 1 KiB register (R145). -/
def elemsPerReg (c : Nat) : Nat := 8192 / elemBits c

/-- Exact number of an element pattern of a format code (R145). -/
def elemDecode (c w : Nat) : Num :=
  match c with
  | 0 => fpDecode Fmt.bf16 w
  | 1 => fpDecode Fmt.e4m3Fmt w
  | 2 => fpDecode Fmt.e5m2 w
  | 3 => fpDecode Fmt.fp32 w
  | 4 => Num.ofInt (signed 32 w)
  | 5 => Num.ofInt (signed 8 w)
  | 6 => Num.ofInt (signed 4 w)
  | _ => fpDecode Fmt.fp16 w

/-- Pattern of a number in a format code, rounded once (R146). -/
def elemEncode (c : Nat) (x : Num) : Nat :=
  match c with
  | 0 => fpEncode Fmt.bf16 x
  | 1 => fpEncode Fmt.e4m3Fmt x
  | 2 => fpEncode Fmt.e5m2 x
  | 3 => fpEncode Fmt.fp32 x
  | 4 => ((x.toInt (-(2 ^ 31)) (2 ^ 31 - 1)) % (2 ^ 32)).toNat
  | 5 => ((x.toInt (-128) 127) % 256).toNat
  | 6 => ((x.toInt (-8) 7) % 16).toNat
  | _ => fpEncode Fmt.fp16 x

/-- The FP32 rounding of an exact number, as a number again (R145: arithmetic runs internally in FP32). -/
def fp32Round (x : Num) : Num := fpDecode Fmt.fp32 (fpEncode Fmt.fp32 x)

def fp32Add (a b : Num) : Num := fp32Round (a.add b)
def fp32Mul (a b : Num) : Num := fp32Round (a.mul b)
def fp32Div (a b : Num) : Num := fp32Round (a.div b)

/-- The larger of two numbers; a NaN where either is one (R147). -/
def numMax (a b : Num) : Num := if a.isNan || b.isNan then .nan else if a.lt b then b else a

/-- One level of the pairwise tree of R147 and R149: neighbours joined, an odd last element passed on (log 10). -/
def pairUp {α : Type} (f : α → α → α) : List α → List α
  | a :: b :: r => f a b :: pairUp f r
  | l => l

/-- Fold a list by the pairwise tree, level by level; the fuel is the length. -/
def treeFold {α : Type} (f : α → α → α) (z : α) : Nat → List α → α
  | _, [] => z
  | _, [a] => a
  | 0, a :: _ => a
  | n + 1, l => treeFold f z n (pairUp f l)

/-- FP32 sum of a list in the fixed pairwise tree. -/
def treeSum (l : List Num) : Num := treeFold fp32Add (.fin false 0 0) l.length l

/-! ## Special functions (R148)

The exact value of each function, to a relative error below 2 to the -150, and the silicon's value within the bounds of R148
of it. Fixed-point numbers here carry 192 fraction bits. -/

/-- Unit of the fixed-point numbers. -/
def fix1 : Int := 2 ^ 192
/-- Natural logarithm of 2. -/
def fixLn2 : Int := 4350955369971217654477563090224794165364344896676135745069
/-- Twice the square root of 2 / pi, of the tanh form of GELU: GELU(x) = x times sigma of this times (x + 0.044715 x^3). -/
def fixGelu : Int := 10016805122507811459578197244997354253072253424553930005347

/-- exp of a fixed-point number in [0, ln 2) by its series, highest term first. -/
def expSeries (r : Int) : Nat → Int → Int
  | 0, acc => acc
  | n + 1, acc => expSeries r n (fix1 + r * acc / ((n + 1) * fix1))

/-- exp of a fixed-point number. -/
def expFix (z : Int) : Num :=
  let k := z / fixLn2
  .fin false (expSeries (z - k * fixLn2) 40 fix1).natAbs (k - 192)

/-- A number in fixed point, held within +-512. -/
def toFix : Num → Int
  | .nan => 0
  | .inf neg => if neg then -(512 * fix1) else 512 * fix1
  | .fin neg m e =>
    let v : Int := if 0 ≤ e + 192 then ((m * 2 ^ (e + 192).toNat : Nat) : Int) else ((m / 2 ^ (-(e + 192)).toNat : Nat) : Int)
    clampInt (-(512 * fix1)) (512 * fix1) (if neg then -v else v)

/-- One, with bits to spare for a division. -/
def numOne : Num := .fin false (2 ^ 200) (-200)

/-- x times the logistic function of a fixed-point number z. -/
def timesLogistic (x : Num) (z : Int) : Num :=
  if 0 ≤ z then x.mul (numOne.div (numOne.add (expFix (-z))))
  else
    match x.mul (expFix z) with
    | .fin n m e => (Num.fin n (m * 2 ^ 200) (e - 200)).div (numOne.add (expFix z))
    | y => y

/-- Integer square root, bit by bit from bit `k - 1`. -/
def isqrtBits (n : Nat) : Nat → Nat → Nat
  | 0, r => r
  | k + 1, r => isqrtBits n k (if (r + 2 ^ k) * (r + 2 ^ k) ≤ n then r + 2 ^ k else r)

/-- Exact value of a special function; none where it has none (the reciprocal of 0, rsqrt of a number not above 0, SiLU and
GELU of minus infinity), where the spec states no result. -/
def specialRef (k : Nat) (x : Num) : Option Num :=
  match k, x with
  | _, .nan => some .nan
  | 0, .inf n => some (if n then .fin false 0 0 else .inf false)
  | 0, x => some (expFix (toFix x))
  | 1, .inf n => some (.fin n 0 0)
  | 1, .fin n m e => if m = 0 then none else some (numOne.div (.fin n m e))
  | 2, .inf n => if n then none else some (.fin false 0 0)
  | 2, .fin n m e =>
    if n || m == 0 then none
    else
      let m2 := if e % 2 = 0 then m else 2 * m
      some (.fin false (isqrtBits (2 ^ 400 / m2) 201 0) (-200 - e / 2))
  | _, .inf n => if n then none else some (.inf false)
  | 3, x => some (timesLogistic x (toFix x))
  | _, x =>
    let v := toFix x
    some (timesLogistic x (clampInt (-(512 * fix1)) (512 * fix1)
      (fixGelu * (v + 44715 * (v * v * v / (fix1 * fix1)) / 1000000) / fix1)))

/-- A candidate lies within `b` units in the last place of FP32 of an exact value. -/
def withinUlp (b : Nat) (c r : Num) : Bool :=
  match c, r with
  | .fin _ _ _, .fin _ m e =>
    let top : Int := if m = 0 then -126 else (Nat.log2 m : Int) + e
    match c.add r.neg with
    | .fin _ dm de => !(Num.fin false b ((if top < -126 then -126 else top) - 23)).lt (.fin false dm de)
    | _ => false
  | _, _ => false

/-- Apply a special function in FP32: the value of the silicon, which lies within 2 units in the last place of the exact value
for exp, reciprocal and rsqrt and within 4 for SiLU and GELU (R148). Where the free value of `Config.specialFn` does not lie
there the exact value is rounded instead, so that every silicon the bounds allow is one choice of `Config.specialFn`; where
there is no exact value the free value stands as it is (log 9). -/
def specialNum (k : Nat) (x : Num) : Num :=
  let cand := fpDecode Fmt.fp32 (Config.specialFn k (BitVec.ofNat 32 (fpEncode Fmt.fp32 x))).toNat
  match specialRef k x with
  | none => cand
  | some r => if withinUlp (if k ≤ 2 then 2 else 4) cand r then cand else fp32Round r

end Sys2Proof
end

