-- ==== Sys2Proof/Machine/Operands.lean ====
section
/-! DEFINITION. Operand forms of the core's operations (05 R134 to R140, R145 to R150, R565): the pass control word, operand
addresses, register ranges; the checks of SEGMENT_LOAD over a container (R132); and the fit of a segment to cores (R131). -/

namespace Sys2Proof.Machine

/-! ## The pass control word (R71) -/

def pcwW4 (w : Nat) : Bool := bits w 31 30 == 1
def pcwA4 (w : Nat) : Bool := bit w 29 == 1
def pcwRange (w : Nat) : Nat := bits w 28 27
def pcwRows (w : Nat) : Nat := bits w 26 25
def pcwRerange (w : Nat) : Bool := bits w 24 23 == 1
def pcwOver (w : Nat) : Bool := bit w 22 == 1
def pcwBlock (w : Nat) : Nat := bits w 5 0

/-- No reserved value, no nonzero reserved field, no odd block in W4. -/
def pcwOk (w : Nat) : Bool :=
  decide (w < 2 ^ 32) && decide (bits w 31 30 ≤ 1) && decide (pcwRows w ≤ 2) && decide (bits w 24 23 ≤ 1) &&
    bits w 21 6 == 0 && (!pcwW4 w || pcwBlock w % 2 == 0)

/-- Bytes of one input (R137). -/
def inputLen (w : Nat) : Nat := if pcwA4 w then 128 else 256

/-- Input address of engine e in repeat k (R137). -/
def inputAddr (input es ts e k : Nat) : Nat := input + 128 * (e * es + k * ts)

/-- Engines that a mask names. -/
def maskEngines (mask : Nat) : List Nat := (List.range 8).filter fun e => bit mask e == 1

/-- First block that repeat k targets, and how many (R137). -/
def passBlock (w k : Nat) : Nat := pcwBlock w + (if pcwW4 w then 2 * k else k)
def passBlocks (w : Nat) : Nat := if pcwW4 w then 2 else 1

/-! ## Operand addresses (R136) -/

/-- A range of the data region; an operand of no bytes still names an address of the region (R136). -/
def inData (a n : Nat) : Bool := decide (a < Config.dataRegion) && decide (a + n ≤ Config.dataRegion)

/-- A range of the accumulator window: bit 21 set, bits [20:16] and [9:0] zero, within blocks 0 to 63. -/
def inWindow (a n : Nat) : Bool :=
  decide (2 ^ 21 ≤ a) && decide (a < 2 ^ 22) && bits a 20 16 == 0 && bits a 9 0 == 0 &&
    decide (a - 2 ^ 21 + n ≤ 65536)

def inEither (a n : Nat) : Bool := inData a n || inWindow a n

/-- Whether a PASS keeps R71, R136 and R137. -/
def passOk (mask rep w input es ts : Nat) : Bool :=
  decide (mask < 256) && decide (rep < 64) && decide (es < 65536) && decide (ts < 65536) && pcwOk w &&
    decide (passBlock w rep + passBlocks w ≤ 64) && inData input 0 &&
    ((List.range (rep + 1)).all fun k => (maskEngines mask).all fun e => inData (inputAddr input es ts e k) (inputLen w))

/-! ## Vector operations (R145, R147, R149, R150, R565) -/

def regsOk (first n : Nat) : Bool := decide (first < 32) && decide (first + n ≤ 32)

/-- Formats that hold arithmetic (R145: codes 5 to 7 are storage only). -/
def arithFmt (f : Nat) : Bool := decide (f ≤ 4)

/-- Registers that VCVT writes (R565). -/
def cvtRegs (f t count : Nat) : Nat := ceilDiv (count * elemsPerReg f) (elemsPerReg t)

/-- Whether VCVT's ranges are allowed to overlap as they do (R565). -/
def cvtOverlapOk (f t vd va count : Nat) : Bool :=
  let n := cvtRegs f t count
  decide (vd + n ≤ va) || decide (va + count ≤ vd) || (vd == va && decide (elemBits t ≤ elemBits f))

/-- Head dimension of mod[1:0] (R149). -/
def headDim (m : Nat) : Nat := 64 * 2 ^ (m % 4)

/-- Bytes of a KV tile (R424). -/
def tileBytes (k4 : Bool) (d : Nat) : Nat := if k4 then 64 * d + 64 else 128 * d

def vloadOk (vd addr count : Nat) : Bool := decide (count ≤ 32) && regsOk vd count && inEither addr (count * 1024)
def vstoreOk (va addr count : Nat) : Bool := decide (count ≤ 32) && regsOk va count && inData addr (count * 1024)
def vbinOk (fmt vd va vb count : Nat) (scalar : Bool) : Bool :=
  arithFmt fmt && decide (count ≤ 32) && regsOk vd count && regsOk va count && regsOk vb (if scalar then 1 else count)
def vfmaOk (fmt vd va vb vc count : Nat) (scalar : Bool) : Bool := vbinOk fmt vd va vb count scalar && regsOk vc count
def vredOk (fmt vd va count : Nat) : Bool := arithFmt fmt && decide (count ≤ 32) && regsOk vd 1 && regsOk va count
def vsfnOk (fmt vd va count kind : Nat) : Bool :=
  arithFmt fmt && decide (count ≤ 32) && decide (kind ≤ 4) && regsOk vd count && regsOk va count
def vcvtOk (fmt vd va vb count target : Nat) : Bool :=
  decide (fmt ≤ 7) && decide (target ≤ 7) && decide (count ≤ 32) && regsOk va count && regsOk vb 1 &&
    (count == 0 || (regsOk vd (cvtRegs fmt target count) && cvtOverlapOk fmt target vd va count))
def vaccOk (vd va vb addr count : Nat) : Bool :=
  decide (count ≤ 32) && regsOk vd count && regsOk va 1 && regsOk vb 1 && inWindow addr (count * 1024)
def vropeOk (fmt vd va vb vc count : Nat) : Bool :=
  arithFmt fmt && decide (count ≤ 32) && regsOk vd count && regsOk va count && regsOk vb count && regsOk vc count
def vqkOk (vd va vb addr count : Nat) (k4 : Bool) (hd heads : Nat) : Bool :=
  decide (count ≤ 1) && decide (hd ≤ 2) && decide (1 ≤ heads) && decide (heads ≤ 8) && regsOk vd heads &&
    regsOk va heads && regsOk vb 1 && inData addr (count * tileBytes k4 (headDim hd))
def vpvOk (vd va addr count : Nat) (k4 : Bool) (hd heads : Nat) : Bool := vqkOk vd va 0 addr count k4 hd heads
def vtopkOk (vd va vc count k : Nat) (lists : Bool) : Bool :=
  decide (count ≤ 32) && decide (1 ≤ k) && decide (k ≤ 1024) && (!lists || count % 8 == 0) && regsOk vd 8 &&
    regsOk va count && regsOk vc 1
def vsampleOk (vd va addr count : Nat) : Bool :=
  decide (count ≤ 32) && regsOk vd 1 && regsOk va 8 && inData addr 32

/-- A VEC operation by its encoded fields (R135, R147). -/
def vecOk (vop fmt vd va vb vc addr count md : Nat) : Bool :=
  let scalar := bit md 0 == 1
  let plain := inData addr 0
  decide (fmt ≤ 7) && decide (vd < 32) && decide (va < 32) && decide (vb < 32) && decide (vc < 32) &&
  match vop with
  | 0x01 => vloadOk vd addr count
  | 0x02 => vstoreOk va addr count
  | 0x03 => plain && vbinOk fmt vd va vb count scalar
  | 0x04 => plain && vbinOk fmt vd va vb count scalar
  | 0x05 => plain && vfmaOk fmt vd va vb vc count scalar
  | 0x06 => plain && vbinOk fmt vd va vb count scalar
  | 0x07 => plain && vredOk fmt vd va count
  | 0x08 => plain && vredOk fmt vd va count
  | 0x09 => plain && vsfnOk fmt vd va count (bits md 3 1)
  | 0x0A => plain && vcvtOk fmt vd va vb count (bits md 7 4)
  | 0x0B => fmt == 3 && vaccOk vd va vb addr count
  | 0x0C => plain && vropeOk fmt vd va vb vc count
  | 0x10 => vqkOk vd va vb addr count (bit md 4 == 1) (bits md 1 0) (bits md 7 5 + 1)
  | 0x11 => vpvOk vd va addr count (bit md 4 == 1) (bits md 1 0) (bits md 7 5 + 1)
  | 0x18 => plain && vtopkOk vd va vc count (if bits md 10 0 = 0 then 1024 else bits md 10 0) (bit md 15 == 1)
  | 0x19 => vsampleOk vd va addr count
  | _ => false

/-- DMA operands (R135, R136, R139). -/
def dmaOk (hint : Nat) (last list : Bool) (base va listLen local_ length : Nat) : Bool :=
  decide (hint ≤ (if last then 2 else 1)) && decide (base ≤ 7) && decide (length ≤ Config.dataRegion) &&
    (if list then inData va (8 * listLen) && decide (listLen < 65536) && inData local_ (listLen * length)
     else decide (va < 2 ^ 48) && inData local_ length)

def flitsOk (n : Nat) : Bool := decide (1 ≤ n) && decide (n ≤ 16)

/-! ## A program (R132) -/

/-- The wait_mask of an operation. -/
def opWait : Op → Nat
  | .pass w _ _ _ _ _ _ => w
  | .planeLoad w _ _ _ => w
  | .planeSwap w _ => w
  | .vec w _ _ _ _ _ _ _ _ _ => w
  | .dmaIn w _ _ _ _ _ _ _ => w
  | .dmaOut w _ _ _ _ _ _ _ => w
  | .send w _ _ _ _ => w
  | .recv w _ _ _ => w
  | .prismSend w _ _ _ => w
  | .barrier w _ _ _ => w
  | .waitEvent w _ _ => w
  | .fin w => w

def isFin : Op → Bool
  | .fin _ => true
  | _ => false

/-- END stands last and nowhere else. -/
def endsWithFin : List Op → Bool
  | [] => false
  | [o] => isFin o
  | o :: r => !isFin o && endsWithFin r

/-- queue_map entry of a logical core's queue. -/
def qmapOf (g : Segment) (core q : Nat) : Nat := ((g.programs[core]?).bind (·.queueMap[q]?)).getD 0xFFFF

/-- One operation of logical core `me`, apart from the rules over several operations. -/
def opOk (g : Segment) (me : Nat) (o : Op) : Bool :=
  decide (opWait o < 32) &&
  match o with
  | .pass _ mask rep w input es ts => passOk mask rep w input es ts
  | .planeLoad _ mask image stride => g.streamed && decide (mask < 256) && decide (image < 2 ^ 32) && decide (stride < 65536)
  | .planeSwap _ mask => decide (mask < 256)
  | .vec _ vop fmt vd va vb vc addr count md => vecOk vop fmt vd va vb vc addr count md
  | .dmaIn _ hint list base va n dst len => dmaOk hint true list base va n dst len
  | .dmaOut _ hint list base va n src len => dmaOk hint false list base va n src len
  | .send _ dest q n src =>
    flitsOk n && decide (q < 8) && inEither src (128 * n) && dest != me && decide (dest < g.coreCount) && qmapOf g dest q == me
  | .recv _ q n dst => flitsOk n && decide (q < 8) && inData dst (128 * n) && qmapOf g me q != 0xFFFF
  | .prismSend _ p n src =>
    flitsOk n && inEither src (128 * n) &&
      match g.prisms[p]? with
      | some e => e.source == me
      | none => false
  | .barrier _ b _ parts => decide (b < 16) && decide (parts ≤ g.coreCount)
  | .waitEvent _ e t => decide (e < 16) && decide (t < 2 ^ 32)
  | .fin _ => true

/-- Blocks that a PASS targets over all its repeats. -/
def opBlocks (w rep : Nat) : List Nat :=
  (List.range (rep + 1)).flatMap fun k => (List.range (passBlocks w)).map (· + passBlock w k)

/-- R72: the later PASS operations that count as the same pass as one with this mask, word and repeat agree with its
acc_mode. The search stops at the first operation whose wait_mask names unit E. -/
def samePassOk (mask w rep : Nat) : List Op → Bool
  | [] => true
  | o :: r =>
    if bit (opWait o) 0 = 1 then true
    else
      (match o with
       | .pass _ m2 rep2 w2 _ _ _ =>
         !((maskEngines mask).all (fun e => bit m2 e == 0) && (opBlocks w rep).any (fun b => (opBlocks w2 rep2).contains b)) ||
           pcwOver w == pcwOver w2
       | _ => true) && samePassOk mask w rep r

/-- R89: no PLANE_LOAD after a PLANE_SWAP of one of its engines without unit E ordering them. -/
def loadAfterSwapOk (mask : Nat) : List Op → Bool
  | [] => true
  | o :: r =>
    if bit (opWait o) 0 = 1 then true
    else
      (match o with
       | .planeLoad _ m2 _ _ => (maskEngines mask).all fun e => bit m2 e == 0
       | _ => true) && loadAfterSwapOk mask r

/-- The rules over several operations of one program. -/
def pairsOk : List Op → Bool
  | [] => true
  | o :: r =>
    (match o with
     | .pass _ mask rep w _ _ _ => samePassOk mask w rep r
     | .planeSwap _ mask => loadAfterSwapOk mask r
     | _ => true) && pairsOk r

def progOk (g : Segment) (i : Nat) (p : Program) : Bool :=
  p.logicalCore == i && decide (p.group < 32) && p.queueMap.length == 8 &&
    (p.queueMap.all fun q =>
      q == 0xFFFF || decide (q < g.coreCount) || (decide (0x8000 ≤ q) && decide (q < 0x8000 + g.prisms.length))) &&
    decide (1 ≤ p.ops.length) && decide (p.ops.length ≤ 2 ^ 24) && endsWithFin p.ops && p.ops.all (opOk g i) && pairsOk p.ops

/-- A prism and its leaves agree, both ways (R130). -/
def prismOk (g : Segment) (n : Nat) (e : PrismEntry) : Bool :=
  decide (e.source < g.coreCount) && decide (e.queue < 8) &&
    e.leaves.all fun l => decide (l < g.coreCount) && qmapOf g l e.queue == 0x8000 + n

/-- A queue map entry that names a prism lies at a leaf, at its leaf queue (R130). -/
def qmapPrismsOk (g : Segment) (i : Nat) (p : Program) : Bool :=
  ((List.range 8).zip p.queueMap).all fun x =>
    x.2 == 0xFFFF || decide (x.2 < 0x8000) ||
      match g.prisms[x.2 - 0x8000]? with
      | some e => e.queue == x.1 && e.leaves.contains i
      | none => false

/-! ## The fit (R131) -/

/-- Sizes of the groups that a segment uses, by group number. -/
def groupSizes (g : Segment) : List (Nat × Nat) :=
  ((List.range 32).map fun k => (k, (g.programs.filter fun p => p.group == k).length)).filter fun x => x.2 != 0

/-- Cores of a facet in each cluster that holds some. -/
def clusterCores (cores : NSet) : List (Nat × List Nat) :=
  ((List.range 32).map fun k => (k, cores.filter fun c => clusterOfCore c == k)).filter fun x => !x.2.isEmpty

/-- The clusters in the order in which a group tries them: those that hold its former cores first. -/
def groupOrder (pref : List Nat) (l : List (Nat × List Nat)) : List (Nat × List Nat) :=
  let mine (x : Nat × List Nat) : Bool := pref.any fun c => clusterOfCore c == x.1
  l.filter mine ++ l.filter fun x => !mine x

/-- The cores that a group takes in a cluster: its former cores first. -/
def groupCores (pref : List Nat) (n : Nat) (l : List Nat) : List Nat :=
  ((l.filter pref.contains) ++ l.filter fun c => !pref.contains c).take n

/-- Remove cores from a cluster's free ones. -/
def dropCores (k : Nat) (gone : List Nat) (l : List (Nat × List Nat)) : List (Nat × List Nat) :=
  l.map fun x => if x.1 = k then (x.1, x.2.filter fun c => !gone.contains c) else x

/-- Give each group a cluster with enough free cores, keeping former cores where the rung allows (R363 step 2; log 19).
Answers group and cores. -/
def assignGroups (pref : Nat → List Nat) : List (Nat × Nat) → List (Nat × List Nat) → Option (List (Nat × List Nat))
  | [], _ => some []
  | (g, n) :: rest, av =>
    (groupOrder (pref g) av).findSome? fun x =>
      if n ≤ x.2.length then
        (assignGroups pref rest (dropCores x.1 (groupCores (pref g) n x.2) av)).map fun t =>
          (g, groupCores (pref g) n x.2) :: t
      else none

/-- The mapping of logical to physical cores that an assignment gives, logical cores of a group in rising order. -/
def mappingOf (g : Segment) (a : List (Nat × List Nat)) : SMap Nat :=
  a.foldl (fun m x =>
    (((g.programs.filter fun p => p.group == x.1).map (·.logicalCore)).zip x.2).foldl (fun q y => SMap.put q y.1 y.2) m) []

/-- Physical cores of a group in a mapping of a segment. -/
def formerCores (g : Segment) (m : SMap Nat) (group : Nat) : List Nat :=
  (g.programs.filter fun p => p.group == group).filterMap fun p => SMap.look m p.logicalCore

/-- The mapping of a segment onto a set of cores, if it fits, near a former placement. -/
def fitNear (pref : Nat → List Nat) (g : Segment) (cores : NSet) : Option (SMap Nat) :=
  (assignGroups pref (groupSizes g) (clusterCores cores)).map (mappingOf g)

/-- The mapping of a segment onto a set of cores, if it fits. -/
def fitMapping (g : Segment) (cores : NSet) : Option (SMap Nat) := fitNear (fun _ => []) g cores

/-- Whether a segment fits a set of cores. -/
def fits (g : Segment) (cores : NSet) : Bool := (fitMapping g cores).isSome

/-- Every check of R132 over a container, for a facet. -/
def segmentOk (f : Facet) (g : Segment) : Bool :=
  !(g.streamed && g.twoPlane) && decide (1 ≤ g.coreCount) && decide (g.coreCount ≤ 512) &&
    f.rungs.contains g.coreCount && g.programs.length == g.coreCount && decide (g.prisms.length ≤ 256) &&
    (groupSizes g).all (fun x => decide (x.2 ≤ 16)) &&
    ((List.range g.programs.length).zip g.programs).all (fun x => progOk g x.1 x.2 && qmapPrismsOk g x.1 x.2) &&
    ((List.range g.prisms.length).zip g.prisms).all (fun x => prismOk g x.1 x.2) &&
    (g.coreCount != f.rung || fits g f.cores)

end Sys2Proof.Machine
end

