-- ==== Sys2Proof/Machine/Sequencer.lean ====
section
/-! DEFINITION. The core sequencer (05 R133, R140 to R144): which program a core runs, its fetch buffer, which operation a unit
may carry out next, the record of what has started and completed; and the scratchpad port (R152 to R155). -/

namespace Sys2Proof.Machine

/-! ## What a core runs -/

/-- Commands of a core stop at a status that loses the context, and when an eclipse or a halt stops issue. -/
def issueStopped (s : State) (f : Nat) (met : List (Nat × Nat)) : Bool :=
  s.pwr.halt.isSome || met.any (fun e => losesContext e.1) ||
    match facetOf s f with
    | some x => x.eclipse.isSome
    | none => true

/-- The command whose program a core's sequencer may issue from now, if any (R141): the core is bound, cleared, runs a
command that has not ended it, and stands at no barrier or WAIT_EVENT. -/
def issues (s : State) (c : Nat) : Option Nat :=
  let x := coreOf s c
  if x.status = 2 && x.powered && x.cleared && !x.ended && x.atBarrier.isNone && x.waiting.isNone then
    match x.cmd with
    | none => none
    | some id =>
      if 2 ^ 32 ≤ id then
        match facetOf s x.facet with
        | some f => if issueStopped s x.facet f.stepMet then none else some id
        | none => none
      else
        match cmdOf s id with
        | some m => if m.phase = .running && !issueStopped s x.facet m.met then some id else none
        | none => none
  else none

/-- Change a core's counters; they stand still while it is bound to a confidential facet (R162). -/
def countCore (c : Nat) (g : Core → Core) (s : State) : State := if confCore s c then s else updCore c g s

/-- Change an engine's counters; they stand still while it is bound to a confidential facet (R101). -/
def countEngine (e : Nat) (g : Engine → Engine) (s : State) : State := if confEngine s e then s else updEngine e g s

/-- Ladder that the work on a facet's cores runs on: the target or draft ladder of a step run, or that of the command. -/
def workLadder (s : State) (id f : Nat) : Nat :=
  if 2 ^ 32 ≤ id then
    match SMap.look s.serve f with
    | some v =>
      match v.step with
      | some p => if p.run = 0 then v.ladder else v.draftLadder
      | none => 0
    | none => 0
  else
    match (cmdOf s id).map (·.desc.payload) with
    | some (Payload.runSegment l _) => l
    | _ => 0

/-- The loaded segment that the work runs: the ladder's segment for the facet's rung. -/
def workSeg (s : State) (id f : Nat) : Option Loaded :=
  (facetOf s f).bind fun x => (SMap.look x.ladders (workLadder s id f)).bind fun l => SMap.look l.rungs x.rung

/-- Weight set that the work on a core runs on. -/
def setOfWork (s : State) (id f : Nat) : Nat :=
  match facetOf s f with
  | none => 0
  | some x => ((SMap.look x.ladders (workLadder s id f)).map (·.weightSet)).getD 0

/-- Logical core of a physical one. -/
def logicalCore (l : Loaded) (c : Nat) : Option Nat := (l.mapping.find? fun e => e.2 == c).map (·.1)

/-- The program that a core runs of the work: the segment's copy and its program of the core's logical core. -/
def programOf (s : State) (c id : Nat) : Option (Loaded × Program) :=
  (workSeg s id (coreOf s c).facet).bind fun l =>
    (logicalCore l c).bind fun n => (l.seg.programs[n]?).map fun p => (l, p)

/-! ## Fetch (R133) -/

/-- Facet address of byte `off` of what a list of frames holds. -/
def frameAddr (frames : List Nat) (off : Nat) : Nat := frames.getD (off / 65536) 0 * 65536 + off % 65536

/-- Fetch up to `n` operations into the buffer, from the segment copy through the cluster cache. A fetch that fails gives the
work its status. -/
def fetchMore (c id : Nat) (l : Loaded) (p : Program) : Nat → State → State
  | 0, s => s
  | n + 1, s =>
    let x := coreOf s c
    let held := x.fbuf.length / 16
    if p.ops.length ≤ x.pc + held || 256 ≤ held then s
    else
      let r := faRead (coreVia s c) x.facet 0 (frameAddr l.frames (p.offset + 16 * (x.pc + held))) 16 s
      match r.1 with
      | .inl d => fetchMore c id l p n (updCore c (fun y => { y with fbuf := y.fbuf ++ d }) r.2)
      | .inr e => meetStatus id e.1 e.2 r.2

/-- The sequencer fetches `n` operations ahead. -/
def fetchOps (c id n : Nat) (s : State) : State :=
  match programOf s c id with
  | some (l, p) => fetchMore c id l p n s
  | none => s

/-! ## Issue and order (R140 to R142) -/

/-- Unit of an operation (R134): 0 E, 1 L, 2 V, 3 D, 4 M, 5 S. -/
def unitOf : Op → Nat
  | .pass _ _ _ _ _ _ _ => 0
  | .planeLoad _ _ _ _ => 1
  | .planeSwap _ _ => 0
  | .vec _ _ _ _ _ _ _ _ _ _ => 2
  | .dmaIn _ _ _ _ _ _ _ _ => 3
  | .dmaOut _ _ _ _ _ _ _ _ => 3
  | .send _ _ _ _ _ => 4
  | .recv _ _ _ _ => 4
  | .prismSend _ _ _ _ => 4
  | .barrier _ _ _ _ => 5
  | .waitEvent _ _ _ => 5
  | .fin _ => 5

/-- What a command row names of a VEC operation, by its vop. -/
def vecKey (vop fmt vd va vb vc addr count md : Nat) : List Nat :=
  let scalar := bit md 0
  match vop with
  | 0x01 => [vd, addr, count]
  | 0x02 => [va, addr, count]
  | 0x03 => [fmt, vd, va, vb, count, scalar]
  | 0x04 => [fmt, vd, va, vb, count, scalar]
  | 0x05 => [fmt, vd, va, vb, vc, count, scalar]
  | 0x06 => [fmt, vd, va, vb, count, scalar]
  | 0x07 => [fmt, vd, va, count]
  | 0x08 => [fmt, vd, va, count]
  | 0x09 => [fmt, vd, va, count, bits md 3 1]
  | 0x0A => [fmt, vd, va, vb, count, bits md 7 4]
  | 0x0B => [vd, va, vb, addr, count]
  | 0x0C => [fmt, vd, va, vb, vc, count]
  | 0x10 => [vd, va, vb, addr, count, bit md 4, bits md 1 0, bits md 7 5 + 1]
  | 0x11 => [vd, va, addr, count, bit md 4, bits md 1 0, bits md 7 5 + 1]
  | 0x18 => [vd, va, vc, count, if bits md 10 0 = 0 then 1024 else bits md 10 0, bit md 15]
  | _ => [vd, va, addr, count]

/-- The operation that a command row names: its class, and its operands without the wait_mask. -/
def opKey : Op → List Nat
  | .pass _ mask rep w input es ts => [0x01, mask, rep, w, input, es, ts]
  | .planeLoad _ mask image stride => [0x02, mask, image, stride]
  | .planeSwap _ mask => [0x03, mask]
  | .vec _ vop fmt vd va vb vc addr count md => 0x10 :: vop :: vecKey vop fmt vd va vb vc addr count md
  | .dmaIn _ hint list base va n dst len => [0x20, hint, b2n list, base, va, n, dst, len]
  | .dmaOut _ hint list base va n src len => [0x21, hint, b2n list, base, va, n, src, len]
  | .send _ dest q n src => [0x30, dest, q, n, src]
  | .recv _ q n dst => [0x31, q, n, dst]
  | .prismSend _ p n src => [0x32, p, n, src]
  | .barrier _ b scope parts => [0x40, b, b2n scope, parts]
  | .waitEvent _ e t => [0x41, e, t]
  | .fin _ => [0x7F]

/-- The operations in the fetch buffer with their numbers in the program. -/
def bufOps (x : Core) : List (Nat × Op) :=
  let ops := (decodeOps (x.fbuf.length / 16) x.fbuf).getD []
  ((List.range ops.length).map (· + x.pc)).zip ops

/-- An operation with these operations before it undone has been issued: no barrier, WAIT_EVENT or END stops issue, its
wait_mask is satisfied, and its unit holds fewer than 8 (R140, R141). -/
def issuedAfter (before : List (Nat × Op)) (o : Op) : Bool :=
  before.all (fun k => unitOf k.2 != 5 && bit (opWait o) (unitOf k.2) == 0) &&
    (unitOf o == 5 || decide ((before.filter fun k => unitOf k.2 == unitOf o).length < 8))

/-- Accumulator blocks in a range of the window that an operand names. -/
def windowBlocks (a n : Nat) : List Nat :=
  if 2 ^ 21 ≤ a && decide (0 < n) then
    (List.range (((a - 2 ^ 21) % 1024 + n - 1) / 1024 + 1)).map (· + (a - 2 ^ 21) / 1024) else []

/-- Accumulator blocks that an operation reads (R142). -/
def blocksRead : Op → List Nat
  | .vec _ vop _ _ _ _ _ addr count _ => if vop = 1 || vop = 0x0B then windowBlocks addr (1024 * count) else []
  | .send _ _ _ n src => windowBlocks src (128 * n)
  | .prismSend _ _ n src => windowBlocks src (128 * n)
  | _ => []

/-- Accumulator blocks that a PASS with `k` repeats done has still to write. -/
def blocksLeft (k : Nat) : Op → List Nat
  | .pass _ _ rep w _ _ _ =>
    ((List.range (rep + 1)).drop k).flatMap fun j => (List.range (passBlocks w)).map (· + passBlock w j)
  | _ => []

/-- A PASS may run beside an earlier one that has started, on other engines (R137, R141). -/
def besidePass (x : Core) (k : Nat × Op) (o : Op) : Bool :=
  match k.2, o with
  | .pass _ m1 _ _ _ _ _, .pass _ m2 _ _ _ _ _ =>
    SMap.has x.part k.1 && (maskEngines m1).all fun e => bit m2 e == 0
  | _, _ => false

/-- An issued operation may start beside an earlier one that has not completed: its unit is another, or both are passes on
disjoint engines; and the block order of R142 holds. END waits for every one (R140). -/
def mayStartBeside (x : Core) (k : Nat × Op) (o : Op) : Bool :=
  let reads := blocksRead o
  let writes := blocksLeft 0 o
  !isFin o && (unitOf k.2 != unitOf o || besidePass x k o) &&
    !(reads.any (blocksLeft (SMap.getD x.part k.1 0) k.2).contains) && !(writes.any (blocksRead k.2).contains)

/-- Find the first operation with a key that has not completed, if issue has reached it and it may start. -/
def findOp (x : Core) (key : List Nat) : List (Nat × Op) → List (Nat × Op) → Option Nat
  | _, [] => none
  | before, (i, o) :: r =>
    if x.done.contains i then findOp x key before r
    else if !issuedAfter before o then none
    else if opKey o = key then (if before.all (fun k => mayStartBeside x k o) then some i else none)
    else findOp x key (before ++ [(i, o)]) r

/-- Number of the operation of a core's program that a command row carries out now, if any. -/
def opAt (x : Core) (key : List Nat) : Option Nat := findOp x key [] (bufOps x)

/-- What carrying out an operation comes to. -/
inductive Doing where
  /-- It has not started. -/
  | waits
  /-- It has started and not completed. -/
  | goes
  /-- It has completed. -/
  | ends
  deriving DecidableEq, Repr

/-- Length of the run of consecutive numbers from `p` at the front of a set. -/
def leading : Nat → NSet → Nat
  | _, [] => 0
  | p, k :: r => if k = p then leading (p + 1) r + 1 else 0

/-- An operation has started: it is counted once (R161). -/
def opStarted (c i : Nat) (s : State) : State :=
  if SMap.has (coreOf s c).part i then s
  else countCore c (fun x => { x with ops := x.ops + 1 }) (updCore c (fun x => { x with part := SMap.put x.part i 0 }) s)

/-- An operation has completed: the buffer moves on and is filled again. -/
def opDone (c id i : Nat) (s : State) : State :=
  let x := coreOf s c
  let d := NSet.add x.done i
  let gone := leading x.pc d
  fetchOps c id gone (setCore c { x with
    pc := x.pc + gone, done := d.drop gone, fbuf := x.fbuf.drop (16 * gone), part := SMap.del x.part i } s)

/-- What is done of an operation that has started. -/
def partOf (s : State) (c i : Nat) : Nat := SMap.getD (coreOf s c).part i 0

def setPart (c i n : Nat) (s : State) : State := updCore c (fun x => { x with part := SMap.put x.part i n }) s

/-- A core carries out the operation that a command row names: `act` has its work and number. Where the core's program has no
such operation to carry out now, nothing happens. -/
def coreOp (c : Nat) (key : List Nat) (act : Nat → Nat → State → Doing × State) (s : State) : State :=
  match issues s c with
  | none => s
  | some id =>
    match opAt (coreOf s c) key with
    | none => s
    | some i =>
      let r := act id i s
      match r.1 with
      | .waits => r.2
      | .goes => opStarted c i r.2
      | .ends => opDone c id i (opStarted c i r.2)

/-- An operation that is carried out whole. -/
def wholeOp (c : Nat) (key : List Nat) (act : Nat → State → State) (s : State) : State :=
  coreOp c key (fun id _ t => (.ends, act id t)) s

/-- A parity error of a core's arrays (R144, R151, R155). -/
def parityError (c id : Nat) (s : State) : State :=
  meetStatus id stDataPoisoned 0 (updCore c (fun x => { x with parityErrors := satAdd 16 x.parityErrors 1 }) s)

/-! ## The scratchpad port (R152 to R155) -/

/-- Accesses beyond those of an aligned operand (R154). -/
def rotateExtra (a n : Nat) : Nat := ceilDiv (a % 256 + n) 256 - ceilDiv n 256

def countRotate (c a n : Nat) (s : State) : State :=
  if rotateExtra a n = 0 then s else countCore c (fun x => { x with rotateExtra := x.rotateExtra + rotateExtra a n }) s

/-- Whether a byte of a range has bad parity. -/
def badBytes (x : Core) (a n : Nat) : Bool := x.scratchBad.any fun b => decide (a ≤ b) && decide (b < a + n)

/-- Read the scratchpad; none is a parity error. -/
def scratchRead (x : Core) (a n : Nat) : Option (List Byte) := if badBytes x a n then none else some (Mem.readN x.scratch a n)

/-- Write the scratchpad; every byte written has good parity. -/
def scratchWrite (c a : Nat) (d : List Byte) (s : State) : State :=
  updCore c (fun x => { x with
    scratch := Mem.writeN x.scratch a d
    scratchBad := x.scratchBad.filter fun b => decide (b < a) || decide (a + d.length ≤ b) }) s

/-- Upsets of a core's arrays (log 12): the parity of scratchpad bytes, or of the accumulator entry at an address of the
window, is bad from now on. -/
def upsetArrays (c : Nat) (l : List Nat) (s : State) : State :=
  updCore c (fun x => l.foldl (fun y a =>
    if a < Config.scratchBytes then { y with scratchBad := NSet.add y.scratchBad a }
    else if a < Config.scratchBytes + 65536 then { y with accBad := NSet.add y.accBad ((a - Config.scratchBytes) / 4) } else y) x) s

/-- Upsets of lines in a cluster's cache: number 2^40 + 4 × line + 1 gives a word of the line one bad bit, + 2 makes one
uncorrectable (R252, log 12). -/
def upsetLines (k : Nat) (l : List Nat) (s : State) : State :=
  (l.filter fun a => decide (2 ^ 40 ≤ a)).foldl (fun t a =>
    let gl := (a - 2 ^ 40) / 4
    setCacheSet (cacheKey k gl) ((cacheSet t k gl).map fun x => if x.gl == gl then { x with bad := a % 4 } else x) t) s

def upsetCore (c : Nat) (l : List Nat) (s : State) : State :=
  if l.isEmpty then s else upsetLines (clusterOfCore c) l (upsetArrays c l s)

end Sys2Proof.Machine
end

