-- ==== Sys2Proof/Machine/Engine.lean ====
section
/-! DEFINITION. The matrix engines (03, and the tracking of 04): planes with their parity, spares and reference cells, passes
with their analogue columns, the checks of the reference columns, droop, plane loads and swaps. The error of a column's charge
is a free value (log 8); what the digital shell computes from the code is exact. -/

namespace Sys2Proof.Machine

/-! ## Planes -/

def planeOf (e : Engine) (one : Bool) : Plane := if one then e.plane1 else e.plane0
def setPlane (one : Bool) (p : Plane) (e : Engine) : Engine := if one then { e with plane1 := p } else { e with plane0 := p }
def updPlane (one : Bool) (g : Plane → Plane) (e : Engine) : Engine := setPlane one (g (planeOf e one)) e
def activePlane (e : Engine) : Plane := planeOf e e.active1
def shadowPlane (e : Engine) : Plane := planeOf e (!e.active1)

/-- The signed nibble that a byte holds in bits [3:0] or [7:4] (R66). -/
def nibble (b : Byte) (high : Bool) : Int := signed 4 (if high then b.toNat / 16 else b.toNat % 16)

/-- Cell of a plane's data columns (R66). -/
def cell (p : Plane) (row col : Nat) : Int := nibble (Mem.read p.data (256 * row + col / 2)) (col % 2 == 1)

/-- Cell of spare column j (R59). -/
def spareCell (p : Plane) (row j : Nat) : Int := nibble (Mem.read p.spare (2 * row + j / 2)) (j % 2 == 1)

/-- Spare column that holds a data column since the plane was loaded (R62). -/
def spareFor (p : Plane) (col : Nat) : Option Nat := p.mapped.findIdx? (· == col)

/-- Cell that is converted for a data column: that of its spare where the plane was loaded under a map that names it (R62). -/
def usedCell (p : Plane) (row col : Nat) : Int :=
  match spareFor p col with
  | some j => spareCell p row j
  | none => cell p row col

/-- Exact sum of a column over the driven rows. -/
def columnSum (p : Plane) (x : List (Nat × Int)) (col : Nat) : Int := x.foldl (fun a r => a + r.2 * usedCell p r.1 col) 0

/-! ### The pattern ROM (R59, R102) -/

/-- Rank of row i among the 256 rows by the engine's free keys of column k; rows of equal keys in rising order. -/
def patternRank (e k i : Nat) : Nat :=
  ((List.range 256).filter fun j =>
    decide (Config.patternKey e k j < Config.patternKey e k i) ||
      (Config.patternKey e k j == Config.patternKey e k i && decide (j < i))).length

/-- The four values in the order of the ranks' quarters. -/
def patternValue (q : Nat) : Int := if q = 0 then -2 else if q = 1 then -1 else if q = 2 then 1 else 2

/-- Column k of the pattern that the free keys give: each value in the 64 rows of a quarter of the ranks. -/
def patternColumn (e k : Nat) : List Int := (List.range 256).map fun i => patternValue (patternRank e k i / 64)

/-- The 8 columns of an engine's free pattern differ. -/
def patternsDiffer (e : Nat) : Bool :=
  (List.range 8).all fun k => (List.range k).all fun j => patternColumn e j != patternColumn e k

/-- Weight of reference column k in row i (R102): the engine's free pattern; where its columns do not differ, one fixed pattern
whose columns do. -/
def refWeight (e k i : Nat) : Int :=
  if patternsDiffer e then patternValue (patternRank e k i / 64) else patternValue ((i + 32 * k) % 256 / 64)

/-- What the cell of a reference column holds: the pattern, but for upset bits. -/
def refCell (e : Nat) (p : Plane) (k i : Nat) : Int :=
  signed 4 (((refWeight e k i % 16).toNat) ^^^ (Mem.read p.refFlip (8 * i + k)).toNat)

/-! ### Row parity (R91) -/

/-- A byte has an odd number of ones. -/
def oddByte (b : Byte) : Bool := ((List.range 8).foldl (fun n i => n + bit b.toNat i) 0) % 2 == 1

/-- Flip a bit of a memory. -/
def flipBit (a i : Nat) (m : Mem) : Mem := Mem.write m a (Mem.read m a ^^^ BitVec.ofNat 8 (2 ^ i))

/-- Parity bits of the rows whose cells are these: bit p covers bytes 32p to 32p + 31 of the row, and a spare that holds column c
counts with c's group. -/
def parityOf (data spare : Mem) (mapped : List Nat) : Mem :=
  let d := data.foldl (fun m e => if oddByte e.2 then flipBit (e.1 / 256) (e.1 % 256 / 32) m else m) []
  ((List.range mapped.length).zip mapped).foldl (fun m x =>
    spare.foldl (fun n e =>
      let v := if x.1 % 2 = 1 then e.2.toNat / 16 else e.2.toNat % 16
      if e.1 % 2 == x.1 / 2 && oddByte (BitVec.ofNat 8 v) then flipBit (e.1 / 2) (x.2 / 64) n else n) m) d

/-- Spare cells that the loader writes under a map: those of the columns it names, zeros in the others (R62). -/
def sparesOf (data : Mem) (mapped : List Nat) : Mem :=
  ((List.range mapped.length).zip mapped).foldl (fun m x =>
    data.foldl (fun n e =>
      if e.1 % 256 = x.2 / 2 then
        let v := if x.2 % 2 = 1 then e.2.toNat / 16 else e.2.toNat % 16
        let a := 2 * (e.1 / 256) + x.1 / 2
        Mem.write n a (Mem.read n a ||| BitVec.ofNat 8 (if x.1 % 2 = 1 then 16 * v else v))
      else n) m) []

/-- What the plane loader writes from an image under a repair map (R62, R91), at an LTC value and epoch. -/
def loadPlane (mapped : List Nat) (src : PlaneSrc) (image : List Byte) (now : Nat × Nat) (p : Plane) : Plane :=
  let data := Mem.ofBytes 0 (image.take 65536)
  { data := data, spare := sparesOf data mapped, parity := parityOf data (sparesOf data mapped) mapped, mapped := mapped
    refFlip := p.refFlip, src := src, base := now }

/-- The entries of a memory in a range of addresses. -/
def memRange (m : Mem) (a n : Nat) : Mem := m.filter fun e => decide (a ≤ e.1) && decide (e.1 < a + n)

/-- Readback of a row finds its parity wrong (R93). -/
def rowParityBad (p : Plane) (row : Nat) : Bool :=
  Mem.read (parityOf (memRange p.data (256 * row) 256) (memRange p.spare (2 * row) 2) p.mapped) row != Mem.read p.parity row

/-- Readback of a row's reference cells differs from the pattern ROM (R93). -/
def rowRefBad (p : Plane) (row : Nat) : Bool := !(memRange p.refFlip (8 * row) 8).isEmpty

/-- Bits of a row that have been upset (log 12): 0 to 2047 of the data cells, 2048 to 2063 of the spares, 2064 to 2071 of the
parity, and from 2072 on 4 bits of each reference cell. -/
def upsetRow (row : Nat) (l : List Nat) (p : Plane) : Plane :=
  l.foldl (fun q i =>
    if i < 2048 then { q with data := flipBit (256 * row + i / 8) (i % 8) q.data }
    else if i < 2064 then { q with spare := flipBit (2 * row + (i - 2048) / 8) (i % 8) q.spare }
    else if i < 2072 then { q with parity := flipBit row (i - 2064) q.parity }
    else { q with refFlip := flipBit (8 * row + (i - 2072) / 4 % 8) ((i - 2072) % 4) q.refFlip }) p

/-- A row written again from its 256 source bytes, with its parity and its reference cells (R94). -/
def rewriteRow (bytes : List Byte) (row : Nat) (p : Plane) : Plane :=
  let d := Mem.ofBytes (256 * row) (bytes.take 256)
  let sp := sparesOf d p.mapped
  let put (m new : Mem) (a n : Nat) : Mem := new.foldl (fun q e => Mem.write q e.1 e.2) (Mem.zero m a n)
  { p with
    data := put p.data d (256 * row) 256, spare := put p.spare sp (2 * row) 2
    parity := put p.parity (parityOf d sp p.mapped) row 1, refFlip := Mem.zero p.refFlip (8 * row) 8 }

/-- Last good scrub of a row: since the load, the readback of the load (R92, R94). -/
def lastScrub (p : Plane) (row : Nat) : Nat × Nat := SMap.getD p.scrubbed row p.base

/-! ## Conversions -/

/-- Driven inputs that are not zero, by row: the bytes of the feed register under afmt and rows (R64, R71). -/
def drivenInputs (w : Nat) (feed : List Byte) : List (Nat × Int) :=
  let elem (i : Nat) : Int :=
    if pcwA4 w then
      (let b := (feed.getD (i / 2) 0).toNat
       signed 4 (if i % 2 = 0 then b % 16 else b / 16))
    else signed 8 (feed.getD i 0).toNat
  let driven (i : Nat) : Bool :=
    pcwRows w == 0 || (pcwRows w == 1 && decide (i < 128)) || (pcwRows w == 2 && decide (128 ≤ i))
  ((List.range 256).filterMap fun i => if driven i && elem i != 0 then some (i, elem i) else none)

/-- ADC step and column full scale of a range in units (R73). -/
def adcStep (r : Nat) : Nat := 8 * 2 ^ r
def fullScale (r : Nat) : Nat := 4096 * 2 ^ r

/-- A free integer from a drawn number. -/
def freeInt (n : Nat) : Int := if n % 2 = 0 then ((n / 2 : Nat) : Int) else -(((n + 1) / 2 : Nat) : Int)

/-- Round a quotient to nearest, ties away from zero. -/
def roundDiv (n : Int) (d : Nat) : Int :=
  let q : Int := ((2 * n.natAbs + d) / (2 * d) : Nat)
  if n < 0 then -q else q

/-- A conversion (R74): code and whether the column clipped. The charge is in 1/16 unit: the exact sum with its free error
`err`. -/
def convert (r : Nat) (sum err : Int) : Int × Bool :=
  let q := 16 * sum + err
  let fs : Int := (16 * fullScale r : Nat)
  if fs < q then (511, true) else if q < -fs then (-512, true)
  else (clampInt (-512) 511 (roundDiv q (16 * adcStep r)), false)

/-- ADC that converts a data or spare column (R60). -/
def adcOf (col : Nat) : Nat := if col < 512 then col / 8 else 64

/-- Offset and gain of a column at a range, as the last full calibration wrote them (R107). -/
def corrOf (e : Engine) (col r : Nat) : Int × Nat := SMap.getD e.corr (4 * col + r) (0, 16384)

/-- Steps 1 and 2 of R70 and the tracked correction (R103): the column's value in units, over 2^32. -/
def corrected (e : Engine) (r col : Nat) (code : Int) : Int :=
  let k := corrOf e col r
  let t := SMap.getD e.track (adcOf col) {}
  let a := (16 * code - k.1) * (k.2 : Int) * (adcStep r : Nat)
  (a - t.off * 16384) * t.gain

/-- Column that is converted in place of a data column (R62). -/
def usedColumn (p : Plane) (col : Nat) : Nat :=
  match spareFor p col with
  | some j => 512 + j
  | none => col

/-- One output of a pass before the clip rule (R70 steps 1 to 4) and whether it is clipped (R74). `base` numbers the first
free value of the pass. -/
def passOutput (e : Engine) (w r : Nat) (x : List (Nat × Int)) (sx : Int) (base out : Nat) : Int × Bool :=
  let one (col : Nat) : Int × Bool :=
    let c := convert r (columnSum (activePlane e) x col) (freeInt (Config.freeNat (base + col)))
    (corrected e r (usedColumn (activePlane e) col) c.1, c.2)
  if pcwW4 w then
    let c := one out
    (roundDiv c.1 (2 ^ 32), c.2)
  else
    let h := one (2 * out + 1)
    let l := one (2 * out)
    (roundDiv (16 * h.1 + l.1 + 8 * sx * (2 ^ 32 : Nat)) (2 ^ 32), h.2 || l.2)

def passOutputs (w : Nat) : Nat := if pcwW4 w then 512 else 256

/-- Free values that one run of a pass draws: 512 columns, and the 9 conversions of held reference columns. -/
def passDraws : Nat := 521

/-! ## Tracking and the check (R102 to R106) -/

def absSpan (l : List Int) : Int :=
  match l with
  | [] => 0
  | a :: r => r.foldl (fun m x => if m < x then x else m) a - r.foldl (fun m x => if x < m then x else m) a

/-- Least-squares fit of the window (R103): the gain is updated only where the expected sums span a tenth of full scale. -/
def trackFit (r : Nat) (t : AdcTrack) : AdcTrack :=
  let n : Int := (t.win.length : Nat)
  let sx := t.win.foldl (fun a p => a + p.1) 0
  let sy := t.win.foldl (fun a p => a + p.2) 0
  let sxx := t.win.foldl (fun a p => a + p.1 * p.1) 0
  let sxy := t.win.foldl (fun a p => a + p.1 * p.2) 0
  let num := n * sxx - sx * sx
  let den := n * sxy - sx * sy
  let wide := decide ((16 * fullScale r : Nat) ≤ 10 * absSpan (t.win.map (·.1)))
  let g := if wide && decide (0 < den) then 16384 * num / den else t.gain
  if t.win.isEmpty || g = 0 then t
  else { t with gain := g, off := (sy - sx * 16384 / g) / n }

/-- The residuals of one ADC fail the noise test (R104): the standard deviation of 1,024 of them exceeds 0.12 %. -/
def noisy (l : List Int) : Bool :=
  let n : Int := (l.length : Nat)
  let s1 := l.foldl (· + ·) 0
  let s2 := l.foldl (fun a x => a + x * x) 0
  decide (l.length = 1024) && decide (1200 * 1200 * n * n < n * s2 - s1 * s1)

/-- Last `n` entries of a list. -/
def lastN {α : Type} (n : Nat) (l : List α) : List α := l.drop (l.length - n)

/-- One reference conversion of an ADC (R103, R104): the new tracking, and the test that failed, if any. `col` is the
reference column, 516 + k in the correction table; `sum` is what its cells sum to and `expected` what the pattern does. A
clipped conversion is neither fitted nor tested; one at a limit code is tested and left out of the fit. -/
def refConvert (e : Engine) (adc k r : Nat) (expected sum err : Int) : Engine × Option Nat :=
  let c := convert r sum err
  let t := SMap.getD e.track adc {}
  if c.2 then (e, none)
  else
    let q := corrOf e (516 + k) r
    let m := (16 * c.1 - q.1) * (q.2 : Int) * (adcStep r : Nat) / 16384
    let v := (m - t.off) * t.gain / 16384
    let ppm : Int := (v - 16 * expected) * 1000000 / ((16 * fullScale r : Nat) : Int)
    let t1 := if c.1 = 511 || c.1 = -512 then t else trackFit r { t with win := lastN 64 (t.win ++ [(16 * expected, m)]) }
    let t2 := { t1 with res := lastN 1024 (t1.res ++ [ppm]) }
    let offPpm := Int.natAbs (t2.off * 1000000 / ((16 * fullScale r : Nat) : Int))
    let gainPpm := Int.natAbs ((t2.gain - 16384) * 1000000 / 16384)
    let e1 := { e with
      track := SMap.put e.track adc t2
      trackOffMax := Nat.max e.trackOffMax (Nat.min 65535 offPpm)
      trackGainMax := Nat.max e.trackGainMax (Nat.min 65535 gainPpm)
      calCall := if e.calCall = 0 && (decide (5000 < offPpm) || decide (10000 < gainPpm)) then 3 else e.calCall }
    (e1, if 12000 < ppm.natAbs then some 0 else if noisy t2.res then some 1 else none)

/-- ADC and reference column of the conversions of pass number n (R61). -/
def refPlan (n : Nat) : List (Nat × Nat) := (List.range 8).map (fun k => (8 * (n % 8) + k, k)) ++ [(64, n % 8)]

/-- What converting the held reference columns comes to. -/
inductive Check where
  /-- There were none. -/
  | absent
  | good
  /-- The test that failed first: 0 hard, 1 noise. -/
  | failed (test : Nat)
  deriving DecidableEq, Repr

/-- Every held reference column is converted (R61, R105): the engine after tracking, and the check. -/
def convertHeld (e : Engine) (base : Nat) : Engine × Check :=
  match e.heldRefs with
  | none => (e, .absent)
  | some (es, ss, r) =>
    let x := ((refPlan e.passNo).zip (List.range 9)).foldl (fun (a : Engine × Option Nat) p =>
      let y := refConvert a.1 p.1.1 p.1.2 r (es.getD p.1.2 0) (ss.getD p.1.2 0) (freeInt (Config.freeNat (base + p.2)))
      (y.1, if a.2.isSome then a.2 else y.2)) ({ e with heldRefs := none }, none)
    (x.1, match x.2 with
      | none => .good
      | some t => .failed t)

/-- Facet number of the core that an engine belongs to, 0 where it is bound to none. -/
def facetOfEngine (s : State) (e : Nat) : Nat :=
  let c := coreOf s (coreOfEngine e)
  if c.status = 2 then c.facet else 0

/-- Function that an engine's event concerns: the owner of the facet that its core is bound to, else PF0. -/
def engineOwner (s : State) (e : Nat) : Nat :=
  if (coreOf s (coreOfEngine e)).status = 2 then ownerOf s (facetOfEngine s e) else 0

/-- Functions that an engine's event goes to beside PF0. -/
def engineTo (s : State) (e : Nat) : List Nat :=
  if (coreOf s (coreOfEngine e)).status = 2 then [0, ownerOf s (facetOfEngine s e)] else [0]

/-- R120 steps 1 to 3 and 5: the engine is HELD, ENGINE_SUSPECT names the test, a full calibration is called for, and every
command in which it took part since its last good check is NUMERIC_SUSPECT. -/
def failCheck (e test : Nat) (s : State) : State :=
  let x := engineOf s e
  let s1 := setEngine e { x with
    status := 2, heldCheck := true, calCall := 5, checksFailed := x.checksFailed + 1
    cal := x.cal.map fun k => { k with cause := 5, passes := 0, ordinary := 0, paused := true } } s
  let s2 := x.cmds.foldl (fun t id => meetStatus id stNumericSuspect 0 t) s1
  raiseTo (engineTo s2 e) evEngineSuspect (engineOwner s2 e) (e + facetOfEngine s2 e * 2 ^ 16) test
    (some (x.goodEpoch, x.goodLtc)) (confEngine s2 e) s2

/-- A check passes: of the commands so far, only those in `keep` are left uncovered. -/
def goodCheck (e : Nat) (keep : NSet) (s : State) : State :=
  let k := clusterOfEngine e
  updEngine e (fun x => { x with cmds := keep, goodLtc := ltcOf s k, goodEpoch := epochOf s k }) s

/-- Judge an engine by a check. -/
def judge (e : Nat) (keep : NSet) (k : Check) (s : State) : State :=
  match k with
  | .absent => s
  | .good => goodCheck e keep s
  | .failed t => failCheck e t s

/-- Convert an engine's held reference columns and judge them. -/
def checkHeld (e : Nat) (s : State) : State :=
  let x := engineOf s e
  if x.heldRefs.isNone then s
  else
    let r := convertHeld x s.freeCtr
    judge e [] r.2 (setEngine e r.1 { s with freeCtr := s.freeCtr + 9 })

/-! ## PASS (R67 to R75, R137) -/

/-- Expected sums of the 8 reference columns (R102), and what their cells sum to. -/
def refSums (e : Nat) (x : List (Nat × Int)) : List Int :=
  (List.range 8).map fun k => x.foldl (fun a r => a + r.2 * refWeight e k r.1) 0
def refActual (e : Nat) (p : Plane) (x : List (Nat × Int)) : List Int :=
  (List.range 8).map fun k => x.foldl (fun a r => a + r.2 * refCell e p k r.1) 0

/-- What running a pass leaves: outputs, clipped outputs counted, reruns, the engine, and the checks in order. -/
structure PassRun where
  outs : List Int
  clipped : Nat
  reruns : Nat
  engine : Engine
  checks : List Check
  deriving DecidableEq, Repr

/-- The engine after one run: the columns that the run holds, and its number (R61). -/
def heldAfter (n : Nat) (e : Engine) (x : List (Nat × Int)) (r : Nat) : Engine :=
  { e with heldRefs := some (refSums n x, refActual n (activePlane e) x, r), passNo := e.passNo + 1 }

/-- Run engine n's pass at range r and, under RERANGE, again at the next ranges (R75). Each run first converts the columns that
the run before held (R61), and draws `passDraws` free values. -/
def runPass (n : Nat) (w : Nat) (x : List (Nat × Int)) (sx : Int) : Nat → Nat → Nat → Engine → PassRun
  | 0, r, base, e =>
    let h := convertHeld e (base + 512)
    let o := (List.range (passOutputs w)).map (passOutput h.1 w r x sx base)
    { outs := o.map (·.1), clipped := (o.filter (·.2)).length, reruns := 0, engine := heldAfter n h.1 x r, checks := [h.2] }
  | fuel + 1, r, base, e =>
    let h := convertHeld e (base + 512)
    let o := (List.range (passOutputs w)).map (passOutput h.1 w r x sx base)
    let clipped := (o.filter (·.2)).length
    let e1 := heldAfter n h.1 x r
    if pcwRerange w && decide (0 < clipped) && decide (r < 3) then
      let z := runPass n w x sx fuel (r + 1) (base + passDraws) e1
      { z with reruns := z.reruns + 1, checks := h.2 :: z.checks }
    else { outs := o.map (·.1), clipped := clipped, reruns := 0, engine := e1, checks := [h.2] }

/-- The check that several come to: the first that failed, else a good one, else none. -/
def worstCheck : List Check → Check
  | [] => .absent
  | .failed t :: _ => .failed t
  | .good :: r => match worstCheck r with
    | .failed t => .failed t
    | _ => .good
  | .absent :: r => worstCheck r

/-- Calibration passes between ordinary ones: one after every 200 (R110). -/
def calShare (n : Nat) (c : CalRun) : CalRun :=
  if c.paused then c
  else { c with passes := Nat.min 768 (c.passes + (c.ordinary + n) / 200), ordinary := (c.ordinary + n) % 200 }

/-- One engine's part of a pass of command `id` with its inputs in the feed register: outputs, and the state afterwards. A check
that fails while the pass runs takes effect once the pass has added (log 8). -/
def enginePass (e id w : Nat) (feed : List Byte) (s : State) : List Int × State :=
  let x := drivenInputs w feed
  let sx := x.foldl (fun a r => a + r.2) 0
  let r := runPass e w x sx (3 - pcwRange w) (pcwRange w) s.freeCtr (engineOf s e)
  let now := ltcOf s (clusterOfEngine e)
  let y := r.engine
  let s1 := setEngine e (updPlane y.active1 (fun p => { p with users := SMap.put p.users id now }) { y with
    droopRow := 0, cmds := NSet.add y.cmds id, cal := y.cal.map (calShare (1 + r.reruns)) })
    { s with freeCtr := s.freeCtr + passDraws * (r.reruns + 1) }
  let s2 := countEngine e (fun z => { z with passes := z.passes + 1, reranges := z.reranges + r.reruns,
                                             clipped := z.clipped + r.clipped }) s1
  let s3 := updFacet (facetOfEngine s e) (fun f =>
    if f.confidential then f else { f with clipped := f.clipped + r.clipped, reranges := f.reranges + r.reruns }) s2
  (r.outs, judge e [id] (worstCheck r.checks) (chargePass id (coreOfEngine e) (1 + r.reruns) (pcwW4 w) s3))

/-- One accumulator entry of a core, signed. -/
def accEntry (x : Core) (i : Nat) : Int := signed 32 (ofLe (Mem.readN x.acc (4 * i) 4))

/-- Add or write a list of sums from accumulator entry `i` on (R70 step 6): the file, the number of saturations, and whether
an entry that an add read had bad parity (R144): it keeps its value. -/
def accAdd (write : Bool) : Nat → List Int → Core × Nat × Bool → Core × Nat × Bool
  | _, [], r => r
  | i, v :: rest, (x, n, bad) =>
    if !write && x.accBad.contains i then accAdd write (i + 1) rest (x, n, true)
    else
      let t := if write then v else accEntry x i + v
      let c := clampInt (-(2 ^ 31)) (2 ^ 31 - 1) t
      let x1 := { x with acc := Mem.writeN x.acc (4 * i) (toLe 4 (c % 2 ^ 32).toNat), accBad := NSet.del x.accBad i }
      accAdd write (i + 1) rest (x1, if c = t then n else n + 1, bad)

/-- Sum the engines' outputs, as the adder tree does. -/
def addLists : List (List Int) → List Int
  | [] => []
  | a :: r => r.foldl (fun s l => (s.zip l).map fun p => p.1 + p.2) a

/-- Read one engine's input into its feed register; a parity error ends the command without the pass (R163). -/
def feedOne (c id w a e : Nat) (s : State) : Option (List Byte) × State :=
  match scratchRead (coreOf s c) a (inputLen w) with
  | none => (none, parityError c id s)
  | some d => (some d, updCore c (fun x => { x with feed := Mem.writeN x.feed (256 * e) d }) s)

/-- Feed the engines of one repeat in turn. -/
def feedAll (c id w : Nat) (addr : Nat → Nat) : List Nat → List (Nat × List Byte) → State → Option (List (Nat × List Byte)) × State
  | [], acc, s => (some acc.reverse, s)
  | e :: r, acc, s =>
    let x := feedOne c id w (addr e) e s
    match x.1 with
    | none => (none, x.2)
    | some d => feedAll c id w addr r ((e, d) :: acc) x.2

/-- Run the engines of one repeat. -/
def runEngines (c id w : Nat) : List (Nat × List Byte) → List (List Int) → State → List (List Int) × State
  | [], acc, s => (acc.reverse, s)
  | (e, d) :: r, acc, s =>
    let x := enginePass (c * 8 + e) id w d s
    runEngines c id w r (x.1 :: acc) x.2

/-- One repeat of a PASS: feed, integrate, add into the block of the repeat. Saturated adds of the sum are counted at the
lowest-numbered engine of the mask (DESIGN CHOICE, log 8: R70 and R100 do not say which engine's counter takes them). -/
def passRepeat (c id mask w input es ts k : Nat) (s : State) : State :=
  let engines := maskEngines mask
  let addr (e : Nat) : Nat := inputAddr input es ts e k
  let s0 := (NSet.ofList (engines.map addr)).foldl (fun t a => countRotate c a (inputLen w) t) s
  let fd := feedAll c id w addr engines [] s0
  match fd.1 with
  | none => fd.2
  | some feeds =>
    let r := runEngines c id w feeds [] fd.2
    let a := accAdd (pcwOver w) (256 * passBlock w k) (addLists r.1) (coreOf r.2 c, 0, false)
    let s1 := setCore c a.1 r.2
    let s2 := if a.2.2 then parityError c id s1 else s1
    if a.2.1 = 0 then s2
    else countEngine (c * 8 + engines.headD 0) (fun y => { y with accSat := satAdd 32 y.accSat a.2.1 }) s2

/-- An engine may start a pass: in service, not stopped by droop, no swap or delayed scrub read waiting, and its active plane
whole. -/
def engineFree (s : State) (e : Nat) : Bool :=
  let x := engineOf s e
  x.status == 1 && !x.stopped && !x.swapWait && x.scrubWait.isNone && !(activePlane x).loading

/-- Repeats in order from those already done. A status that loses the context ends them; an engine that goes HELD holds the
rest until it returns (R120 step 5). -/
def passRepeats (c id i mask w input es ts : Nat) : List Nat → State → Doing × State
  | [], s => (.ends, s)
  | k :: r, s =>
    if (issues s c).isNone then (.ends, s)
    else if !(maskEngines mask).all (fun e => engineFree s (c * 8 + e)) then (if k = 0 then .waits else .goes, s)
    else passRepeats c id i mask w input es ts r (setPart c i (k + 1) (passRepeat c id mask w input es ts k (opStarted c i s)))

def passEff (c mask rep w input es ts : Nat) (upset : List Nat) (s : State) : State :=
  coreOp c [0x01, mask, rep, w, input, es, ts] (fun id i t =>
    passRepeats c id i mask w input es ts ((List.range (rep + 1)).drop (partOf t c i)) t) (upsetCore c upset s)

/-- PASS (R67, R137). -/
def execPass (core mask rep pcw input engineStride tokenStride : Nat) (upset : List Nat) (s : State) :
    Host.Outcome State Fault Refusal :=
  checked (okCore core) s
    (passEff core mask rep pcw input engineStride tokenStride upset)

/-! ## Droop (R78, R79) -/

/-- Stage of a half's start-up calibration (R114). -/
def calStage (s : State) (east : Bool) : Nat := if east then s.pwr.eastCal else s.pwr.westCal

/-- The engine runs passes: ordinary ones of an engine in service on a bound core, or those of a calibration in progress or of a
start-up calibration (R78, R107, R114, R125). -/
def runsPasses (s : State) (e : Nat) : Bool :=
  let x := engineOf s e
  let c := coreOf s (coreOfEngine e)
  let running := match x.cal with
    | some k => !k.paused
    | none => false
  c.powered && !x.stopped &&
    ((x.status == 1 && c.status == 2) || running || (x.status == 0 && c.cleared && decide (1 ≤ calStage s (eastCore (coreOfEngine e)))))

/-- AN_DROOP_REPLAY: a pass of the engine is discarded and runs again; it adds nothing (R78). -/
def anDroopReplayEff (e : Nat) (s : State) : State :=
  if runsPasses s e then
    let s1 := countEngine e (fun y => { y with droops := y.droops + 1 }) (updEngine e (fun x => { x with droopRow := x.droopRow + 1 }) s)
    if (coreOf s (coreOfEngine e)).status = 2 then
      updFacet (facetOfEngine s e) (fun f => if f.confidential then f else { f with droops := f.droops + 1 }) s1
    else s1
  else s

def execAnDroopReplay (engine : Nat) (s : State) : Host.Outcome State Fault Refusal :=
  checked (okEngine engine) s (anDroopReplayEff engine)

/-- ENGINE_DROOP_STOP: after 16 replays in a row the engine stops, HELD where it was in service, and AN_DROOP goes to PF0
(R79, R100). -/
def engineDroopStopEff (e : Nat) (s : State) : State :=
  let x := engineOf s e
  if !x.stopped && decide (16 ≤ x.droopRow) then
    raisePf0 evAnDroop e (clusterOfEngine e) (confEngine s e)
      (setEngine e { x with stopped := true, status := if x.status = 1 then 2 else x.status } s)
  else s

def execEngineDroopStop (engine : Nat) (s : State) : Host.Outcome State Fault Refusal :=
  checked (okEngine engine) s (engineDroopStopEff engine)

/-- Whether an engine is HELD for a reason beside its droop stop. -/
def heldOther (x : Engine) : Bool := x.heldCheck || x.heldScrub || x.heldSet

/-- ENGINE_DROOP_RESUME: VDD_AN has stayed up for 1 local us (R79). -/
def engineDroopResumeEff (e : Nat) (s : State) : State :=
  let x := engineOf s e
  if x.stopped then
    setEngine e { x with stopped := false, droopRow := 0, status := if x.status = 2 && !heldOther x then 1 else x.status } s
  else s

def execEngineDroopResume (engine : Nat) (s : State) : Host.Outcome State Fault Refusal :=
  checked (okEngine engine) s (engineDroopResumeEff engine)

/-! ## Plane loads and swaps (R89 to R92, R96) -/

/-- Exchange the planes of an engine (R63). -/
def swapPlanes (e : Engine) : Engine := { e with active1 := !e.active1, swapWait := false }

/-- A swap waits for a load, and for a scrub read or rewrite of either plane (R90). -/
def swapBlocked (x : Engine) : Bool := (shadowPlane x).loading || x.scrubWait.isSome || !x.rewrites.isEmpty

/-- A calibration that runs on the shadow plane gives way (R90, R96, R125): the passes run are kept, and it continues at the next
window. -/
def abandonCal (x : Engine) : Engine := { x with cal := x.cal.map fun k => { k with paused := true } }

/-- The E and L operations of a core that have started and whose last engine has finished are complete (R89, R90). -/
def settleOps (c : Nat) (s : State) : State :=
  let x := coreOf s c
  match x.cmd with
  | none => s
  | some id =>
    let loading (e : Nat) : Bool :=
      let y := engineOf s (c * 8 + e)
      (shadowPlane y).loading && (match (shadowPlane y).src with
        | .stream _ _ _ => true
        | _ => false)
    let settled (o : Op) : Bool := match o with
      | .planeLoad _ mask _ _ => !(maskEngines mask).any loading
      | .planeSwap _ mask => !(maskEngines mask).any fun e => (engineOf s (c * 8 + e)).swapWait
      | _ => false
    ((bufOps x).filter fun o => SMap.has x.part o.1 && settled o.2).foldl (fun t o => opDone c id o.1 t) s

/-- A swap that waited goes ahead once nothing holds it. -/
def finishSwap (e : Nat) (s : State) : State :=
  let x := engineOf s e
  settleOps (coreOfEngine e) (if x.swapWait && !swapBlocked x then setEngine e (swapPlanes (abandonCal x)) s else s)

/-- Handshakes that a swap waited: the spec gives no figure for one (log 7). -/
def countPlaneWait (e : Nat) (s : State) : State :=
  let d := draw s
  countEngine e (fun y => { y with planeWait := y.planeWait + d.1 }) d.2

/-- One engine's part of a PLANE_SWAP. A calibration on the shadow plane gives way at once, also where the swap has to wait. -/
def swapOne (e : Nat) (s : State) : State :=
  let x := abandonCal (engineOf s e)
  if swapBlocked x then countPlaneWait e (setEngine e { x with swapWait := true } s) else setEngine e (swapPlanes x) s

def planeSwapEff (c mask : Nat) (s : State) : State :=
  coreOp c [0x03, mask] (fun _ i t =>
    if SMap.has (coreOf t c).part i then (.goes, t)
    else
      let es := (maskEngines mask).map (· + c * 8)
      let u := forAll es swapOne t
      (if es.any fun e => (engineOf u e).swapWait then .goes else .ends, u)) s

/-- PLANE_SWAP (R90). -/
def execPlaneSwap (core mask : Nat) (s : State) : Host.Outcome State Fault Refusal :=
  checked (okCore core) s (planeSwapEff core mask)

/-- A load into a plane whose row is being rewritten goes first: the scrub visit starts again after it (R93, R96). The chunk
buffers that the dropped rewrites held are free. -/
def dropRewrites (e : Nat) (one : Bool) (s : State) : State :=
  let gone := (engineOf s e).rewrites.filter fun r => r.one == one
  if gone.isEmpty then s
  else updCore (coreOfEngine e) (fun c => { c with buffers := NSet.diff c.buffers (gone.filterMap (·.buffer)) })
    (updEngine e (fun x => { x with rewrites := x.rewrites.filter fun r => r.one != one }) s)

/-- PLANE_LOAD (R89): the shadow plane of each named engine begins to load an image of the stream image. A quarantined set
fails the load (R219, R220). -/
def planeLoadEff (c mask image stride : Nat) (s : State) : State :=
  coreOp c [0x02, mask, image, stride] (fun id i t =>
    let f := (coreOf t c).facet
    let set := setOfWork t id f
    let bad := match (facetOf t f).bind (fun x => SMap.look x.sets set) with
      | some w => w.quarantined
      | none => true
    if SMap.has (coreOf t c).part i then (.goes, t)
    else if bad then (.ends, meetStatus id stWeightPoison 0 t)
    else
      (if (maskEngines mask).isEmpty then .ends else .goes, forAll (maskEngines mask) (fun e u =>
        let one := !(engineOf u (c * 8 + e)).active1
        updEngine (c * 8 + e) (fun x =>
          updPlane one (fun p => { loading := true, src := .stream f set (image + e * stride), refFlip := p.refFlip }) (abandonCal x))
          (dropRewrites (c * 8 + e) one u)) (streamWorks (clusterOfCore c) f t))) s

def execPlaneLoad (core mask image imageStride : Nat) (s : State) : Host.Outcome State Fault Refusal :=
  checked (okCore core) s (planeLoadEff core mask image imageStride)

/-- A command completes NUMERIC_SUSPECT when it ends, also where it has not started yet (R92). -/
def markSuspect (id : Nat) (s : State) : State :=
  if 2 ^ 32 ≤ id then meetStatus id stNumericSuspect 0 s
  else updCmd id (fun c => if c.phase = .ended then c else { c with met := c.met ++ [(stNumericSuspect, 0)] }) s

/-- The work that waits on a load of a plane: that of the engine's core, and that of a weight switch to the set (R92, R469). -/
def loadWaiters (s : State) (e : Nat) (src : PlaneSrc) : List Nat :=
  let onSwitch (f set : Nat) : List Nat :=
    match (facetOf s f).bind (·.switching) with
    | some (id, sw) => if sw = set then [id] else []
    | none => []
  (match (coreOf s (coreOfEngine e)).cmd with
   | some id => [id]
   | none => []) ++
  match src with
  | .chunk f set _ => onSwitch f set
  | _ => []

/-- A row that mismatched twice (R92): the engine goes out of use as R120 lays down, and the commands that used it or waited
on the load are NUMERIC_SUSPECT. -/
def planeLoadFault (e : Nat) (src : PlaneSrc) (s : State) : State :=
  let x := engineOf s e
  let users := (x.plane0.users ++ x.plane1.users).map (·.1)
  (NSet.ofList (x.cmds ++ users ++ loadWaiters s e src)).foldl (fun t id => markSuspect id t)
    (setEngine e { x with status := if x.status = 1 then 2 else x.status, heldCheck := true, calCall := 5 } s)

/-- Rows written again after a mismatch are counted (R92, R100). -/
def countRetries (e n : Nat) (s : State) : State :=
  if n = 0 then s else countEngine e (fun y => { y with loadRetries := satAdd 16 y.loadRetries n }) s

/-- A load of a plane ends with `image` in it (R89, R92): rows rewritten are counted, a fault row takes the engine out. -/
def endPlaneLoad (e : Nat) (one : Bool) (src : PlaneSrc) (image : List Byte) (retries : Nat) (faultRow : Bool) (s : State) :
    State :=
  let k := clusterOfEngine e
  let s1 := updEngine e (fun x => updPlane one (loadPlane x.repairs src image (ltcOf s k, epochOf s k)) x) s
  let s2 := countRetries e retries s1
  finishSwap e (if faultRow then planeLoadFault e src s2 else s2)

/-- Frame of an image of a set's stream image. -/
def streamFrame (s : State) (f set i : Nat) : Option Nat :=
  ((facetOf s f).bind fun x => SMap.look x.sets set).bind fun w => w.streamFrames[i]?

/-- An image index beyond the stream image gives the plane bytes that the spec does not state (log 7). -/
def freeImage (s : State) : List Byte × State :=
  ((List.range 65536).map fun i => BitVec.ofNat 8 (Config.freeNat (s.freeCtr + i)), { s with freeCtr := s.freeCtr + 65536 })

/-- PLANE_LOAD_DONE (R87 to R89, R92, R220): the plane takes its image from the stream image through the plane stream port, with
hint STREAM. Where a line of it reads uncorrectable the load waits for its rebuild; with the set quarantined its command
completes WEIGHT_POISON and the plane is unloaded. -/
def planeLoadDoneEff (e retries : Nat) (faultRow : Bool) (s : State) : State :=
  let x := engineOf s e
  let one := !x.active1
  match (planeOf x one).loading, (planeOf x one).src with
  | true, .stream f set i =>
    match streamFrame s f set i with
    | none => endPlaneLoad e one (.stream f set i) (freeImage s).1 retries faultRow (freeImage s).2
    | some n =>
      let r := faRead (facetVia s f) f 1 (n * 65536) 65536 s
      match r.1 with
      | .inl d => endPlaneLoad e one (.stream f set i) d retries faultRow r.2
      | .inr _ =>
        if (((facetOf s f).bind fun y => SMap.look y.sets set).map (·.quarantined)).getD true then
          finishSwap e ((loadWaiters s e .empty).foldl (fun t id => meetStatus id stWeightPoison 0 t)
            (updEngine e (updPlane one fun p => { refFlip := p.refFlip }) r.2))
        else r.2
  | _, _ => s

def execPlaneLoadDone (engine retries : Nat) (faultRow : Bool) (s : State) : Host.Outcome State Fault Refusal :=
  checked (okEngine engine) s (planeLoadDoneEff engine retries faultRow)

end Sys2Proof.Machine
end

