-- ==== Sys2Proof/Machine/Time.lean ====
section
/-! DEFINITION. Local time (02 R40 to R55), what a half's power-up and power-down do to its counters, cores and engines (R44,
R97, R109, R158), and the clearing of cores. -/

namespace Sys2Proof.Machine

/-- Whether a counter is powered: the MC's from VDD_AON, the others from the core rail of their half (R44). -/
def ltcPowered (s : State) (n : Nat) : Bool :=
  if n = 42 then true
  else
    let east := if n < 32 then eastCluster n else eastEdge n
    s.pwr.railsOn.contains (if east then 1 else 0)

def ltcNumbers : List Nat := List.range 43

/-- One millisecond of reference time: each powered counter advances by its own rate (R40, R43; log 1). -/
def tick (s : State) : State :=
  let adv (n : Nat) (t : SMap Nat) : SMap Nat :=
    if ltcPowered s n then SMap.put t n (SMap.getD t n 0 + (1000000 + SMap.getD s.time.rate n 0).toNat) else t
  { s with time := { s.time with ltc := ltcNumbers.foldl (fun t n => adv n t) s.time.ltc } }

/-- A free rate offset within `bound` ppm. -/
def drawRate (bound : Nat) (s : State) : Int × State :=
  let d := draw s
  (((d.1 % (2 * bound + 1) : Nat) : Int) - bound, d.2)

/-- A trim of one counter: its rate slews by at most 1,000 ppm to a value within 500 ppm (R42, R43). -/
def trimOne (n : Nat) (s : State) : State :=
  let d := drawRate 500 s
  let old := SMap.getD s.time.rate n 0
  { d.2 with time := { d.2.time with rate := SMap.put d.2.time.rate n (old + clampInt (-1000) 1000 (d.1 - old)) } }

def trimAll (s : State) : State :=
  let s1 := forAll (ltcNumbers.filter (ltcPowered s)) trimOne s
  { s1 with time := { s1.time with trimValid := true } }

/-- LTC_TRIM (R42, R43, R50): no trim without a reference clock in tolerance. -/
def ltcTrimEff (s : State) : State := if s.time.refclkOk && s.pwr.mcRunning then trimAll s else s

def execLtcTrim (s : State) : Host.Outcome State Fault Refusal := checked true s ltcTrimEff

/-- REFCLK_LOSS (R43): trimming stops, trim_valid clears, LTC_UNTRIMMED to PF0; untrimmed rates lie within 5,000 ppm. -/
def refclkLossEff (s : State) : State :=
  if s.time.refclkOk then
    let free (n : Nat) (t : State) : State :=
      let d := drawRate 5000 t
      { d.2 with time := { d.2.time with rate := SMap.put d.2.time.rate n d.1 } }
    let s1 := forAll ltcNumbers free s
    let s2 := { s1 with time := { s1.time with refclkOk := false, trimValid := false } }
    if s.pwr.mcRunning then raiseTo [0] evLtcUntrimmed 0 0 0 none false s2 else s2
  else s

def execRefclkLoss (s : State) : Host.Outcome State Fault Refusal := checked true s refclkLossEff

/-- REFCLK_RESTORE (R43): the first window with the clock back in tolerance trims again and sets trim_valid. -/
def refclkRestoreEff (s : State) : State :=
  if s.time.refclkOk then s
  else
    let s1 := { s with time := { s.time with refclkOk := true }, pwr := { s.pwr with pcie := s.pwr.pcie || !s.pwr.perst } }
    if s.pwr.mcRunning then trimAll s1 else s1

def execRefclkRestore (s : State) : Host.Outcome State Fault Refusal := checked true s refclkRestoreEff

/-- LTC_CAPTURE_GO (R49): `value` is the word written; a write while busy is ignored. -/
def ltcCaptureGoEff (value : Nat) (s : State) : State :=
  if bit value 31 = 0 || s.time.captBusy then s
  else { s with time := { s.time with captDone := false, captBusy := true, captSource := value % 64 } }

def execLtcCaptureGo (value : Nat) (s : State) : Host.Outcome State Fault Refusal :=
  checked (okWord value) s (ltcCaptureGoEff value)

/-- LTC_CAPTURE_DONE (R49, R50): a reserved source or an unpowered counter sets error, and both capture registers read 0. -/
def ltcCaptureDoneEff (s : State) : State :=
  if s.time.captBusy then
    let n := s.time.captSource
    let good := decide (n < 42) && ltcPowered s n
    { s with time := { s.time with
      captBusy := false, captDone := true, captError := !good
      captMc := if good then mcNow s else 0
      captLocal := if good then ltcOf s n else 0
      captEpoch := if good then epochOf s n else 0 } }
  else s

def execLtcCaptureDone (s : State) : Host.Outcome State Fault Refusal := checked true s ltcCaptureDoneEff

/-- Cores bound to a facet: those of its placement, those that a resize has bound or has not yet released, and a spare that a
replacement takes. -/
def boundCores (f : Facet) : NSet :=
  let rs := match f.resize with
    | some r => NSet.union r.cores r.oldCores
    | none => []
  NSet.union f.cores (NSet.union rs (NSet.ofList ((f.replace.map (·.spare)).toList)))

/-- Whether a facet has resources bound in a half, or a resize binds some there. -/
def inHalf (f : Facet) (east : Bool) : Bool :=
  let more := match f.resize with
    | some r => (NSet.union r.channels r.oldChannels, r.halfPorts)
    | none => ([], [])
  (boundCores f).any (fun c => eastCore c == east) || (NSet.union f.channels more.1).any (fun c => eastChan c == east) ||
    (NSet.union f.halfPorts more.2).any (fun h => eastHalfPort h == east)

/-- SEAM_SLOW for one facet (R55). -/
def seamCheck (n : Nat) (s : State) : State :=
  match facetOf s n with
  | none => s
  | some f =>
    let low := decide (Nat.min s.time.westRate s.time.eastRate < f.minRate)
    if !low then (if f.seamLow then setFacet n { f with seamLow := false } s else s)
    else if inHalf f false && inHalf f true && f.minRate != 0 && !f.seamLow then
      raiseTo [f.fn] evSeamSlow f.fn n (s.time.westRate + s.time.eastRate * 2 ^ 16) none f.confidential
        (setFacet n { f with seamLow := true } s)
    else s

/-- HALF_RATE_SAMPLE (R51, R55): a parked half reads 0. -/
def halfRateSampleEff (west east : Nat) (s : State) : State :=
  let s1 := { s with time := { s.time with
    westRate := if s.pwr.westParked then 0 else west % 2 ^ 16
    eastRate := if s.pwr.eastParked then 0 else east % 2 ^ 16 } }
  forAll (s.facets.map (·.1)) seamCheck s1

def execHalfRateSample (west east : Nat) (s : State) : Host.Outcome State Fault Refusal :=
  checked true s (halfRateSampleEff west east)

/-! ## Clearing (R97, R158) -/

/-- Hardware writes zeros to a core's scratchpad, accumulator file, vector and feed registers and inbound queues (R158). -/
def clearedCore (c : Core) : Core :=
  { c with scratch := [], acc := [], vreg := [], feed := [], accBad := [], scratchBad := [], inq := [], events := [],
           pc := 0, done := [], fbuf := [], part := [], atBarrier := none, waiting := none, ended := false, cmd := none, lastCtx := none, buffers := [],
           waitFor := none, snap := none }

/-- An engine as clearing leaves it at an LTC value and epoch: both planes zero, reference columns from the pattern ROM (R97). -/
def clearedPlanes (now : Nat × Nat) (e : Engine) : Engine :=
  { e with plane0 := { base := now }, plane1 := { base := now }, heldRefs := none, swapWait := false, scrubWait := none,
           rewrites := [], cal := none, heldScrub := false, heldSet := false, cmds := [], droopRow := 0, stopped := false }

/-- An engine that lost power: corrections are lost and it is UNCALIBRATED, unless RETIRED or RESERVE (R97, R109). -/
def uncalibrated (now : Nat × Nat) (e : Engine) : Engine :=
  { clearedPlanes now e with
    status := if e.status = 3 || e.status = 4 then e.status else 0
    corr := [], track := [], heldCheck := false, calCall := 0, passNo := 0 }

/-- Engines of a core. -/
def enginesOf (c : Nat) : List Nat := (List.range 8).map (· + c * 8)

/-- LTC value and epoch of a core's cluster. -/
def coreNow (s : State) (c : Nat) : Nat × Nat := (ltcOf s (clusterOfCore c), epochOf s (clusterOfCore c))

/-- Clear a core and its planes; it may be bound when CORE_CLEARING_DONE comes (R158). -/
def clearCore (c : Nat) (s : State) : State :=
  forAll (enginesOf c) (fun e t => updEngine e (clearedPlanes (coreNow s c)) t)
    (updCore c (fun x => { clearedCore x with powered := true, cleared := false }) s)

/-- Cores of a half. -/
def coresOfHalf (east : Bool) : List Nat := (List.range 544).filter fun c => eastCore c == east

/-- Counters of a half. -/
def ltcsOfHalf (east : Bool) : List Nat :=
  (List.range 32).filter (fun k => eastCluster k == east) ++ ((List.range 42).drop 32).filter fun n => eastEdge n == east

/-- A half powers up (R44, R45, R97, R158): each counter starts from 0 with its epoch incremented, except at the first
power-up after PERST# deassertion; the caches and filters are empty; every core but the dark reserve is cleared. -/
def powerUpHalf (east : Bool) (s : State) : State :=
  let first := if east then s.time.eastFirst else s.time.westFirst
  let ns := ltcsOfHalf east
  let s1 := { s with time := { s.time with
    ltc := ns.foldl (fun m n => SMap.del m n) s.time.ltc
    epoch := if first then s.time.epoch else ns.foldl (fun m n => SMap.put m n ((SMap.getD m n 0 + 1) % 2 ^ 16)) s.time.epoch
    eastFirst := s.time.eastFirst && !east
    westFirst := s.time.westFirst && east } }
  let s2 := { s1 with xl := { s1.xl with clus := s1.xl.clus.filter fun w => eastCluster (w.1 / 256) != east } }
  forAll (coresOfHalf east) (fun c t =>
    if (coreOf t c).status = 0 then t
    else forAll (enginesOf c) (fun e u => updEngine e (uncalibrated (coreNow t c)) u) (clearCore c t)) s2

/-- What the caches, filters and mirrors of a half hold is gone; the other half's filters forget its clusters. -/
def dropHalfCaches (east : Bool) (s : State) : State :=
  let here (k : Nat) : Bool := eastCluster k == east
  let forget (l : List FEntry) : List FEntry :=
    (l.map fun e => { e with pres := e.pres.filter fun k => !here k }).filter fun e => !e.pres.isEmpty
  { s with
    coh := { s.coh with
      lines := s.coh.lines.filter fun e => !here (e.1 / 8192)
      filter := (((s.coh.filter.filter fun e => !here (e.1 / 32768)).map fun e => (e.1, forget e.2))).filter fun e => !e.2.isEmpty
      wbBuf := s.coh.wbBuf.filter fun e => !here e.1 }
    xl := { s.xl with clus := s.xl.clus.filter fun w => !here (w.1 / 256) } }

/-- A half loses its core rail (R44, R96, R109): its cores are off, the chunks in its decryption units are dropped, its caches
are empty and its correction tables are lost. -/
def powerDownHalf (east : Bool) (s : State) : State :=
  let s1 := { s with clusters := s.clusters.map fun e => if eastCluster e.1 = east then
      (e.1, { e.2 with job := none, router := { e.2.router with prisms := [] } }) else e }
  forAll (coresOfHalf east) (fun c t =>
    forAll (enginesOf c) (fun e u => updEngine e (uncalibrated (coreNow t c)) u)
      (updCore c (fun x => { clearedCore x with powered := false, cleared := false }) t)) (dropHalfCaches east s1)

/-- A non-reserve core of a powered half is still being cleared. -/
def clearingDue (s : State) : Bool :=
  s.cores.any fun e => e.2.powered && e.2.status == 1 && !e.2.cleared

/-- Milliseconds since the milestones of R554 started, as the 16-bit fields of FCT_BOOT_TIME hold them. -/
def bootMs (s : State) : Nat := Nat.min 0xFFFE ((mcNow s - s.pwr.bootAt) / 1000000)

/-- Stage READY once every channel is trained and zero-filled, every core cleared and both halves calibrated (R554). -/
def readyCheck (s : State) : State :=
  if s.pwr.stage == 4 && s.pwr.trained && s.pwr.westCal == 3 && s.pwr.eastCal == 3 && !clearingDue s &&
      !(s.chans.any fun e => e.2.state == 6) then
    { s with pwr := { s.pwr with stage := 5, readyMs := bootMs s } }
  else s

end Sys2Proof.Machine
end

