-- ==== Sys2Proof/Machine/Placement.lean ====
section
/-! DEFINITION. The placement of a facet (12): segments and their mapping, the sealed loads a placement needs, prism trees,
the placement switch, release of cores, replacement of a failed core, and degrading (R130, R131, R174, R175, R363 to R368). -/

namespace Sys2Proof.Machine

/-- The loaded segment of a ladder on the current placement (R357). -/
def currentSeg (f : Facet) (ladder : Nat) : Option Loaded :=
  (SMap.look f.ladders ladder).bind fun l => SMap.look l.rungs f.rung

/-- Physical core of a logical core of a ladder on the current placement. -/
def physCore (f : Facet) (ladder n : Nat) : Option Nat := (currentSeg f ladder).bind fun l => SMap.look l.mapping n

/-- Physical cores that a ladder's current rung runs on. -/
def coresOfSeg (l : Loaded) : NSet := NSet.ofList (l.mapping.map (·.2))

/-! ## Sealed loads -/

/-- Key of an engine's plane in a facet's list of loads. -/
def loadKey (e : Nat) (one : Bool) : Nat := e * 2 + b2n one

/-- Rung of a weight set for a core count (R529). -/
def wsRung (w : WSet) (count : Nat) : Option WsRung := w.hdr.rungs.find? fun r => r.coreCount == count

/-- Sealed loads that fill planes for a placement. `first e` says which plane of engine e takes the entries of plane 0
(R530); only engines that hold `keep` are loaded, and the entries of plane 1 only where `both`. -/
def loadsFor (rung : WsRung) (mapping : SMap Nat) (first keep : Nat → Bool) (both : Bool) (set : Nat) :
    SMap (Nat × Nat) :=
  if rung.streamed then []
  else rung.entries.foldl (fun m x =>
    match SMap.look mapping (x.engine / 8) with
    | none => m
    | some c =>
      let e := c * 8 + x.engine % 8
      if keep e && (x.plane == 0 || both) then
        SMap.put m (loadKey e (if x.plane = 0 then first e else !(first e))) (set, x.chunk)
      else m) []

/-- Add loads to a facet's list. -/
def addLoads (l : SMap (Nat × Nat)) (f : Facet) : Facet :=
  { f with loads := l.foldl (fun m e => SMap.put m e.1 e.2) f.loads }

/-- Loads that put a weight set into the planes of a ladder's current placement, active planes first (R469). -/
def refillLoads (s : State) (f : Facet) (ladder : Nat) (keep : Nat → Bool) : SMap (Nat × Nat) :=
  match currentSeg f ladder with
  | none => []
  | some l =>
    let set := l.seg.weightSet
    match SMap.look f.sets set with
    | none => []
    | some w =>
      match wsRung w f.rung with
      | none => []
      | some r => loadsFor r l.mapping (fun e => (engineOf s e).active1) keep l.seg.twoPlane set

/-- The ladder whose set the active planes hold, or are being filled with, if one is loaded. -/
def heldLadder (f : Facet) : Option Nat :=
  let set := match f.switching with
    | some w => some w.2
    | none => f.planesSet
  match set with
  | none => none
  | some p => (f.ladders.find? fun e => e.2.weightSet == p).map (·.1)

/-- Loads that refill what the facet's planes held, as after an eclipse or a wake (R383, R483). -/
def reloadLoads (s : State) (f : Facet) (keep : Nat → Bool) : SMap (Nat × Nat) :=
  match heldLadder f with
  | none => []
  | some h => refillLoads s f h keep

/-! ## Prism trees (R174, R175) -/

/-- Trees of a segment for a rung: built where the rung is the placement. -/
def segTrees (n ladder : Nat) (cur : Nat) (l : Loaded) : List PrismTree :=
  let built := l.seg.coreCount == cur
  ((List.range l.seg.prisms.length).zip l.seg.prisms).map fun x =>
    { facet := n, ladder := ladder, rung := l.seg.coreCount, entry := x.1, queue := x.2.queue
      source := if built then SMap.look l.mapping x.2.source else none
      leaves := if built then NSet.ofList (x.2.leaves.filterMap (SMap.look l.mapping)) else [] }

/-- Lowest identities that no tree has. -/
def freePrisms (s : State) : List Nat := (List.range 256).filter fun i => !SMap.has s.prisms i

/-- Put a tree under an identity: its entries are written into the routers along it. -/
def buildTree (i : Nat) (t : PrismTree) (s : State) : State :=
  let s1 := { s with prisms := SMap.put s.prisms i t }
  match t.source with
  | some c => writeTree i (treeEntries c t.leaves t.queue) s1
  | none => s1

/-- Put trees under free identities. -/
def addTrees (l : List PrismTree) (s : State) : State := ((freePrisms s).zip l).foldl (fun t x => buildTree x.1 x.2 t) s

/-- Free the trees that hold a property. -/
def freeTrees (p : PrismTree → Bool) (s : State) : State :=
  (s.prisms.filter fun e => p e.2).foldl (fun t e => eraseTree e.1 { t with prisms := SMap.del t.prisms e.1 }) s

/-- The trees of a facet as its placement has them now. -/
def newTrees (n : Nat) (s : State) : List PrismTree :=
  match facetOf s n with
  | none => []
  | some f => (s.prisms.filter fun e => e.2.facet == n && !e.2.old).filterMap fun e =>
      ((SMap.look f.ladders e.2.ladder).bind fun l => SMap.look l.rungs e.2.rung).bind fun l =>
        (segTrees n e.2.ladder f.rung l)[e.2.entry]?

/-- Build again the trees of a facet after its placement changed (R175). The old ones stay for the old placement's commands until
it has drained; where too few identities are free for both, they go first, since the switch stands at a command boundary (R197). -/
def rebuildTrees (n : Nat) (s : State) : State :=
  let l := newTrees n s
  let mark (t : PrismTree) : PrismTree := if t.facet = n then { t with old := true } else t
  let s1 := { s with prisms := s.prisms.map fun e => (e.1, mark e.2) }
  addTrees l (if (freePrisms s).length < l.length then freeTrees (fun t => t.facet == n && t.old) s1 else s1)

/-- Free the trees of a facet's old placement (R175). -/
def freeOldTrees (n : Nat) (s : State) : State := freeTrees (fun t => t.facet == n && t.old) s

/-! ## Cores -/

/-- Release a core (R368 step 3): it is cleared, its planes are zero, and it is FREE. -/
def releaseCore (c : Nat) (s : State) : State :=
  updCore c (fun x => { x with status := if x.status = 2 then 1 else x.status, facet := 0, cleared := true })
    (clearCore c (spoilWindows [c] s))

/-- Cores of a facet that lie in a cluster. -/
def coresIn (f : Facet) (k : Nat) : NSet := f.cores.filter fun c => clusterOfCore c == k

/-- Clusters that have lost their last core of a facet give up its lines (R250). -/
def leaveClusters (gone keep chans : NSet) (s : State) : State :=
  let ks := NSet.ofList (gone.map clusterOfCore)
  forAll (ks.filter fun k => !keep.any fun c => clusterOfCore c == k) (fun k t => flushCluster k chans t) s

/-! ## The switch (R363, R366) -/

/-- Whether the current rung of any ladder of a facet uses both planes. -/
def anyTwoPlane (f : Facet) (rung : Nat) : Bool :=
  f.ladders.any fun e => ((SMap.look e.2.rungs rung).map (·.seg.twoPlane)).getD false

/-- Former cores of a ladder's groups on the current placement. -/
def ladderPref (cur : Nat) (l : Ladder) (group : Nat) : List Nat :=
  match SMap.look l.rungs cur with
  | some x => formerCores x.seg x.mapping group
  | none => []

/-- Map every ladder's segment of a rung onto cores, retained cores in their groups where the rung allows. -/
def mapLadders (rung : Nat) (cores : NSet) (f : Facet) : Facet :=
  let one (l : Ladder) : Ladder :=
    { l with rungs := l.rungs.map fun e =>
        (e.1, { e.2 with mapping :=
          if e.1 = rung then (fitNear (ladderPref f.rung l) e.2.seg cores).getD [] else [] }) }
  { f with ladders := f.ladders.map fun e => (e.1, one e.2) }

/-- Loads of step 3 of R363: retained cores load the plane that will be active after the swap, added cores the active plane
(R364). -/
def resizeLoads (s : State) (f : Facet) (cores : NSet) (rung : Nat) : SMap (Nat × Nat) :=
  match heldLadder f with
  | none => []
  | some h =>
    match SMap.look f.ladders h with
    | none => []
    | some ld =>
      match SMap.look ld.rungs rung with
      | none => []
      | some l =>
        match SMap.look f.sets l.seg.weightSet, fitNear (ladderPref f.rung ld) l.seg cores with
        | some w, some m =>
          match wsRung w rung with
          | none => []
          | some r =>
            let retained (e : Nat) : Bool := f.cores.contains (coreOfEngine e)
            loadsFor r m (fun e => (engineOf s e).active1 != retained e) (fun _ => true) l.seg.twoPlane l.seg.weightSet
        | _, _ => []

/-- Write zeros to the plane that a retained engine's switch has made the shadow plane (R366 step 5). -/
def zeroShadow (x : Engine) : Engine := setPlane (!x.active1) {} x

/-- The placement switch of a facet with its resize (R366). -/
def switchPlacement (n : Nat) (f : Facet) (r : Resize) (s : State) : State :=
  let retained := NSet.inter f.cores r.cores
  let two := anyTwoPlane f r.rung
  let s1 := forAll (retained.flatMap enginesOf) (fun e t =>
    updEngine e (fun x => (if two then id else zeroShadow) (swapPlanes (abandonCal x))) t) s
  let f1 := mapLadders r.rung r.cores { f with
    cores := r.cores, rung := r.rung, gen := (f.gen + 1) % 2 ^ 32, master := r.master, degraded := r.degrade
    resize := some { r with switched := true, oldCores := NSet.diff f.cores r.cores } }
  raiseFw [f.fn] evFacetSwitched f.fn n (r.rung + f1.gen * 2 ^ 32) none f.confidential
    (rebuildTrees n (setFacet n f1 s1))

/-! ## A failed core (R121, R367, R485) -/

/-- The largest rung at or below a number of cores whose loaded segments fit them. -/
def degradeRung (f : Facet) (cores : NSet) : Option Nat :=
  (f.rungs.filter fun r => decide (r ≤ cores.length) &&
    f.ladders.all fun e => ((SMap.look e.2.rungs r).map fun l => fits l.seg cores).getD true).getLast?

/-- Degrade a facet onto the cores that it still holds (R367). The switch follows at PLACEMENT_SWITCH. -/
def degradeFacet (n : Nat) (s : State) : State :=
  match facetOf s n with
  | none => s
  | some f =>
    let r := degradeRung f f.cores
    let f1 := { f with degraded := true }
    let f2 := match r with
      | none => { f1 with rung := 0 }
      | some g =>
        addLoads (resizeLoads s f f.cores g) { f1 with
          resize := some { ticket := none, cores := f.cores, channels := f.channels, halfPorts := f.halfPorts,
                           master := f.master, rung := g, moves := [], degrade := true } }
    raiseFw [0, f.fn] evFacetDegraded f.fn n (f.cores.length + r.getD 0 * 2 ^ 16) none f.confidential (setFacet n f2 s)

/-- Put one physical core in place of another. -/
def substCore (a b : Nat) (m : SMap Nat) : SMap Nat := m.map fun e => (e.1, if e.2 = a then b else e.2)

/-- Every ladder's current mapping with one core in place of another. -/
def substLadders (a b : Nat) (f : Facet) : Facet :=
  let one (l : Ladder) : Ladder := { l with rungs := l.rungs.map fun e => (e.1, { e.2 with mapping := substCore a b e.2.mapping }) }
  { f with ladders := f.ladders.map fun e => (e.1, one e.2) }

/-- The cluster's reserve core is powered, and its clearing begins, for a facet that has lost core c (R367 step 2). -/
def takeSpare (n c : Nat) (s : State) : State :=
  let k := clusterOfCore c
  let spare := reserveCore s k
  let s1 := forAll (enginesOf spare) (fun e t => updEngine e (fun x => { uncalibrated (coreNow t spare) x with status := 0 }) t)
    (clearCore spare (updCluster k (fun x => { x with reserveUsed := true }) s))
  let swap (r : Resize) : Resize := { r with cores := NSet.add (NSet.del r.cores c) spare }
  updFacet n (fun f => { f with replace := some ⟨c, spare⟩, resize := f.resize.map swap }) s1

/-- A spare core whose clearing has finished is bound to the facet that it is for, and its planes are due (R158, R367). -/
def bindSpare (c : Nat) (s : State) : State :=
  match s.facets.find? fun e => (e.2.replace.map (·.spare)) == some c with
  | none => s
  | some (n, f) =>
    if (coreOf s c).status = 2 then s
    else
      match f.replace with
      | none => s
      | some r =>
        updFacet n (fun g => addLoads (reloadLoads s (substLadders r.failed c g) fun e => coreOfEngine e == c)
          { g with cores := NSet.add g.cores c }) (updCore c (fun x => { x with status := 2, facet := n }) s)

/-- Steps 1 and 2 of R367: the core is RETIRED and recorded; the cluster's reserve core is powered and cleared, or the facet
is degraded. -/
def startReplace (n c : Nat) (s : State) : State :=
  let drop (m : SMap (Nat × Nat)) : SMap (Nat × Nat) := m.filter fun e => coreOfEngine (e.1 / 2) != c
  let s1 := updFacet n (fun f => { f with cores := NSet.del f.cores c, loads := drop f.loads })
    (updCore c (fun x => { clearedCore x with status := 3, facet := 0 }) s)
  if (clusterOf s (clusterOfCore c)).reserveUsed then degradeFacet n s1 else takeSpare n c s1

/-- Whether a failure has to wait its turn: another replacement or an eclipse stands, or a resize that does not retain the
core, has switched, or finds no reserve (R121, R382). -/
def failureWaits (s : State) (f : Facet) (c : Nat) : Bool :=
  f.replace.isSome || f.eclipse.isSome ||
    match f.resize with
    | none => false
    | some r => r.switched || !r.cores.contains c || (clusterOf s (clusterOfCore c)).reserveUsed

/-- A spare that fails before it is in service is lost too: its cluster has no reserve left, and the facet is degraded, after a
resize that is in progress (R121, R367). -/
def spareFails (n c : Nat) (s : State) : State :=
  let s1 := updCore c (fun x => { clearedCore x with status := 3, facet := 0 }) s
  match facetOf s n with
  | none => s1
  | some f =>
    let f1 := { f with cores := NSet.del f.cores c, replace := none
                       loads := f.loads.filter fun e => coreOfEngine (e.1 / 2) != c }
    if f.resize.isSome || f.eclipse.isSome then setFacet n { f1 with failWait := NSet.add f.failWait c } s1
    else degradeFacet n (setFacet n f1 s1)

/-- A core of a facet fails: its replacement starts, or waits its turn. A facet that is being destroyed gets none. -/
def coreFails (n c : Nat) (s : State) : State :=
  match facetOf s n with
  | none => updCore c (fun x => { clearedCore x with status := 3 }) s
  | some f =>
    if !f.cores.contains c && f.replace.map (·.spare) != some c then s
    else if f.replace.map (·.spare) = some c then spareFails n c s
    else if failureWaits s f c then setFacet n { f with failWait := NSet.add f.failWait c } s
    else startReplace n c s

/-- The next failed core whose replacement waited. -/
def nextFailure (n : Nat) (s : State) : State :=
  match facetOf s n with
  | none => s
  | some f =>
    match f.failWait with
    | [] => s
    | c :: r =>
      if failureWaits s f c then s
      else if f.cores.contains c then coreFails n c (setFacet n { f with failWait := r } s)
      else degradeFacet n (setFacet n { f with failWait := r } s)

/-! ## Engines out of the contract (R120) -/

/-- The work on a core has passes left to run on an engine: an operation of its program that has not completed names it. -/
def passesLeft (s : State) (c id e : Nat) : Bool :=
  let x := coreOf s c
  match programOf s c id with
  | none => false
  | some (_, p) => ((List.range p.ops.length).zip p.ops).any fun o =>
      decide (x.pc ≤ o.1) && !x.done.contains o.1 &&
        match o.2 with
        | .pass _ mask _ _ _ _ _ => bit mask (e % 8) == 1
        | _ => false

/-- A command with passes left on a retired engine completes NUMERIC_SUSPECT at once (R120 step 5); what its other engines hold
is converted first (R105). -/
def endSuspect (e : Nat) (s : State) : State :=
  let c := coreOfEngine e
  let x := coreOf s c
  match x.cmd with
  | none => s
  | some id =>
    if x.ended || !passesLeft s c id e then s
    else
      let cores := (s.cores.filter fun y => y.2.cmd == some id).map (·.1)
      let s1 := forAll (cores.flatMap enginesOf) (fun g t => if g = e then t else checkHeld g t) (meetStatus id stNumericSuspect 0 s)
      if 2 ^ 32 ≤ id then forAll cores (fun d t => updCore d (fun y => { y with ended := true }) t) s1
      else finishCmd id s1

/-- Retire an engine, and with it its core (R120, R121). -/
def retireEngine (e : Nat) (s : State) : State :=
  let c := coreOfEngine e
  let f := facetOfEngine s e
  let bound := (coreOf s c).status == 2
  let s0 := if s.pwr.stage = 4 then { s with pwr := { s.pwr with bootDegraded := true } } else s
  let s1 := setEngine e { engineOf s e with status := 3, calResult := 2, cal := none, calCall := 0, heldCheck := false, rewrites := [] } s0
  let s2 := raiseFw (engineTo s1 e) evEngineRetired (if bound then ownerOf s1 f else 0) e f none (confEngine s1 e) s1
  let s3 := endSuspect e s2
  if bound then coreFails f c (updFacet f (fun x => { x with retired := satAdd 16 x.retired 1 }) s3)
  else updCore c (fun x => if x.status = 1 then { x with status := 3 } else x) s3

end Sys2Proof.Machine
end

