-- ==== Sys2Proof/Machine/Calib.lean ====
section
/-! DEFINITION. Sealed loads and the scrub of planes (R82 to R95, R218 to R220), full calibration and start-up calibration (R107
to R122). -/

namespace Sys2Proof.Machine

/-! ## Copies of a weight set (R217, R218) -/

/-- The weight set of a facet. -/
def setOf (s : State) (f set : Nat) : Option WSet := (facetOf s f).bind fun y => SMap.look y.sets set

/-- Change a weight set of a facet. -/
def updSet (f set : Nat) (g : WSet → WSet) (s : State) : State :=
  updFacet f (fun x => { x with sets := SMap.modify x.sets set g }) s

/-- The parts of `n` bytes from byte `off` of what a list of frames holds, none across a frame: facet address and count. -/
def framePieces (frames : List Nat) : Nat → Nat → Nat → List (Nat × Nat)
  | 0, _, _ => []
  | fuel + 1, off, n =>
    if n = 0 then []
    else
      let k := Nat.min n (65536 - off % 65536)
      (frameAddr frames off, k) :: framePieces frames fuel (off + k) (n - k)

/-- The frame pieces of a range. -/
def copyPieces (frames : List Nat) (off n : Nat) : List (Nat × Nat) := framePieces frames (n / 65536 + 2) off n

/-- Read the pieces with hint STREAM (R203); none where a line of them reads uncorrectable or cannot be read. -/
def readPieces (f : Nat) : List (Nat × Nat) → List Byte → State → Option (List Byte) × State
  | [], acc, s => (some acc, s)
  | (a, n) :: r, acc, s =>
    let x := faRead (facetVia s f) f 1 a n s
    match x.1 with
    | .inl d => readPieces f r (acc ++ d) x.2
    | .inr _ => (none, x.2)

/-- Write bytes over the pieces. -/
def writePieces (f : Nat) : List (Nat × Nat) → List Byte → State → State
  | [], _, s => s
  | (a, n) :: r, d, s => writePieces f r (d.drop n) (faWrite privVia f 1 a (d.take n) s).2

/-- Where chunk k of a container lies: its ciphertext and tag (R531). -/
def chunkAt (h : WsHeader) (k : Nat) : Nat := h.chunkOffset + 65552 * k

/-- The frames of one copy. -/
def copyFrames (w : WSet) (second : Bool) : List Nat := if second then w.replicaFrames else w.frames

/-- Read a chunk's ciphertext and tag from one copy. -/
def readChunk (f : Nat) (w : WSet) (second : Bool) (k : Nat) (s : State) : Option (List Byte) × State :=
  readPieces f (copyPieces (copyFrames w second) (chunkAt w.hdr k) 65552) [] s

/-- Rewrite a chunk of one copy from the other, in whole lines (R218 step 2). -/
def rewriteChunk (f : Nat) (w : WSet) (second : Bool) (k : Nat) (s : State) : State :=
  let a := chunkAt w.hdr k / 64 * 64
  let n := (chunkAt w.hdr k + 65552 + 63) / 64 * 64 - a
  let r := readPieces f (copyPieces (copyFrames w (!second)) a n) [] s
  match r.1 with
  | some d => writePieces f (copyPieces (copyFrames w second) a n) d r.2
  | none => r.2

/-- Chunk that becomes image i of a set's stream image (R530). -/
def imageChunk (w : WSet) (i : Nat) : Option Nat :=
  (((w.hdr.rungs.filter (·.streamed)).flatMap (·.entries))[i]?).map (·.chunk)

/-! ## Which chunk comes next (R84, R85) -/

/-- A running command uses an engine's plane (R85): the active one, and both where its segment swaps. -/
def planeInUse (s : State) (e : Nat) (one : Bool) : Bool :=
  let c := coreOf s (coreOfEngine e)
  match c.cmd with
  | none => false
  | some id => (engineOf s e).active1 == one ||
    match workSeg s id c.facet with
    | some l => l.seg.twoPlane || l.seg.streamed
    | none => false

/-- Whether a sealed load of this chunk into this plane is due: a load of the facet's list, or the restore of a plane that
calibration overwrote (R107 step 6). -/
def loadDue (s : State) (e : Nat) (one : Bool) (f set chunk : Nat) : Bool :=
  let p := planeOf (engineOf s e) one
  !planeInUse s e one && ((p.loading && p.src == .chunk f set chunk) ||
    ((facetOf s f).bind fun x => SMap.look x.loads (loadKey e one)) == some (set, chunk))

/-- A frame of a stream image holds a line that reads uncorrectable. -/
def imagePoisoned (s : State) (f set i : Nat) : Bool :=
  match streamFrame s f set i with
  | none => false
  | some n => match (faRead (facetVia s f) f 1 (n * 65536) 65536 s).1 with
    | .inl _ => false
    | .inr _ => true

/-- Whether the rebuild of a stream image that a PLANE_LOAD waits for is due from this chunk (R220): the image's number. -/
def rebuildDue (s : State) (e : Nat) (one : Bool) (f set chunk : Nat) : Option Nat :=
  let p := planeOf (engineOf s e) one
  match p.loading, p.src with
  | true, .stream g w i =>
    if g = f && w = set && ((setOf s f set).bind fun x => imageChunk x i) == some chunk && imagePoisoned s f set i then some i else none
  | _, _ => none

/-- Whether a scrub rewrite of this plane from this chunk is due (R94): its row needs the plane's source, and no buffer holds it.
A stream image that reads uncorrectable gives way to its chunk. -/
def scrubDue (s : State) (e : Nat) (one : Bool) (f set chunk : Nat) : Bool :=
  let x := engineOf s e
  (x.rewrites.any fun r => r.one == one && !r.refOnly && r.buffer.isNone) &&
    match (planeOf x one).src with
    | .chunk g w c => g == f && w == set && c == chunk
    | .stream g w i => g == f && w == set && ((setOf s f set).bind fun y => imageChunk y i) == some chunk && imagePoisoned s f set i
    | _ => false

/-- Engines of a cluster. -/
def enginesOfCluster (k : Nat) : List Nat := (List.range 136).map (· + k * 136)

/-- The weight set of a facet can be decrypted. -/
def setGood (s : State) (f set : Nat) : Bool :=
  match setOf s f set with
  | some y => y.ready && !y.quarantined
  | none => false

/-- A scrub rewrite of some plane of a cluster waits for its chunk (R84). -/
def scrubPending (s : State) (k : Nat) : Bool :=
  (enginesOfCluster k).any fun e =>
    let x := engineOf s e
    x.rewrites.any fun r => !r.refOnly && r.buffer.isNone &&
      match (planeOf x r.one).src with
      | .chunk f set _ => setGood s f set
      | .stream f set i => setGood s f set && imagePoisoned s f set i
      | _ => false

/-- Facets that have sealed loads pending in a cluster (R84). -/
def pendingFacets (s : State) (k : Nat) : NSet :=
  let listed := (s.facets.filter fun f => f.2.loads.any fun l =>
    clusterOfEngine (l.1 / 2) == k && !planeInUse s (l.1 / 2) (l.1 % 2 == 1) && setGood s f.1 l.2.1).map (·.1)
  let planes := (enginesOfCluster k).flatMap fun e =>
    let x := engineOf s e
    [(x.plane0, false), (x.plane1, true)].filterMap fun p =>
      match p.1.loading, p.1.src with
      | true, .chunk f set _ => if setGood s f set && !planeInUse s e p.2 then some f else none
      | true, .stream f set i => if setGood s f set && imagePoisoned s f set i then some f else none
      | _, _ => none
  NSet.ofList (listed ++ planes)

/-- The facet whose turn it is: the next pending one after the facet that had the last slot. -/
def turnFacet (s : State) (k : Nat) : Option Nat :=
  let l := pendingFacets s k
  match l.find? fun f => decide ((clusterOf s k).lastFacet < f) with
  | some f => some f
  | none => l.head?

/-- R84: whether the next slot of a cluster goes to a scrub rewrite: at most one slot in five while other loads are pending. -/
def scrubTurn (s : State) (k : Nat) : Bool :=
  scrubPending s k && (decide (4 ≤ (clusterOf s k).sinceScrub) || (pendingFacets s k).isEmpty)

def sealedChunkStartEff (k e p f set chunk buffer : Nat) (scrub : Bool) (s : State) : State :=
  let one := p == 1
  let c := coreOfEngine e
  let x := coreOf s c
  let rebuild := rebuildDue s e one f set chunk
  let due := if scrub then scrubDue s e one f set chunk && scrubTurn s k
    else (loadDue s e one f set chunk || rebuild.isSome) && !scrubTurn s k && turnFacet s k == some f
  match setOf s f set with
  | none => s
  | some w =>
    let up := (engineOf s e).status != 3 && (engineOf s e).status != 4
    if clusterOfEngine e = k && (clusterOf s k).job.isNone && x.powered && !x.buffers.contains buffer && up && due &&
        setGood s f set && decide (chunk < w.hdr.chunkCount) then
      let s1 := updCluster k (fun y => { y with
        job := some { engine := e, plane1 := one, facet := f, set := set, chunk := chunk, buffer := buffer, scrub := scrub
                      rebuild := if scrub then none else rebuild, second := w.badFirst.contains chunk }
        sinceScrub := if scrub then 0 else Nat.min 4 (y.sinceScrub + 1), lastFacet := if scrub then y.lastFacet else f }) s
      let s2 := updCore c (fun y => { y with buffers := NSet.add y.buffers buffer }) s1
      if scrub || rebuild.isSome then s2
      else
        updEngine e (fun y => updPlane one (fun q => { q with loading := true, src := .chunk f set chunk })
          (if one = y.active1 then y else abandonCal y)) (dropRewrites e one s2)
    else s

/-- SEALED_CHUNK_START (R82 step 1, R84, R85): a chunk whose turn it is, into a free buffer. -/
def execSealedChunkStart (cluster engine plane facet set chunk buffer : Nat) (scrub : Bool) (s : State) :
    Host.Outcome State Fault Refusal :=
  checked (okCluster cluster && okEngine engine && okTwo plane && okFacet facet && decide (buffer < 4)) s
    (sealedChunkStartEff cluster engine plane facet set chunk buffer scrub)

/-! ## A chunk's end (R82, R86, R218, R219) -/

/-- PLANE_SCRUB_FAULT of a rewrite (R94 step 5). -/
def scrubFaultEvent (e : Nat) (r : Rewrite) (s : State) : State :=
  raiseTo ((engineTo s e).drop 1) evPlaneScrubFault (engineOwner s e)
    (e + b2n r.one * 2 ^ 13 + r.row * 2 ^ 14) r.last.1 (some (0, r.last.2)) (confEngine s e) s

/-- The command on an engine's core completes WEIGHT_POISON. -/
def poisonCore (e : Nat) (s : State) : State :=
  match (coreOf s (coreOfEngine e)).cmd with
  | some id => meetStatus id stWeightPoison 0 s
  | none => s

/-- An engine whose scrub rewrite of the active plane needs a quarantined set stays HELD, and its command completes WEIGHT_POISON
(R219); PLANE_SCRUB_FAULT is raised now, for the rewrite cannot end. -/
def holdForSet (f set e : Nat) (s : State) : State :=
  let x := engineOf s e
  let mine : Bool := match (activePlane x).src with
    | .chunk g w _ => g == f && w == set
    | .stream g w _ => g == f && w == set
    | _ => false
  let due := x.rewrites.filter fun r => r.act && !r.refOnly && !r.told
  if mine && !due.isEmpty && !x.heldSet then
    due.foldl (fun t r => scrubFaultEvent e r t) (poisonCore e (setEngine e { x with
      heldSet := true, status := if x.status = 1 then 2 else x.status
      rewrites := x.rewrites.map fun r => if r.act && !r.refOnly then { r with told := true } else r } s))
  else s

/-- A set is quarantined (R219): WEIGHT_QUARANTINED, the commands that wait on a load from it complete WEIGHT_POISON, and engines
whose scrub rewrite needs it stay HELD. -/
def quarantine (f set chunk : Nat) (s : State) : State :=
  match facetOf s f with
  | none => s
  | some x =>
    let s1 := setFacet f { x with
      sets := SMap.modify x.sets set fun w => { w with quarantined := true }
      loads := x.loads.filter fun e => e.2.1 != set } s
    let s2 := raiseFw [x.fn] evWeightQuarantined x.fn set chunk none x.confidential s1
    let s3 := forAll (x.cores.flatMap enginesOf) (holdForSet f set) s2
    match x.switching with
    | some (id, sw) =>
      if sw = set then
        let s4 := updFacet f (fun y => { y with switching := none, chosen := none }) s3
        if 2 ^ 32 ≤ id then meetStatus id stWeightPoison 0 s4 else endUnstarted id stWeightPoison 0 s4
      else s3
    | none => s3

/-- The chunk in a cluster's hand leaves the decryption unit. -/
def freeUnit (k : Nat) (s : State) : State := updCluster k (fun y => { y with job := none }) s

/-- The chunk in a cluster's hand leaves it, and its buffer is free (R82 step 4). -/
def dropJob (k : Nat) (j : ChunkJob) (s : State) : State :=
  updCore (coreOfEngine j.engine) (fun y => { y with buffers := NSet.del y.buffers j.buffer }) (freeUnit k s)

/-- A plane that keeps no part of its chunk is unloaded (R86); the facet's planes no longer hold the set. -/
def unloadPlane (j : ChunkJob) (s : State) : State :=
  finishSwap j.engine (updFacet j.facet (fun f => { f with planesSet := if f.planesSet = some j.set then none else f.planesSet })
    (updEngine j.engine (updPlane j.plane1 fun p => { refFlip := p.refFlip }) s))

/-- No good copy of a chunk is left: the set is quarantined (R219). A rewrite of the active plane keeps its engine HELD; one of the
shadow plane is given up without a word to any command (R95); any other load leaves its plane unloaded. -/
def chunkLost (k : Nat) (j : ChunkJob) (s : State) : State :=
  let s1 := quarantine j.facet j.set j.chunk (dropJob k j s)
  if j.scrub then
    finishSwap j.engine (updEngine j.engine (fun x => { x with rewrites := x.rewrites.filter fun r => r.act || r.one != j.plane1 || r.refOnly }) s1)
  else if j.rebuild.isSome then unloadPlane j (poisonCore j.engine s1)
  else unloadPlane j s1

/-- A chunk has failed its tag check, read poisoned, or met a parity error in the secure part (R86, R155). The first copy of a
replicated set gives way to the replica; a second load that fails the same first copy joins its repair (R218, R221). -/
def chunkFails (k : Nat) (j : ChunkJob) (s : State) : State :=
  let replica := match setOf s j.facet j.set with
    | some y => y.replicated && !j.second && !y.badSecond.contains j.chunk
    | none => false
  if replica then
    updCluster k (fun y => { y with job := some { j with second := true } })
      (updSet j.facet j.set (fun y => { y with badFirst := NSet.add y.badFirst j.chunk }) s)
  else chunkLost k j s

/-- WEIGHT_REPAIRED (R218, R220). -/
def raiseRepaired (f set chunk : Nat) (s : State) : State :=
  raiseFw [ownerOf s f] evWeightRepaired (ownerOf s f) set chunk none (confFacet s f) s

/-- A chunk that came from the replica: the failed copy is rewritten from it and WEIGHT_REPAIRED is raised, once (R218, R221). -/
def chunkRepaired (j : ChunkJob) (s : State) : State :=
  match setOf s j.facet j.set with
  | none => s
  | some w =>
    if j.second && w.badFirst.contains j.chunk then
      raiseRepaired j.facet j.set j.chunk
        (updSet j.facet j.set (fun y => { y with badFirst := NSet.del y.badFirst j.chunk }) (rewriteChunk j.facet w false j.chunk s))
    else s

/-- Offset of a chunk buffer in the secure part (R82). -/
def bufferAt (b : Nat) : Nat := Config.dataRegion + 65536 * b

/-- The plane is written from the buffer and the load is no longer due (R82 steps 3 and 4). -/
def chunkWritten (k : Nat) (j : ChunkJob) (image : List Byte) (retries : Nat) (faultRow : Bool) (s : State) : State :=
  updFacet j.facet (fun f => { f with loads := SMap.del f.loads (loadKey j.engine j.plane1) })
    (endPlaneLoad j.engine j.plane1 (.chunk j.facet j.set j.chunk) image retries faultRow (dropJob k j s))

/-- A chunk is in its buffer, decrypted: a scrub rewrite takes its rows from there, a rebuild goes to the stream image (R220), and
any other load is written into its plane. -/
def chunkReady (k : Nat) (j : ChunkJob) (image : List Byte) (retries : Nat) (faultRow : Bool) (s : State) : State :=
  if j.scrub then
    updEngine j.engine (fun x => { x with rewrites := x.rewrites.map fun r =>
      if r.one = j.plane1 && !r.refOnly && r.buffer.isNone then { r with buffer := some j.buffer } else r }) (freeUnit k s)
  else match j.rebuild with
  | some i =>
    match streamFrame s j.facet j.set i with
    | some n => raiseRepaired j.facet j.set j.chunk (faWrite privVia j.facet 1 (n * 65536) image (dropJob k j s)).2
    | none => dropJob k j s
  | none => chunkWritten k j image retries faultRow s

def sealedChunkDoneEff (k : Nat) (tagOk : Bool) (image : List Byte) (retries : Nat) (faultRow : Bool) (upset : List Nat)
    (s : State) : State :=
  match (clusterOf s k).job with
  | none => s
  | some j =>
    match setOf s j.facet j.set with
    | none => dropJob k j s
    | some w =>
      let r := readChunk j.facet w j.second j.chunk s
      if tagOk && r.1.isSome then
        let d := takePad 65536 image
        let s1 := upsetCore (coreOfEngine j.engine) (upset.map (· + bufferAt j.buffer))
          (scratchWrite (coreOfEngine j.engine) (bufferAt j.buffer) d r.2)
        match scratchRead (coreOf s1 (coreOfEngine j.engine)) (bufferAt j.buffer) 65536 with
        | some _ => chunkReady k j d retries faultRow (chunkRepaired j s1)
        | none => chunkFails k j s1
      else chunkFails k j r.2

/-- SEALED_CHUNK_DONE (R82 steps 2 to 4, R86): the decryption unit reads the ciphertext from the set's copy and writes the
plaintext `image` into the buffer; `tagOk` is the outcome of the tag check, `upset` the bytes of the buffer whose parity is
bad when the plane loader reads it (log 12). -/
def execSealedChunkDone (cluster : Nat) (tagOk : Bool) (image : List Byte) (retries : Nat) (faultRow : Bool) (upset : List Nat)
    (s : State) : Host.Outcome State Fault Refusal :=
  checked (okCluster cluster) s (sealedChunkDoneEff cluster tagOk image retries faultRow upset)

/-! ## The scrub (R93 to R95) -/

/-- Whether the set that a plane was loaded from is quarantined (R219). -/
def sourcePoisoned (s : State) (p : Plane) : Bool :=
  let q (f set : Nat) : Bool := ((setOf s f set).map (·.quarantined)).getD true
  match p.src with
  | .chunk f set _ => q f set
  | .stream f set _ => q f set
  | _ => false

/-- Commands that used a plane since a row's last good scrub (R94 step 4). -/
def usersSince (p : Plane) (row epoch : Nat) : List Nat :=
  (p.users.filter fun u => (lastScrub p row).2 != epoch || decide ((lastScrub p row).1 ≤ u.2)).map (·.1)

/-- A row of a plane has a parity error, or its reference cells differ from the ROM (R94, R95): its rewrite is due. In the active
plane the engine stops, and the running commands that used the plane since the row's last good scrub are NUMERIC_SUSPECT. -/
def scrubError (e : Nat) (one refOnly : Bool) (row : Nat) (s : State) : State :=
  let x := engineOf s e
  let p := planeOf x one
  let act := one == x.active1
  let r : Rewrite := { one := one, row := row, last := lastScrub p row, act := act, refOnly := refOnly }
  let s1 := countEngine e (fun y => { y with scrubFaults := satAdd 16 y.scrubFaults 1 }) (setEngine e { x with
    scrubWait := none, rewrites := x.rewrites ++ [r]
    heldScrub := x.heldScrub || act, status := if act && x.status = 1 then 2 else x.status } s)
  if act then
    let s2 := (usersSince p row (epochOf s (clusterOfEngine e))).foldl (fun t id => meetStatus id stNumericSuspect 0 t) s1
    match p.src with
    | .chunk f set _ => if sourcePoisoned s p then holdForSet f set e s2 else s2
    | .stream f set _ => if sourcePoisoned s p then holdForSet f set e s2 else s2
    | _ => s2
  else s1

def planeScrubVisitEff (e p row : Nat) (upset : List Nat) (s : State) : State :=
  let one := p == 1
  let x0 := engineOf s e
  let k := clusterOfEngine e
  if (planeOf x0 one).loading || !(coreOf s (coreOfEngine e)).powered || x0.status == 3 then s
  else
    let x := updPlane one (upsetRow row upset) x0
    let pl := planeOf x one
    if !rowParityBad pl row && !rowRefBad pl row then
      finishSwap e (setEngine e (updPlane one (fun q => { q with scrubbed := SMap.put q.scrubbed row (ltcOf s k, epochOf s k) })
        { x with scrubWait := none }) s)
    else if x.rewrites.any fun r => r.one == one && r.row == row then setEngine e { x with scrubWait := none } s
    else scrubError e one (!rowParityBad pl row) row (setEngine e x s)

/-- PLANE_SCRUB_VISIT (R93 to R95): a row is read back, spare and reference columns included; `upset` lists its bits that have
flipped since the last visit (log 12). A plane under load is skipped. -/
def execPlaneScrubVisit (engine plane row : Nat) (upset : List Nat) (s : State) : Host.Outcome State Fault Refusal :=
  checked (okEngine engine && okTwo plane && decide (row < 256)) s (planeScrubVisitEff engine plane row upset)

/-- SCRUB_GAP_TIMEOUT (R93): the next pass waits for the scrub read of the active plane. -/
def scrubGapTimeoutEff (e : Nat) (s : State) : State :=
  let x := engineOf s e
  if x.status = 1 then setEngine e { x with scrubWait := some (x.active1, 0) } s else s

def execScrubGapTimeout (engine : Nat) (s : State) : Host.Outcome State Fault Refusal :=
  checked (okEngine engine) s (scrubGapTimeoutEff engine)

/-- The source bytes of a row to rewrite (R94 step 2): the chunk in its buffer, the stream image, or what the ROM or clearing put
there; none where they are not at hand. -/
def rewriteSource (s : State) (e : Nat) (r : Rewrite) : Option (List Byte) :=
  match r.buffer with
  | some b => some (Mem.readN (coreOf s (coreOfEngine e)).scratch (bufferAt b + 256 * r.row) 256)
  | none =>
    match (planeOf (engineOf s e) r.one).src with
    | .empty => some (List.replicate 256 0)
    | .calibration => some (List.replicate 256 0x44)
    | .chunk _ _ _ => none
    | .stream f set i =>
      match streamFrame s f set i with
      | none => none
      | some n => match (faRead (facetVia s f) f 1 (n * 65536 + 256 * r.row) 256 s).1 with
        | .inl d => some d
        | .inr _ => none

/-- The rewrite of an engine that may end now. -/
def nextRewrite (s : State) (e : Nat) : Option Rewrite :=
  (engineOf s e).rewrites.find? fun r => r.refOnly || (rewriteSource s e r).isSome

/-- An engine goes back to service where nothing holds it. -/
def backInService (x : Engine) : Engine :=
  { x with status := if x.status = 2 && !x.heldCheck && !x.heldScrub && !x.heldSet && !x.stopped then 1 else x.status }

/-- The engine without a rewrite: its chunk buffer is free once no other rewrite needs it, and the engine resumes once none of its
active plane is left (R94 step 3). -/
def dropRewrite (e : Nat) (r : Rewrite) (s : State) : State :=
  let x := engineOf s e
  let rest := x.rewrites.erase r
  let s1 := setEngine e (backInService { x with rewrites := rest, heldScrub := x.heldScrub && rest.any (·.act) }) s
  match r.buffer with
  | some b =>
    if rest.any fun q => q.buffer == some b then s1
    else updCore (coreOfEngine e) (fun c => { c with buffers := NSet.del c.buffers b }) s1
  | none => s1

/-- The row of a rewrite is written again. -/
def writeRow (e : Nat) (r : Rewrite) (s : State) : State :=
  let k := clusterOfEngine e
  let p (q : Plane) : Plane :=
    if r.refOnly then { q with refFlip := Mem.zero q.refFlip (8 * r.row) 8 }
    else rewriteRow ((rewriteSource s e r).getD []) r.row q
  updEngine e (updPlane r.one fun q => { p q with scrubbed := SMap.put q.scrubbed r.row (ltcOf s k, epochOf s k) }) s

def scrubRewriteDoneEff (e : Nat) (ok : Bool) (s : State) : State :=
  match nextRewrite s e with
  | none => s
  | some r =>
    let s1 := dropRewrite e r (writeRow e r s)
    let s2 := if ok then s1 else planeLoadFault e .empty s1
    let s3 := if r.act && !r.told then scrubFaultEvent e r s2 else s2
    finishSwap e s3

/-- SCRUB_REWRITE_DONE (R94 steps 2, 3 and 5, R95): the oldest rewrite whose source is at hand ends; one that fails readback is
handled under R92. -/
def execScrubRewriteDone (engine : Nat) (ok : Bool) (s : State) : Host.Outcome State Fault Refusal :=
  checked (okEngine engine) s (scrubRewriteDoneEff engine ok)

/-! ## Full calibration (R107 to R113, R116, R120) -/

/-- Die sensor nearest to a core slot: 8 sensors over 17 slots (log 20). -/
def sensorOf (c : Nat) : Nat := clusterOfCore c * 8 + slotOfCore c * 8 / 17

/-- Engine temperature in 0.1 degrees (R108). -/
def engineTemp (s : State) (e : Nat) : Int := SMap.getD s.pwr.dieTemp (sensorOf (coreOfEngine e)) 250

/-- CALIBRATION_PERIOD_EXPIRY (R108): a full calibration of an in-service engine is called for. -/
def calibrationPeriodExpiryEff (e : Nat) (s : State) : State :=
  let x := engineOf s e
  if x.status = 1 && x.calCall = 0 then setEngine e { x with calCall := 1 } s else s

def execCalibrationPeriodExpiry (engine : Nat) (s : State) : Host.Outcome State Fault Refusal :=
  checked (okEngine engine) s (calibrationPeriodExpiryEff engine)

/-- A calibration runs on the engine's shadow plane now. -/
def calRuns (x : Engine) : Bool :=
  match x.cal with
  | some k => !k.paused
  | none => false

/-- The shadow plane is free (R110). -/
def shadowFree (x : Engine) : Bool :=
  let p := shadowPlane x
  !p.loading && (p.src == .empty || p.src == .calibration)

/-- A spare core that a replacement has cleared may be calibrated before it is in service (R114, R367). -/
def spareReady (s : State) (e : Nat) : Bool :=
  let c := coreOf s (coreOfEngine e)
  c.cleared && (((facetOf s c.facet).bind (·.replace)).map (·.spare)) == some (coreOfEngine e) && (engineOf s e).status == 0

/-- R111: at a command boundary no other core of the facet in this cluster has been calibrated. -/
def boundaryFree (s : State) (e : Nat) : Bool :=
  let c := coreOfEngine e
  match facetOf s (facetOfEngine s e) with
  | some f => (SMap.getD f.boundaryCals (clusterOfCore c) c) == c
  | none => true

/-- A calibration window (R110, R111): the shadow plane is free, or the core stands at a command boundary. -/
def calWindow (s : State) (e : Nat) : Bool :=
  let x := engineOf s e
  !calRuns x && !x.swapWait && x.rewrites.isEmpty && !(shadowPlane x).loading &&
    ((x.calCall != 0 && (x.status == 1 || x.heldCheck)) || spareReady s e) &&
    (shadowFree x || x.heldCheck || ((coreOf s (coreOfEngine e)).cmd.isNone && boundaryFree s e))

/-- The calibration image with its spares: every data and spare cell holds +4 (R107 step 2). -/
def calPlane (now : Nat × Nat) (p : Plane) : Plane :=
  { data := Mem.ofBytes 0 (List.replicate 65536 0x44), spare := Mem.ofBytes 0 (List.replicate 512 0x44)
    refFlip := p.refFlip, src := .calibration, base := now }

/-- What a shadow plane goes back to after a calibration that takes it now: the run that was paused still holds it where the plane
has patterns. -/
def calPrev (x : Engine) : PlaneSrc :=
  match x.cal with
  | some k => if (shadowPlane x).src == .calibration then k.prev else (shadowPlane x).src
  | none => (shadowPlane x).src

/-- The calibration run that starts or goes on (R107 steps 1 and 2, R125). -/
def calRun (s : State) (e : Nat) : CalRun :=
  let x := engineOf s e
  match x.cal with
  | some k => { k with paused := false, prev := calPrev x }
  | none => { cause := x.calCall, began := ltcOf s (clusterOfEngine e), temp := engineTemp s e, prev := calPrev x }

/-- CALIBRATION_START (R107 steps 1 and 2): a new run, or the rest of one that gave way (R125). -/
def calibrationStartEff (e : Nat) (s : State) : State :=
  let x := engineOf s e
  let c := coreOfEngine e
  if calWindow s e then
    let held := !shadowFree x && !x.heldCheck
    let s1 := if held then updFacet (facetOfEngine s e) (fun f =>
        { f with boundaryCals := SMap.put f.boundaryCals (clusterOfCore c) c }) s
      else s
    setEngine e (updPlane (!x.active1) (calPlane (coreNow s c)) { x with
      cal := some (calRun s e)
      earlyCals := x.earlyCals + b2n (x.cal.isNone && x.calCall == 3)
      tempCals := x.tempCals + b2n (x.cal.isNone && x.calCall == 2) }) s1
  else s

def execCalibrationStart (engine : Nat) (s : State) : Host.Outcome State Fault Refusal :=
  checked (okEngine engine) s (calibrationStartEff engine)

/-- Step 6 of R107: zeros, or a plane that waits for its sealed restore. -/
def restoreShadow (prev : PlaneSrc) (x : Engine) : Engine :=
  match prev with
  | .chunk f set c => updPlane (!x.active1) (fun p => { src := .chunk f set c, loading := true, refFlip := p.refFlip }) x
  | _ => updPlane (!x.active1) (fun p => { refFlip := p.refFlip, base := p.base }) x

/-! ### Step 4 of R107 -/

/-- What step 4 finds of a column at a range: offset in 1/16 step, gains at 25 and 75 % (0x4000 = 1), noise in ppm of full scale,
whether a pass clipped. -/
structure ColumnCal where
  off : Int
  gain25 : Nat
  gain75 : Nat
  noise : Nat
  clipped : Bool
  deriving DecidableEq, Repr

/-- The codes of `n` passes whose exact sum is `sum`, with the errors of a list: their sum, sum of squares, and any clip. -/
def codeSums (r : Nat) (sum : Int) (errs : List Int) (n : Nat) : Int × Int × Bool :=
  let l := (errs.take n).foldl (fun (a : Int × Int × Bool) q =>
    let c := convert r sum q
    (a.1 + c.1, a.2.1 + c.1 * c.1, a.2.2 || c.2)) (0, 0, false)
  let z := convert r sum 0
  let m : Int := ((n - errs.length : Nat) : Int)
  (l.1 + m * z.1, l.2.1 + m * z.1 * z.1, l.2.2 || (decide (errs.length < n) && z.2))

/-- Gain of a ± pair (R107): what the exact codes differ by over what the measured ones do. -/
def pairGain (exact : Int) (plus minus : Int) : Nat :=
  if 0 < plus - minus then ((16384 * exact) / (plus - minus)).toNat else 0

/-- n times the sum of squares about the mean of n codes. -/
def spread (n : Nat) (g : Int × Int × Bool) : Int := (n : Int) * g.2.1 - g.1 * g.1

/-- Step 4 for one column and range, with `rep` times the repeats of step 3. A reference column's pattern sums to 0 over equal
inputs, so its gain stays 1 (log 8). -/
def columnCal (rep col r : Nat) (errs : List Int) : ColumnCal :=
  let z := 64 * rep
  let n := 32 * rep
  let unit : Int := if col < 516 then ((1024 * 2 ^ r : Nat) : Int) else 0
  let g0 := codeSums r 0 errs z
  let p25 := codeSums r unit (errs.drop z) n
  let m25 := codeSums r (-unit) (errs.drop (z + n)) n
  let p75 := codeSums r (3 * unit) (errs.drop (z + 2 * n)) n
  let m75 := codeSums r (-(3 * unit)) (errs.drop (z + 3 * n)) n
  let ss := spread z g0 + 2 * (spread n p25 + spread n m25 + spread n p75 + spread n m75)
  let exact (a : Nat) : Int := ((2 * n * 128 * a : Nat) : Int)
  { off := roundDiv (16 * g0.1) z
    gain25 := if col < 516 then pairGain (exact 1) p25.1 m25.1 else 16384
    gain75 := if col < 516 then pairGain (exact 3) p75.1 m75.1 else 16384
    noise := Nat.sqrt (ss.toNat * 10 ^ 12 / (z * (z + 4 * n) * 512 ^ 2))
    clipped := g0.2.2 || p25.2.2 || m25.2.2 || p75.2.2 || m75.2.2 }

/-- The gain that the table takes: the mean of the two amplitudes (log 8). -/
def tableGain (k : ColumnCal) : Nat := (k.gain25 + k.gain75) / 2

/-- R116: a column at a range is accepted. -/
def columnOk (k : ColumnCal) : Bool :=
  !k.clipped && decide (k.noise ≤ 900) && decide (k.off.natAbs ≤ 512) && decide (9 * 16384 ≤ 10 * tableGain k) &&
    decide (10 * tableGain k ≤ 11 * 16384) &&
    decide (10000 * ((k.gain25 : Int) - (k.gain75 : Int)).natAbs ≤ 4 * 16384)

/-- The column takes part: not a data column that a spare replaces, nor a spare that replaces none. -/
def columnCounts (repairs : List Nat) (col : Nat) : Bool :=
  if col < 512 then !repairs.contains col else if col < 516 then decide (col - 512 < repairs.length) else decide (col < 524)

/-- Every column and range that a calibration lists, as step 4 finds it; those not listed have offset 0, gain 1 and no noise. -/
def calTable (rep : Nat) (errors : CalErrors) : SMap ColumnCal := errors.map fun e => (e.1, columnCal rep (e.1 / 4) (e.1 % 4) e.2)

/-- Columns that fail R116 at some range. -/
def failingColumns (repairs : List Nat) (t : SMap ColumnCal) : NSet :=
  NSet.ofList ((t.filter fun e => columnCounts repairs (e.1 / 4) && !columnOk e.2).map fun e => e.1 / 4)

/-- The failing columns can all be repaired: each is a data column, and enough map entries are free (R62, R116). -/
def repairable (repairs : List Nat) (bad : NSet) : Bool :=
  bad.all (fun c => decide (c < 512)) && decide (repairs.length + bad.length ≤ 4)

/-- Figures of the table with those of the columns that it does not list (R122): 2,096 columns and ranges in all. -/
def calFigures (t : SMap ColumnCal) (x : Engine) : Engine :=
  let all := decide (2096 ≤ t.length)
  let gains := t.map fun e => tableGain e.2
  { x with
    gainMin := Nat.min 65535 (gains.foldl Nat.min (if all then gains.headD 16384 else 16384))
    gainMax := Nat.min 65535 (gains.foldl Nat.max (if all then 0 else 16384))
    offsetMax := Nat.min 65535 ((t.map fun e => e.2.off.natAbs).foldl Nat.max 0)
    noiseMax := Nat.min 65535 ((t.map fun e => e.2.noise).foldl Nat.max 0)
    noiseMean := Nat.min 65535 ((t.map fun e => e.2.noise).foldl (· + ·) 0 / 2096) }

/-- Step 5 of R107: the new table, tracked corrections at zero, and the record of R122. The windows of the tracking and of the noise
test start again (DESIGN CHOICE, log 8: the spec resets the corrections and does not speak of the windows). -/
def recordCal (t : SMap ColumnCal) (result : Nat) (temp : Int) (now : Nat × Nat) (x : Engine) : Engine :=
  { calFigures t x with
    corr := t.map fun e => (e.1, (e.2.off, tableGain e.2)), track := [], trackOffMax := 0, trackGainMax := 0
    calResult := result, calCount := x.calCount + 1, calLtc := now.1, calEpoch := now.2, calTemp := temp }

/-- A full calibration passes: back to service (R120 step 4). REPAIRED stays the result of one that a repair called for (log 8). -/
def installCal (t : SMap ColumnCal) (k : CalRun) (now : Nat × Nat) (x : Engine) : Engine :=
  let y := recordCal t (if k.cause = 4 && x.calResult = 1 then 1 else 0) k.temp now x
  backInService { y with cal := none, calCall := 0, heldCheck := false, status := if x.status = 0 then 1 else x.status }

/-- A column is repaired: the entry is recorded and ENGINE_REPAIRED is raised (R116). The planes take the spare at their next load
(R62): the active plane's is due where its source is a chunk. -/
def repairColumn (e col : Nat) (s : State) : State :=
  let s1 := updEngine e (fun x => { x with repairs := x.repairs ++ [col] }) s
  let s2 := if (coreOf s1 (coreOfEngine e)).status = 2 then
      updFacet (facetOfEngine s1 e) (fun f => { f with
        repairs := satAdd 16 f.repairs 1
        loads := match (activePlane (engineOf s1 e)).src with
          | .chunk _ set c => SMap.put f.loads (loadKey e (engineOf s1 e).active1) (set, c)
          | _ => f.loads }) s1
    else s1
  raiseFw (engineTo s2 e) evEngineRepaired (engineOwner s2 e) e col none (confEngine s2 e) s2

def calibrationDoneEff (e : Nat) (errors : CalErrors) (s : State) : State :=
  let x := engineOf s e
  let now := coreNow s (coreOfEngine e)
  match x.cal with
  | none => s
  | some k =>
    if k.paused then s
    else
      let t := calTable 1 errors
      let bad := failingColumns x.repairs t
      if bad.isEmpty then finishSwap e (setEngine e (restoreShadow k.prev (installCal t k now x)) s)
      else if repairable x.repairs bad then
        -- a new full calibration follows on the same shadow plane, in which the spares must pass
        forAll bad (repairColumn e) (setEngine e { recordCal t 1 k.temp now x with
          cal := some { k with cause := 4, passes := 0, ordinary := 0, paused := true }, calCall := 4 } s)
      else retireEngine e (setEngine e (restoreShadow .empty (recordCal t 2 k.temp now x)) s)

/-- CALIBRATION_DONE (R107 steps 3 to 6, R116, R120): a column that fails is repaired and calibration runs again; an engine that
cannot be repaired is retired. -/
def execCalibrationDone (engine : Nat) (errors : CalErrors) (s : State) : Host.Outcome State Fault Refusal :=
  checked (okEngine engine) s (calibrationDoneEff engine errors)

/-- CALIBRATION_ABANDON (R113): the calibration starts again at the next window. -/
def calibrationAbandonEff (e : Nat) (s : State) : State :=
  let x := engineOf s e
  match x.cal with
  | none => s
  | some c =>
    let y := { x with cal := none, calCall := if c.cause = 0 then 4 else c.cause }
    setEngine e (if c.paused && (shadowPlane x).src != .calibration then y else restoreShadow c.prev y) s

def execCalibrationAbandon (engine : Nat) (s : State) : Host.Outcome State Fault Refusal :=
  checked (okEngine engine) s (calibrationAbandonEff engine)

/-- CALIBRATION_OVERDUE (R113): the engine stays in service. -/
def calibrationOverdueEff (e : Nat) (s : State) : State :=
  if (engineOf s e).status = 1 then raisePf0 evCalibrationOverdue e 0 (confEngine s e) s else s

def execCalibrationOverdue (engine : Nat) (s : State) : Host.Outcome State Fault Refusal :=
  checked (okEngine engine) s (calibrationOverdueEff engine)

/-! ## Start-up calibration (R114) -/

def setCalStage (east : Bool) (n : Nat) (s : State) : State :=
  { s with pwr := if east then { s.pwr with eastCal := n } else { s.pwr with westCal := n } }

/-- Whether the core rail of a half is in range. -/
def railOn (s : State) (east : Bool) : Bool := s.pwr.railsOn.contains (if east then 1 else 0)

/-- START_UP_CALIBRATION: the calibration load begins on every uncalibrated engine of a powered half (R114 stage 1). -/
def startUpCalibrationEff (half : Nat) (s : State) : State :=
  let east := half == 1
  if railOn s east && s.pwr.mcRunning && calStage s east == 0 then setCalStage east 1 s else s

def execStartUpCalibration (half : Nat) (s : State) : Host.Outcome State Fault Refusal :=
  checked (okTwo half) s (startUpCalibrationEff half)

/-- CALIBRATION_LOAD_SETTLED: full calibration of every engine runs (R114 stage 2). -/
def calibrationLoadSettledEff (half : Nat) (s : State) : State :=
  if calStage s (half == 1) = 1 then setCalStage (half == 1) 2 s else s

def execCalibrationLoadSettled (half : Nat) (s : State) : Host.Outcome State Fault Refusal :=
  checked (okTwo half) s (calibrationLoadSettledEff half)

/-- An engine passes start-up calibration. Every pair of LTC value and epoch that it holds is written anew (R45). -/
def passStartUp (e : Nat) (t : SMap ColumnCal) (repaired : Bool) (s : State) : State :=
  let now := coreNow s (coreOfEngine e)
  updEngine e (fun x => { recordCal t (if repaired then 1 else 0) (engineTemp s e) now x with
    status := 1, calCall := 0, cal := none, heldCheck := false, goodLtc := now.1, goodEpoch := now.2
    plane0 := { x.plane0 with base := now, scrubbed := [] }, plane1 := { x.plane1 with base := now, scrubbed := [] } }) s

/-- Calibrations of one engine in turn, with `rep` times the repeats (R114 stages 2 and 3, R116): after a repair the procedure runs
again, and the spare must pass. At most 4 repairs can follow one another. `pass` has the table of the one that passes, and whether
a repair came before it. -/
def calsInTurn (rep e : Nat) (pass : SMap ColumnCal → Bool → State → State) : Nat → List CalErrors → Bool → State → State
  | 0, _, _, s => retireEngine e s
  | fuel + 1, l, repaired, s =>
    let x := engineOf s e
    let t := calTable rep (l.headD [])
    let bad := failingColumns x.repairs t
    if bad.isEmpty then pass t repaired s
    else if repairable x.repairs bad then calsInTurn rep e pass fuel l.tail true (forAll bad (repairColumn e) s)
    else retireEngine e (updEngine e (recordCal t 2 (engineTemp s e) (coreNow s (coreOfEngine e))) s)

/-- The outcome of start-up calibration for one engine: those that are UNCALIBRATED take part. -/
def startUpEngine (errors : SMap (List CalErrors)) (e : Nat) (s : State) : State :=
  if (engineOf s e).status = 0 then calsInTurn 64 e (passStartUp e) 5 (SMap.getD errors e []) false s else s

/-- START_UP_CALIBRATION_DONE: passing engines go IN_SERVICE (R114). -/
def startUpCalibrationDoneEff (half : Nat) (errors : SMap (List CalErrors)) (s : State) : State :=
  let east := half == 1
  if calStage s east = 2 then
    readyCheck (setCalStage east 3 (forAll ((coresOfHalf east).flatMap enginesOf) (startUpEngine errors) s))
  else s

/-- START_UP_CALIBRATION_DONE (R114): `errors` lists for an engine what its successive calibrations measured (log 8). -/
def execStartUpCalibrationDone (half : Nat) (errors : SMap (List CalErrors)) (s : State) : Host.Outcome State Fault Refusal :=
  checked (okTwo half) s (startUpCalibrationDoneEff half errors)

end Sys2Proof.Machine
end

