-- ==== Sys2Proof/Machine/Descriptor.lean ====
section
/-! DEFINITION. The 128 bytes of a command descriptor (11 R326 to R328) with each opcode's payload (11 R330 to R333, 14 R418,
R431, R433, R454, R456). Of a reserved field that is not 0 the detail gives the offset at which its table places it (log 15). -/

namespace Sys2Proof.Machine

/-- Byte offset of the payload within a descriptor. -/
def payloadBase : Nat := 0x28

/-- Entries of a fence list: index and value (R332). -/
def fenceEntries (b : List Byte) : List (Nat × Nat) :=
  (List.range (field b payloadBase 1)).map fun k =>
    (field b (payloadBase + 0x08 + 16 * k) 4 % 2 ^ 20, field b (payloadBase + 0x10 + 16 * k) 8)

/-- Source, target, length and the rest of a COPY or FILL (R331). -/
def copyArgsOf (b : List Byte) : CopyArgs :=
  let spaces := field b (payloadBase + 0x14) 1
  let hints := field b (payloadBase + 0x15) 1
  { src := field b payloadBase 8, dst := field b (payloadBase + 8) 8, length := field b (payloadBase + 0x10) 4
    srcSpace := spaces % 4, dstSpace := spaces / 4 % 4, srcHint := hints % 4, dstHint := hints / 4 % 4
    pattern := field b (payloadBase + 0x18) 8 }

def payloadOf (b : List Byte) : Payload :=
  let p (off n : Nat) : Nat := field b (payloadBase + off) n
  match field b 0 1 with
  | 0x00 => .nop
  | 0x01 => .runSegment (p 0 4) ((List.range 7).map fun i => p (8 + 8 * i) 8)
  | 0x02 => .copy (copyArgsOf b)
  | 0x03 => .fill (copyArgsOf b)
  | 0x04 => .fenceSignal (fenceEntries b)
  | 0x05 => .fenceWait (bit (p 1 1) 0 == 1) (fenceEntries b)
  | 0x10 =>
    if p 0 4 = 0 then
      .configure { ladder := p 4 4, draftLadder := p 8 4, budget := p 0xC 2, draftLen := p 0xE 1, kvLow := p 0x10 4 }
    else .seqAdmit { seqId := p 0 4, ladder := p 4 4, record := p 8 8, donor := p 0x10 4, shared := p 0x14 4 }
  | 0x11 => .seqCancel (p 0 4)
  | 0x12 => .stateExport { seqId := p 0 4, resolve := bit (p 4 1) 0 == 1, facet := p 5 1, device := p 6 2 }
  | 0x13 =>
    .stateImport
      { tier := p 0 8, seqId := p 8 4, resolve := bit (p 0xC 1) 0 == 1, outLog2 := p 0xD 1, outSource := p 0xE 2
        outRing := p 0x10 8, share := p 0x18 2, firstTokenNs := p 0x1C 4 }
  | 0x20 => .shadowInvalidate (p 0 2) (p 2 1 == 1) (p 8 8) (p 0x10 4)
  | c => .reserved c

/-- Reserved fields of a payload: offset within the payload, and whether one is not 0. A whole byte range is given by its
length. -/
def payloadRsv (b : List Byte) : List (Nat × Bool) :=
  let p (off n : Nat) : Nat := field b (payloadBase + off) n
  let z (off n : Nat) : Nat × Bool := (off, !zeroBytes b (payloadBase + off) n)
  match field b 0 1 with
  | 0x00 => [z 0 88]
  | 0x01 => [z 4 4, z 0x40 24]
  | 0x02 => [(0x14, decide (16 ≤ p 0x14 1)), (0x15, decide (16 ≤ p 0x15 1)), z 0x16 2, z 0x20 56]
  | 0x03 => [(0x14, decide (16 ≤ p 0x14 1)), (0x15, decide (16 ≤ p 0x15 1)), z 0x16 2, z 0x20 56]
  | 0x10 => if p 0 4 = 0 then [z 0xF 1, z 0x14 68] else [z 0x18 64]
  | 0x11 => [z 4 84]
  | 0x12 => [(4, decide (2 ≤ p 4 1)), z 8 80]
  | 0x13 => [(0xC, decide (2 ≤ p 0xC 1)), z 0x1A 2, z 0x20 56]
  | 0x20 => [(2, decide (2 ≤ p 2 1)), z 3 5, z 0x14 68]
  | c =>
    if c = 0x04 || c = 0x05 then
      let n := Nat.min 5 (p 0 1)
      [(1, decide ((if c = 0x05 then 2 else 1) ≤ p 1 1)), z 2 6, z (8 + 16 * n) (80 - 16 * n)] ++
        (List.range n).flatMap fun k => [(8 + 16 * k, decide (2 ^ 20 ≤ p (8 + 16 * k) 4)), z (12 + 16 * k) 4]
    else []

/-- Reserved fields of a descriptor that are not 0, by offset (R14, R326, R327). -/
def descRsv (b : List Byte) : List Nat :=
  let head : List (Nat × Bool) :=
    [(1, decide (8 ≤ field b 1 1)), (8, decide (2 ^ 20 ≤ field b 8 4)), (0xC, decide (2 ^ 20 ≤ field b 0xC 4))]
  let all : List (Nat × Bool) := head ++ (payloadRsv b).map fun x => (payloadBase + x.1, x.2)
  (all.filter (·.2)).map (·.1)

/-- The first of a list of offsets. -/
def firstOf : List Nat → Option Nat
  | [] => none
  | a :: r => some (r.foldl Nat.min a)

/-- The descriptor that 128 bytes spell (R326 to R328). -/
def descOf (b : List Byte) : Desc :=
  { context := field b 2 2, waitEn := bit (field b 1 1) 0 == 1, signalEn := bit (field b 1 1) 1 == 1
    signalOnError := bit (field b 1 1) 2 == 1, deadline := field b 4 4, waitFence := field b 8 4 % 2 ^ 20
    signalFence := field b 0xC 4 % 2 ^ 20, waitValue := field b 0x10 8, signalValue := field b 0x18 8, tag := field b 0x20 8
    rsv := firstOf (descRsv b), payload := payloadOf b }

end Sys2Proof.Machine
end

