-- ==== Sys2Proof/Machine/Translate.lean ====
section
/-! DEFINITION. Address translation (09 R255 to R285): mirrors, walks of the shadow tables, ATS, page requests,
invalidations, and the translation rows of the table. -/

namespace Sys2Proof.Machine

/-! ## Mirrors (R267) -/

def dieKey (size va : Nat) : Nat := va / 2 ^ size % 4096
def clusKey (k size va : Nat) : Nat := k * 256 + va / 2 ^ size % 256

/-- Page sizes that a mirror entry may have: 4 KiB, the least that ATS returns, up to 1 GiB (R258, R269). -/
def pageSizes : List Nat := (List.range 19).map (· + 12)

def mentMatch (ctx va size : Nat) (e : MEnt) : Bool := e.ctx == ctx && e.size == size && e.va / 2 ^ size == va / 2 ^ size

def dieFind (s : State) (ctx va : Nat) : Option MEnt :=
  pageSizes.findSome? fun z => (SMap.getD s.xl.die (dieKey z va) []).find? (mentMatch ctx va z)

def clusFind (s : State) (k ctx va : Nat) : Option MEnt :=
  pageSizes.findSome? fun z => (SMap.getD s.xl.clus (clusKey k z va) []).find? (mentMatch ctx va z)

def setWays {α : Type} (m : SMap (List α)) (k : Nat) (l : List α) : SMap (List α) :=
  if l.isEmpty then SMap.del m k else SMap.put m k l

/-- Whether two entries are the same translation. -/
def sameEnt (a b : MEnt) : Bool := a.ctx == b.ctx && a.size == b.size && a.va / 2 ^ a.size == b.va / 2 ^ b.size

/-- Drop an entry from every cluster mirror. -/
def dropFromClusters (e : MEnt) (s : State) : State :=
  { s with xl := { s.xl with
    clus := (s.xl.clus.map fun w => (w.1, w.2.filter fun x => !sameEnt x e)).filter fun w => !w.2.isEmpty } }

/-- Put an entry into the die-level mirror; an evicted entry takes its cluster copies with it (R267). -/
def dieFill (e : MEnt) (s : State) : State :=
  let k := dieKey e.size e.va
  let rest := (SMap.getD s.xl.die k []).filter fun x => !sameEnt x e
  let s1 := (rest.drop 15).foldl (fun t v => dropFromClusters v t) s
  { s1 with xl := { s1.xl with die := setWays s1.xl.die k (e :: rest.take 15) } }

/-- Put an entry into a cluster mirror, most recently used. -/
def clusFill (k : Nat) (e : MEnt) (s : State) : State :=
  let key := clusKey k e.size e.va
  let rest := (SMap.getD s.xl.clus key []).filter fun x => !sameEnt x e
  { s with xl := { s.xl with clus := setWays s.xl.clus key (e :: rest.take 15) } }

/-- Counters of a cluster count while no core of it is bound to a confidential facet (R285). -/
def countXl (k : Nat) (g : XlCount → XlCount) (s : State) : State :=
  if (List.range 17).any (fun i => confCore s (k * 17 + i)) then s
  else { s with xl := { s.xl with counts := SMap.put s.xl.counts k (g (SMap.getD s.xl.counts k {})) } }

/-! ## The walk (R258 to R260) -/

/-- What the shadow tables say of an address. -/
inductive WalkEnd where
  | device (fa size : Nat)
  | host (size : Nat)
  | absent (request : Bool)
  | bad (level : Nat)
  | fail (status : Nat)
  deriving DecidableEq, Repr

/-- One level: its number, the lowest index bit, the number of index bits (R258). -/
def walkLevels : List (Nat × Nat × Nat) := [(0, 39, 9), (1, 30, 9), (2, 21, 9), (3, 16, 5)]

/-- Check an entry against R259 and R260, reserved fields and alignment included. -/
def entryBad (level shift e : Nat) : Bool :=
  let kind := e % 4
  let addr := bits e 38 8 * 256
  bits e 55 39 != 0 || bits e 7 3 != 0 || (kind != 0 && bit e 2 != 0) ||
    ((kind == 0 || kind == 3) && bits e 38 8 != 0) ||
    (kind == 1 && (level == 3 || (level != 2 && addr % 4096 != 0))) ||
    (kind == 2 && (level == 0 || addr % 2 ^ shift != 0)) || (kind == 3 && level == 0)

/-- Read one entry per level from the root, for the class of the master that asked (R268). -/
def walkFrom (cls : Option Nat) (facet va : Nat) : List (Nat × Nat × Nat) → Nat → State → WalkEnd × State
  | [], _, s => (.fail stUnmapped, s)
  | (level, shift, nb) :: rest, table, s =>
    let r := faRead ⟨none, cls⟩ facet 0 (table + 8 * (va / 2 ^ shift % 2 ^ nb)) 8 s
    match r.1 with
    | .inr e => (.fail e.1, r.2)
    | .inl d =>
      let e := ofLe d
      if entryBad level shift e then (.bad level, r.2)
      else
        let addr := bits e 38 8 * 256
        if e % 4 = 0 then (.absent (bit e 2 == 1), r.2)
        else if e % 4 = 2 then (.device addr shift, r.2)
        else if e % 4 = 3 then (.host shift, r.2)
        else walkFrom cls facet va rest addr r.2

def walkTables (cls : Option Nat) (c : Ctx) (va : Nat) (s : State) : WalkEnd × State :=
  walkFrom cls c.facet va walkLevels c.root s

/-! ## Page requests (R275 to R279) -/

/-- Requests of one function that may be outstanding (R276). -/
def priLimit (s : State) (f : Nat) : Nat := Nat.min 512 (fnOf s f).priAlloc

/-- PRG index of a new request: the lowest that no outstanding request of the function has (log 12). -/
def freeIndex (s : State) (f : Nat) : Nat :=
  ((List.range 513).find? fun i => !s.xl.tracker.any fun p => p.fn == f && p.index == i).getD 0

/-- A waiter's command completes with a translation status. -/
def failWaiter (st va : Nat) (w : Waiter) (s : State) : State := meetStatus w.cmd st va s

/-- A fault of an access (R276, R277, R279): join the request outstanding for the page, send one, or wait for room. -/
def fault (ctx va : Nat) (w : Waiter) (s : State) : State :=
  match SMap.look s.ctxs ctx with
  | none => failWaiter stUnmapped va w s
  | some c =>
    let counted (t : State) : State := countXl w.cluster (fun n => { n with faults := n.faults + 1 }) t
    let r := fnOf s c.fn
    if s.pwr.westParked then failWaiter stUnreachable 0 w s
    else if !r.pri || r.priFailed || decide (3 ≤ w.faults) then failWaiter stPageRequestFailed va w s
    else
      let w1 := { w with faults := w.faults + 1 }
      let page := va / 2 ^ 16
      let same (p : PageReq) : Bool := p.fn == c.fn && p.pasid == c.pasid && p.vpage == page
      let join (p : PageReq) : PageReq := if same p then { p with waiters := p.waiters ++ [(ctx, w1)] } else p
      if s.xl.tracker.any same then counted { s with xl := { s.xl with tracker := s.xl.tracker.map join } }
      else if s.xl.tracker.length < 1024 && decide ((s.xl.tracker.filter fun p => p.fn == c.fn).length < priLimit s c.fn) then
        let i := freeIndex s c.fn
        emit (.pageRequest c.fn c.pasid (va / 4096 * 4096) w.write i)
          (counted { s with xl := { s.xl with tracker := s.xl.tracker ++ [⟨i, c.fn, c.pasid, page, [(ctx, w1)]⟩] } })
      else { s with xl := { s.xl with trackWait := s.xl.trackWait ++ [(ctx, va, w)] } }

/-- Accesses that waited for a tracker entry try again. -/
def retryTrackWait (s : State) : State :=
  s.xl.trackWait.foldl (fun t x => fault x.1 x.2.1 x.2.2 t) { s with xl := { s.xl with trackWait := [] } }

/-! ## Starting and ending a walk (R268, R269) -/

/-- Begin a walk, or join the one in progress for the same context and page; beyond 64 walks the request waits at its
port, and the row that sends it again starts it. -/
def startWalk (ctx va : Nat) (w : Waiter) (s : State) : State :=
  let page := va / 2 ^ 16
  let same (x : Walk) : Bool := x.ctx == ctx && x.vpage == page
  let join (x : Walk) : Walk := if same x then { x with waiters := x.waiters ++ [w] } else x
  if s.xl.walks.any same then { s with xl := { s.xl with walks := s.xl.walks.map join } }
  else if s.xl.walks.length < 64 then
    countXl w.cluster (fun n => { n with walks := n.walks + 1 })
      { s with xl := { s.xl with walks := s.xl.walks ++ [{ ctx := ctx, vpage := page, va := va, waiters := [w] }] } }
  else s

def endWalk (ctx vpage : Nat) (s : State) : State :=
  { s with xl := { s.xl with walks := s.xl.walks.filter fun x => !(x.ctx == ctx && x.vpage == vpage) } }

def setWalk (x : Walk) (s : State) : State :=
  let change (y : Walk) : Walk := if y.ctx == x.ctx && y.vpage == x.vpage then x else y
  { s with xl := { s.xl with walks := s.xl.walks.map change } }

/-- Cache a translation for the die and the clusters of its waiters. -/
def fillFor (e : MEnt) (ws : List Waiter) (s : State) : State :=
  ws.foldl (fun t w => clusFill w.cluster e t) (dieFill e s)

def failAll (st va : Nat) (ws : List Waiter) (s : State) : State := ws.foldl (fun t w => failWaiter st va w t) s

/-- A bad entry: MALFORMED for every waiter, and SHADOW_ENTRY_BAD to the owner and PF0 (R260, R282). -/
def shadowBad (c : Ctx) (ctx level va : Nat) (s : State) : State :=
  raiseTo [0, c.fn] evShadowEntryBad c.fn (ctx + level * 2 ^ 16) va none (confFacet s c.facet) s

/-- Take the end of a walk of the tables. -/
def takeWalk (x : Walk) (c : Ctx) (r : WalkEnd) (s : State) : State :=
  match r with
  | .device fa size =>
    fillFor ⟨x.ctx, x.va / 2 ^ size * 2 ^ size, size, false, fa / 2 ^ 16, true, true⟩ x.waiters (endWalk x.ctx x.vpage s)
  | .host size =>
    if s.pwr.westParked then failAll stUnreachable 0 x.waiters (endWalk x.ctx x.vpage s)
    else if (fnOf s c.fn).ats then
      x.waiters.foldl (fun t w => countXl w.cluster (fun n => { n with ats := n.ats + 1 }) t)
        (emit (.atsRequest c.fn c.pasid (x.va / 2 ^ 16 * 2 ^ 16)) (setWalk { x with ats := some size } s))
    else failAll stUnmapped x.va x.waiters (endWalk x.ctx x.vpage s)
  | .absent true => x.waiters.foldl (fun t w => fault x.ctx x.va w t) (endWalk x.ctx x.vpage s)
  | .absent false => failAll stUnmapped x.va x.waiters (endWalk x.ctx x.vpage s)
  | .bad level =>
    failAll stMalformed (0xFFFF + (x.va * 2 ^ 16)) x.waiters (shadowBad c x.ctx level x.va (endWalk x.ctx x.vpage s))
  | .fail st => failAll st x.va x.waiters (endWalk x.ctx x.vpage s)

/-! ## One access (R263, R267, R275) -/

/-- Where an access goes. -/
inductive Place where
  | device (fa : Nat)
  | host (hpa : Nat)
  | fail (status : Nat)
  /-- Its walk, translation or page request is under way; the access waits in its master. -/
  | wait
  deriving DecidableEq, Repr

/-- The place that a mirror entry gives an address. -/
def placeOf (e : MEnt) (va : Nat) (write : Bool) : Place :=
  if e.host then (if (if write then e.w else e.r) then .host (e.place + va % 2 ^ e.size) else .wait)
  else .device (e.place * 2 ^ 16 + va % 2 ^ e.size)

/-- Bytes of the pool window: blocks, block table, block lists, records and the two step areas, each from a 64 KiB boundary
(R423). -/
def windowParts (v : Serve) : Nat × Nat × Nat × Nat × Nat :=
  let up (n : Nat) : Nat := ceilDiv n 65536 * 65536
  let slots := if v.table then 4096 else 1024
  let tbl := v.blocks * (v.units * 65536)
  let lists := tbl + up (4 * v.blocks)
  let recs := lists + up (131072 * slots)
  let area := recs + up (256 * slots)
  (tbl, lists, recs, area, area + 2 * up 589888)

def windowSize (v : Serve) : Nat := (windowParts v).2.2.2.2

/-- Facet address of a window offset (R422). -/
def windowFa (v : Serve) (w : Nat) : Nat :=
  let n := Nat.max 1 v.poolSlots.length
  let q := w / 2 ^ 16
  (v.poolSlots.getD (q % n) 0 * 32768 + q / n) * 2 ^ 16 + w % 2 ^ 16

/-- Frames of each pool slot that the pool and the serving area fill (R422). -/
def poolFrames (v : Serve) : Nat := ceilDiv (ceilDiv (windowSize v) 65536) (Nat.max 1 v.poolSlots.length)

/-- Translate an address of the pool window (R422). -/
def windowPlace (v : Serve) (va : Nat) : Place :=
  let w := va - Config.poolBase
  if windowSize v ≤ w then .fail stUnmapped else .device (windowFa v w)

/-- The facet whose pool window is all that work without a context may reach (R434): a step run's, or that of a step run
dispatched to a member. -/
def windowOnly (s : State) (ctx cmd : Nat) : Option Nat :=
  if 2 ^ 32 ≤ cmd && decide (cmd < 2 ^ 48) then some (cmd - 2 ^ 32)
  else if ctx = 0 then
    match cmdOf s cmd with
    | some c => if c.remote.isSome then some c.facet else none
    | none => none
  else none

/-- Translate one address for an access of a command (R255, R267 to R269, R275). A DEVICE page that no mirror holds is
walked at once; a HOST page or a fault makes the access wait. -/
def translate (k : Nat) (cls : Option Nat) (ctx va : Nat) (write : Bool) (cmd : Nat) (s : State) : Place × State :=
  if 2 ^ 48 ≤ va then (.fail stUnmapped, s)
  else if 2 ^ 32 ≤ cmd && decide (cmd < 2 ^ 48) then
    -- a step run has no context and only the window (R434)
    match SMap.look s.serve (cmd - 2 ^ 32) with
    | some v => (if Config.poolBase ≤ va then windowPlace v va else .fail stUnmapped, s)
    | none => (.fail stUnmapped, s)
  else match SMap.look s.ctxs ctx with
  | none => (.fail stUnmapped, s)
  | some c =>
    let w : Waiter := ⟨k, cmd, write, 0, cls⟩
    match (if Config.poolBase ≤ va then SMap.look s.serve c.facet else none) with
    | some v => (windowPlace v va, s)
    | none =>
    match clusFind s k ctx va with
    | some e =>
      match placeOf e va write with
      | .wait => (.wait, fault ctx va w s)
      | p => (p, countXl k (fun n => { n with mirrorHits := n.mirrorHits + 1 }) (clusFill k e s))
    | none =>
      match dieFind s ctx va with
      | some e =>
        match placeOf e va write with
        | .wait => (.wait, fault ctx va w s)
        | p => (p, countXl k (fun n => { n with dieHits := n.dieHits + 1 }) (clusFill k e (dieFill e s)))
      | none =>
        let r := walkTables cls c va s
        match r.1 with
        | .device fa size =>
          let e : MEnt := ⟨ctx, va / 2 ^ size * 2 ^ size, size, false, fa / 2 ^ 16, true, true⟩
          (.device (fa + va % 2 ^ size), fillFor e [w] (countXl k (fun n => { n with walks := n.walks + 1 }) r.2))
        | .host _ =>
          if (fnOf s c.fn).ats then (.wait, startWalk ctx va w r.2) else (.fail stUnmapped, r.2)
        | .absent true =>
          if !(fnOf s c.fn).pri || (fnOf s c.fn).priFailed then
            (.fail stPageRequestFailed, r.2)
          else (.wait, fault ctx va w r.2)
        | .absent false => (.fail stUnmapped, r.2)
        | .bad level => (.fail stMalformed, shadowBad c ctx level va r.2)
        | .fail st => (.fail st, r.2)

/-! ## Invalidations (R271 to R274) -/

/-- Whether an entry lies in the scope of an invalidation. -/
def inScope (v : Inval) (e : MEnt) : Bool :=
  v.ctxs.contains e.ctx && (!v.hostOnly || e.host) &&
    (v.whole || (decide (e.va < v.base + v.len) && decide (v.base < e.va + 2 ^ e.size)))

/-- Whether a walk overlaps the scope. -/
def walkInScope (v : Inval) (x : Walk) : Bool :=
  v.ctxs.contains x.ctx &&
    (v.whole || (decide (x.vpage * 2 ^ 16 < v.base + v.len) && decide (v.base < (x.vpage + 1) * 2 ^ 16)))

/-- Steps 1 and 2 of R273: the matching entries leave every mirror, overlapping walks start again, and the running commands
that used a removed entry are recorded. -/
def beginInval (v : Inval) (s : State) : State :=
  let hit := s.xl.die.flatMap fun w => w.2.filter (inScope v)
  let used := NSet.ofList (hit.map (·.ctx))
  let rec_ := cmdsWhere s fun c => c.phase == .running && used.contains c.desc.context
  let gone := s.xl.clus.map fun w => (w.1 / 256, (w.2.filter (inScope v)).length)
  let s1 := gone.foldl (fun t g => if g.2 = 0 then t else countXl g.1 (fun n => { n with invalidated := n.invalidated + g.2 }) t) s
  { s1 with xl := { s1.xl with
    die := (s1.xl.die.map fun w => (w.1, w.2.filter fun e => !inScope v e)).filter fun w => !w.2.isEmpty
    clus := (s1.xl.clus.map fun w => (w.1, w.2.filter fun e => !inScope v e)).filter fun w => !w.2.isEmpty
    walks := s1.xl.walks.map fun x => if walkInScope v x then { x with restart := true } else x
    invals := s1.xl.invals ++ [{ v with recorded := rec_ }] } }

/-- Take an invalidation in, at most 32 at once in arrival order (R272). -/
def takeInval (v : Inval) (s : State) : State :=
  let v1 := { v with id := s.xl.nextInval }
  let s1 := { s with xl := { s.xl with nextInval := s.xl.nextInval + 1 } }
  if s1.xl.invals.length < 32 then beginInval v1 s1
  else { s1 with xl := { s1.xl with invWait := s1.xl.invWait ++ [v1] } }

/-- Step 5 of R273: an Invalidate Completion, or OK for the SHADOW_INVALIDATE; the next that waits begins. -/
def completeInval (v : Inval) (s : State) : State :=
  let s1 := { s with xl := { s.xl with invals := s.xl.invals.filter fun x => x.id != v.id } }
  let s2 := match v.cmd with
    | none => emit (.invalidateCompletion v.fn v.tag) s1
    | some id => finishCmd id s1
  match s2.xl.invWait with
  | [] => s2
  | n :: rest => beginInval n { s2 with xl := { s2.xl with invWait := rest } }

/-- Remove what the translation units hold of a context (R283, R314). -/
def dropContext (ctx : Nat) (s : State) : State :=
  { s with xl := { s.xl with
    die := (s.xl.die.map fun w => (w.1, w.2.filter fun e => e.ctx != ctx)).filter fun w => !w.2.isEmpty
    clus := (s.xl.clus.map fun w => (w.1, w.2.filter fun e => e.ctx != ctx)).filter fun w => !w.2.isEmpty
    walks := s.xl.walks.filter fun x => x.ctx != ctx
    trackWait := s.xl.trackWait.filter fun x => x.1 != ctx } }

/-- The waiters of some commands leave the page requests, walks and waits; the entries stay (R278, R283). -/
def dropWaiters (p : Nat → Bool) (s : State) : State :=
  { s with xl := { s.xl with
    tracker := s.xl.tracker.map fun r => { r with waiters := r.waiters.filter fun w => !p w.2.cmd }
    walks := s.xl.walks.map fun r => { r with waiters := r.waiters.filter fun w => !p w.cmd }
    trackWait := s.xl.trackWait.filter fun x => !p x.2.2.cmd } }

/-! ## Rows -/

/-- TRANSLATION_WALK (R267, R268): a request of a cluster's master asks its mirror, the die-level mirror, and then a walk. -/
def translationWalkEff (k ctx va : Nat) (write : Bool) (cmd : Nat) (s : State) : State :=
  let w : Waiter := ⟨k, cmd, write, 0, (SMap.look s.ctxs ctx).bind fun c => facetClass s c.facet⟩
  if 2 ^ 48 ≤ va then failWaiter stUnmapped va w s
  else match SMap.look s.ctxs ctx with
  | none => s
  | some c =>
    if Config.poolBase ≤ va && SMap.has s.serve c.facet then s
    else match clusFind s k ctx va with
    | some e =>
      if placeOf e va write = .wait then fault ctx va w s
      else countXl k (fun n => { n with mirrorHits := n.mirrorHits + 1 }) (clusFill k e s)
    | none =>
      match dieFind s ctx va with
      | some e =>
        if placeOf e va write = .wait then fault ctx va w s
        else countXl k (fun n => { n with dieHits := n.dieHits + 1 }) (clusFill k e (dieFill e s))
      | none => startWalk ctx va w s

def execTranslationWalk (k ctx va : Nat) (write : Bool) (cmd : Nat) (s : State) : Host.Outcome State Fault Refusal :=
  checked (okCluster k) s (translationWalkEff k ctx va write cmd)

/-- WALK_COMPLETE (R260, R268, R283): the walk's reads end. A walk marked by an invalidation starts again, which reads the
entries as they now stand. -/
def walkCompleteEff (ctx vpage : Nat) (s : State) : State :=
  match s.xl.walks.find? fun x => x.ctx == ctx && x.vpage == vpage, SMap.look s.ctxs ctx with
  | some x, some c =>
    if x.ats.isSome then s
    else
      let x1 := { x with restart := false }
      let r := walkTables (x.waiters.head?.bind (·.cls)) c x.va (setWalk x1 s)
      takeWalk x1 c r.1 r.2
  | _, _ => s

def execWalkComplete (ctx vpage : Nat) (s : State) : Host.Outcome State Fault Refusal :=
  checked true s (walkCompleteEff ctx vpage)

/-- ATS_TRANSLATION_COMPLETION (R269): status 0 is success; the result is cached at the smaller of the two sizes for the
waiters whose permission it has, and the others fault. -/
def atsTranslationCompletionEff (ctx vpage status hpa size : Nat) (r w : Bool) (s : State) : State :=
  match s.xl.walks.find? fun x => x.ctx == ctx && x.vpage == vpage, SMap.look s.ctxs ctx with
  | some x, some c =>
    match x.ats with
    | none => s
    | some entry =>
      if x.restart then setWalk { x with restart := false, ats := none } s
      else
        let s1 := endWalk ctx vpage s
        if status != 0 then
          failAll stUnmapped x.va x.waiters
            (raiseTo [0, c.fn] evAtsError c.fn ctx x.va none (confFacet s1 c.facet) s1)
        else
          let z := Nat.max 12 (Nat.min size entry)
          let good (q : Waiter) : Bool := if q.write then w else r
          let okW := x.waiters.filter good
          let badW := x.waiters.filter fun q => !good q
          let e : MEnt := ⟨ctx, x.va / 2 ^ z * 2 ^ z, z, true, hpa / 2 ^ z * 2 ^ z, r, w⟩
          let s2 := if okW.isEmpty then s1 else fillFor e okW s1
          badW.foldl (fun t q => fault ctx x.va q t) s2
  | _, _ => s

def execAtsTranslationCompletion (ctx vpage status hpa size : Nat) (r w : Bool) (s : State) :
    Host.Outcome State Fault Refusal :=
  checked true s
    (atsTranslationCompletionEff ctx vpage status hpa size r w)

/-- ATS_INVALIDATE_REQUEST (R271 to R273): `pages` counts 4 KiB pages; without a PASID, or with Global Invalidate, every
context of the function. -/
def atsInvalidateRequestEff (fn : Nat) (pasid : Option Nat) (base pages tag : Nat) (s : State) : State :=
  let mine := (s.ctxs.filter fun e => e.2.fn == fn && (match pasid with | none => true | some p => e.2.pasid == p)).map (·.1)
  takeInval ⟨0, none, fn, mine, true, base, pages * 4096, false, tag, []⟩ s

def execAtsInvalidateRequest (fn : Nat) (pasid : Option Nat) (base pages tag : Nat) (s : State) :
    Host.Outcome State Fault Refusal :=
  checked (okFn fn && decide (tag < 32)) s (atsInvalidateRequestEff fn pasid base pages tag)

/-- INVALIDATION_DRAINED (R273 step 5): the recorded requests have drained. -/
def invalidationDrainedEff (id : Nat) (s : State) : State :=
  match s.xl.invals.find? fun v => v.id == id with
  | none => s
  | some v => completeInval v s

def execInvalidationDrained (id : Nat) (s : State) : Host.Outcome State Fault Refusal :=
  checked true s (invalidationDrainedEff id)

/-- INVALIDATION_DRAIN_TIMEOUT (R274): `aborted` names the requests that have not drained, each by the cluster of its master and its
command. Every such command that is recorded meets INVALIDATION_ABORT, its context is lost, INVALIDATION_ABORTED is raised for each
context, and the invalidation completes. -/
def invalidationDrainTimeoutEff (id : Nat) (aborted : List (Nat × Nat)) (s : State) : State :=
  match s.xl.invals.find? fun v => v.id == id with
  | none => s
  | some v =>
    let reqs := aborted.filter fun x => v.recorded.contains x.2
    let ids := NSet.ofList (reqs.map (·.2))
    let hit := NSet.ofList (ids.filterMap fun i => (cmdOf s i).map (·.desc.context))
    let s1 := reqs.foldl (fun t x => countXl x.1 (fun n => { n with aborted := n.aborted + 1 }) t) s
    let s2 := forAll ids (fun i t => meetStatus i stInvalidationAbort v.base t) s1
    let s3 := forAll hit (fun x t =>
      raiseTo [0, v.fn] evInvalidationAborted v.fn x v.base (some (0, if v.whole then 0 else v.len / 2 ^ 16))
        (((SMap.look t.ctxs x).map fun c => confFacet t c.facet).getD false) t) s2
    completeInval v s3

def execInvalidationDrainTimeout (id : Nat) (aborted : List (Nat × Nat)) (s : State) : Host.Outcome State Fault Refusal :=
  checked (aborted.all fun x => okCluster x.1) s (invalidationDrainTimeoutEff id aborted)

/-- PRG_RESPONSE (R277): code 0 Success, 1 Invalid Request, any other Response Failure. -/
def prgResponseEff (fn index code : Nat) (s : State) : State :=
  match s.xl.tracker.find? fun p => p.fn == fn && p.index == index with
  | none => { s with reg := { s.reg with prgDiscards := s.reg.prgDiscards + 1 } }
  | some p =>
    let s1 := { s with xl := { s.xl with tracker := s.xl.tracker.filter fun q => !(q.fn == fn && q.index == index) } }
    let va := p.vpage * 2 ^ 16
    if code = 0 then
      retryTrackWait (p.waiters.foldl (fun t x => startWalk x.1 va x.2 t) s1)
    else
      let s2 := p.waiters.foldl (fun t x => failWaiter stPageRequestFailed va x.2 t) s1
      if code = 1 then retryTrackWait s2
      else
        retryTrackWait (raiseTo [0, fn] evPriResponseFailure fn p.pasid 0 none false
          (updFn fn (fun r => { r with priFailed := true }) s2))

def execPrgResponse (fn index code : Nat) (s : State) : Host.Outcome State Fault Refusal :=
  checked (okFn fn && decide (index < 512)) s (prgResponseEff fn index code)

end Sys2Proof.Machine
end

