-- ==== Sys2Proof/Machine/Access.lean ====
section
/-! DEFINITION. Transfers of commands by address (09 R255, 11 R331, R335, R344, 05 R139): reads and writes of virtual, facet
and host bus addresses, piece by piece, and what ends them. Bytes of host memory come with the command and go out as
emissions (log 11). -/

namespace Sys2Proof.Machine

/-- Who transfers: cluster whose mirror translates, home path, command, context, facet and function. -/
structure Mover where
  cluster : Nat
  via : Via
  cmd : Nat
  ctx : Nat
  facet : Nat
  fn : Nat
  deriving DecidableEq, Repr

/-- How a transfer stops: the status and its detail, or a wait, for a translation under way or at the port of a class that is held
(R184, R186). -/
inductive Stop where
  | fail (status detail : Nat)
  | wait
  deriving DecidableEq, Repr

/-- Host memory lies beyond the west half's attachment points: while that half is parked it is UNREACHABLE (R27, R58). -/
def hostPlace (r : Place × State) : Place × State :=
  match r.1 with
  | .host _ => if r.2.pwr.westParked then (.fail stUnreachable, r.2) else r
  | _ => r

/-- The place of an address in a space: 0 virtual, 1 facet address, 2 host bus (R331). -/
def spacePlace (m : Mover) (space a : Nat) (write : Bool) (s : State) : Place × State :=
  match space with
  | 0 => hostPlace (translate m.cluster m.via.cls m.ctx a write m.cmd s)
  | 1 => (.device a, s)
  | _ => hostPlace (.host a, s)

/-- The failing status of a translation, with its detail (R335): a bad shadow entry is not a field of the descriptor. -/
def placeFail (st a : Nat) : Stop := .fail st (if st = stMalformed then 0xFFFF + a * 2 ^ 16 else a)

/-- A piece waits at its master's port or behind a blocked line (R184, R186, R244). -/
def rangeHeld (m : Mover) (fa k : Nat) (write : Bool) (s : State) : Bool :=
  classHeld s m.via.cls || rangeWaits m.via m.facet fa k write s

/-- Read the pieces of a range. Answers the bytes and the host data left, or what stopped it. -/
def moverReadAux (m : Mover) (space hint : Nat) : List (Nat × Nat) → List Byte → List Byte → State →
    Sum (List Byte × List Byte) Stop × State
  | [], host, acc, s => (.inl (acc, host), s)
  | (a, k) :: rest, host, acc, s =>
    let p := spacePlace m space a false s
    match p.1 with
    | .wait => (.inr .wait, p.2)
    | .fail st => (.inr (placeFail st a), p.2)
    | .host _ => moverReadAux m space hint rest (host.drop k) (acc ++ takePad k host) p.2
    | .device fa =>
      if rangeHeld m fa k false p.2 then (.inr .wait, p.2)
      else
      let r := faRead m.via m.facet hint fa k p.2
      match r.1 with
      | .inr e => (.inr (.fail e.1 (if e.1 = stUnmapped || e.1 = stUnreachable then a else e.2)), r.2)
      | .inl d => moverReadAux m space hint rest host (acc ++ d) (chargeHbm m.cmd k r.2)

def moverRead (m : Mover) (space hint a n : Nat) (host : List Byte) (s : State) :
    Sum (List Byte × List Byte) Stop × State := moverReadAux m space hint (linePieces a n) host [] s

/-- Write the pieces of a range; what was written before a stop stays (R344). -/
def moverWriteAux (m : Mover) (space hint : Nat) : List (Nat × Nat) → List Byte → State → Option Stop × State
  | [], _, s => (none, s)
  | (a, k) :: rest, d, s =>
    let p := spacePlace m space a true s
    match p.1 with
    | .wait => (some .wait, p.2)
    | .fail st => (some (placeFail st a), p.2)
    | .host h => moverWriteAux m space hint rest (d.drop k) (emit (.hostWrite m.fn h (d.take k)) p.2)
    | .device fa =>
      if rangeHeld m fa k true p.2 then (some .wait, p.2)
      else
      let r := faWrite m.via m.facet hint fa (d.take k) p.2
      match r.1 with
      | some e => (some (.fail e.1 (if e.1 = stUnmapped || e.1 = stUnreachable then a else e.2)), r.2)
      | none => moverWriteAux m space hint rest (d.drop k) (chargeHbm m.cmd k r.2)

def moverWrite (m : Mover) (space hint a : Nat) (d : List Byte) (s : State) : Option Stop × State :=
  moverWriteAux m space hint (linePieces a d.length) d s

/-- A stop reaches its command; a translation under way leaves it as it is. -/
def takeStop (id : Nat) (e : Stop) (s : State) : State :=
  match e with
  | .wait => s
  | .fail st d => meetStatus id st (if st = stUnreachable then 0 else d) s

end Sys2Proof.Machine
end

