-- ==== Sys2Proof/Machine/Vector.lean ====
section
/-! DEFINITION. The vector engine (05 R144 to R150, R565): registers as lists of elements, the arithmetic in FP32, the
conversions, attention scores and outputs, ranking and sampling. Readings that the spec leaves to inference are in log 10;
special-function values and NaN payloads are free (log 9). -/

namespace Sys2Proof.Machine

/-! ## Registers and elements -/

/-- `n` little-endian words of `w` bytes. -/
def wordsLe (w : Nat) : Nat → List Byte → List Nat
  | 0, _ => []
  | n + 1, l => ofLe (l.take w) :: wordsLe w n (l.drop w)

/-- Element patterns of bytes in a format (R145; A4 packed as R64 lays down). -/
def unpackElems (c : Nat) (l : List Byte) : List Nat :=
  if elemBits c = 4 then l.flatMap fun b => [b.toNat % 16, b.toNat / 16]
  else wordsLe (elemBits c / 8) (l.length / (elemBits c / 8)) l

/-- Bytes of element patterns. -/
def packNibbles : List Nat → List Byte
  | a :: b :: r => BitVec.ofNat 8 (a + 16 * b) :: packNibbles r
  | [a] => [BitVec.ofNat 8 a]
  | [] => []

def packElems (c : Nat) (l : List Nat) : List Byte :=
  if elemBits c = 4 then packNibbles l else l.flatMap (toLe (elemBits c / 8))

def regRead (x : Core) (r n : Nat) : List Byte := Mem.readN x.vreg (1024 * r) (1024 * n)
def regWrite (r : Nat) (d : List Byte) (x : Core) : Core := { x with vreg := Mem.writeN x.vreg (1024 * r) d }

/-- An element enters the arithmetic as an FP32 number (R145). -/
def operandNum (c w : Nat) : Num := fp32Round (elemDecode c w)

/-- The elements of a register as FP32 numbers. -/
def regNums (c : Nat) (x : Core) (r : Nat) : List Num := (unpackElems c (regRead x r 1)).map (operandNum c)

/-- Numbers written back in a format, rounded once more where it is narrower (R146). -/
def numBytes (c : Nat) (l : List Num) : List Byte := packElems c (l.map (elemEncode c))

/-- Element 0 of a register as FP32. -/
def fp32Elem0 (x : Core) (r : Nat) : Num := fpDecode Fmt.fp32 (ofLe (Mem.readN x.vreg (1024 * r) 4))

/-- vb of a step: its register, or its element 0 as often as needed (R147). -/
def secondNums (c : Nat) (scalar : Bool) (x : Core) (vb k : Nat) : List Num :=
  if scalar then List.replicate (elemsPerReg c) ((regNums c x vb).headD (.fin false 0 0)) else regNums c x (vb + k)

/-! ## Handshakes (R145, R148 to R150, R153) -/

/-- Elements that one handshake processes. -/
def elemRate (c : Nat) : Nat :=
  match c with
  | 0 => 256
  | 1 => 512
  | 2 => 512
  | _ => 128

def elemHandshakes (c count : Nat) : Nat := ceilDiv (count * elemsPerReg c) (elemRate c)

/-- Rows that an operand touches (R154). -/
def rowAccesses (a n : Nat) : Nat := ceilDiv (a % 256 + n) 256

/-! ## Running an operation -/

/-- A VEC operation by its vop and the operands that its row names; count 0 is a no-op (R135). -/
def vecOp (c : Nat) (key : List Nat) (count : Nat) (act : Nat → State → State) (s : State) : State :=
  wholeOp c (0x10 :: key) (fun id t => if count = 0 then t else act id t) s

/-- Registers in rising order, each read just before it is written, also where the source and target ranges overlap otherwise than
register on register (DESIGN CHOICE, log 10: R147 gives no order). -/
def vecSteps (c count : Nat) (g : Nat → Core → Core) (s : State) : State :=
  forAll (List.range count) (fun k t => updCore c (g k) t) s

/-- An elementwise operation. -/
def elementwise (c fmt vd va vb count : Nat) (scalar : Bool) (op : Core → Nat → List Num → List Num → List Num)
    (s : State) : State :=
  vecSteps c count (fun k x =>
    regWrite (vd + k) (numBytes fmt (op x k (regNums fmt x (va + k)) (secondNums fmt scalar x vb k))) x) s

def zipNums (f : Num → Num → Num) (a b : List Num) : List Num := (a.zip b).map fun p => f p.1 p.2

/-! ## Loads and stores -/

/-- Whether some accumulator entry of a byte range has bad parity (R144). -/
def badAcc (x : Core) (a n : Nat) : Bool := x.accBad.any fun i => decide (a / 4 ≤ i) && decide (4 * i < a + n)

/-- Read an operand of either space (R136). -/
def eitherRead (x : Core) (a n : Nat) : Option (List Byte) :=
  if a < 2 ^ 21 then scratchRead x a n
  else if badAcc x (a - 2 ^ 21) n then none else some (Mem.readN x.acc (a - 2 ^ 21) n)

def vloadEff (c vd addr count : Nat) (upset : List Nat) (s : State) : State :=
  vecOp c [1, vd, addr, count] count (fun id t =>
    let n := 1024 * count
    let hs := if addr < 2 ^ 21 then 2 * rowAccesses addr n else 2 * count
    let t1 := chargeVec id c hs (if addr < 2 ^ 21 then countRotate c addr n t else t)
    match eitherRead (coreOf t1 c) addr n with
    | none => parityError c id t1
    | some d => updCore c (regWrite vd d) t1) (upsetCore c upset s)

/-- VLOAD (R147). -/
def execVload (core vd addr count : Nat) (upset : List Nat) (s : State) : Host.Outcome State Fault Refusal :=
  checked (okCore core) s (vloadEff core vd addr count upset)

def vstoreEff (c va addr count : Nat) (s : State) : State :=
  vecOp c [2, va, addr, count] count (fun id t =>
    let n := 1024 * count
    scratchWrite c addr (regRead (coreOf t c) va count)
      (chargeVec id c (2 * rowAccesses addr n) (countRotate c addr n t))) s

/-- VSTORE (R147). -/
def execVstore (core va addr count : Nat) (s : State) : Host.Outcome State Fault Refusal :=
  checked (okCore core) s (vstoreEff core va addr count)

/-! ## Arithmetic -/

def vaddEff (c fmt vd va vb count : Nat) (scalar : Bool) (s : State) : State :=
  vecOp c [3, fmt, vd, va, vb, count, b2n scalar] count (fun id t =>
    elementwise c fmt vd va vb count scalar (fun _ _ a b => zipNums fp32Add a b)
      (chargeVec id c (elemHandshakes fmt count) t)) s

/-- VADD (R147). -/
def execVadd (core fmt vd va vb count : Nat) (scalar : Bool) (s : State) : Host.Outcome State Fault Refusal :=
  checked (okCore core) s (vaddEff core fmt vd va vb count scalar)

def vmulEff (c fmt vd va vb count : Nat) (scalar : Bool) (s : State) : State :=
  vecOp c [4, fmt, vd, va, vb, count, b2n scalar] count (fun id t =>
    elementwise c fmt vd va vb count scalar (fun _ _ a b => zipNums fp32Mul a b)
      (chargeVec id c (elemHandshakes fmt count) t)) s

/-- VMUL (R147). -/
def execVmul (core fmt vd va vb count : Nat) (scalar : Bool) (s : State) : Host.Outcome State Fault Refusal :=
  checked (okCore core) s (vmulEff core fmt vd va vb count scalar)

/-- Product and sum with one rounding. -/
def fma (a b c : Num) : Num := fp32Round ((a.mul b).add c)

def vfmaEff (c fmt vd va vb vc count : Nat) (scalar : Bool) (s : State) : State :=
  vecOp c [5, fmt, vd, va, vb, vc, count, b2n scalar] count (fun id t =>
    elementwise c fmt vd va vb count scalar
      (fun x k a b => ((a.zip b).zip (regNums fmt x (vc + k))).map fun p => fma p.1.1 p.1.2 p.2)
      (chargeVec id c (elemHandshakes fmt count) t)) s

/-- VFMA (R147). -/
def execVfma (core fmt vd va vb vc count : Nat) (scalar : Bool) (s : State) : Host.Outcome State Fault Refusal :=
  checked (okCore core) s (vfmaEff core fmt vd va vb vc count scalar)

def vmaxEff (c fmt vd va vb count : Nat) (scalar : Bool) (s : State) : State :=
  vecOp c [6, fmt, vd, va, vb, count, b2n scalar] count (fun id t =>
    elementwise c fmt vd va vb count scalar (fun _ _ a b => zipNums numMax a b)
      (chargeVec id c (elemHandshakes fmt count) t)) s

/-- VMAX (R147). -/
def execVmax (core fmt vd va vb count : Nat) (scalar : Bool) (s : State) : Host.Outcome State Fault Refusal :=
  checked (okCore core) s (vmaxEff core fmt vd va vb count scalar)

/-- Every element of a register range. -/
def rangeNums (c : Nat) (x : Core) (r n : Nat) : List Num := (unpackElems c (regRead x r n)).map (operandNum c)

/-- Write an FP32 number into bytes 0 to 3 of a register. -/
def putFp32 (r : Nat) (v : Num) (x : Core) : Core := regWrite r (toLe 4 (fpEncode Fmt.fp32 v)) x

def vsumEff (c fmt vd va count : Nat) (s : State) : State :=
  vecOp c [7, fmt, vd, va, count] count (fun id t =>
    updCore c (fun x => putFp32 vd (treeSum (rangeNums fmt x va count)) x)
      (chargeVec id c (elemHandshakes fmt count) t)) s

/-- VSUM (R147). -/
def execVsum (core fmt vd va count : Nat) (s : State) : Host.Outcome State Fault Refusal :=
  checked (okCore core) s (vsumEff core fmt vd va count)

def vrmaxEff (c fmt vd va count : Nat) (s : State) : State :=
  vecOp c [8, fmt, vd, va, count] count (fun id t =>
    updCore c (fun x =>
      let l := rangeNums fmt x va count
      putFp32 vd (treeFold numMax (.fin false 0 0) l.length l) x)
      (chargeVec id c (elemHandshakes fmt count) t)) s

/-- VRMAX (R147). -/
def execVrmax (core fmt vd va count : Nat) (s : State) : Host.Outcome State Fault Refusal :=
  checked (okCore core) s (vrmaxEff core fmt vd va count)

def vsfnEff (c fmt vd va count kind : Nat) (s : State) : State :=
  vecOp c [9, fmt, vd, va, count, kind] count (fun id t =>
    vecSteps c count (fun k x => regWrite (vd + k) (numBytes fmt ((regNums fmt x (va + k)).map (specialNum kind))) x)
      (chargeVec id c (ceilDiv (count * elemsPerReg fmt) 64) t)) s

/-- VSFN (R147, R148). -/
def execVsfn (core fmt vd va count kind : Nat) (s : State) : Host.Outcome State Fault Refusal :=
  checked (okCore core) s (vsfnEff core fmt vd va count kind)

/-- The spec gives no handshakes for VCVT where a format is storage only or the two rates differ: their count is a free
value (log 7). -/
def vcvtEff (c fmt vd va vb count target : Nat) (s : State) : State :=
  vecOp c [0x0A, fmt, vd, va, vb, count, target] count (fun id t =>
    let d := draw t
    let hs := if arithFmt fmt && arithFmt target && elemRate fmt == elemRate target then elemHandshakes fmt count else d.1
    updCore c (fun x =>
      let scale := fp32Elem0 x vb
      regWrite vd (packElems target
        ((rangeNums fmt x va count).map fun v => elemEncode target (v.mul scale))) x)
      (chargeVec id c hs d.2)) s

/-- VCVT (R565). -/
def execVcvt (core fmt vd va vb count target : Nat) (s : State) : Host.Outcome State Fault Refusal :=
  checked (okCore core) s (vcvtEff core fmt vd va vb count target)

/-- One block of VACC: FP32 of (FP32(entry) x scale) x vb[0]. -/
def vaccBlock (entries scales : List Num) (b0 : Num) : List Num :=
  (entries.zip scales).map fun p => fp32Mul (fp32Mul (fp32Round p.1) p.2) b0

def vaccEff (c vd va vb addr count : Nat) (upset : List Nat) (s : State) : State :=
  vecOp c [0x0B, vd, va, vb, addr, count] count (fun id t =>
    let t1 := chargeVec id c (2 * count) t
    if badAcc (coreOf t1 c) (addr - 2 ^ 21) (1024 * count) then parityError c id t1
    else
      let x0 := coreOf t1 c
      let scales := regNums 3 x0 va
      let b0 := fp32Elem0 x0 vb
      vecSteps c count (fun k x =>
        let es := (wordsLe 4 256 (Mem.readN x.acc (addr - 2 ^ 21 + 1024 * k) 1024)).map (elemDecode 4)
        regWrite (vd + k) (numBytes 3 (vaccBlock es scales b0)) x) t1) (upsetCore c upset s)

/-- VACC (R147). -/
def execVacc (core vd va vb addr count : Nat) (upset : List Nat) (s : State) : Host.Outcome State Fault Refusal :=
  checked (okCore core) s (vaccEff core vd va vb addr count upset)

/-- Pairs (2i, 2i + 1) rotated by cosines and sines, every product and sum an FP32 operation (log 10). -/
def rotatePairs : List Num → List Num → List Num → List Num
  | a :: b :: r, c :: cs, d :: ds =>
    fp32Add (fp32Mul a c) (fp32Mul b d).neg :: fp32Add (fp32Mul a d) (fp32Mul b c) :: rotatePairs r cs ds
  | _, _, _ => []

def vropeEff (c fmt vd va vb vc count : Nat) (s : State) : State :=
  vecOp c [0x0C, fmt, vd, va, vb, vc, count] count (fun id t =>
    elementwise c fmt vd va vb count false (fun x k a b => rotatePairs a b (regNums fmt x (vc + k)))
      (chargeVec id c (elemHandshakes fmt count) t)) s

/-- VROPE (R147). -/
def execVrope (core fmt vd va vb vc count : Nat) (s : State) : Host.Outcome State Fault Refusal :=
  checked (okCore core) s (vropeEff core fmt vd va vb vc count)

/-! ## Attention (R149, R424) -/

/-- Row t of the K or V part of a tile as exact numbers: `part` is the bytes of 64 rows, `scale` the FP16 scale of K4V4. -/
def tileRow (k4 : Bool) (d : Nat) (part : List Byte) (scale : Num) (t : Nat) : List Num :=
  if k4 then (unpackElems 6 ((part.drop (t * (d / 2))).take (d / 2))).map fun w => (elemDecode 6 w).mul scale
  else ((part.drop (t * d)).take d).map fun b => elemDecode 1 b.toNat

/-- Bytes of the K or the V part. -/
def partBytes (k4 : Bool) (d : Nat) : Nat := if k4 then 32 * d else 64 * d

/-- The K (v = false) or V part of a tile at a scratchpad address, and its scale; none is a parity error. -/
def tilePart (x : Core) (addr : Nat) (k4 : Bool) (d : Nat) (v : Bool) : Option (List Byte × Num) :=
  let n := partBytes k4 d
  match scratchRead x (if v then addr + n else addr) n with
  | none => none
  | some p =>
    if k4 then
      (scratchRead x (addr + 2 * n + (if v then 2 else 0)) 2).map fun w => (p, elemDecode 7 (ofLe w))
    else some (p, .fin false 1 0)

/-- Rotate extras of the reads of a tile part: the part, and in K4V4 its scale (R154). -/
def countTile (c addr : Nat) (k4 : Bool) (d : Nat) (v : Bool) (s : State) : State :=
  let n := partBytes k4 d
  let s1 := countRotate c (if v then addr + n else addr) n s
  if k4 then countRotate c (addr + 2 * n + (if v then 2 else 0)) 2 s1 else s1

/-- Handshakes of VQK and VPV: 512 products each, paced by the port. -/
def attnHandshakes (k4 : Bool) (d heads : Nat) : Nat :=
  Nat.max (ceilDiv (heads * 64 * d) 512) (2 * ceilDiv (partBytes k4 d) 256)

/-- The 64 scores of one query head. -/
def scores (k4 : Bool) (d : Nat) (part : List Byte) (scale : Num) (q : List Num) (b0 : Num) : List Num :=
  (List.range 64).map fun t => fp32Mul (treeSum (zipNums Num.mul q (tileRow k4 d part scale t))) b0

def vqkEff (c vd va vb addr count : Nat) (k4 : Bool) (hd heads : Nat) (upset : List Nat) (s : State) : State :=
  vecOp c [0x10, vd, va, vb, addr, count, b2n k4, hd, heads] count (fun id t =>
    let d := headDim hd
    let t1 := chargeVec id c (attnHandshakes k4 d heads) (countTile c addr k4 d false t)
    match tilePart (coreOf t1 c) addr k4 d false with
    | none => parityError c id t1
    | some p =>
      let b0 := fp32Elem0 (coreOf t1 c) vb
      vecSteps c heads (fun j x =>
        regWrite (vd + j) (numBytes 3 (scores k4 d p.1 p.2 ((regNums 0 x (va + j)).take d) b0)) x) t1) (upsetCore c upset s)

/-- VQK (R149). -/
def execVqk (core vd va vb addr count : Nat) (k4 : Bool) (hd heads : Nat) (upset : List Nat) (s : State) :
    Host.Outcome State Fault Refusal :=
  checked (okCore core) s (vqkEff core vd va vb addr count k4 hd heads upset)

/-- Weighted sum of the V rows at each position of the head dimension, added to what the register holds. -/
def weightedRows (d : Nat) (rows : List (List Num)) (w old : List Num) : List Num :=
  (List.range d).map fun i =>
    fp32Add (old.getD i (.fin false 0 0))
      (treeSum ((w.zip rows).map fun p => p.1.mul (p.2.getD i (.fin false 0 0))))

def vpvEff (c vd va addr count : Nat) (k4 : Bool) (hd heads : Nat) (upset : List Nat) (s : State) : State :=
  vecOp c [0x11, vd, va, addr, count, b2n k4, hd, heads] count (fun id t =>
    let d := headDim hd
    let t1 := chargeVec id c (attnHandshakes k4 d heads) (countTile c addr k4 d true t)
    match tilePart (coreOf t1 c) addr k4 d true with
    | none => parityError c id t1
    | some p =>
      let rows := (List.range 64).map (tileRow k4 d p.1 p.2)
      vecSteps c heads (fun j x =>
        regWrite (vd + j) (numBytes 3 (weightedRows d rows ((regNums 3 x (va + j)).take 64) (regNums 3 x (vd + j)))) x) t1) (upsetCore c upset s)

/-- VPV (R149). -/
def execVpv (core vd va addr count : Nat) (k4 : Bool) (hd heads : Nat) (upset : List Nat) (s : State) : Host.Outcome State Fault Refusal :=
  checked (okCore core) s (vpvEff core vd va addr count k4 hd heads upset)

/-! ## Ranking and sampling (R150) -/

/-- A candidate: logit and token pattern. -/
abbrev Cand := Num × Nat

/-- The token that marks a pair without a candidate. -/
def noToken : Nat := 0xFFFFFFFF

/-- Whether a candidate ranks before another: the higher logit, then the lower token; NaN below every number. -/
def ranksBefore (a b : Cand) : Bool :=
  if a.1.isNan then b.1.isNan && decide (signed 32 a.2 < signed 32 b.2)
  else if b.1.isNan then true
  else b.1.lt a.1 || (!(a.1.lt b.1) && decide (signed 32 a.2 < signed 32 b.2))

def insertCand (a : Cand) : List Cand → List Cand
  | [] => [a]
  | b :: r => if ranksBefore b a then b :: insertCand a r else a :: b :: r

/-- The first k candidates in rank order. -/
def rankCands (k : Nat) (l : List Cand) : List Cand := (l.foldl (fun a c => (insertCand c a).take k) [])

/-- The pairs of a list before its first pair without a candidate. -/
def listCands (d : List Byte) : List Cand :=
  ((wordsLe 8 1024 d).map fun w => (fpDecode Fmt.fp32 (w % 2 ^ 32), w / 2 ^ 32)).takeWhile fun c => c.2 != noToken

/-- A list as 8 KiB of pairs, a quiet NaN and the marker after its last candidate. -/
def candBytes (l : List Cand) : List Byte :=
  (l.flatMap fun c => toLe 4 (fpEncode Fmt.fp32 c.1) ++ toLe 4 c.2) ++
    (List.replicate (1024 - l.length) (toLe 4 (fpNan Fmt.fp32) ++ toLe 4 noToken)).flatten

/-- Inputs of VTOPK. -/
def topkInputs (x : Core) (va vc count : Nat) (lists : Bool) : List Cand :=
  if lists then (List.range (count / 8)).flatMap fun i => listCands (regRead x (va + 8 * i) 8)
  else
    let base := ofLe (Mem.readN x.vreg (1024 * vc) 4)
    let l := rangeNums 0 x va count
    ((l.zip (List.range l.length)).map fun p => (p.1, (base + p.2) % 2 ^ 32)).filter fun c => c.2 != noToken

def vtopkEff (c vd va vc count k : Nat) (lists : Bool) (s : State) : State :=
  vecOp c [0x18, vd, va, vc, count, k, b2n lists] count (fun id t =>
    let m := if lists then count / 8 * 1024 else count * 512
    updCore c (fun x => regWrite vd (candBytes (rankCands k (topkInputs x va vc count lists))) x)
      (chargeVec id c (ceilDiv m 128 + 16) t)) s

/-- VTOPK (R150). -/
def execVtopk (core vd va vc count k : Nat) (lists : Bool) (s : State) : Host.Outcome State Fault Refusal :=
  checked (okCore core) s (vtopkEff core vd va vc count k lists)

/-- The random number of seed, position and draw: a 24-bit numerator over 2^24 (R150). -/
def unitNum (seed position drawNo : Nat) : Nat :=
  let m := 2 ^ 64
  let z0 := (seed ^^^ (position * 2 ^ 16) ^^^ drawNo) % m
  let z1 := (z0 + 0x9E3779B97F4A7C15) % m
  let z2 := (z1 ^^^ (z1 / 2 ^ 30)) * 0xBF58476D1CE4E5B9 % m
  let z3 := (z2 ^^^ (z2 / 2 ^ 27)) * 0x94D049BB133111EB % m
  let z4 := z3 ^^^ (z3 / 2 ^ 31)
  z4 / 2 ^ 40

def numZero : Num := .fin false 0 0
def numOne : Num := .fin false 1 0
/-- a is not below b, and neither is a NaN. -/
def numGe (a b : Num) : Bool := !a.isNan && !b.isNan && !(a.lt b)

/-- FP32 sum in index order. -/
def seqSum (l : List Num) : Num := l.foldl fp32Add numZero

/-- How many weights the top_p cut keeps. -/
def topPCut (lim : Num) : List Num → Num → Nat → Nat
  | [], _, n => n
  | w :: r, cum, n => if numGe (fp32Add cum w) lim then n + 1 else topPCut lim r (fp32Add cum w) (n + 1)

/-- The first index at which u falls below the running sum. -/
def pickIndex (u : Num) : List Num → Num → Nat → Option Nat
  | [], _, _ => none
  | w :: r, cum, n => if u.lt (fp32Add cum w) then some n else pickIndex u r (fp32Add cum w) (n + 1)

/-- The pseudocode of R150: token and probability. -/
def sample (c : List Cand) (temperature topP : Num) (topK seed position drawNo : Nat) : Nat × Num :=
  match c with
  | [] => (noToken, numZero)
  | c0 :: _ =>
    if numGe numZero temperature then (c0.2, numOne)
    else
      let k := if topK = 0 || 1024 < topK then 1024 else topK
      let cs := c.take k
      let w := cs.map fun x => specialNum 0 (fp32Div (fp32Add x.1 c0.1.neg) temperature)
      let n := if numZero.lt topP && topP.lt numOne then topPCut (fp32Mul topP (seqSum w)) w numZero 0 else w.length
      let w1 := w.take n
      let total := seqSum w1
      let u := fp32Mul (.fin false (unitNum seed position drawNo) (-24)) total
      let j := (pickIndex u w1 numZero 0).getD (n - 1)
      ((cs.getD j c0).2, fp32Div (w1.getD j numZero) total)

def vsampleEff (c vd va addr count : Nat) (upset : List Nat) (s : State) : State :=
  vecOp c [0x19, vd, va, addr, count] count (fun id t =>
    let t := countRotate c addr 32 t
    let x := coreOf t c
    match scratchRead x addr 32 with
    | none => parityError c id t
    | some d =>
      let at4 (o : Nat) : Nat := ofLe ((d.drop o).take 4)
      if at4 24 > 65535 || ofLe ((d.drop 10).take 2) != 0 || at4 28 != 0 then
        meetStatus id stMalformed (0xFFFF + addr * 2 ^ 16) t
      else
        let cs := listCands (regRead x va 8)
        let r := sample cs (fpDecode Fmt.fp32 (at4 0)) (fpDecode Fmt.fp32 (at4 4)) (ofLe ((d.drop 8).take 2))
          (ofLe ((d.drop 16).take 8)) (at4 12) (at4 24)
        updCore c (regWrite vd (toLe 4 r.1 ++ toLe 4 (fpEncode Fmt.fp32 r.2)))
          (chargeVec id c (32 + 2 * ceilDiv cs.length 64) t)) (upsetCore c upset s)

/-- VSAMPLE (R150). -/
def execVsample (core vd va addr count : Nat) (upset : List Nat) (s : State) : Host.Outcome State Fault Refusal :=
  checked (okCore core) s (vsampleEff core vd va addr count upset)

end Sys2Proof.Machine
end

