-- ==== Sys2Proof/Machine/CoreOps.lean ====
section
/-! DEFINITION. Data movement and control of a core (05 R139, R140, R151): DMA, messages, prism sends, barriers, events and
END. An operation that has to wait (for a translation, for credits, for flits, for members of its facet) keeps what it has done so
far and the record of its wait, and goes on when its row comes again (log 2). -/

namespace Sys2Proof.Machine

/-- The mover of a core's DMA: its cluster's cache and mirror, the context and function of its command. -/
def coreMover (s : State) (c id : Nat) : Mover :=
  let f := (coreOf s c).facet
  match (if 2 ^ 32 ≤ id then none else cmdOf s id) with
  | some m => ⟨clusterOfCore c, coreVia s c, id, m.desc.context, f, m.fn⟩
  | none => ⟨clusterOfCore c, coreVia s c, id, 0, f, ownerOf s f⟩

/-- Window address of the step area of a facet's step (R423, R434). -/
def stepAreaVa (v : Serve) : Nat :=
  let p := windowParts v
  let area := p.2.2.2.1
  let n : Nat := match v.step with
    | some p => p.n
    | none => 0
  Config.poolBase + area + (if n % 2 = 0 then 0 else (windowSize v - area) / 2)

/-- Argument pointer n of the work on a core (R139, R330, R434). -/
def argPointer (s : State) (c id n : Nat) : Nat :=
  if n = 0 then 0
  else if 2 ^ 32 ≤ id then
    match SMap.look s.serve (coreOf s c).facet with
    | some v => if n = 1 then stepAreaVa v else if n = 2 then Config.poolBase + (windowParts v).1 else 0
    | none => 0
  else
    match (cmdOf s id).map (·.desc.payload) with
    | some (Payload.runSegment _ args) => args.getD (n - 1) 0
    | _ => 0

/-- Virtual addresses of a DMA, entry by entry; none is a parity error of the list, and a bad entry gives its scratchpad
address. -/
def dmaEntries (s : State) (c id : Nat) (list : Bool) (base va listLen : Nat) : Option (Sum (List Nat) Nat) :=
  let b := argPointer s c id base
  if !list then some (.inl [va + b])
  else
    match scratchRead (coreOf s c) va (8 * listLen) with
    | none => none
    | some d =>
      let es := wordsLe 8 listLen d
      match es.findIdx? fun e => decide (2 ^ 48 ≤ e) with
      | some i => some (.inr (va + 8 * i))
      | none => some (.inl (es.map (· + b)))

/-- The pieces of a DMA's transfers in order, none across a line: virtual address, bytes, offset at the local side. -/
def dmaPieces (es : List Nat) (length : Nat) : List (Nat × Nat × Nat) :=
  ((List.range es.length).zip es).flatMap fun x => (linePieces x.2 length).map fun p => (p.1, p.2, x.1 * length + (p.1 - x.2))

/-- Pieces of a DMA, the first of them number `k`: what is done is on record when a piece has to wait (R139, R186). -/
def dmaRun (c i : Nat) (one : Nat × Nat × Nat → State → Option Stop × State) :
    List (Nat × Nat × Nat) → Nat → State → Option Stop × State
  | [], _, s => (none, s)
  | p :: r, k, s =>
    let x := one p s
    match x.1 with
    | some e => (some e, x.2)
    | none => dmaRun c i one r (k + 1) (setPart c i (k + 1) (opStarted c i x.2))

/-- Rotate extras of a piece's operand: counted with the operand's first piece (R154). -/
def pieceRotate (c a length : Nat) (p : Nat × Nat × Nat) (s : State) : State :=
  if p.2.2 % length = 0 then countRotate c (a + p.2.2) length s else s

/-- A DMA of either direction: its list, then its pieces from where it stood (R139). -/
def dmaAct (c : Nat) (list : Bool) (base va listLen length : Nat) (one : Mover → Nat × Nat × Nat → State → Option Stop × State)
    (id i : Nat) (s : State) : Doing × State :=
  if length = 0 then (.ends, s)
  else
    let s0 := if list && !SMap.has (coreOf s c).part i then countRotate c va (8 * listLen) s else s
    match dmaEntries s0 c id list base va listLen with
    | none => (.ends, parityError c id s0)
    | some (.inr a) => (.ends, meetStatus id stMalformed (0xFFFF + a * 2 ^ 16) s0)
    | some (.inl es) =>
      let k := partOf s c i
      let r := dmaRun c i (one (coreMover s c id)) ((dmaPieces es length).drop k) k s0
      match r.1 with
      | none => (.ends, r.2)
      | some .wait => (.goes, r.2)
      | some e => (.ends, takeStop id e r.2)

/-- A piece of a DMA_IN. `host` is what the HOST pages among the sources hold, byte by byte of the local side. -/
def dmaInPiece (c hint dst length : Nat) (host : List Byte) (m : Mover) (p : Nat × Nat × Nat) (s : State) : Option Stop × State :=
  let r := moverRead m 0 hint p.1 p.2.1 (takePad p.2.1 (host.drop p.2.2)) s
  match r.1 with
  | .inr e => (some e, r.2)
  | .inl d => (none, scratchWrite c (dst + p.2.2) d.1 (pieceRotate c dst length p r.2))

def dmaInEff (c hint : Nat) (list : Bool) (base va listLen dst length : Nat) (host : List Byte) (upset : List Nat) (s : State) :
    State :=
  coreOp c [0x20, hint, b2n list, base, va, listLen, dst, length]
    (dmaAct c list base va listLen length (dmaInPiece c hint dst length host)) (upsetCore c upset s)

/-- DMA_IN (R139). -/
def execDmaIn (core hint : Nat) (list : Bool) (base va listLen dst length : Nat) (hostData : List Byte) (upset : List Nat)
    (s : State) : Host.Outcome State Fault Refusal :=
  checked (okCore core) s (dmaInEff core hint list base va listLen dst length hostData upset)

/-- A piece of a DMA_OUT; bad parity of its bytes ends the command (R155). -/
def dmaOutPiece (c hint src length : Nat) (m : Mover) (p : Nat × Nat × Nat) (s : State) : Option Stop × State :=
  match scratchRead (coreOf s c) (src + p.2.2) p.2.1 with
  | none => (some (.fail stDataPoisoned 0), updCore c (fun x => { x with parityErrors := satAdd 16 x.parityErrors 1 }) s)
  | some d =>
    let r := moverWrite m 0 hint p.1 d s
    match r.1 with
    | some e => (some e, r.2)
    | none => (none, pieceRotate c src length p r.2)

def dmaOutEff (c hint : Nat) (list : Bool) (base va listLen src length : Nat) (upset : List Nat) (s : State) : State :=
  coreOp c [0x21, hint, b2n list, base, va, listLen, src, length]
    (dmaAct c list base va listLen length (dmaOutPiece c hint src length)) (upsetCore c upset s)

/-- DMA_OUT (R139). -/
def execDmaOut (core hint : Nat) (list : Bool) (base va listLen src length : Nat) (upset : List Nat) (s : State) :
    Host.Outcome State Fault Refusal :=
  checked (okCore core) s (dmaOutEff core hint list base va listLen src length upset)

/-! ## Messages (R151) -/

/-- Flits that an inbound queue still takes: 32 credits (R151). -/
def queueRoom (s : State) (c q : Nat) : Nat := 32 - (SMap.getD (coreOf s c).inq q []).length

/-- Flits `p` to `p + k - 1` of a message of `n`, from their data; the first of the message carries its length. `bad` says which
arrive with bad parity. -/
def flitsOf (n p k : Nat) (d : List Byte) (bad : Nat → Bool) : List QFlit :=
  (List.range k).map fun i =>
    { data := (d.drop (128 * i)).take 128, len := if p + i = 0 then n else 0, bad := bad (p + i) }

/-- Waits that hold a property have shown a handshake (R478). -/
def touchWaits (p : Nat → WaitRec → Bool) (s : State) : State :=
  { s with cores := s.cores.map fun e =>
      match e.2.waitFor with
      | some w => if p e.1 w then (e.1, { e.2 with waitFor := some { w with since := mcNow s } }) else e
      | none => e }

/-- A handshake at inbound queue q of core d. -/
def touchQueue (d q : Nat) (s : State) : State :=
  touchWaits (fun c w =>
    if w.kind = 1 then w.obj == d * 8 + q
    else if w.kind = 2 then
      match SMap.look s.prisms w.obj with
      | some t => t.queue == q && t.leaves.contains d
      | none => false
    else w.kind == 3 && c == d && w.obj == q) s

/-- Put a message into an inbound queue. -/
def enqueue (c q : Nat) (l : List QFlit) (s : State) : State :=
  touchQueue c q (updCore c (fun x => { x with inq := SMap.put x.inq q (SMap.getD x.inq q [] ++ l) }) s)

/-- Note a wait of a core for the wait-for detector (R478): kind 1 SEND, 2 PRISM_SEND, 3 RECV, 4 BARRIER; the object is
the destination core times 8 plus its queue, the tree, the queue, or the barrier number. -/
def noteWait (c kind obj need : Nat) (s : State) : State :=
  updCore c (fun x =>
    match x.waitFor with
    | some w => if w.kind = kind && w.obj = obj then x else { x with waitFor := some ⟨kind, obj, mcNow s, need⟩ }
    | none => { x with waitFor := some ⟨kind, obj, mcNow s, need⟩ }) s

def clearWait (c : Nat) (s : State) : State := updCore c (fun x => { x with waitFor := none }) s

/-- A logical core's physical core in the segment at work. -/
def sendTarget (s : State) (c id dest q : Nat) : Option Nat :=
  match workSeg s id (coreOf s c).facet with
  | none => none
  | some l =>
    match logicalCore l c with
    | none => none
    | some me => if dest != me && qmapOf l.seg dest q == me then SMap.look l.mapping dest else none

/-- Mesh upsets of a row (log 12): number 2^22 + 16 d + i is bad parity of flit i on its way to core d. -/
def meshBad (upset : List Nat) (d i : Nat) : Bool := upset.contains (2 ^ 22 + 16 * d + i)

/-- Flits arrive at a core's queue. A parity error in one ends the command of the core that receives it, and its router counts it
(R171, R197). -/
def deliverFlits (d q n p k : Nat) (data : List Byte) (upset : List Nat) (s : State) : State :=
  let hit := (List.range k).any fun i => meshBad upset d (p + i)
  let s1 := enqueue d q (flitsOf n p k data (meshBad upset d)) s
  if !hit then s1
  else
    match (coreOf s d).cmd with
    | some id => meetStatus id stDataPoisoned 0 (routerParity (clusterOfCore d) s1)
    | none => routerParity (clusterOfCore d) s1

/-- A message leaves flit by flit against the credits of its destinations, the slowest of which paces it (R151, R176). -/
def sendMsg (c n src : Nat) (dests : List (Nat × Nat)) (kind obj : Nat) (upset : List Nat) (id i : Nat) (s : State) : Doing × State :=
  let p := partOf s c i
  let k := (dests.map fun d => queueRoom s d.1 d.2).foldl Nat.min (n - p)
  let s1 := if src < 2 ^ 21 && !SMap.has (coreOf s c).part i then countRotate c src (128 * n) s else s
  match eitherRead (coreOf s1 c) (src + 128 * p) (128 * k) with
  | none => (.ends, clearWait c (parityError c id s1))
  | some data =>
    let s2 := dests.foldl (fun t d => deliverFlits d.1 d.2 n p k data upset t) (setPart c i (p + k) (opStarted c i s1))
    if p + k = n then (.ends, clearWait c s2) else (.goes, noteWait c kind obj (n - p - k) s2)

def sendEff (c dest q n src : Nat) (upset : List Nat) (s : State) : State :=
  coreOp c [0x30, dest, q, n, src] (fun id i t =>
    match sendTarget t c id dest q with
    | none => (.waits, t)
    | some d =>
      if routeParked t (clusterOfCore c) (clusterOfCore d) then (.ends, meetStatus id stUnreachable 0 t)
      else sendMsg c n src [(d, q)] 1 (d * 8 + q) upset id i t) (upsetCore c upset s)

/-- SEND (R151, R163). -/
def execSend (core dest queue flits src : Nat) (upset : List Nat) (s : State) : Host.Outcome State Fault Refusal :=
  checked (okCore core) s (sendEff core dest queue flits src upset)

/-- RECV waits for a whole message, whose length its first flit carries. `upset` names flits of it whose parity fails in the queue. -/
def recvAct (c q n dst : Nat) (upset : List Nat) (id _i : Nat) (s : State) : Doing × State :=
  match SMap.getD (coreOf s c).inq q [] with
  | [] => (.waits, noteWait c 3 q n s)
  | f :: rest =>
    if f.len != n then (.ends, clearWait c (meetStatus id stMalformed 0xFFFF s))
    else if (f :: rest).length < n then (.waits, noteWait c 3 q n s)
    else
      let msg := (f :: rest).take n
      let s1 := clearWait c (touchQueue c q (updCore c (fun x => { x with inq := SMap.put x.inq q ((f :: rest).drop n) }) s))
      if msg.any (·.bad) || upset.any (fun i => decide (i < n)) then (.ends, parityError c id s1)
      else (.ends, scratchWrite c dst (msg.flatMap (·.data)) (countRotate c dst (128 * n) s1))

def recvEff (c q n dst : Nat) (upset : List Nat) (s : State) : State := coreOp c [0x31, q, n, dst] (recvAct c q n dst upset) s

/-- RECV (R151). -/
def execRecv (core queue flits dst : Nat) (upset : List Nat) (s : State) : Host.Outcome State Fault Refusal :=
  checked (okCore core) s (recvEff core queue flits dst upset)

/-- The prism tree that entry p of the work's segment has on the current rung (R174). -/
def workTree (s : State) (id f p : Nat) : Option (Nat × PrismTree) :=
  match facetOf s f with
  | none => none
  | some x =>
    let h := workLadder s id f
    s.prisms.find? fun e => !e.2.old && e.2.facet == f && e.2.ladder == h && e.2.rung == x.rung && e.2.entry == p

/-- PRISM_SEND: every leaf's copy enters its queue at the same time, as the routers hold the tree (R54, R151, R174, R176). -/
def prismSendEff (c p n src : Nat) (upset : List Nat) (s : State) : State :=
  coreOp c [0x32, p, n, src] (fun id i t =>
    match workTree t id (coreOf t c).facet p with
    | none => (.waits, t)
    | some (k, tree) => sendMsg c n src ((prismLeaves t k c).map fun d => (d, tree.queue)) 2 k upset id i t) (upsetCore c upset s)

/-- PRISM_SEND (R151, R54). -/
def execPrismSend (core prism flits src : Nat) (upset : List Nat) (s : State) : Host.Outcome State Fault Refusal :=
  checked (okCore core) s (prismSendEff core prism flits src upset)

/-! ## Barriers, events, END (R140) -/

/-- Cores of a facet that stand at a barrier of one scope for the same work. -/
def arrivedAt (s : State) (f id number : Nat) (scope : Bool) : List Nat :=
  ((s.cores.filter fun e => e.2.status == 2 && e.2.facet == f && e.2.cmd == some id &&
    match e.2.atBarrier with
    | some b => b.1 == number && b.2.1 == scope
    | none => false)).map (·.1)

/-- Cores of members that have arrived at a facet-scope barrier: the spec gives no content for the messages that say so, and the
number is free (DESIGN CHOICE, log 14). -/
def membersArrived (f : Nat) (scope : Bool) (s : State) : Nat × State :=
  match facetOf s f with
  | some x => if scope && (x.member || decide (0 < x.memberCount)) then draw s else (0, s)
  | none => (0, s)

/-- Release a barrier when its participants have arrived; else the core waits there. -/
def barrierCheck (c id number : Nat) (scope : Bool) (participants : Nat) (s : State) : State :=
  let f := (coreOf s c).facet
  let m := membersArrived f scope s
  let here := arrivedAt m.2 f id number scope
  if participants ≤ here.length + m.1 then
    forAll here (fun d u => updCore d (fun x => { x with atBarrier := none, waitFor := none }) u) m.2
  else
    noteWait c 4 number 0 (touchWaits (fun d w => w.kind == 4 && w.obj == number && (coreOf m.2 d).facet == f) m.2)

/-- A core arrives at a barrier, or, where it stands there already, its controller looks for arrivals again. -/
def barrierEff (c number : Nat) (scope : Bool) (participants : Nat) (s : State) : State :=
  let x := coreOf s c
  match x.cmd with
  | none => s
  | some id =>
    if x.atBarrier = some (number, scope, participants) then barrierCheck c id number scope participants s
    else
      wholeOp c [0x40, number, b2n scope, participants] (fun id t =>
        barrierCheck c id number scope participants
          (updCore c (fun y => { y with atBarrier := some (number, scope, participants) }) t)) s

/-- BARRIER (R140). -/
def execBarrier (core number : Nat) (facetScope : Bool) (participants : Nat) (s : State) :
    Host.Outcome State Fault Refusal :=
  checked (okCore core) s (barrierEff core number facetScope participants)

/-- Increment an event counter of a core; a WAIT_EVENT at or below it lets issue resume (R140). -/
def bumpEvent (c n : Nat) (s : State) : State :=
  updCore c (fun x =>
    let v := (SMap.getD x.events n 0 + 1) % 2 ^ 32
    { x with events := SMap.put x.events n v
             waiting := match x.waiting with
               | some w => if w.1 = n && decide (w.2 ≤ v) then none else x.waiting
               | none => none }) s

def waitEventEff (c event threshold : Nat) (s : State) : State :=
  wholeOp c [0x41, event, threshold] (fun _ t =>
    if threshold ≤ SMap.getD (coreOf t c).events event 0 then t
    else updCore c (fun x => { x with waiting := some (event, threshold) }) t) s

/-- WAIT_EVENT (R140). -/
def execWaitEvent (core event threshold : Nat) (s : State) : Host.Outcome State Fault Refusal :=
  checked (okCore core) s (waitEventEff core event threshold)

def endOpEff (c : Nat) (s : State) : State :=
  wholeOp c [0x7F] (fun id t =>
    let unread := (coreOf t c).inq.any fun e => !e.2.isEmpty
    let t1 := updCore c (fun x => { x with ended := true, inq := [] }) t
    if unread then meetStatus id stMalformed 0xFFFF t1 else t1) s

/-- END (R140). -/
def execEndOp (core : Nat) (s : State) : Host.Outcome State Fault Refusal := checked (okCore core) s (endOpEff core)

end Sys2Proof.Machine
end

