-- ==== Sys2Proof/Machine/Requests.lean ====
section
/-! DEFINITION. The bytes of a mailbox request: the 32-byte header (10 R294), and the body of each request with its reserved
fields (07 R231 to R233, 09 R256, 10 R299, 11 R314 to R317, 12 R355 to R370 and R377, 14 R451 and R463, 15 R472 and R481,
16 R509, 17 R514, R532 and R533). A request row reads the buffer that its doorbell read (R296). -/

namespace Sys2Proof.Machine

/-! ## The header (R294) -/

/-- Body length that a request's header gives. -/
def bodyLen (buf : List Byte) : Nat := field buf 4 4
def respAddrOf (buf : List Byte) : Nat := field buf 8 8
def respLenOf (buf : List Byte) : Nat := field buf 0x10 4

/-- The body that a header announces. -/
def bodyOf (buf : List Byte) : List Byte := slice buf 0x20 (bodyLen buf)

/-- A header that cannot be used: not all of it could be read, or its response buffer is out of its rules (R296). -/
def headerUnusable (buf : List Byte) : Bool :=
  decide (buf.length < 32) || respAddrOf buf % 64 != 0 || decide (respLenOf buf < 64) || decide (1048576 < respLenOf buf)

/-- A header that is MALFORMED though it can be used (R294, R297). A body that cannot be read is a bad body (log 13). -/
def headerBad (seq : Nat) (buf : List Byte) : Bool :=
  !zeroBytes buf 2 2 || !zeroBytes buf 0x16 10 || decide (4096 < 32 + bodyLen buf) || field buf 0x14 2 != seq ||
    decide (buf.length < 32 + bodyLen buf)

/-! ## Layouts -/

/-- One request row: its request code, the bodies that are its own (the subop), and the bodies that are bad: too short for the
layout, or with a reserved bit that is not 0 (R14). -/
structure Layout where
  op : Nat
  mine : List Byte → Bool
  bad : List Byte → Bool

/-- Bits `lo` up to but not including `hi` of a field are 0. -/
def zeroBits (x lo hi : Nat) : Bool := x / 2 ^ lo % 2 ^ (hi - lo) == 0

/-- A body is shorter than `n` bytes, one of the given byte ranges is not all 0, or a byte beyond `n` is not 0 (log 13). -/
def badBody (n : Nat) (rsv : List (Nat × Nat)) (b : List Byte) : Bool :=
  decide (b.length < n) || rsv.any (fun r => !zeroBytes b r.1 r.2) || !(b.drop n).all (· == 0)

/-- A layout whose row is the only one of its request code. -/
def plain (op n : Nat) (rsv : List (Nat × Nat)) : Layout := ⟨op, fun _ => true, badBody n rsv⟩

/-- What a request row finds in the mailbox of a function: its request's header and body, if the outstanding request is one of
its own. -/
def askedBy (s : State) (fn : Nat) (l : Layout) : Option (Req × List Byte) :=
  let r := fnOf s fn
  let buf := r.request
  let b := bodyOf buf
  if r.outstanding && field buf 0 2 == l.op && l.mine b then
    some (⟨fn, r.curSeq, respAddrOf buf, respLenOf buf, l.bad b⟩, b)
  else none

/-- A request row: nothing happens where no request of its own is outstanding (log 13). -/
def onRequest (fn : Nat) (l : Layout) (act : Req → List Byte → State → State) (s : State) : State :=
  match askedBy s fn l with
  | none => s
  | some (h, b) => act h b s

/-! ## GET_INFO, TELEMETRY, ACCOUNTING_READ (R299, R463, R472) -/

/-- Byte 1 is FRAME_MAP's facet and the others ignore it. -/
def layInfo (sub : Nat) : Layout := ⟨opGetInfo, fun b => field b 0 1 == sub, badBody 8 [(2, 6)]⟩

/-- Bytes 6 and 7 name a facet for type 7 and are reserved for the others. -/
def layTelemetry : Layout :=
  ⟨opTelemetry, fun _ => true, fun b => if field b 0 1 = 7 then badBody 8 [(1, 1)] b else badBody 6 [(1, 1)] b⟩

def layAccounting : Layout := plain opAccountingRead 8 [(1, 1), (6, 2)]

/-! ## Contexts and queues (R256, R314, R316, R317) -/

def layBind : Layout :=
  ⟨opContextBind, fun _ => true, fun b =>
    badBody 32 [(0x12, 14)] b || !zeroBits (field b 4 4) 20 32 || !zeroBits (field b 8 8) 0 12 || !zeroBits (field b 8 8) 39 64⟩

def bindBody (b : List Byte) : BindBody :=
  { context := field b 0 2, facet := field b 2 1, function := field b 3 1, pasid := field b 4 4, root := field b 8 8
    weight := field b 0x10 2 }

def layUnbind : Layout := plain opContextUnbind 8 [(2, 6)]

def layQueueCreate : Layout :=
  ⟨opQueueCreate, fun _ => true, fun b => badBody 48 [(6, 2), (0x24, 12)] b || !zeroBits (field b 1 1) 2 8⟩

def queueBody (b : List Byte) : QueueBody :=
  { facet := field b 0 1, privileged := bit (field b 1 1) 0 == 1, report := bit (field b 1 1) 1 == 1, source := field b 2 2
    subLog2 := field b 4 1, compLog2 := field b 5 1, subBase := field b 8 8, compBase := field b 0x10 8
    fenceBase := field b 0x18 8, fenceCount := field b 0x20 4 }

def layQueueDestroy : Layout := plain opQueueDestroy 8 [(2, 6)]

/-! ## Facets (R355, R358, R361, R368, R369, R451) -/

def layFacetCreate : Layout :=
  ⟨opFacetCreate, fun _ => true, fun b =>
    badBody 0xA8 [(0x21, 1), (0x26, 10), (0x36, 10), (0x84, 4)] b || !zeroBits (field b 2 1) 2 8 || !zeroBits (field b 3 1) 3 8 ||
      !zeroBits (field b 0xA 1) 5 8 || !zeroBits (field b 0x34 2) 12 16 ||
      !zeroBits (field b 0x30 4) (if bit (field b 2 1) 1 == 1 then 22 else 16) 32⟩

/-- The group field names a member facet's master, and the member count of every other (R358). -/
def facetBody (b : List Byte) : FacetBody :=
  let group := field b 0x30 4
  let member := bit (field b 2 1) 1 == 1
  { function := field b 0 1, mode := field b 1 1, confidential := bit (field b 2 1) 0 == 1, member := member
    cls := field b 3 1, minRate := field b 4 2, timeLimit := field b 6 2, peerTimeout := field b 8 2, master := field b 0xA 1
    kvFormat := field b 0xB 1, kvBlocks := field b 0xC 4, rungs := (List.range 8).map fun i => field b (0x10 + 2 * i) 2
    tier := { kind := field b 0x20 1, endpoint := field b 0x22 2, offer := field b 0x24 2 }
    memberCount := if member then 0 else group
    masterDevice := if member then group % 65536 else 0, masterFacet := if member then group / 65536 else 0
    halfPorts := bitList (slice b 0x34 2), cores := bitList (slice b 0x40 68), channels := bitList (slice b 0x88 32) }

def layFacetResize : Layout :=
  ⟨opFacetResize, fun _ => true, fun b =>
    badBody 0xA0 [(0xC, 4), (0x54, 4), (0x98, 8)] b || !zeroBits (field b 1 1) 2 8 || !zeroBits (field b 2 1) 5 8 ||
      !zeroBits (field b 0xA 2) 12 16 || (decide (field b 3 1 ≤ 16) && !zeroBytes b (0x78 + 2 * field b 3 1) (32 - 2 * field b 3 1))⟩

/-- A move count above 16 stays out of range in `moves` (R361). -/
def resizeBody (b : List Byte) : ResizeBody :=
  { facet := field b 0 1, setMaster := bit (field b 1 1) 0 == 1, setLimits := bit (field b 1 1) 1 == 1, master := field b 2 1
    moves := (List.range (field b 3 1)).map fun i => (field b (0x78 + 2 * i) 1, field b (0x79 + 2 * i) 1)
    minRate := field b 4 2, timeLimit := field b 6 2, peerTimeout := field b 8 2, halfPorts := bitList (slice b 0xA 2)
    cores := bitList (slice b 0x10 68), channels := bitList (slice b 0x58 32) }

def layFacetDestroy : Layout := plain opFacetDestroy 8 [(1, 7)]

/-- Byte 1 is the operation: 0 park, 1 unpark. -/
def layPark (op : Nat) : Layout := ⟨opFacetPark, fun b => field b 1 1 == op, badBody 8 [(2, 6)]⟩

/-- Flags bit 0 is UNLOAD. -/
def laySegment (unload : Nat) : Layout :=
  ⟨opSegmentLoad, fun b => bit (field b 1 1) 0 == unload, fun b =>
    badBody 32 [(2, 2), (0x14, 12)] b || !zeroBits (field b 1 1) 1 8⟩

def segBody (b container : List Byte) : SegBody :=
  { facet := field b 0 1, ladder := field b 4 4, containerAddr := field b 8 8, length := field b 0x10 4, container := container }

/-! ## Weight sets (R532, R533) -/

def layWeightLoad : Layout :=
  ⟨opWeightSetLoad, fun _ => true, fun b => badBody 32 [(3, 1), (0x18, 8)] b || !zeroBits (field b 1 1) 1 8⟩

def wsBody (b container : List Byte) (tagOk unwrapOk : Bool) : WsBody :=
  { facet := field b 0 1, replicated := bit (field b 1 1) 0 == 1, keySlot := field b 2 1, setId := field b 4 4
    containerAddr := field b 8 8, length := field b 0x10 8, container := container, tagOk := tagOk, unwrapOk := unwrapOk }

def layWeightUnload : Layout := plain opWeightSetUnload 8 [(1, 3)]

/-! ## Functions, recovery and firmware (R370, R377, R481, R514) -/

def layQuiesce : Layout := plain opQuiesce 8 [(1, 7)]
def layResume : Layout := plain opResume 8 [(1, 7)]
def layReset : Layout := plain opComputeReset 8 [(1, 7)]
def layFwUpdate : Layout := plain opFwUpdate 16 [(12, 4)]

/-- Magic and format of an image header are right and its reserved fields are 0 (R514, R515). -/
def imageFormatOk (i : List Byte) : Bool :=
  within i 0 0x4200 && slice i 0 4 == [0x56, 0x58, 0x46, 0x57] && field i 4 2 == 0x100 && zeroBits (field i 7 1) 1 8 &&
    zeroBytes i 0xC 4 && zeroBytes i 0x28 24 && zeroBytes i 0x70 144 && zeroBytes i 0x41E0 32

/-- What an image's header says (R514), with the outcome of its signatures and its digest (log 12). -/
def imageOf (i : List Byte) (length : Nat) (sigsOk : Bool) : FwImage :=
  { formatOk := imageFormatOk (i.take length), keyIndex := field i 6 1, floor := bit (field i 7 1) 0 == 1, svn := field i 8 4
    build := field i 0x10 8, sigsOk := sigsOk, length := length, header := slice i 0 256 }

/-! ## Power and memory test (R231 to R233, R509) -/

/-- SET has the whole layout; READ, DUSK and WAKE ignore the bytes beside the subop. -/
def layPower (sub : Nat) : Layout :=
  ⟨opPowerLimits, fun b => field b 0 1 == sub, fun b =>
    if sub = 0 then badBody 16 [(7, 1)] b || !zeroBits (field b 1 1) 1 8
    else decide (b.length < 1) || !(b.drop 16).all (· == 0)⟩

def powerBody (b : List Byte) : PowerBody :=
  { dimDisable := bit (field b 1 1) 0 == 1, peakW := field b 2 2, sustW := field b 4 2, peakWindow := field b 6 1
    vmaxW := field b 8 2, vmaxE := field b 0xA 2, tSoft := field b 0xC 2, dimDelay := field b 0xE 2 }

/-- The block belongs to CONFIGURE, whose MEM_TG_CTRL has reserved bits; the other subops ignore it. Flags bit 0 belongs to
RELEASE and is not reserved. -/
def layMemtest (sub : Nat) : Layout :=
  ⟨opMemtest, fun b => field b 0 1 == sub, fun b =>
    !zeroBytes b 4 4 || !zeroBits (field b 1 1) 1 8 || !(b.drop 72).all (· == 0) ||
      if sub = 1 then decide (b.length < 72) || !zeroBits (field b 8 4) 9 32 else decide (b.length < 8)⟩

/-- Channel number of a MEMTEST body. -/
def memtestChan (b : List Byte) : Nat := field b 2 2

/-- The writable registers of a generator block (R232, R233). -/
def tgCfgOf (b : List Byte) : TgCfg :=
  let c := field b 8 4
  { stopOnFail := bit c 8 == 1, invertOdd := bit c 7 == 1, raw := bit c 6 == 1, op := c / 16 % 4, pattern := c % 16
    start := field b 0x10 4, count := field b 0x14 4, fixedPat := field b 0x18 8, seed := field b 0x20 4, loops := field b 0x24 4 }

/-- A subop or operation that its table reserves (R231, R299, R369, R509): no row carries it, and the firmware answers it
MALFORMED at the doorbell. -/
def reservedSub (op : Nat) (b : List Byte) : Bool :=
  (op == opGetInfo && decide (3 ≤ field b 0 1)) || (op == opPowerLimits && decide (4 ≤ field b 0 1)) ||
    (op == opMemtest && decide (7 ≤ field b 0 1)) || (op == opFacetPark && decide (2 ≤ field b 1 1))

/-- Requests that need compute (R310). -/
def needsCompute (op : Nat) : Bool := op == opMemtest || op == opFacetPark

end Sys2Proof.Machine
end

