-- ==== Sys2Proof/Machine/Memory.lean ====
section
/-! DEFINITION. Stacked memory (07): the memory-side cache's requests, error counting, patrol, retirement with frame copies,
zero-fill, temperature, training, and the traffic generator behind MEMTEST. -/

namespace Sys2Proof.Machine

/-! ## Retirement (R213 to R216) -/

/-- The first FREE channel in the order of R214, lowest number first within a rank (log 18). -/
def retireTarget (s : State) (ch : Nat) : Option Nat :=
  let free := (List.range 256).filter fun c => (chanOf s c).state == 1 && !parked s (eastChan c)
  match free.find? fun c => c / 32 == ch / 32 with
  | some c => some c
  | none =>
    match free.find? fun c => eastChan c == eastChan ch with
    | some c => some c
    | none => free.head?

/-- Step 5 of R213: RETIRED, recorded, MEM_RETIRED, and the request that asked for it done. -/
def retireFinish (ch : Nat) (conf : Bool) (s : State) : State :=
  let c := chanOf s ch
  requestDoneOpt c.ticket syOk
    (raiseFw [0] evMemRetired 0 ch 0 none conf
      (setChan ch { c with state := 4, facet := 0, recorded := true, copy := none, ticket := none, blocked := false,
                           retireWait := false } s))

/-- Point every slot of a facet that a channel holds at a copy target (R263). -/
def slotsToCopy (ch target : Nat) (f : Facet) : Facet :=
  let upd (sl : Slot) : Slot := if sl.channel = ch then { sl with target := target, cursor := 0, copying := true } else sl
  { f with map := f.map.map fun e => (e.1, upd e.2) }

/-- Steps 1 and 2 of R213. -/
def retireBegin (ch : Nat) (t : Option Ticket) (s : State) : State :=
  let c := chanOf s ch
  if c.state = 1 then retireFinish ch false (setChan ch { c with state := 3, ticket := t } s)
  else match retireTarget s ch with
  | none =>
    if c.blocked then setChan ch { c with retireWait := false, ticket := (if t.isSome then t else c.ticket) } s
    else raiseFw [0] evMemRetireBlocked 0 ch 0 none (confChan s ch)
      (setChan ch { c with blocked := true, retireWait := false, degraded := true, ticket := (if t.isSome then t else c.ticket) } s)
  | some g =>
    let s1 := setChan ch { c with state := 3, blocked := false, retireWait := false, copy := some { target := g },
                                  ticket := (if t.isSome then t else c.ticket) } s
    let s2 := updChan g (fun x => { x with state := 2, facet := c.facet }) s1
    updFacet c.facet (fun f => slotsToCopy ch g { f with channels := NSet.add f.channels g }) s2

/-- Whether the firmware may take a retirement of a channel now: its facet, if any, is ACTIVE with no other copy, and no
update stands between steps 3 and 6 (R57, R213, R371). -/
def retireTurn (s : State) (ch : Nat) : Bool :=
  let c := chanOf s ch
  !updateBusy s && s.pwr.park.isNone &&
    (c.state == 1 || (c.state == 2 && c.copy.isNone &&
      match facetOf s c.facet with
      | some f => f.state == 2
      | none => false))

/-- A retirement begins, or waits its turn (R213). -/
def retireOrWait (ch : Nat) (t : Option Ticket) (s : State) : State :=
  if retireTurn s ch then retireBegin ch t s
  else updChan ch (fun c => { c with retireWait := true, ticket := if t.isSome then t else c.ticket }) s

/-- Retirements that waited their turn begin, and blocked ones try again, when a channel has become FREE or a request has ended
(R213, R214). -/
def retryBlocked (s : State) : State :=
  forAll ((List.range 256).filter fun c => (chanOf s c).blocked || (chanOf s c).retireWait)
    (fun c t => if retireTurn t c then retireBegin c none t else t) s

/-- CHANNEL_RETIRE (R213): the firmware retires a degraded channel on its own when auto_retire is 1. -/
def channelRetireEff (ch : Nat) (s : State) : State :=
  let c := chanOf s ch
  if c.degraded && s.reg.autoRetire && (c.state == 1 || c.state == 2) then retireOrWait ch none s else s

def execChannelRetire (ch : Nat) (s : State) : Host.Outcome State Fault Refusal :=
  checked (okChan ch) s (channelRetireEff ch)

/-- FRAME_COPY_LINE (R215, R249): cached copies are invalidated, an owner's M data first, and the coherent value goes to the
target; a line that fails arrives poisoned. A blocked line makes the copy wait. -/
def frameCopyLineEff (ch : Nat) (out : LineOutcome) (s : State) : State :=
  match (chanOf s ch).copy with
  | none => s
  | some c =>
    let gl := ch * 2 ^ 25 + c.frame * 1024 + c.line
    let tl := c.target * 2 ^ 25 + c.frame * 1024 + c.line
    if c.draining || decide (1024 ≤ c.line) || decide (32768 ≤ c.frame) || SMap.has s.coh.blocked gl then s
    else
      let r := baseRead none gl 1 out (invalidateAll gl s)
      let slot := keySlotOf r.2 c.target
      let s1 := match r.1 with
        | .data d => baseWrite none tl 1 0 d slot .clean r.2
        | .fail _ => mscPut false ⟨tl, zeroLine, true, true, slot, none⟩ r.2
      updChan ch (fun x => { x with copy := some { c with line := c.line + 1 } }) s1

def execFrameCopyLine (ch : Nat) (out : LineOutcome) (s : State) : Host.Outcome State Fault Refusal :=
  checked (okChan ch) s (frameCopyLineEff ch out)

/-- FRAME_SWITCH (R215 step 3): the cursor of the slot advances by one frame (R263). -/
def frameSwitchEff (ch : Nat) (s : State) : State :=
  match (chanOf s ch).copy with
  | none => s
  | some c =>
    if c.draining || c.line != 1024 then s
    else
      let upd (sl : Slot) : Slot := if sl.channel = ch && sl.copying then { sl with cursor := sl.cursor + 1 } else sl
      updFacet (chanOf s ch).facet (fun f => { f with map := f.map.map fun e => (e.1, upd e.2) })
        (updChan ch (fun x => { x with copy := some { c with draining := true } }) s)

def execFrameSwitch (ch : Nat) (s : State) : Host.Outcome State Fault Refusal :=
  checked (okChan ch) s (frameSwitchEff ch)

/-- The slot names the target and copying clears (R263). -/
def slotMoved (ch : Nat) (f : Facet) : Facet :=
  let upd (sl : Slot) : Slot := if sl.channel = ch && sl.copying then { channel := sl.target } else sl
  { f with map := f.map.map fun e => (e.1, upd e.2) }

/-- FRAME_SOURCE_DRAINED (R215 step 4): the source frame is released and the next frame's copy begins. After the last frame
the slot names the target; a retirement then ends by steps 4 and 5 of R213, and a slot move waits for SLOT_MOVE_DONE. -/
def frameSourceDrainedEff (ch : Nat) (s : State) : State :=
  let x := chanOf s ch
  match x.copy with
  | none => s
  | some c =>
    if !c.draining then s
    else
      let s1 := setChan ch { x with copy := some { c with frame := c.frame + 1, line := 0, draining := false } } s
      if c.frame + 1 < 32768 then s1
      else
        let s2 := updFacet x.facet (slotMoved ch) s1
        if x.state = 3 then
          retireFinish ch (confChan s ch) (updFacet x.facet (fun f => { f with channels := NSet.del f.channels ch }) s2)
        else s2

def execFrameSourceDrained (ch : Nat) (s : State) : Host.Outcome State Fault Refusal :=
  checked (okChan ch) s (frameSourceDrainedEff ch)

/-- Step 5 of R368: once every channel is zero-filled, the facet number is free and the request is done. -/
def finishDestroy (n : Nat) (s : State) : State :=
  match facetOf s n with
  | none => s
  | some f =>
    if f.state = 4 && f.cores.isEmpty && f.channels.all fun c => (chanOf s c).state != 6 then
      requestDoneOpt f.destroying syOk { s with
        facets := SMap.del s.facets n
        sec := { s.sec with memSlots := if f.memSlot = 0 then s.sec.memSlots else SMap.del s.sec.memSlots f.memSlot } }
    else s

/-- ZERO_FILL_DONE (R223, R250): the channel takes the state that its zero-fill leads to; a blocked retirement tries again
(R214). -/
def zeroFillDoneEff (ch : Nat) (s : State) : State :=
  let c := chanOf s ch
  if c.state = 6 then
    let s1 := setChan ch { c with state := c.after, ticket := none } s
    let s2 := if s.pwr.stage = 4 && c.after = 1 then { s1 with pwr := { s1.pwr with channelsOk := s1.pwr.channelsOk + 1 } } else s1
    readyCheck (forAll (s.facets.map (·.1)) finishDestroy (retryBlocked (requestDoneOpt c.ticket syOk s2)))
  else s

def execZeroFillDone (ch : Nat) (s : State) : Host.Outcome State Fault Refusal :=
  checked (okChan ch) s (zeroFillDoneEff ch)

/-! ## Requests, errors, patrol (R201 to R212) -/

/-- CHANNEL_REQUEST (R184, R201, R204, R208, R212): a request of a master at a base die for command `cmd`. A class at its cap
is held at its port. A channel that is OFF, RETIRED, TESTING or ZEROING serves none; one over a parked half ends the request
UNREACHABLE (R58). The interface parity of every transfer counts, whatever the cache holds. -/
def channelRequestEff (master ch line hint : Nat) (write : Bool) (offset : Nat) (data : List Byte) (out : LineOutcome) (cmd : Nat)
    (s : State) : State :=
  let gl := ch * 2 ^ 25 + line
  let st := (chanOf s ch).state
  let cls := requesterClass s master
  if !admitted s ch cls then s
  else if parked s (eastChan ch) then meetStatus cmd stUnreachable 0 s
  else if !(st == 1 || st == 2 || st == 3) then s
  else
    let s1 := countParity ch out s
    if ifFails out then meetStatus cmd stMemIfFail (faOfLine s gl) s1
    else
      let left := match out with
        | .parity _ => .clean
        | o => o
      if write then baseWrite cls gl (if hint = 2 then 1 else hint) offset data (keySlotOf s ch) left s1
      else
        let r := baseRead cls gl hint left s1
        match r.1 with
        | .data _ => r.2
        | .fail f => meetStatus cmd f (faOfLine s gl) r.2

def execChannelRequest (master ch line hint : Nat) (write : Bool) (offset : Nat) (data : List Byte) (out : LineOutcome)
    (cmd : Nat) (s : State) : Host.Outcome State Fault Refusal :=
  checked (okRequester master && okChan ch && okLine line && okPart offset data) s
    (channelRequestEff master ch line hint write offset data out cmd)

/-- CE_DEGRADE_WINDOW (R212): the tenth second in a row above ce_degrade marks the channel degraded. -/
def ceDegradeWindowEff (ch : Nat) (s : State) : State :=
  let c := chanOf s ch
  let above := s.reg.ceDegrade != 0 && decide (s.reg.ceDegrade < c.ceCount)
  let run := if above then c.ceRun + 1 else 0
  let s1 := setChan ch { c with ceLast := c.ceCount, ceCount := 0, ceRun := run } s
  if 10 ≤ run then degradeChan ch 1 s1 else s1

def execCeDegradeWindow (ch : Nat) (s : State) : Host.Outcome State Fault Refusal :=
  checked (okChan ch) s (ceDegradeWindowEff ch)

/-- The chunk of a replicated weight set that a facet frame holds: set, chunk, and whether it is the replica (R217). -/
def chunkOfFrame (f : Facet) (frame : Nat) : Option (Nat × Nat × Bool) :=
  f.sets.findSome? fun e =>
    match e.2.frames.findIdx? (· == frame) with
    | some i => some (e.1, i, false)
    | none => (e.2.replicaFrames.findIdx? (· == frame)).map fun i => (e.1, i, true)

/-- The firmware repairs a line of a replicated set that patrol poisoned from the other copy (R218). -/
def repairPatrolled (gl : Nat) (s : State) : State :=
  let n := (chanOf s (chOfLine gl)).facet
  match facetOf s n with
  | none => s
  | some f =>
    let fa := faOfLine s gl
    match chunkOfFrame f (fa / 2 ^ 16) with
    | none => s
    | some (set, i, rep) =>
      match SMap.look f.sets set with
      | none => s
      | some w =>
        let other := (if rep then w.frames else w.replicaFrames)[i]?
        match other with
        | none => s
        | some o =>
          match lineOf s n (o * 2 ^ 16 + fa % 2 ^ 16) with
          | .inr _ => s
          | .inl ogl =>
            let v := lineValue s ogl
            if v.2 then s
            else raiseFw [f.fn] evWeightRepaired f.fn set i none f.confidential
              (baseWrite none gl 1 0 v.1 (keySlotOf s (chOfLine gl)) .clean s)

/-- PATROL_SCRUB_LINE (R207, R209 to R211): the next line of a channel is read past the cache; it takes the pass's low bit. -/
def patrolScrubLineEff (ch : Nat) (out : LineOutcome) (s : State) : State :=
  let c := chanOf s ch
  if c.state = 0 || c.state = 4 || c.state = 5 || c.selfRefresh then s
  else
    let gl := ch * 2 ^ 25 + c.patrol
    let s1 := dramFix gl out s
    let s2 := setMeta gl { metaOf s1 gl with scrubPass := c.passes % 2 == 1 } s1
    let s3 := updChan ch (fun x =>
      if x.patrol + 1 = 2 ^ 25 then { x with patrol := 0, passes := x.passes + 1 } else { x with patrol := x.patrol + 1 }) s2
    if decodeLine out = .lost then repairPatrolled gl s3 else s3

def execPatrolScrubLine (ch : Nat) (out : LineOutcome) (s : State) : Host.Outcome State Fault Refusal :=
  checked (okChan ch) s (patrolScrubLineEff ch out)

/-! ## Temperature and training (R222, R228) -/

/-- The row of R222 for a temperature in 0.1 degrees, with its 3-degree hysteresis. -/
def stackRow (cur : Nat) (temp : Int) : Nat :=
  let inRow (i : Nat) (lvl : Int) : Bool := decide (lvl < temp) || (decide (i ≤ cur) && decide (lvl - 30 < temp))
  if inRow 3 1100 then 3 else if inRow 2 1050 then 2 else if inRow 1 950 then 1 else 0

/-- STACK_TEMPERATURE_SAMPLE (R222): a row entered from below raises its event. -/
def stackTemperatureSampleEff (stack : Nat) (temp : Int) (s : State) : State :=
  let cur := (chanOf s (stack * 32)).thermal
  let row := stackRow cur temp
  let s1 := forAll ((List.range 32).map (· + stack * 32)) (fun c t => updChan c (fun x => { x with thermal := row }) t)
    { s with stackTemp := SMap.put s.stackTemp stack temp }
  if row ≤ cur then s1
  else if row = 1 then raisePf0 evMemHot stack temp.toNat false s1
  else raisePf0 evMemThrottle stack row false s1

def execStackTemperatureSample (stack : Nat) (temp : Int) (s : State) : Host.Outcome State Fault Refusal :=
  checked (okStack stack) s (stackTemperatureSampleEff stack temp)

/-- CHANNEL_TRAINING_DONE (R228): a channel that fails is RETIRED and recorded, the others are zero-filled; a channel that
the store records as retired is RETIRED untrained. -/
def channelTrainingDoneEff (failed : List Nat) (s : State) : State :=
  if s.pwr.stage = 4 && !s.pwr.trained then
    let go (ch : Nat) (t : State) : State :=
      if (chanOf t ch).recorded then updChan ch (fun x => { x with state := 4 }) t
      else if failed.contains ch then
        updChan ch (fun x => { x with state := 4, recorded := true }) { t with pwr := { t.pwr with bootDegraded := true } }
      else zeroChan ch 1 t
    readyCheck (forAll (List.range 256) go { s with pwr := { s.pwr with trained := true } })
  else s

def execChannelTrainingDone (failed : List Nat) (s : State) : Host.Outcome State Fault Refusal :=
  checked true s (channelTrainingDoneEff failed)

/-! ## The traffic generator (R229 to R234) -/

/-- The 64-byte generator block (R232 to R234). -/
def tgBlock (g : Tg) : List Byte :=
  toLe 4 (g.cfg.pattern + g.cfg.op * 2 ^ 4 + b2n g.cfg.raw * 2 ^ 6 + b2n g.cfg.invertOdd * 2 ^ 7 +
    b2n g.cfg.stopOnFail * 2 ^ 8) ++
  toLe 4 (b2n g.failed * 2 ^ 29 + b2n g.done * 2 ^ 30 + b2n g.running * 2 ^ 31) ++
  toLe 4 g.cfg.start ++ toLe 4 g.cfg.count ++ toLe 8 g.cfg.fixedPat ++ toLe 4 g.cfg.seed ++ toLe 4 g.cfg.loops ++
  toLe 8 g.res.lines ++ toLe 8 g.res.mismatch ++ toLe 4 g.res.firstFail ++ toLe 4 g.res.corrected ++
  toLe 4 g.res.uncorr ++ toLe 4 g.res.parity

/-- R233: a configuration that CONFIGURE takes. -/
def tgCfgOk (c : TgCfg) : Bool :=
  decide (c.op ≤ 2) && decide (c.pattern ≤ 3) && decide (c.start < 2 ^ 25) && decide (c.start + c.count ≤ 2 ^ 25) &&
    decide (1 ≤ c.seed) && decide (c.seed < 2 ^ 31) && decide (c.loops < 2 ^ 32) && decide (c.fixedPat < 2 ^ 64)

/-- Lines of one loop: first and end. -/
def tgRange (c : TgCfg) : Nat × Nat := (c.start, if c.count = 0 then 2 ^ 25 else c.start + c.count)

/-- Insert a range by its first line. -/
def insertRange (r : Nat × Nat) : List (Nat × Nat) → List (Nat × Nat)
  | [] => [r]
  | x :: l => if r.1 ≤ x.1 then r :: x :: l else x :: insertRange r l

/-- Whether ranges, by rising first line, cover every line from `n` to the end of the channel. -/
def coversFrom (n : Nat) : List (Nat × Nat) → Bool
  | [] => decide (2 ^ 25 ≤ n)
  | r :: l => if r.1 ≤ n then coversFrom (Nat.max n r.2) l else false

/-- Whether a pattern's clean tests since ACQUIRE cover the channel (R230). -/
def covered (p : Nat) (l : List (Nat × Nat × Nat)) : Bool :=
  coversFrom 0 ((l.filter fun e => e.1 == p).foldl (fun a e => insertRange e.2 a) [])

/-- The state of the PRBS31 register after `k` steps, x^31 + x^28 + 1 (R233); a step's bit is the one shifted in (log 18). -/
def prbsAfter (seed : Nat) : Nat → Nat
  | 0 => seed
  | k + 1 =>
    let x := prbsAfter seed k
    x % 2 ^ 30 * 2 + (bit x 30 + bit x 27) % 2

/-- Bits as bytes, the first the lowest. -/
def bytesOfBits (n : Nat) (f : Nat → Nat) : List Byte :=
  (List.range n).map fun i => BitVec.ofNat 8 ((List.range 8).foldl (fun a b => a + f (8 * i + b) % 2 * 2 ^ b) 0)

/-- The pattern of a line (R232, R233): 64 symbols in code mode, 72 in raw mode. Symbol k holds what pin k carries in the 8 beats
(R206). In raw mode the ninth word of ADDR_IN_ADDR goes on counting (log 18). -/
def tgPattern (g : TgCfg) (line : Nat) : List Byte :=
  let n := if g.raw then 72 else 64
  let p : List Byte := match g.pattern with
    | 0 => bytesOfBits n fun i => prbsAfter g.seed ((line - g.start) * 8 * n + i + 1)
    | 1 => bytesOfBits n fun i => b2n (i / 8 == (line + i % 8) % n)
    | 2 => (List.range (n / 8)).flatMap fun w => toLe 8 (line * 64 + 8 * w)
    | _ => (List.range n).map fun k => (toLe 8 g.fixedPat).getD (k % 8) 0
  if g.invertOdd && line % 2 == 1 then p.map fun b => ~~~b else p

/-- The key of a memory key slot (R523). -/
def memKey (s : State) (slot : Nat) : List Byte := if slot = 0 then s.sec.memKey0 else SMap.getD s.sec.memSlots slot []

/-- A line as DRAM holds it: the 72 symbols of its codeword, or what a raw write left there (R206, R207). -/
def linePins (s : State) (gl : Nat) : List Byte :=
  let m := metaOf s gl
  match m.raw with
  | some p => p
  | none =>
    let state := b2n m.poisoned + 2 * b2n m.scrubPass + 4 * b2n (m.repaired == some (chanOf s (chOfLine gl)).passes)
    let d := takePad 64 (Config.memCipher (memKey s m.keySlot) gl (dramLine s gl)) ++ toLe 1 m.keySlot ++ toLe 1 state ++ [0, 0]
    d ++ takePad 4 (Config.memCheck d)

/-- Bits in which two strings of bytes differ. -/
def bitsWrong (a b : List Byte) : Nat :=
  (a.zip b).foldl (fun n x => n + ((List.range 8).filter fun i => x.1.getLsbD i != x.2.getLsbD i).length) 0

/-- Flip the numbered bits of a string of bytes. -/
def flipBits (l : List Nat) (d : List Byte) : List Byte :=
  ((List.range d.length).zip d).map fun x =>
    x.2 ^^^ BitVec.ofNat 8 ((List.range 8).foldl (fun a b => if l.contains (8 * x.1 + b) then a + 2 ^ b else a) 0)

/-- Lines of a loop, and accesses of a loop: the writes, then the reads (R233). -/
def tgLines (g : TgCfg) : Nat := (tgRange g).2 - (tgRange g).1
def tgPer (g : TgCfg) : Nat := if g.op = 0 then 2 * tgLines g else tgLines g

/-- Change a channel's generator counters. -/
def updTg (ch : Nat) (f : TgResult → TgResult) (s : State) : State :=
  updChan ch (fun c => { c with tg := { c.tg with res := f c.tg.res } }) s

/-- A line failed a check: it is the first that did unless one has already. -/
def tgFails (ch line : Nat) (s : State) : State :=
  updChan ch (fun c => { c with tg := { c.tg with
    failed := true
    res := if c.tg.res.mismatch = 0 && c.tg.res.uncorr = 0 then { c.tg.res with firstFail := line } else c.tg.res } }) s

/-- The generator writes a line: through the code under key slot 0, or all 72 pins (R229). -/
def tgWrite (ch line : Nat) (s : State) : State :=
  let g := (chanOf s ch).tg.cfg
  let p := tgPattern g line
  let gl := ch * 2 ^ 25 + line
  setMeta gl (if g.raw then { keySlot := (p.getD 64 0).toNat, raw := some p } else {}) (dramWrite gl (p.take 64) s)

/-- The generator reads a line and compares it (R229, R232). Answers whether it failed the check. -/
def tgCheck (ch line : Nat) (x : TgRead) (s : State) : Bool × State :=
  let g := (chanOf s ch).tg.cfg
  let gl := ch * 2 ^ 25 + line
  let s1 := updTg ch (fun r => { r with lines := r.lines + 1 }) s
  if g.raw then
    let w := bitsWrong (flipBits x.flips (linePins s gl)) (tgPattern g line)
    if w = 0 then (false, s1) else (true, updTg ch (fun r => { r with mismatch := r.mismatch + w }) (tgFails ch line s1))
  else
    let s2 := dramFix gl x.out s1
    if ifFails x.out then
      (false, updTg ch (fun r => { r with parity := satAdd 32 r.parity 1 })
        (updChan ch (fun c => { c with tg := { c.tg with failed := true } }) s2))
    else if decodeLine x.out = .lost then
      (true, updTg ch (fun r => { r with uncorr := satAdd 32 r.uncorr 1 }) (tgFails ch line s2))
    else
      let s3 := if decodeLine x.out = .good then s2 else updTg ch (fun r => { r with corrected := satAdd 32 r.corrected 1 }) s2
      let w := bitsWrong (dramLine s3 gl) (tgPattern g line)
      if w = 0 then (false, s3) else (true, updTg ch (fun r => { r with mismatch := r.mismatch + w }) (tgFails ch line s3))

/-- Accesses of a run from number `i` on, at most `n` (R233). The run ends after them, or at the first failure under stop_on_fail;
answers whether one stopped it. -/
def tgRun (ch : Nat) (reads : List TgRead) : Nat → Nat → State → Bool × State
  | 0, _, s => (false, updChan ch (fun c => { c with tg := { c.tg with running := false, done := true } }) s)
  | n + 1, i, s =>
    let g := (chanOf s ch).tg.cfg
    let j := i % tgPer g
    if g.op = 1 || (g.op == 0 && decide (j < tgLines g)) then tgRun ch reads n (i + 1) (tgWrite ch (g.start + j) s)
    else
      let x := (reads.find? fun r => r.step == i).getD ⟨i, .clean, []⟩
      let r := tgCheck ch (g.start + j % tgLines g) x s
      if r.1 && g.stopOnFail then (true, updChan ch (fun c => { c with tg := { c.tg with running := false, done := true } }) r.2)
      else tgRun ch reads n (i + 1) r.2

/-- What a whole run covers (R230): a clean checking run in code mode covers its lines for its pattern; a failing one takes its
lines out of the coverage. -/
def tgCover (ch : Nat) (s : State) : State :=
  updChan ch (fun c =>
    let rg := tgRange c.tg.cfg
    { c with cover :=
        if c.tg.failed then c.cover.filter fun e => decide (e.2.2 ≤ rg.1) || decide (rg.2 ≤ e.2.1)
        else if !c.tg.cfg.raw && c.tg.cfg.op != 1 then c.cover ++ [(c.tg.cfg.pattern, rg)]
        else c.cover }) s

/-- The answer of a subop that stands: OK and the generator block (R231). -/
def tgReply (s : State) (ch : Nat) : Reply := { status := syOk, body := tgBlock (chanOf s ch).tg }

/-- The common frame of the MEMTEST subops: MALFORMED for a channel above 255 or a bad configuration, BUSY where the
channel lies over a parked half or its state does not allow the subop (R230, R231, R310). -/
def memtest (h : Req) (ch : Nat) (good ok : State → Bool) (act : State → State) (s : State) : State :=
  serve h opMemtest true (fun t =>
    if 255 < ch || !good t then ({ status := syMalformed }, t)
    else if parked t (eastChan ch) || !ok t then ({ status := syBusy }, t)
    else
      let t1 := act t
      (tgReply t1 ch, t1)) s

def inTesting (ch : Nat) (s : State) : Bool := (chanOf s ch).state == 5

/-- MEMTEST_ACQUIRE (R230). -/
def memtestAcquireEff (h : Req) (ch : Nat) (s : State) : State :=
  memtest h ch (fun _ => true) (fun t => (chanOf t ch).state == 1 || (chanOf t ch).state == 4)
    (fun t => updChan ch (fun c => { c with prev := c.state, state := 5, cover := [] }) t) s

def execMemtestAcquire (fn : Nat) (s : State) : Host.Outcome State Fault Refusal :=
  checked (okFn fn) s (onRequest fn (layMemtest 0) fun h b => memtestAcquireEff h (memtestChan b))

/-- MEMTEST_CONFIGURE (R231, R233). -/
def memtestConfigureEff (h : Req) (ch : Nat) (cfg : TgCfg) (s : State) : State :=
  memtest h ch (fun _ => tgCfgOk cfg) (inTesting ch)
    (fun t => updChan ch (fun c => { c with tg := { c.tg with cfg := cfg } }) t) s

def execMemtestConfigure (fn : Nat) (s : State) : Host.Outcome State Fault Refusal :=
  checked (okFn fn) s (onRequest fn (layMemtest 1) fun h b => memtestConfigureEff h (memtestChan b) (tgCfgOf b))

/-- MEMTEST_START (R231, R232): the counters clear and the run begins. -/
def memtestStartEff (h : Req) (ch : Nat) (s : State) : State :=
  memtest h ch (fun _ => true) (fun t => inTesting ch t && !(chanOf t ch).tg.running)
    (fun t => updChan ch (fun c => { c with tg := { cfg := c.tg.cfg, running := true } }) t) s

def execMemtestStart (fn : Nat) (s : State) : Host.Outcome State Fault Refusal :=
  checked (okFn fn) s (onRequest fn (layMemtest 2) fun h b => memtestStartEff h (memtestChan b))

/-- MEMTEST_STOP (R231, R234): the run ends after `steps` accesses. -/
def memtestStopEff (h : Req) (ch steps : Nat) (reads : List TgRead) (s : State) : State :=
  memtest h ch (fun _ => true) (inTesting ch)
    (fun t => if (chanOf t ch).tg.running then (tgRun ch reads steps 0 t).2 else t) s

def execMemtestStop (fn : Nat) (steps : Nat) (reads : List TgRead) (s : State) : Host.Outcome State Fault Refusal :=
  checked (okFn fn) s (onRequest fn (layMemtest 3) fun h b => memtestStopEff h (memtestChan b) steps reads)

/-- MEMTEST_READ (R231). -/
def memtestReadEff (h : Req) (ch : Nat) (s : State) : State :=
  memtest h ch (fun _ => true) (fun _ => true) (fun t => t) s

def execMemtestRead (fn : Nat) (s : State) : Host.Outcome State Fault Refusal :=
  checked (okFn fn) s (onRequest fn (layMemtest 4) fun h b => memtestReadEff h (memtestChan b))

/-- Whether a channel acquired from RETIRED returns to service at RELEASE (R230). -/
def mayReturn (c : Chan) (ret : Bool) : Bool := c.prev == 1 || (ret && covered 0 c.cover && covered 2 c.cover)

/-- MEMTEST_RELEASE (R230): the channel is zero-filled; the answer is ACCEPTED and ZERO_FILL_DONE ends the request. -/
def memtestReleaseEff (h : Req) (ch : Nat) (ret : Bool) (s : State) : State :=
  serveJob h opMemtest true
    (fun t => if 255 < ch then { status := syMalformed } else if parked t (eastChan ch) || !inTesting ch t then { status := syBusy }
      else { status := syAccepted, body := tgBlock (chanOf t ch).tg })
    (fun t =>
      let back := mayReturn (chanOf t ch) ret
      updChan ch (fun x => { x with tg := { x.tg with running := false }, recorded := x.recorded && !back,
                                    degraded := x.degraded && !back, ticket := some (ticketOf h opMemtest) })
        (zeroChan ch (if back then 1 else 4) t)) s

def execMemtestRelease (fn : Nat) (s : State) : Host.Outcome State Fault Refusal :=
  checked (okFn fn) s (onRequest fn (layMemtest 5) fun h b => memtestReleaseEff h (memtestChan b) (bit (field b 1 1) 0 == 1))

/-- A channel that MEMTEST_RETIRE may take: it is BOUND or FREE, and no update refuses the request (R231, R371). -/
def mayRetire (s : State) (ch : Nat) : Bool := !updateBusy s && ((chanOf s ch).state == 1 || (chanOf s ch).state == 2)

/-- MEMTEST_RETIRE (R213, R231, R371): BUSY for a channel that is neither BOUND nor FREE; the retirement is taken in turn. -/
def memtestRetireEff (h : Req) (ch : Nat) (s : State) : State :=
  serveJob h opMemtest true
    (fun t => if 255 < ch then { status := syMalformed } else if parked t (eastChan ch) || !mayRetire t ch then { status := syBusy }
      else { status := syAccepted, body := tgBlock (chanOf t ch).tg })
    (retireOrWait ch (some (ticketOf h opMemtest))) s

def execMemtestRetire (fn : Nat) (s : State) : Host.Outcome State Fault Refusal :=
  checked (okFn fn) s (onRequest fn (layMemtest 6) fun h b => memtestRetireEff h (memtestChan b))

/-- TG_RUN_END (R229, R230, R232, R234): the run's last access, or the one that stops it. -/
def tgRunEndEff (ch : Nat) (reads : List TgRead) (s : State) : State :=
  let c := chanOf s ch
  if c.state = 5 && c.tg.running then
    let g := c.tg.cfg
    let loops := if g.loops = 0 then (reads.map (·.step)).foldl Nat.max 0 / tgPer g + 1 else g.loops
    let x := tgRun ch reads (loops * tgPer g) 0 s
    -- a run without end ends here only where it stops at a failure
    if g.loops = 0 && !x.1 then s else tgCover ch x.2
  else s

def execTgRunEnd (ch : Nat) (reads : List TgRead) (s : State) : Host.Outcome State Fault Refusal :=
  checked (okChan ch) s (tgRunEndEff ch reads)

end Sys2Proof.Machine
end

