-- ==== Sys2Proof/Machine/Flits.lean ====
section
/-! DEFINITION. The 256 bytes of a Voxlink flit (13 R388, R389) and of the transaction that a routed flit carries (R398, R405).
Bytes of the payload that nothing fills are 0 (log 14). -/

namespace Sys2Proof.Machine

/-! ## The CRC (R388) -/

/-- One step of the ECMA-182 division, most significant bit first (log 14). -/
def crc64Bit (c : BitVec 64) : BitVec 64 := if c.getLsbD 63 then (c <<< 1) ^^^ 0x42F0E1EBA9EA3693#64 else c <<< 1

/-- One byte into the CRC register. -/
def crc64Byte (c : BitVec 64) (b : Byte) : BitVec 64 :=
  crc64Bit (crc64Bit (crc64Bit (crc64Bit (crc64Bit (crc64Bit (crc64Bit (crc64Bit (c ^^^ (b.zeroExtend 64 <<< 56)))))))))

/-- CRC-64 with the ECMA-182 polynomial. -/
def crc64 (l : List Byte) : Nat := (l.foldl crc64Byte 0#64).toNat

/-! ## Headers (R389, R398) -/

/-- A flit header as one 64-bit word. -/
def flitWord (kind seq ack : Nat) (nak : Bool) (half vnet dest src : Nat) : Nat :=
  kind % 16 * 2 ^ 60 + seq % 4096 * 2 ^ 48 + ack % 4096 * 2 ^ 36 + b2n nak * 2 ^ 35 + half % 2 * 2 ^ 34 + vnet % 4 * 2 ^ 32 +
    dest % 65536 * 2 ^ 16 + src % 65536

/-- The 16 bytes of a transaction header. -/
def txnHeader (t : Txn) : List Byte :=
  toLe 1 t.op ++ toLe 1 (b2n t.encrypted + 2 * b2n t.endpointSpace + 4 * b2n t.last + 8 * t.keyGen) ++ toLe 2 t.masterDevice ++
    toLe 1 t.masterFacet ++ toLe 1 t.data.length ++ toLe 2 t.context ++ toLe 2 t.tag ++ toLe 6 t.addr

/-- A byte string filled up with zeros, or cut, to `n` bytes. -/
def padTo (n : Nat) (l : List Byte) : List Byte := (l ++ List.replicate (n - l.length) 0).take n

/-- The 240 bytes of a payload: a CONTROL message, or a transaction in clear, or one sealed under the entry of its peer (R405). -/
def flitPayload (k : LinkKey) (kind dest src nonce : Nat) (t : Option Txn) : List Byte :=
  let p := fun (t : Txn) => if t.keyGen = 1 then k.pos1 else k.pos0
  match t with
  | none => List.replicate 240 0
  | some t =>
    if kind = 1 then padTo 240 t.data
    else if t.encrypted then
      txnHeader t ++ toLe 8 nonce ++
        padTo 216 (Config.linkSeal (p t).key (toLe 4 k.salt ++ toLe 8 nonce) (txnHeader t ++ toLe 2 dest ++ toLe 2 src) t.data)
    else padTo 240 (txnHeader t ++ t.data)

/-- The 256 bytes of a flit. -/
def flitBytes (word : Nat) (payload : List Byte) : List Byte :=
  let b := toLe 8 word ++ padTo 240 payload
  b ++ toLe 8 (crc64 b)

end Sys2Proof.Machine

namespace Sys2Proof

open Machine

/-! ## A flit as received -/

def flitHeader (f : Flit) : Nat := field f.bytes 0 8
def Flit.kind (f : Flit) : Nat := bits (flitHeader f) 63 60
def Flit.seq (f : Flit) : Nat := bits (flitHeader f) 59 48
def Flit.ack (f : Flit) : Nat := bits (flitHeader f) 47 36
def Flit.nak (f : Flit) : Bool := bit (flitHeader f) 35 == 1
/-- Half-port of a flit on a joined port. -/
def Flit.half (f : Flit) : Nat := bit (flitHeader f) 34
def Flit.vnet (f : Flit) : Nat := bits (flitHeader f) 33 32
def Flit.dest (f : Flit) : Nat := bits (flitHeader f) 31 16
def Flit.src (f : Flit) : Nat := bits (flitHeader f) 15 0
/-- The payload of a flit. -/
def Flit.payload (f : Flit) : List Byte := slice f.bytes 8 240

/-- Symbols that the code corrected in a flit. -/
def Flit.corrected (f : Flit) : Nat := f.symbols.getD 0

/-- A flit that is accepted: its codeword was correctable, with at most 8 wrong symbols, and its CRC is right (R388). -/
def Flit.good (f : Flit) : Bool :=
  (match f.symbols with
    | some k => decide (k ≤ 8)
    | none => false) && f.bytes.length == 256 && field f.bytes 248 8 == crc64 (f.bytes.take 248)

/-- Nonce of an encrypted transaction (R405). -/
def Flit.nonce (f : Flit) : Nat := field f.payload 16 8

/-- The transaction of a routed flit, with the plaintext that its unsealing gave where it is encrypted. A reserved bit, or a
length beyond what a flit holds, spoils it (R398, R401). -/
def Flit.txn (f : Flit) : Txn :=
  let p := f.payload
  let flags := field p 1 1
  let enc := bit flags 0 == 1
  let len := field p 5 1
  { op := field p 0 1, encrypted := enc, endpointSpace := bit flags 1 == 1, last := bit flags 2 == 1, keyGen := bit flags 3
    masterDevice := field p 2 2, masterFacet := field p 4 1 % 64, context := field p 6 2, tag := field p 8 2
    addr := field p 0xA 6, data := if enc then f.plain.take len else slice p 16 len
    rsv := decide (16 ≤ flags) || decide (64 ≤ field p 4 1) || decide ((if enc then 200 else 224) < len) }

end Sys2Proof
end

