-- ==== Sys2Proof/Machine/Objects.lean ====
section
/-! DEFINITION. Objects that functions own: the firmware's frames in a facet, queues, context bindings, and how each comes to
an end (09 R256, 11 R312 to R325, 12 R377), shared by the mailbox, reset and recovery rows. -/

namespace Sys2Proof.Machine

/-- The link is up and the functions answer: PERST# is deasserted with the reference clock there, and the order of the rails
has ended or failed (R311, R551, R554). -/
def hostUp (s : State) : Bool := !s.pwr.perst && s.pwr.pcie && (s.pwr.order == 7 || s.pwr.stage == 6)

/-- A function exists when it is PF0 or an enabled VF (R297). -/
def fnExists (s : State) (f : Nat) : Bool := f == 0 || decide (f ≤ s.reg.numVFs)

/-! ## Frames that the firmware uses (R127, R315, R356, R532) -/

/-- The lowest number from n on that a set does not hold. -/
def lowestFrom : NSet → Nat → Nat
  | [], n => n
  | k :: r, n => if k < n then lowestFrom r n else if k = n then lowestFrom r (n + 1) else n

/-- Frames of each pool slot that the KV pool and the serving area fill. -/
def poolFill (s : State) (n : Nat) : Nat := ((SMap.look s.serve n).map poolFrames).getD 0

/-- The lowest facet frame number that the firmware may use: in a valid slot that holds a property, above the pool, not in
use. -/
def freeFrameIf (p : Slot → Bool) (fill : Nat) (f : Facet) : Option Nat :=
  f.map.findSome? fun e =>
    let base := e.1 * 32768
    let n := lowestFrom f.used (base + if f.poolSlots.contains e.1 then fill else 0)
    if p e.2 && decide (n < base + 32768) then some n else none

def freeFrame (fill : Nat) (f : Facet) : Option Nat := freeFrameIf (fun _ => true) fill f

/-- Take `n` frames. -/
def takeFrames (fill : Nat) : Nat → List Nat → Facet → Option (List Nat × Facet)
  | 0, acc, f => some (acc.reverse, f)
  | n + 1, acc, f =>
    match freeFrame fill f with
    | none => none
    | some x => takeFrames fill n (x :: acc) { f with used := NSet.add f.used x }

/-- Frames that a number of bytes fills. -/
def framesFor (bytes : Nat) : Nat := ceilDiv bytes 65536

/-- Take frames of facet n for a number of bytes. -/
def takeBytes (s : State) (n bytes : Nat) (f : Facet) : Option (List Nat × Facet) :=
  takeFrames (poolFill s n) (framesFor bytes) [] f

/-- A facet without the use of some frames. -/
def dropFrames (l : List Nat) (f : Facet) : Facet := { f with used := NSet.diff f.used l }

/-! ## Queues -/

/-- The lowest number that no queue has (log 12). -/
def freeQueue (s : State) : Nat := lowestFrom (s.queues.map (·.1)) 0

/-- Rules of R316 over a QUEUE_CREATE body, apart from the facet. -/
def queueBodyOk (b : QueueBody) : Bool :=
  (b.source == 0 || (decide (0x100 ≤ b.source) && decide (b.source ≤ 0x1FFF))) &&
    decide (4 ≤ b.subLog2) && decide (b.subLog2 ≤ 15) && decide (4 ≤ b.compLog2) && decide (b.compLog2 ≤ 15) &&
    b.subBase % 4096 == 0 && b.compBase % 4096 == 0 && b.fenceBase % 8 == 0 && decide (b.fenceBase < 2 ^ 39) &&
    decide (b.fenceCount ≤ 1048576)

/-- The queue that a body describes (R325). -/
def queueOfBody (fn frame : Nat) (b : QueueBody) : Queue :=
  { fn := fn, facet := b.facet, privileged := b.privileged, report := b.report, source := b.source, subLog2 := b.subLog2,
    compLog2 := b.compLog2, subBase := b.subBase, compBase := b.compBase, fenceBase := b.fenceBase,
    fenceCount := b.fenceCount, frame := frame }

/-- Remove commands by a property; what waits for them in the translation units goes with them. -/
def dropCmds (p : Nat → Cmd → Bool) (s : State) : State :=
  let gone := (s.cmds.filter fun e => p e.1 e.2).map (·.1)
  let s1 := { s with
    cmds := s.cmds.filter fun e => !p e.1 e.2
    queues := s.queues.map fun e =>
      (e.1, match e.2.current with
        | some c => if gone.contains c then { e.2 with current := none } else e.2
        | none => e.2)
    facets := s.facets.map fun e =>
      (e.1, match e.2.chosen with
        | some c => if gone.contains c then { e.2 with chosen := none } else e.2
        | none => e.2) }
  if gone.isEmpty then s1 else dropWaiters gone.contains s1

/-- QUEUE_DESTROY takes effect (R317): commands that have not started are dropped without a record. -/
def destroyQueue (n : Nat) (t : Option Ticket) (s : State) : State :=
  updQueue n (fun q => { q with destroying := t, resident := false }) (dropCmds (fun _ c => c.queue == n && !c.ran) s)

/-- Free a queue with its descriptor's frame; records not written are dropped. -/
def freeQueueNo (n : Nat) (s : State) : State :=
  match SMap.look s.queues n with
  | none => s
  | some q => updFacet q.facet (dropFrames [q.frame]) { s with queues := SMap.del s.queues n }

/-! ## Contexts -/

/-- The destruction of a facet has been accepted: nothing more is bound to it (log 12). -/
def leaving (f : Facet) : Bool := f.state == 4 || f.destroying.isSome

/-- Rules of R256 and R257 over an entry, apart from the owner. -/
def bindBodyOk (f : Facet) (b : BindBody) : Bool :=
  decide (1 ≤ b.context) && decide (b.context < 65536) && decide (b.pasid < 2 ^ 20) && b.root % 4096 == 0 &&
    decide (b.root < 2 ^ 39) && (resolve f.map b.root).isSome && decide (1 ≤ b.weight) && decide (b.weight < 65536)

/-- Clear a context's entry and its bit; its accounting goes to the function's record (R314, R474). -/
def clearContext (n : Nat) (s : State) : State :=
  match SMap.look s.ctxs n with
  | none => s
  | some c =>
    dropContext n
      (updFn c.fn (fun r => { r with e8 := r.e8 + c.acct.e8, energy := r.energy + c.acct.energy, modelled := r.modelled + c.acct.modelled })
        { s with ctxs := SMap.del s.ctxs n, lost := NSet.del s.lost n })

/-- Commands of a context that have started and are not complete. -/
def ctxBusy (s : State) (n : Nat) : Bool := s.cmds.any fun e => e.2.desc.context == n && e.2.ran

end Sys2Proof.Machine
end

