-- ==== Sys2Proof/Machine/VoxOps.lean ====
section
/-! DEFINITION. Sending on the Voxlink ports (13 R388 to R406): links with their replay buffers and credits, routes, keys of
link encryption, tags of outstanding transactions. -/

namespace Sys2Proof.Machine

/-! ## Links (R389 to R392) -/

def portOf (s : State) (p : Nat) : Port := SMap.getD s.vxl.ports p {}
def setPort (p : Nat) (x : Port) (s : State) : State := { s with vxl := { s.vxl with ports := SMap.put s.vxl.ports p x } }
def updPort (p : Nat) (g : Port → Port) (s : State) : State := setPort p (g (portOf s p)) s

/-- The link that a half of a port uses: the high one only on a split port (R385). -/
def useHigh (x : Port) (half : Nat) : Bool := x.splitNow && half == 1
def linkOf (x : Port) (half : Nat) : VLink := if useHigh x half then x.hi else x.lo
/-- Width of the link that a half uses: 3 is none. -/
def linkWidth (x : Port) (half : Nat) : Nat := if useHigh x half then x.widthHi else x.widthLo
def setLink (half : Nat) (l : VLink) (x : Port) : Port := if useHigh x half then { x with hi := l } else { x with lo := l }

/-- Flits of the replay buffer (R385). -/
def replayCap (x : Port) : Nat := if x.splitNow then 512 else 1024

/-- The acknowledgement that a link reports: the last flit received good and in order (R392). -/
def ackOf (l : VLink) : Nat := (l.rxNext + 4095) % 4096

def vnetCredit (l : VLink) (v : Nat) : Nat :=
  match v with
  | 0 => l.credReq
  | 1 => l.credRsp
  | _ => l.credMsg

def useCredit (v : Nat) (l : VLink) : VLink :=
  match v with
  | 0 => { l with credReq := l.credReq - 1 }
  | 1 => { l with credRsp := l.credRsp - 1 }
  | _ => { l with credMsg := l.credMsg - 1 }

/-- Ops whose request awaits a response (R399, R400). -/
def nonPosted (op : Nat) : Bool := [0x01, 0x03, 0x05, 0x06, 0x10, 0x18, 0x30].contains op

def heldNonPosted (l : VLink) : Nat :=
  (l.held.filter fun f => match f.txn with
    | some t => nonPosted t.op
    | none => false).length

/-- Non-posted transactions of a port that have left it (R400: at most 4,096). -/
def launched (s : State) (p : Nat) : Nat :=
  (s.vxl.outst.filter fun e => e.2.port == p).length - heldNonPosted (portOf s p).lo - heldNonPosted (portOf s p).hi

/-- Whether a link may send a flit now: the port is UP, the replay buffer has room, and a routed flit has a credit and, when
it is a non-posted request, a place among the outstanding ones. -/
def maySend (s : State) (p : Nat) (f : TxFlit) : Bool :=
  let x := portOf s p
  let l := linkOf x f.half
  x.state == 3 && linkWidth x f.half != 3 && decide (l.buf.length < replayCap x) &&
    (f.kind == 1 || (decide (1 ≤ vnetCredit l f.vnet) &&
      match f.txn with
      | some t => !nonPosted t.op || decide (launched s p < 4096)
      | none => true))

/-- Flits go out on the half of a joined port that they carry; a split port writes 0 (R389). -/
def flitHalf (x : Port) (half : Nat) : Nat := if x.splitNow then 0 else half

/-- The link key entry of the peer that a flit goes to. -/
def peerEntry (s : State) (kind dest : Nat) : LinkKey :=
  SMap.getD s.sec.linkKeys (if kind = 4 then 65536 + dest else dest) { fn := 0, salt := 0 }

/-- Put a flit on a link: its header, its payload and its CRC (R388, R389). -/
def sendWire (p half kind seq ack : Nat) (nak : Bool) (vnet dest nonce : Nat) (t : Option Txn) (s : State) : State :=
  let x := portOf s p
  emit (.flit p (if x.splitNow then half else 0)
    (flitBytes (flitWord kind seq ack nak (flitHalf x half) vnet dest s.vxl.id) (flitPayload (peerEntry s kind dest) kind dest s.vxl.id nonce t))) s

/-- Send one flit: it takes the link's next number and stays in the replay buffer. -/
def transmit (p : Nat) (f : TxFlit) (s : State) : State :=
  let x := portOf s p
  let l := linkOf x f.half
  let f1 := { f with seq := l.txSeq }
  let l1 := { (if f.kind = 1 then l else useCredit f.vnet l) with txSeq := (l.txSeq + 1) % 4096, buf := l.buf ++ [f1] }
  sendWire p f.half f.kind l.txSeq (ackOf l) false f.vnet f.dest f.nonce f.txn
    (setPort p { setLink f.half l1 x with lastHalf := f.half } s)

/-- Send, or hold at the port behind what is held already (R186, R396). -/
def pushFlit (p : Nat) (f : TxFlit) (s : State) : State :=
  let x := portOf s p
  let l := linkOf x f.half
  if (f.kind == 1 || l.held.all (fun h => h.vnet != f.vnet || h.half != f.half)) && maySend s p f then transmit p f s
  else setPort p (setLink f.half { l with held := l.held ++ [f] } x) s

/-- Places of the held flits that may go now: each is the first of its vnet, and of its half on a joined port. -/
def readyAt (p : Nat) (s : State) (l : List TxFlit) : List Nat :=
  (List.range l.length).filter fun i =>
    match l[i]? with
    | none => false
    | some f => maySend s p f && (l.take i).all fun g => g.vnet != f.vnet || g.half != f.half

/-- The place whose turn it is: the half that did not send last goes first (R386). -/
def nextAt (p : Nat) (s : State) (l : List TxFlit) : Option Nat :=
  let ready := readyAt p s l
  let other (i : Nat) : Bool := ((l[i]?).map (·.half)) != some (portOf s p).lastHalf
  match ready.find? other with
  | some i => some i
  | none => ready.head?

/-- Send what may go of the held flits of a link: in order within each vnet and half, the halves in alternation. -/
def drainHeldFlits (p half : Nat) : Nat → State → State
  | 0, s => s
  | k + 1, s =>
    let l := (linkOf (portOf s p) half).held
    match nextAt p s l with
    | none => s
    | some i =>
      match l[i]? with
      | none => s
      | some f =>
        drainHeldFlits p half k
          (transmit p f (updPort p (fun x => setLink half { linkOf x half with held := l.eraseIdx i } x) s))

def drainLink (p half : Nat) (s : State) : State :=
  drainHeldFlits p half (linkOf (portOf s p) half).held.length s

def drainPort (p : Nat) (s : State) : State :=
  let s1 := drainLink p 0 s
  if (portOf s p).splitNow then drainLink p 1 s1 else s1

/-! ## Training, and power that goes (R385, R397, R415) -/

/-- Held flits change links with the configuration. -/
def regroup (split : Bool) (x : Port) : Port :=
  let l := x.lo.held ++ x.hi.held
  if split then
    { x with lo := { held := l.filter (fun f => f.half == 0) }, hi := { held := l.filter (fun f => f.half != 0) } }
  else { x with lo := { held := l }, hi := {} }

/-- Training starts; the configuration is that of split (R385). Both sides start their numbers at 0 (log 14). -/
def startTraining (p : Nat) (s : State) : State :=
  updPort p (fun x => { regroup x.split x with state := 1, splitNow := x.split, widthLo := 3, widthHi := 3, peerValid := false }) s

/-- A link that goes DOWN discards its replay buffer; senders keep what they hold at the port. -/
def dropBuf (l : VLink) : VLink := { held := l.held }

/-- The port has no link. -/
def unlink (state : Nat) (x : Port) : Port :=
  { x with state := state, widthLo := 3, widthHi := 3, lo := dropBuf x.lo, hi := dropBuf x.hi }

/-- Ports that are enabled lose their power and go DOWN without an event. -/
def portsDown (ports : List Nat) (s : State) : State :=
  forAll ports (fun p t => if (portOf t p).enable then updPort p (unlink 5) t else t) s

/-- Ports that are enabled have power again and train. -/
def portsTrain (ports : List Nat) (s : State) : State :=
  forAll ports (fun p t => if (portOf t p).enable then startTraining p t else t) s

/-! ## Routes (R406) -/

/-- Whether a port carries a transaction of a facet: UP, or held while it retrains (R396), with a half-port of the facet. -/
def portUsable (s : State) (facet : Option Nat) (p : Nat) : Bool :=
  decide (p < 6) && ((portOf s p).state == 3 || (portOf s p).state == 4) &&
    match facet with
    | none => true
    | some n =>
      match facetOf s n with
      | some f => f.halfPorts.contains (2 * p) || f.halfPorts.contains (2 * p + 1)
      | none => false

/-- Half that a transaction takes on a port. -/
def routeHalf (s : State) (facet : Option Nat) (p named : Nat) : Nat :=
  if (portOf s p).splitNow then named
  else match facet.bind (facetOf s) with
  | none => 0
  | some f => if f.halfPorts.contains (2 * p) then 0 else 1

/-- The port and half that a transaction would take, if its link is usable. -/
def tryPort (s : State) (facet : Option Nat) (p named : Nat) : Option (Nat × Nat) :=
  let h := routeHalf s facet p named
  if portUsable s facet p && linkWidth (portOf s p) h != 3 then some (p, h) else none

/-- Port and half that a route entry gives. -/
def pickRoute (s : State) (facet : Option Nat) (e : Nat) : Option (Nat × Nat) :=
  if bit e 31 = 0 then none
  else match tryPort s facet (bits e 30 28) (bit e 27) with
  | some r => some r
  | none => if bit e 26 = 1 then tryPort s facet (bits e 25 23) (bit e 22) else none

def routeEntry (s : State) (ep : Bool) (dest : Nat) : Nat := SMap.getD (if ep then s.vxl.epRoutes else s.vxl.routes) dest 0

/-! ## Keys (R405, R527) -/

/-- Key-table number of a peer: modules, then tier endpoints. -/
def peerKey (ep : Bool) (peer : Nat) : Nat := if ep then 65536 + peer else peer

def keyPos (k : LinkKey) (one : Bool) : LinkPos := if one then k.pos1 else k.pos0
def setKeyPos (one : Bool) (p : LinkPos) (k : LinkKey) : LinkKey := if one then { k with pos1 := p } else { k with pos0 := p }

/-- The entry that serves a facet's traffic with a peer, with a key in its sending position. -/
def sendKey (s : State) (n : Nat) (ep : Bool) (peer : Nat) : Option LinkKey :=
  match SMap.look s.sec.linkKeys (peerKey ep peer) with
  | some k => if k.fn = ownerOf s n && (keyPos k k.send1).loaded then some k else none
  | none => none

def setLinkKey (peer : Nat) (k : LinkKey) (s : State) : State :=
  { s with sec := { s.sec with linkKeys := SMap.put s.sec.linkKeys peer k } }

/-- Mark a transaction encrypted under a key and count its nonce; the nonce is the number of those sent before it (log 12). -/
def sealTxn (k : LinkKey) (peer : Nat) (t : Txn) (s : State) : (Txn × Nat) × State :=
  let p := keyPos k k.send1
  (({ t with encrypted := true, keyGen := b2n k.send1 }, p.sent),
    setLinkKey peer (setKeyPos k.send1 { p with sent := p.sent + 1 } k) s)

/-! ## Transactions -/

/-- The global identity of a local facet (R373). -/
def globalOf (s : State) (n : Nat) : Nat × Nat :=
  match facetOf s n with
  | some f => if f.member then (f.masterDevice, f.masterFacet) else (s.vxl.id, n)
  | none => (s.vxl.id, n)

/-- The local facet with a global identity (R400). -/
def facetByGlobal (s : State) (dev fac : Nat) : Option Nat :=
  (s.facets.find? fun e =>
    if e.2.member then e.2.masterDevice == dev && e.2.masterFacet == fac
    else dev == s.vxl.id && s.vxl.idValid && e.1 == fac).map (·.1)

/-- The lowest tag that no outstanding transaction has. -/
def freeTag (s : State) : Nat := lowestFrom (s.vxl.outst.map (·.1)) 0

/-- Functions that hear of a facet's transaction event: PF0 and the owner (log 22). -/
def voxTo (s : State) (facet : Option Nat) : List Nat :=
  match facet with
  | none => [0]
  | some n => [0, ownerOf s n]

def voxEvent (kind subject : Nat) (facet : Option Nat) (s : State) : State :=
  let n := facet.getD 0
  raiseTo (voxTo s facet) kind (ownerOf s n) subject n none (confFacet s n) s

/-- Payload bytes of a transaction: 240 for each flit (R388, R398). -/
def payloadBytes (t : Txn) : Nat := 240 * Nat.max 1 (ceilDiv t.data.length (if t.encrypted then 200 else 224))

/-- Context of a sequence of a facet. -/
def seqContext (s : State) (n seqId : Nat) : Nat :=
  match SMap.look s.serve n with
  | none => 0
  | some v =>
    match v.seqs.find? fun e => e.2.rec_.seqId == seqId with
    | some e => e.2.context
    | none => 0

/-- Charge the payload of a transaction of a facet to its context, or to the work that it belongs to (R473). -/
def chargeTxn (facet : Option Nat) (o : Option VOut) (t : Txn) (s : State) : State :=
  match facet with
  | none => s
  | some n =>
    if t.context != 0 then
      if ((SMap.look s.ctxs t.context).map (·.facet)) = some n then chargeCtxLink t.context (payloadBytes t) s else s
    else match o with
    | none => s
    | some x => if x.seqId != 0 then chargeCtxLink (seqContext s n x.seqId) (payloadBytes t) s else chargeLink x.cmd (payloadBytes t) s

/-- A transaction to send: facet, flit kind, vnet, destination, and what is remembered of it while it awaits a response. -/
structure Send where
  facet : Option Nat
  kind : Nat
  vnet : Nat
  dest : Nat
  txn : Txn
  out : Option VOut
  deriving DecidableEq, Repr

/-- Send a transaction. False where it cannot leave: no identity (R404), no key (R405), no route (R406). -/
def sendTxn (m : Send) (s : State) : Bool × State :=
  let ep := m.kind == 4
  let conf := match m.facet with
    | some n => confFacet s n
    | none => false
  if !s.vxl.idValid then (false, s)
  else
    let key := if conf then sendKey s (m.facet.getD 0) ep m.dest else none
    if conf && key.isNone then (false, voxEvent evVxlNoKey m.dest m.facet s)
    else match pickRoute s m.facet (routeEntry s ep m.dest) with
    | none => (false, voxEvent evVxlNoRoute m.dest m.facet s)
    | some (p, half) =>
      let t := match m.out with
        | some _ => { m.txn with tag := freeTag s }
        | none => m.txn
      let sealed := match key with
        | some k => sealTxn k (peerKey ep m.dest) t s
        | none => ((t, 0), s)
      let s1 := match m.out with
        | some o => { sealed.2 with vxl := { sealed.2.vxl with
            outst := SMap.put sealed.2.vxl.outst (freeTag s) { o with port := p } } }
        | none => sealed.2
      (true, pushFlit p { kind := m.kind, seq := 0, half := half, vnet := m.vnet, dest := m.dest, txn := some sealed.1.1
                          nonce := sealed.1.2 }
        (chargeTxn m.facet m.out sealed.1.1 s1))

/-- A transaction with nothing in it but its op and its facet. -/
def bareTxn (s : State) (op n : Nat) : Txn :=
  let g := globalOf s n
  { op := op, encrypted := false, endpointSpace := false, last := false, keyGen := 0, masterDevice := g.1,
    masterFacet := g.2, context := 0, tag := 0, addr := 0, data := [], rsv := false }

/-- Data bytes that a flit to a facet's peers holds (R398, R405). -/
def flitData (s : State) (n : Nat) : Nat := if confFacet s n then 200 else 224

/-- Data in parts that a flit holds, each with its offset. -/
def flitParts (k : Nat) (d : List Byte) : List (Nat × List Byte) :=
  (List.range (ceilDiv d.length k)).map fun i => (k * i, (d.drop (k * i)).take k)

/-- Answer a request on the RSP network. -/
def sendReply (facet : Option Nat) (dest : Nat) (t : Txn) (s : State) : State :=
  (sendTxn ⟨facet, 2, 1, dest, t, none⟩ s).2

/-- Forget an outstanding transaction; flits held for want of a place may go. -/
def dropOut (tag : Nat) (s : State) : State :=
  match SMap.look s.vxl.outst tag with
  | none => s
  | some o => drainPort o.port { s with vxl := { s.vxl with outst := SMap.del s.vxl.outst tag } }

/-- JOIN of a member facet to its master (R373). -/
def sendJoin (n : Nat) (s : State) : State :=
  match facetOf s n with
  | none => s
  | some f =>
    (sendTxn ⟨none, 2, 2, f.masterDevice, bareTxn s 0x30 n,
      some { port := 0, op := 0x30, facet := n, cmd := 0, dest := f.masterDevice, endpoint := false }⟩ s).2

end Sys2Proof.Machine
end

