-- ==== Sys2Proof/Machine/Facet.lean ====
section
/-! DEFINITION. Facets (12 R350 to R369): creation with the joining of members, resize, the placement switch, destruction,
and the parking of a half (02 R56, R57). -/

namespace Sys2Proof.Machine

/-! ## Resources -/

/-- A half that is parked, or between steps 1 and 6 of R56 (R57). -/
def halfClosed (s : State) (east : Bool) : Bool :=
  parked s east ||
    match s.pwr.park with
    | some p => (p.half == 1) == east
    | none => false

/-- Whether some facet has a half-port. -/
def portBound (s : State) (h : Nat) : Bool := s.facets.any fun e => e.2.halfPorts.contains h

/-- Whether every core, channel and half-port of three lists is FREE (R350). -/
def resourcesFree (s : State) (cores chans ports : List Nat) : Bool :=
  cores.all (fun c => (coreOf s c).status == 1) && chans.all (fun c => (chanOf s c).state == 1) &&
    ports.all fun h => !portBound s h

/-- Whether some of them may not be bound now: it lies in a closed half, or its core is not cleared yet (R57, R158). -/
def resourcesClosed (s : State) (cores chans ports : List Nat) : Bool :=
  cores.any (fun c => halfClosed s (eastCore c)) || chans.any (fun c => halfClosed s (eastChan c)) ||
    ports.any fun h => halfClosed s (eastHalfPort h)

/-- Whether a core that is bound is not cleared yet: the bind waits until clearing has finished (R158, R163). -/
def uncleared (s : State) (cores : List Nat) : Bool := cores.any fun c => !(coreOf s c).cleared

/-- The TDI of a function is CONFIG_LOCKED or RUN (R536). -/
def tdiLocked (s : State) (fn : Nat) : Bool := (fnOf s fn).tdi == 1 || (fnOf s fn).tdi == 2

/-- Bind cores to a facet; their masters change class (R190). -/
def bindCores (n : Nat) (l : List Nat) (s : State) : State :=
  forAll l (fun c t => updCore c (fun x => { x with status := 2, facet := n }) t) (spoilWindows l s)

/-- Bind channels to a facet. -/
def bindChans (n : Nat) (l : List Nat) (s : State) : State :=
  forAll l (fun c t => updChan c (fun x => { x with state := 2, facet := n }) t) s

/-- Each channel takes the lowest invalid frame-map slot, in the order given (R264). -/
def addSlots : List Nat → SMap Slot → SMap Slot
  | [], m => m
  | c :: r, m => addSlots r (SMap.put m (lowestFrom (m.map (·.1)) 0) { channel := c })

/-! ## Creation (R358 to R360, R373, R417, R421, R451) -/

/-- The rungs that a request gives: the entries before the unused ones. -/
def usedRungs (l : List Nat) : List Nat := (l.reverse.dropWhile (· == 0)).reverse

def rising : List Nat → Bool
  | [] => true
  | [_] => true
  | a :: b :: r => decide (a < b) && rising (b :: r)

def rungsOk (l : List Nat) : Bool :=
  decide (1 ≤ l.length) && decide (l.length ≤ 8) && l.all (fun r => decide (1 ≤ r) && decide (r ≤ 512)) && rising l

/-- No cluster holds more than 16 of the named cores. -/
def clustersOk (cores : List Nat) : Bool :=
  (List.range 32).all fun k => decide ((cores.filter fun c => clusterOfCore c == k).length ≤ 16)

/-- R421: no pool, or 1 to 127 units and 1 to 0xFFFFFFFE blocks. -/
def kvOk (fmt blocks : Nat) : Bool :=
  (fmt == 0 && blocks == 0) ||
    (decide (2 ≤ fmt) && decide (fmt < 256) && decide (1 ≤ blocks) && decide (blocks ≤ 0xFFFFFFFE))

/-- R451. -/
def tierOk (conf : Bool) (t : TierCfg) : Bool :=
  decide (t.offer ≤ 10000) && decide (t.endpoint < 65536) &&
    match t.kind with
    | 0 => t.endpoint == 0 && t.offer == 0
    | 1 => true
    | 2 => t.endpoint == 0 && !conf
    | _ => false

/-- The MALFORMED rules of R359. -/
def facetBodyOk (b : FacetBody) : Bool :=
  let cores := NSet.ofList b.cores
  let rungs := usedRungs b.rungs
  decide (b.function ≤ 63) && decide (b.mode ≤ 1) && decide (b.cls ≤ 7) && decide (b.minRate < 65536) &&
    decide (b.timeLimit ≤ 500) && decide (b.peerTimeout ≤ 1000) && decide (b.master < 32) && rungsOk rungs &&
    rungs.contains cores.length && cores.all (fun c => decide (c < 544)) && b.channels.all (fun c => decide (c < 256)) &&
    b.halfPorts.all (fun h => decide (h < 12)) && !b.channels.isEmpty && cores.any (fun c => clusterOfCore c == b.master) &&
    clustersOk cores && kvOk b.kvFormat b.kvBlocks && tierOk b.confidential b.tier &&
    (if b.member then b.memberCount == 0 && decide (b.masterDevice < 65536) && decide (b.masterFacet < 64)
     else decide (b.memberCount < 65536))

/-- Serving state of a new facet with a pool: pool slots 0 to n - 1, every block free in rising order (R422, R425). -/
def newServe (b : FacetBody) : Serve :=
  { table := b.mode == 1, units := b.kvFormat / 2, kvFormat := b.kvFormat % 2, blocks := b.kvBlocks,
    poolSlots := List.range (NSet.ofList b.channels).length }

/-- The pool and the serving area fit the named channels, and a TABLE facet finds 4,096 hardware slots (R359, R417). -/
def poolFits (s : State) (b : FacetBody) : Bool :=
  (b.kvBlocks == 0 || decide (poolFrames (newServe b) ≤ 32768)) &&
    (b.mode == 0 || decide (4096 * ((s.facets.filter fun e => e.2.mode == 1).length + 1) ≤ Config.hwSlots))

/-- The lowest free memory key slot of 1 to 255 (R525). -/
def freeMemSlot (s : State) : Nat := lowestFrom (s.sec.memSlots.map (·.1)) 1

/-- A memory key slot takes a random key (R525). -/
def drawMemKey (slot : Nat) (s : State) : State :=
  let d := draw s
  { d.2 with sec := { d.2.sec with memSlots := SMap.put d.2.sec.memSlots slot (toLe 64 d.1) } }

/-- The answer to FACET_CREATE (R359, R371, R525, R535, R536). -/
def createReply (b : FacetBody) (s : State) : Reply :=
  let n := lowestFrom (s.facets.map (·.1)) 0
  if (b.confidential && s.fuses.lcState != 3) || tdiLocked s b.function then { status := syDenied }
  else if !facetBodyOk b then { status := syMalformed }
  else if !fnExists s b.function then { status := syNotFound }
  else if resourcesClosed s b.cores b.channels b.halfPorts || updateBusy s then { status := syBusy }
  else if 64 ≤ n || !resourcesFree s b.cores b.channels b.halfPorts || !poolFits s b ||
      (b.confidential && decide (255 < freeMemSlot s)) then { status := syNoSpace }
  else { status := syAccepted, body := toLe 1 n ++ List.replicate 7 0 }

/-- The facet record that a body describes. -/
def facetOfBody (b : FacetBody) (t : Ticket) (mem : Nat) : Facet :=
  let cores := NSet.ofList b.cores
  let chans := NSet.ofList b.channels
  { state := 1, fn := b.function, mode := b.mode, confidential := b.confidential, member := b.member, cls := b.cls,
    master := b.master, rung := cores.length, cores := cores, channels := chans, halfPorts := NSet.ofList b.halfPorts,
    minRate := b.minRate, timeLimit := if b.timeLimit = 0 then 20 else b.timeLimit,
    peerTimeout := if b.peerTimeout = 0 then 100 else b.peerTimeout, rungs := usedRungs b.rungs, kvFormat := b.kvFormat,
    kvBlocks := b.kvBlocks, poolSlots := if b.kvBlocks = 0 then [] else List.range chans.length, tier := b.tier,
    memberCount := b.memberCount, masterDevice := b.masterDevice, masterFacet := b.masterFacet, map := addSlots chans [],
    creating := some t, memSlot := mem }

/-! ## Destruction: its steps (R368) -/

/-- Contexts of a facet. -/
def ctxsOfFacet (s : State) (n : Nat) : List Nat := (s.ctxs.filter fun e => e.2.facet == n).map (·.1)

/-- Weight key slots that the firmware holds for a facet's sealed sets (R532). -/
def sealedSlots (f : Facet) : List Nat := (f.sets.filter fun e => e.2.sealedSet).map (·.2.keySlot)

def freeWeightSlots (l : List Nat) (s : State) : State :=
  { s with sec := { s.sec with weightSlots := s.sec.weightSlots.filter fun e => !l.contains e.1 } }

/-- Unload every ladder and weight set of a facet and free its prism trees (R368 step 1, R378 step 2). -/
def unloadAll (n : Nat) (s : State) : State :=
  match facetOf s n with
  | none => s
  | some f =>
    setFacet n { f with ladders := [], sets := [], planesSet := none, switching := none, loads := [], chosen := none,
                        used := NSet.ofList ((s.queues.filter fun e => e.2.facet == n).map (·.2.frame)) }
      (freeTrees (fun t => t.facet == n) (freeWeightSlots (sealedSlots f) s))

/-- A re-key of the facet stops; its old slot is wiped and free (R525, R526). -/
def dropRekey (n : Nat) (s : State) : State :=
  match (facetOf s n).bind (·.rekey) with
  | none => s
  | some r => updFacet n (fun f => { f with rekey := none })
      { s with sec := { s.sec with memSlots := SMap.del s.sec.memSlots r.oldSlot } }

/-- R368 from step 1; the number is free once the zero-fills end. An eclipse of the facet ends with it. -/
def destroyFacet (n : Nat) (t : Option Ticket) (s : State) : State :=
  match facetOf s n with
  | none => s
  | some f =>
    let s1 := unloadAll n s
    let s2 := forAll f.cores releaseCore (spoilWindows (portMasters f.halfPorts) s1)
    let s3 := ((f.eclipse.map (·.tickets)).getD []).foldl (fun u t => requestDone t syOk u) s2
    let s3a := dropRekey n s3
    let s4 := updFacet n (fun x => { x with
      state := 4, destroying := t, resize := none, replace := none, eclipse := none, failWait := [], cores := [], map := [],
      halfPorts := [], running := none, chosen := none }) { s3a with serve := SMap.del s3a.serve n }
    forAll f.channels (fun c u => zeroChan c 1 u) (dropCmds (fun _ c => c.facet == n) s4)

/-! ## Creation: its steps (R360, R373) -/

/-- Step 5 of R360, and the master's answer to its last join. It waits until the cores are cleared (R163). A
destruction that came meanwhile is taken then (R351). -/
def finishCreate (n : Nat) (s : State) : State :=
  match facetOf s n with
  | none => s
  | some f =>
    if f.state = 1 && uncleared s f.cores then setFacet n { f with joined := true } s
    else if f.state = 1 then
      let s1 := requestDoneOpt f.creating syOk (setFacet n { f with state := 2, joined := true, creating := none } s)
      match f.destroying with
      | some t => destroyFacet n (some t) s1
      | none => retryBlocked s1
    else s

/-- Steps 1 to 4 of R360. -/
def createFacet (b : FacetBody) (t : Ticket) (s : State) : State :=
  let n := lowestFrom (s.facets.map (·.1)) 0
  let mem := if b.confidential then freeMemSlot s else 0
  let s1 := bindChans n (NSet.ofList b.channels) (bindCores n (NSet.ofList b.cores)
    (setFacet n (facetOfBody b t mem) (spoilWindows (portMasters b.halfPorts) s)))
  let s2 := if b.confidential then drawMemKey mem s1 else s1
  let s3 := if b.kvBlocks = 0 then s2 else { s2 with serve := SMap.put s2.serve n (newServe b) }
  if b.member then sendJoin n s3 else if b.memberCount = 0 then finishCreate n s3 else s3

def facetCreateEff (h : Req) (b : FacetBody) (s : State) : State :=
  serveJob h opFacetCreate true (createReply b) (createFacet b (ticketOf h opFacetCreate)) s

/-- FACET_CREATE (R359, R360). -/
def execFacetCreate (fn : Nat) (s : State) : Host.Outcome State Fault Refusal :=
  checked (okFn fn) s (onRequest fn layFacetCreate fun h b => facetCreateEff h (facetBody b))

/-! ## Destruction: the request (R368) -/

def facetDestroyReply (n : Nat) (s : State) : Reply :=
  match facetOf s n with
  | none => { status := syNotFound }
  | some f =>
    if tdiLocked s f.fn then { status := syDenied }
    else if (s.queues.any fun e => e.2.facet == n) || !(ctxsOfFacet s n).isEmpty || f.state == 4 || f.destroying.isSome ||
        updateBusy s then { status := syBusy }
    else { status := syAccepted }

/-- A frame copy of a retirement runs in a facet: facet requests come after it in turn (R213, R351, R382). -/
def retiring (s : State) (n : Nat) : Bool :=
  match facetOf s n with
  | some f => f.channels.any fun c => (chanOf s c).state == 3
  | none => false

/-- A creation or a resize of the facet is in progress: its destruction starts when that has ended (R351, R382). -/
def inTurn (s : State) (n : Nat) : Bool :=
  match facetOf s n with
  | some f => f.state == 1 || f.resize.isSome
  | none => false

def facetDestroyEff (h : Req) (n : Nat) (s : State) : State :=
  if retiring s n then s
  else serveJob h opFacetDestroy true (facetDestroyReply n) (fun t =>
    let tk := some (ticketOf h opFacetDestroy)
    if inTurn t n then updFacet n (fun f => { f with destroying := tk }) t else destroyFacet n tk t) s

/-- FACET_DESTROY (R368). Creation, resize and destruction of a facet are taken in turn (R351, R382). -/
def execFacetDestroy (fn : Nat) (s : State) : Host.Outcome State Fault Refusal :=
  checked (okFn fn) s (onRequest fn layFacetDestroy fun h b => facetDestroyEff h (field b 0 1))

/-- Forget the outstanding JOIN of a facet. -/
def dropJoin (n : Nat) (s : State) : State :=
  { s with vxl := { s.vxl with outst := s.vxl.outst.filter fun e => !(e.2.op == 0x30 && e.2.facet == n) } }

def memberJoinTimeoutEff (n : Nat) (s : State) : State :=
  match facetOf s n with
  | none => s
  | some f =>
    if f.member && f.state == 1 && !f.joined then
      destroyFacet n f.destroying
        (forAll (ctxsOfFacet s n) clearContext (requestDoneOpt f.creating syNotFound
          (updFacet n (fun x => { x with creating := none }) (dropJoin n s))))
    else s

/-- MEMBER_JOIN_TIMEOUT (R373 step 4). -/
def execMemberJoinTimeout (facet : Nat) (s : State) : Host.Outcome State Fault Refusal :=
  checked (okFacet facet) s (memberJoinTimeoutEff facet)

/-! ## Resize (R361 to R366, R422) -/

/-- Channels that a resize removes: they leave the set and no move names them as source (R362). -/
def removedChans (f : Facet) (b : ResizeBody) : List Nat :=
  f.channels.filter fun c => !b.channels.contains c && !(b.moves.map (·.1)).contains c

/-- Channels that a resize adds: they join the set and no move names them as target (R362). -/
def addedChans (f : Facet) (b : ResizeBody) : List Nat :=
  (NSet.ofList b.channels).filter fun c => !f.channels.contains c && !(b.moves.map (·.2)).contains c

def distinct : List Nat → Bool
  | [] => true
  | a :: r => !r.contains a && distinct r

def movesOk (f : Facet) (b : ResizeBody) : Bool :=
  decide (b.moves.length ≤ 16) && distinct (b.moves.map (·.1)) && distinct (b.moves.map (·.2)) &&
    b.moves.all fun m => f.channels.contains m.1 && !b.channels.contains m.1 && b.channels.contains m.2 && !f.channels.contains m.2

/-- A request that changes only the settings under flags bit 1 (R362). -/
def settingsOnly (f : Facet) (b : ResizeBody) : Bool :=
  NSet.ofList b.cores == f.cores && NSet.ofList b.channels == f.channels && NSet.ofList b.halfPorts == f.halfPorts &&
    b.moves.isEmpty && !b.setMaster

/-- Master cluster after a resize. -/
def newMaster (f : Facet) (b : ResizeBody) : Nat := if b.setMaster then b.master else f.master

/-- The segments of the new rung, of the ladders that hold it. -/
def rungSegs (f : Facet) (rung : Nat) : List Segment :=
  f.ladders.filterMap fun e => (SMap.look e.2.rungs rung).map (·.seg)

/-- The MALFORMED rules of R362 and R422. -/
def resizeOk (f : Facet) (b : ResizeBody) : Bool :=
  let cores := NSet.ofList b.cores
  cores.all (fun c => decide (c < 544)) && b.channels.all (fun c => decide (c < 256)) &&
    b.halfPorts.all (fun h => decide (h < 12)) && (!b.setMaster || decide (b.master < 32)) &&
    (!b.setLimits || (decide (b.timeLimit ≤ 500) && decide (b.peerTimeout ≤ 1000) && decide (b.minRate < 65536))) &&
    (settingsOnly f b ||
      (f.rungs.contains cores.length && clustersOk cores && !b.channels.isEmpty &&
        cores.any (fun c => clusterOfCore c == newMaster f b) && movesOk f b &&
        (rungSegs f cores.length).all (fun g => fits g cores) &&
        (removedChans f b).all fun c => f.map.all fun e => e.2.channel != c || !f.poolSlots.contains e.1))

/-- The answer to FACET_RESIZE (R362, R371, R536). -/
def resizeReply (b : ResizeBody) (s : State) : Reply :=
  match facetOf s b.facet with
  | none => { status := syNotFound }
  | some f =>
    let cores := (NSet.ofList b.cores).filter fun c => !f.cores.contains c
    let chans := (NSet.ofList b.channels).filter fun c => !f.channels.contains c
    let ports := (NSet.ofList b.halfPorts).filter fun h => !f.halfPorts.contains h
    if tdiLocked s f.fn then { status := syDenied }
    else if !resizeOk f b then { status := syMalformed }
    else if !settingsOnly f b && f.ladders.any fun e => !SMap.has e.2.rungs (NSet.ofList b.cores).length then { status := syNotFound }
    else if f.state != 2 || f.resize.isSome || f.destroying.isSome || updateBusy s || resourcesClosed s cores chans ports then
      { status := syBusy }
    else if settingsOnly f b then { status := syOk }
    else if !resourcesFree s cores chans ports then { status := syNoSpace }
    else { status := syAccepted }

/-- The settings under flags bit 1. -/
def applyLimits (b : ResizeBody) (f : Facet) : Facet :=
  if b.setLimits then
    { f with minRate := b.minRate, timeLimit := if b.timeLimit = 0 then 20 else b.timeLimit,
             peerTimeout := if b.peerTimeout = 0 then 100 else b.peerTimeout }
  else f

/-- Begin a slot move (R365). -/
def beginMove (n : Nat) (m : Nat × Nat) (s : State) : State :=
  updFacet n (slotsToCopy m.1 m.2) (updChan m.1 (fun c => { c with copy := some { target := m.2 } }) s)

/-- Steps 1 to 4 of R363. -/
def beginResize (b : ResizeBody) (t : Ticket) (s : State) : State :=
  match facetOf s b.facet with
  | none => s
  | some f =>
    let n := b.facet
    let cores := NSet.ofList b.cores
    let added := addedChans f b
    let r : Resize :=
      { ticket := some t, cores := cores, channels := NSet.ofList b.channels, halfPorts := NSet.ofList b.halfPorts,
        master := newMaster f b, rung := cores.length, moves := b.moves, oldChannels := removedChans f b
        added := NSet.ofList (added ++ b.moves.map (·.2)), addedPorts := NSet.diff (NSet.ofList b.halfPorts) f.halfPorts }
    let f1 := applyLimits b { f with
      state := 3, resize := some r, channels := NSet.union f.channels b.channels,
      halfPorts := NSet.union f.halfPorts b.halfPorts, map := addSlots added f.map }
    let s1 := bindChans n (added ++ b.moves.map (·.2)) (bindCores n (cores.filter fun c => !f.cores.contains c) s)
    let s2 := setFacet n (addLoads (resizeLoads s1 f cores cores.length) f1) (spoilWindows (portMasters r.addedPorts) s1)
    b.moves.foldl (fun u m => beginMove n m u) s2

/-- The request that changes only settings: it takes effect at once. -/
def settleResize (b : ResizeBody) (s : State) : State := updFacet b.facet (applyLimits b) s

def facetResizeEff (h : Req) (b : ResizeBody) (s : State) : State :=
  if retiring s b.facet then s
  else
    let s1 := if inHand h s && (gate h opFacetResize true s).isNone && decide (16 ≤ h.respLen) &&
        (resizeReply b s).status == syOk then settleResize b s else s
    serveJob h opFacetResize true (fun _ => resizeReply b s) (beginResize b (ticketOf h opFacetResize)) s1

/-- FACET_RESIZE (R362, R363). A request that changes only settings is answered OK. -/
def execFacetResize (fn : Nat) (s : State) : Host.Outcome State Fault Refusal :=
  checked (okFn fn) s (onRequest fn layFacetResize fun h b => facetResizeEff h (resizeBody b))

/-- A step run of a facet's serving is in progress (R437). -/
def stepRunning (s : State) (n : Nat) : Bool :=
  match (SMap.look s.serve n).bind (·.step) with
  | some p => p.started
  | none => false

def placementSwitchEff (n : Nat) (s : State) : State :=
  match facetOf s n with
  | none => s
  | some f =>
    match f.resize with
    | none => s
    | some r =>
      if r.switched || uncleared s r.cores || !f.loads.isEmpty || f.switching.isSome || f.running.isSome || f.eclipse.isSome || stepRunning s n ||
          f.replace.isSome then s
      else switchPlacement n f r s

/-- PLACEMENT_SWITCH (R363 step 5, R366, R382): at a command boundary with the loads done. -/
def execPlacementSwitch (facet : Nat) (s : State) : Host.Outcome State Fault Refusal :=
  checked (okFacet facet) s (placementSwitchEff facet)

/-- Step 7 of R363: ACTIVE and REQUEST_DONE; a destruction that waited starts (R382). -/
def finishResize (n : Nat) (s : State) : State :=
  match facetOf s n with
  | none => s
  | some f =>
    match f.resize with
    | none => s
    | some r =>
      if r.switched && r.drained && r.moves.isEmpty then
        let s1 := requestDoneOpt r.ticket syOk
          (setFacet n { f with resize := none, state := if f.state = 3 then 2 else f.state } s)
        match f.destroying with
        | some t => destroyFacet n (some t) s1
        | none => nextFailure n (retryBlocked s1)
      else s

def resizeOldPlacementDrainedEff (n : Nat) (s : State) : State :=
  match facetOf s n with
  | none => s
  | some f =>
    match f.resize with
    | none => s
    | some r =>
      if !r.switched || r.drained then s
      else
        let gone (c : Nat) : Bool := r.oldChannels.contains c
        let f1 := { f with
          resize := some { r with drained := true }, channels := NSet.diff f.channels r.oldChannels,
          halfPorts := r.halfPorts, map := f.map.filter fun e => !gone e.2.channel }
        let s1 := leaveClusters r.oldCores f.cores f.channels
          (spoilWindows (portMasters (NSet.diff f.halfPorts r.halfPorts)) s)
        finishResize n (forAll r.oldChannels (fun c t => zeroChan c 1 t)
          (freeOldTrees n (setFacet n f1 (forAll r.oldCores releaseCore s1))))

/-- RESIZE_OLD_PLACEMENT_DRAINED (R363 step 6). -/
def execResizeOldPlacementDrained (facet : Nat) (s : State) : Host.Outcome State Fault Refusal :=
  checked (okFacet facet) s (resizeOldPlacementDrainedEff facet)

/-- The last frame of a slot move has switched. -/
def moveEnded (s : State) (source : Nat) : Bool :=
  match (chanOf s source).copy with
  | some c => c.frame == 32768
  | none => false

def slotMoveDoneEff (n source : Nat) (s : State) : State :=
  match (facetOf s n).bind (·.resize) with
  | none => s
  | some r =>
    if (r.moves.any fun m => m.1 == source) && moveEnded s source then
      let upd (f : Facet) : Facet :=
        { f with channels := NSet.del f.channels source
                 resize := some { r with moves := r.moves.filter fun m => m.1 != source } }
      finishResize n (zeroChan source 1 (updFacet n upd (updChan source (fun c => { c with copy := none }) s)))
    else s

/-- SLOT_MOVE_DONE (R363 step 7, R365). -/
def execSlotMoveDone (facet source : Nat) (s : State) : Host.Outcome State Fault Refusal :=
  checked (okFacet facet && okChan source) s (slotMoveDoneEff facet source)

/-! ## A core replaced (R367) -/

/-- Engines of a core that are in service or out of it for good. -/
def coreInService (s : State) (c : Nat) : Bool := (enginesOf c).all fun e => (engineOf s e).status == 1

def coreReplacementDoneEff (n failed : Nat) (s : State) : State :=
  match facetOf s n with
  | none => s
  | some f =>
    match f.replace with
    | none => s
    | some r =>
      let due := f.loads.any fun e => coreOfEngine (e.1 / 2) == r.spare
      if r.failed = failed && (coreOf s r.spare).cleared && coreInService s r.spare && !due && f.running.isNone &&
          !stepRunning s n then
        let s1 := rebuildTrees n (setFacet n { substLadders failed r.spare f with replace := none } s)
        nextFailure n (raiseFw [0, f.fn] evFacetCoreReplaced f.fn n (failed + r.spare * 2 ^ 16) none f.confidential s1)
      else s

/-- CORE_REPLACEMENT_DONE (R367 step 5): the spare is cleared, calibrated and loaded, and the mapping changes at a command
boundary (R131). -/
def execCoreReplacementDone (facet failed : Nat) (s : State) : Host.Outcome State Fault Refusal :=
  checked (okFacet facet && okCore failed) s (coreReplacementDoneEff facet failed)

/-! ## Clearing ends (R158) -/

/-- A creation that waited for its cores ends (R163). -/
def joinedCreate (n : Nat) (s : State) : State := if ((facetOf s n).map (·.joined)).getD false then finishCreate n s else s

/-- CORE_CLEARING_DONE (R158): the core may be bound; one that is a facet's spare is. -/
def coreClearingDoneEff (c : Nat) (s : State) : State :=
  if (coreOf s c).powered then
    forAll (s.facets.map (·.1)) joinedCreate (readyCheck (bindSpare c (updCore c (fun x => { x with cleared := true }) s)))
  else s

def execCoreClearingDone (c : Nat) (s : State) : Host.Outcome State Fault Refusal :=
  checked (okCore c) s (coreClearingDoneEff c)

/-! ## Parking (R27, R56, R57, R369) -/

def stacksOfHalf (east : Bool) : List Nat := (List.range 8).filter fun k => eastChan (k * 32) == east
def chansOfHalf (east : Bool) : List Nat := (List.range 256).filter fun c => eastChan c == east
def portsOfHalf (east : Bool) : List Nat := (List.range 6).filter fun p => eastPort p == east

/-- Address of a half's core rail (R488). -/
def halfRail (east : Bool) : Nat := if east then 1 else 0

def setParked (east b : Bool) (s : State) : State :=
  { s with pwr := if east then { s.pwr with eastParked := b } else { s.pwr with westParked := b } }

/-- The channels over a half go into self-refresh, their caches written back and empty (R205), or leave it. -/
def selfRefreshHalf (east b : Bool) (s : State) : State :=
  let s1 := if b then forAll (stacksOfHalf east) mscFlushStack s else s
  forAll (chansOfHalf east) (fun c t => updChan c (fun x => { x with selfRefresh := b }) t) s1

/-- Steps 2 to 4 of R56. -/
def parkHalf (east : Bool) (s : State) : State :=
  let s1 := portsDown (portsOfHalf east) (selfRefreshHalf east true s)
  let s2 := { s1 with
    pwr := { s1.pwr with railsOn := NSet.del s1.pwr.railsOn (halfRail east) }
    time := if east then { s1.time with eastRate := 0 } else { s1.time with westRate := 0 } }
  setParked east true (powerDownHalf east s2)

/-- Step 5 of R56. -/
def unparkHalf (east : Bool) (s : State) : State :=
  let s1 := { s with pwr := { s.pwr with railsOn := NSet.add s.pwr.railsOn (halfRail east) } }
  portsTrain (portsOfHalf east) (setCalStage east 0 (selfRefreshHalf east false (powerUpHalf east s1)))

/-- Whether R27 or R57 refuses a park. -/
def parkBusy (east : Bool) (s : State) : Bool :=
  s.pwr.park.isSome || updateBusy s ||
    (if east then s.facets.any (fun e => inHalf e.2 true) else !s.facets.isEmpty)

def parkReply (half : Nat) (s : State) : Reply :=
  if 1 < half then { status := syMalformed }
  else if parked s (half == 1) && s.pwr.park.isNone then { status := syOk }
  else if parkBusy (half == 1) s then { status := syBusy }
  else { status := syAccepted }

def facetParkEff (h : Req) (half : Nat) (s : State) : State :=
  serveJob h opFacetPark true (parkReply half)
    (fun t => requestDone (ticketOf h opFacetPark) syOk (parkHalf (half == 1) t)) s

/-- FACET_PARK (R56 steps 1 to 4, R369). -/
def execFacetPark (fn : Nat) (s : State) : Host.Outcome State Fault Refusal :=
  checked (okFn fn) s (onRequest fn (layPark 0) fun h b => facetParkEff h (field b 0 1))

def unparkReply (half : Nat) (s : State) : Reply :=
  if 1 < half then { status := syMalformed }
  else if !parked s (half == 1) then { status := syOk }
  else if s.pwr.park.isSome || updateBusy s then { status := syBusy }
  else { status := syAccepted }

def facetUnparkEff (h : Req) (half : Nat) (s : State) : State :=
  serveJob h opFacetPark true (unparkReply half) (fun t =>
    let t1 := unparkHalf (half == 1) t
    { t1 with pwr := { t1.pwr with park := some ⟨half, true, 6, some (ticketOf h opFacetPark)⟩ } }) s

/-- FACET_UNPARK (R56 step 5, R369). -/
def execFacetUnpark (fn : Nat) (s : State) : Host.Outcome State Fault Refusal :=
  checked (okFn fn) s (onRequest fn (layPark 1) fun h b => facetUnparkEff h (field b 0 1))

/-- Every function's event state has been restored (R309). -/
def markRestored (s : State) : State := forAll (List.range 64) (fun f t => updFn f (fun r => { r with restored := true }) t) s

/-- Every core of a half but the dark reserve is cleared (R158). -/
def halfCleared (s : State) (east : Bool) : Bool :=
  (coresOfHalf east).all fun c => (coreOf s c).status == 0 || (coreOf s c).cleared

def halfUnparkReadyEff (half : Nat) (s : State) : State :=
  match s.pwr.park with
  | none => s
  | some p =>
    let east := half == 1
    if p.unpark && p.half == half && calStage s east == 3 && halfCleared s east then
      let s1 := setParked east false { s with pwr := { s.pwr with park := none } }
      retryBlocked (requestDoneOpt p.ticket syOk (if east then s1 else markRestored s1))
    else s

/-- HALF_UNPARK_READY (R56 step 6). -/
def execHalfUnparkReady (half : Nat) (s : State) : Host.Outcome State Fault Refusal :=
  checked (okTwo half) s (halfUnparkReadyEff half)

end Sys2Proof.Machine
end

