-- ==== Sys2Proof/Machine/Weights.lean ====
section
/-! DEFINITION. Segments and weight sets of a facet: SEGMENT_LOAD (05 R127 to R132, 12 R355, R356) and WEIGHT_SET_LOAD and
UNLOAD (17 R528 to R533, 07 R217 to R219). -/

namespace Sys2Proof.Machine

/-! ## Segments -/

/-- An accepted command that has not completed names a ladder (R356). -/
def ladderNamed (s : State) (n ladder : Nat) : Bool :=
  s.cmds.any fun e => e.2.facet == n &&
    match e.2.desc.payload with
    | .runSegment l _ => l == ladder
    | .configure a => a.ladder == ladder || a.draftLadder == ladder
    | _ => false

/-- A rung that a ladder may take: it holds none of this size and runs on the same weight set (R356). -/
def ladderTakes (f : Facet) (ladder : Nat) (g : Segment) : Bool :=
  match SMap.look f.ladders ladder with
  | none => true
  | some l => !SMap.has l.rungs g.coreCount && l.weightSet == g.weightSet

/-- The segment in the container that a request names (R127, R132). -/
def segOf (b : SegBody) : Option Segment := decodeSegment (b.container.take b.length)

/-- Handle of the ladder that a request's segment goes to. -/
def segHandle (f : Facet) (b : SegBody) : Nat := if b.ladder = 0 then f.nextLadder else b.ladder

/-- What SEGMENT_LOAD does: its answer, and where it is taken the facet as it becomes with the loaded segment (R132, R355, R356). -/
def segmentReply (h : Req) (b : SegBody) (s : State) : Reply × Option (Facet × Loaded) :=
  match facetOf s b.facet with
  | none => ({ status := syNotFound }, none)
  | some f =>
    if f.fn != h.fn then ({ status := syDenied }, none)
    else if b.containerAddr % 64 != 0 || decide (268435456 < b.length) then ({ status := syMalformed }, none)
    else match segOf b with
    | none => ({ status := syMalformed }, none)
    | some g =>
      if !segmentOk f g || !ladderTakes f b.ladder g then ({ status := syMalformed }, none)
      else if b.ladder != 0 && !SMap.has f.ladders b.ladder then ({ status := syNotFound }, none)
      else if f.state == 4 || decide ((freePrisms s).length < g.prisms.length) then ({ status := syBusy }, none)
      else match takeBytes s b.facet g.size f with
      | none => ({ status := syNoSpace }, none)
      | some (frames, f1) =>
        let handle := segHandle f b
        let l : Loaded := ⟨g, frames, if g.coreCount = f.rung then (fitMapping g f.cores).getD [] else []⟩
        let old := (SMap.look f.ladders handle).getD ⟨g.weightSet, []⟩
        let new : Ladder := { old with rungs := SMap.put old.rungs g.coreCount l }
        ({ status := syOk, body := toLe 4 handle ++ toLe 4 0 },
          some ({ f1 with ladders := SMap.put f.ladders handle new
                          nextLadder := if b.ladder = 0 then f.nextLadder + 1 else f.nextLadder }, l))

/-- The copy of a container in the facet's frames (R127), and its prism trees (R130, R175). -/
def storeSegment (b : SegBody) (ladder : Nat) (f : Facet) (l : Loaded) (s : State) : State :=
  addTrees (segTrees b.facet ladder f.rung l)
    (writePieces b.facet (copyPieces l.frames 0 l.seg.size) (b.container.take l.seg.size) (setFacet b.facet f s))

def segmentLoadEff (h : Req) (b : SegBody) (s : State) : State :=
  serve h opSegmentLoad true (fun t =>
    let r := segmentReply h b t
    match r.2, facetOf t b.facet with
    | some (f, l), some old => (r.1, storeSegment b (segHandle old b) f l t)
    | _, _ => (r.1, t)) s

/-- SEGMENT_LOAD (R132, R355, R356): answered once its copy and its prism trees stand (log 13). -/
def execSegmentLoad (fn : Nat) (container : List Byte) (s : State) : Host.Outcome State Fault Refusal :=
  checked (okFn fn) s (onRequest fn (laySegment 0) fun h b => segmentLoadEff h (segBody b container))

def segmentUnloadReply (h : Req) (n ladder : Nat) (s : State) : Reply :=
  match facetOf s n with
  | none => { status := syNotFound }
  | some f =>
    if f.fn != h.fn then { status := syDenied }
    else if !SMap.has f.ladders ladder then { status := syNotFound }
    else if ladderNamed s n ladder then { status := syBusy }
    else { status := syOk, body := toLe 4 ladder ++ toLe 4 0 }

/-- A facet without a ladder; its copies' frames are free. -/
def dropLadder (ladder : Nat) (f : Facet) : Facet :=
  match SMap.look f.ladders ladder with
  | none => f
  | some l => dropFrames (l.rungs.flatMap fun e => e.2.frames) { f with ladders := SMap.del f.ladders ladder }

def segmentUnloadEff (h : Req) (n ladder : Nat) (s : State) : State :=
  serve h opSegmentLoad true (fun t =>
    let r := segmentUnloadReply h n ladder t
    if r.status = syOk then
      (r, freeTrees (fun x => x.facet == n && x.ladder == ladder) (updFacet n (dropLadder ladder) t))
    else (r, t)) s

/-- SEGMENT_LOAD with UNLOAD (R356, R175). -/
def execSegmentUnload (fn : Nat) (s : State) : Host.Outcome State Fault Refusal :=
  checked (okFn fn) s (onRequest fn (laySegment 1) fun h b => segmentUnloadEff h (field b 0 1) (field b 4 4))

/-! ## Weight sets -/

/-- The header and index in the container that a request names (R529, R530). -/
def wsOf (b : WsBody) : Option WsHeader := decodeWeightSet (b.container.take b.length)

/-- The rules of R529, R530 and R532 over a header and its request. -/
def weightBodyOk (b : WsBody) (h : WsHeader) : Bool :=
  h.headerSet == b.setId && b.containerAddr % 4096 == 0 && decide (b.length ≤ 549755813888) &&
    (!h.sealedKey || b.keySlot == 0) && h.rungs.all fun r => r.entries.all fun e => decide (e.chunk < h.chunkCount)

/-- The status of a request's key: its slot's, or its binding set's (R532). -/
def weightKey (h : Req) (b : WsBody) (w : WsHeader) (s : State) : Nat :=
  if w.sealedKey then (if SMap.has s.sec.bindings w.bindingSet then syOk else syNotFound)
  else match SMap.look s.sec.weightSlots b.keySlot with
  | none => syNotFound
  | some o => if o.owner = h.fn then syOk else syDenied

/-- The frames of a set that a facet holds. -/
def framesOfSet (w : WSet) : List Nat := w.frames ++ w.replicaFrames ++ w.streamFrames

/-- A facet without a set. -/
def dropSet (set : Nat) (f : Facet) : Facet :=
  match SMap.look f.sets set with
  | none => f
  | some w => dropFrames (framesOfSet w) { f with sets := SMap.del f.sets set }

/-- Free frames of a facet over one stack. -/
def freeOnStack (fill : Nat) (f : Facet) (stack : Nat) : Nat :=
  f.map.foldl (fun n e =>
    if e.2.channel / 32 = stack then
      let base := e.1 * 32768
      let low := if f.poolSlots.contains e.1 then fill else 0
      n + (32768 - low - (f.used.filter fun u => decide (base + low ≤ u) && decide (u < base + 32768)).length)
    else n) 0

/-- The stack with the most free frames, apart from one. -/
def bestStack (fill : Nat) (f : Facet) (but : Option Nat) : Nat :=
  ((List.range 8).filter fun k => some k != but).foldl (fun a k =>
    if freeOnStack fill f a < freeOnStack fill f k || some a == but then k else a) 0

/-- Take `n` pairs of frames, the two of a pair over different stacks: each time from the two stacks with the most free frames, so
that a placement is found wherever one exists (R217). -/
def takePairs (fill : Nat) : Nat → List Nat → List Nat → Facet → Option (List Nat × List Nat × Facet)
  | 0, a, b, f => some (a.reverse, b.reverse, f)
  | n + 1, a, b, f =>
    let k := bestStack fill f none
    match freeFrameIf (fun m => m.channel / 32 == k) fill f,
          freeFrameIf (fun m => m.channel / 32 == bestStack fill f (some k)) fill f with
    | some x, some y => takePairs fill n (x :: a) (y :: b) { f with used := NSet.add (NSet.add f.used x) y }
    | _, _ => none

/-- The cluster whose engines load an image: that of the logical engine's core in a ladder that runs on the set (R87, R530). -/
def imageCluster (f : Facet) (set count engine : Nat) : Option Nat :=
  ((f.ladders.find? fun e => e.2.weightSet == set).bind fun e => SMap.look e.2.rungs count).bind fun l =>
    (SMap.look l.mapping (engine / 8)).map clusterOfCore

/-- Clusters of the images of a stream image, in order. -/
def imageClusters (f : Facet) (set : Nat) (h : WsHeader) : List (Option Nat) :=
  (h.rungs.filter (·.streamed)).flatMap fun r => r.entries.map fun e => imageCluster f set r.coreCount e.engine

/-- Take a frame for each image, in a near channel of its cluster where one is free (R87 step 2). -/
def takeImages (fill : Nat) : List (Option Nat) → List Nat → Facet → Option (List Nat × Facet)
  | [], acc, f => some (acc.reverse, f)
  | k :: r, acc, f =>
    let near := match k with
      | some c => freeFrameIf (fun m => homeOf m.channel == c) fill f
      | none => none
    match near.or (freeFrame fill f) with
    | some x => takeImages fill r (x :: acc) { f with used := NSet.add f.used x }
    | none => none

/-- The facet with the frames of a set taken: its copies, and its stream image. A stream image that finds no frames leaves no room
for the set (DESIGN CHOICE, log 12: R532 names the copies only). -/
def placeSet (s : State) (b : WsBody) (h : WsHeader) (f : Facet) : Option (List Nat × List Nat × List Nat × Facet) :=
  let fill := poolFill s b.facet
  let n := framesFor b.length
  let copies := if b.replicated then takePairs fill n [] [] f else (takeFrames fill n [] f).map fun x => (x.1, [], x.2)
  copies.bind fun c => (takeImages fill (imageClusters f b.setId h) [] c.2.2).map fun i => (c.1, c.2.1, i.1, i.2)

/-- The lowest free weight key slot of 0 to 63. -/
def freeWeightSlot (s : State) : Nat := lowestFrom (s.sec.weightSlots.map (·.1)) 0

/-- A set that a facet holds and that is not quarantined (R532). -/
def setHeld (f : Facet) (set : Nat) : Bool :=
  match SMap.look f.sets set with
  | some w => !w.quarantined
  | none => false

def weightReply (h : Req) (b : WsBody) (s : State) : Reply :=
  match facetOf s b.facet with
  | none => { status := syNotFound }
  | some f =>
    if f.fn != h.fn then { status := syDenied }
    else match wsOf b with
    | none => { status := syMalformed }
    | some w =>
      if !weightBodyOk b w then { status := syMalformed }
      else if weightKey h b w s != syOk then { status := weightKey h b w s }
      else if !b.tagOk || (w.sealedKey && !b.unwrapOk) then { status := syRejected }
      else if setHeld f b.setId || f.state == 4 then { status := syBusy }
      else if (placeSet s b w (dropSet b.setId f)).isNone || (w.sealedKey && decide (63 < freeWeightSlot s)) then
        { status := syNoSpace }
      else { status := syAccepted }

/-- The sealed slot of a set that is replaced or unloaded is free again (R532, R533). -/
def freeSetSlot (f : Facet) (set : Nat) (s : State) : State :=
  match SMap.look f.sets set with
  | some w => if w.sealedSet then freeWeightSlots [w.keySlot] s else s
  | none => s

/-- The weight key of a sealed container: its wrapped key under the key of its binding set (R529, R532). -/
def sealedKeyOf (s : State) (b : WsBody) (h : WsHeader) : List Byte :=
  Config.keyUnwrap (((SMap.look s.sec.bindings h.bindingSet).map (·.key)).getD []) (slice b.container 0x20 40)

/-- The set takes its frames and its key slot, and the container's bytes are copied into its frames. -/
def loadSet (b : WsBody) (t : Ticket) (s : State) : State :=
  match facetOf s b.facet, wsOf b with
  | some f, some h =>
    match placeSet s b h (dropSet b.setId f) with
    | none => s
    | some (l, l2, l3, f1) =>
      let s1 := freeSetSlot f b.setId s
      let slot := if h.sealedKey then freeWeightSlot s1 else b.keySlot
      let s2 := if h.sealedKey then
          { s1 with sec := { s1.sec with weightSlots := SMap.put s1.sec.weightSlots slot ⟨64, sealedKeyOf s1 b h⟩ } }
        else s1
      let w : WSet :=
        { keySlot := slot, sealedSet := h.sealedKey, replicated := b.replicated, hdr := h
          frames := l, replicaFrames := l2, streamFrames := l3, ticket := some t }
      let s3 := setFacet b.facet { f1 with sets := SMap.put f1.sets b.setId w } s2
      let copy (frames : List Nat) (u : State) : State :=
        writePieces b.facet (copyPieces frames 0 b.length) (b.container.take b.length) u
      copy l2 (copy l s3)
  | _, _ => s

def weightSetLoadEff (h : Req) (b : WsBody) (s : State) : State :=
  serveJob h opWeightSetLoad true (weightReply h b) (loadSet b (ticketOf h opWeightSetLoad)) s

/-- WEIGHT_SET_LOAD (R532). A quarantined set is replaced (R219). -/
def execWeightSetLoad (fn : Nat) (container : List Byte) (tagOk unwrapOk : Bool) (s : State) : Host.Outcome State Fault Refusal :=
  checked (okFn fn) s (onRequest fn layWeightLoad fun h b => weightSetLoadEff h (wsBody b container tagOk unwrapOk))

/-- The engines of a facet that a quarantined set held go on: their rewrites may run (R219). -/
def releaseHeldSet (n set : Nat) (e : Nat) (s : State) : State :=
  let x := engineOf s e
  let mine (p : Plane) : Bool := match p.src with
    | .chunk f w _ => f == n && w == set
    | .stream f w _ => f == n && w == set
    | _ => false
  if x.heldSet && mine (activePlane x) then setEngine e { x with heldSet := false } s else s

/-- One chunk through the sealed path into the stream image (R87): from the first copy, else from the replica with the repair of
R218; where neither is good the set is quarantined (R219). Answers whether the image stands. -/
def makeImage (n set i : Nat) (x : StreamImage) (s : State) : Bool × State :=
  match setOf s n set with
  | none => (false, s)
  | some w =>
    match imageChunk w i, w.streamFrames[i]? with
    | some c, some fr =>
      let r1 := readChunk n w false c s
      let put (u : State) : State := (faWrite privVia n 1 (fr * 65536) (takePad 65536 x.image) u).2
      if x.outcome = 0 && r1.1.isSome then (true, put r1.2)
      else
        let r2 := readChunk n w true c r1.2
        if w.replicated && decide (x.outcome ≤ 1) && r2.1.isSome then
          (true, put (raiseRepaired n set c (rewriteChunk n w false c r2.2)))
        else (false, quarantine n set c r2.2)
    | _, _ => (false, s)

/-- The stream image, image by image, until one is lost. -/
def makeImages (n set : Nat) (images : List StreamImage) : List Nat → State → Bool × State
  | [], s => (true, s)
  | i :: r, s =>
    let x := makeImage n set i (images.getD i ⟨0, []⟩) s
    if x.1 then makeImages n set images r x.2 else x

def weightSetLoadDoneEff (n set : Nat) (images : List StreamImage) (s : State) : State :=
  match facetOf s n with
  | none => s
  | some f =>
    match SMap.look f.sets set with
    | none => s
    | some w =>
      if w.ready then s
      else
        let r := makeImages n set images (List.range w.streamFrames.length) s
        forAll (f.cores.flatMap enginesOf) (releaseHeldSet n set)
          (requestDoneOpt w.ticket (if r.1 then syOk else syRejected)
            (updSet n set (fun y => { y with ready := true, ticket := none }) r.2))

/-- WEIGHT_SET_LOAD_DONE (R87, R219, R532): for a streamed rung the stream image is built, image i from `images` (log 12). A set
whose stream image cannot be built is quarantined, and its request ends REJECTED (DESIGN CHOICE, log 12). -/
def execWeightSetLoadDone (facet set : Nat) (images : List StreamImage) (s : State) : Host.Outcome State Fault Refusal :=
  checked (okFacet facet) s (weightSetLoadDoneEff facet set images)

/-- R96 and R356: the planes hold the set, a switch to it runs, or an accepted command names a ladder that runs on it. -/
def setBusy (s : State) (n : Nat) (f : Facet) (set : Nat) (w : WSet) : Bool :=
  !w.ready || f.planesSet == some set || (f.switching.map (·.2)) == some set || (f.loads.any fun e => e.2.1 == set) ||
    f.ladders.any fun e => e.2.weightSet == set && ladderNamed s n e.1

def weightSetUnloadReply (h : Req) (n set : Nat) (s : State) : Reply :=
  match facetOf s n with
  | none => { status := syNotFound }
  | some f =>
    if f.fn != h.fn then { status := syDenied }
    else match SMap.look f.sets set with
    | none => { status := syNotFound }
    | some w => if setBusy s n f set w then { status := syBusy } else { status := syOk }

def weightSetUnloadEff (h : Req) (n set : Nat) (s : State) : State :=
  serve h opWeightSetUnload true (fun t =>
    let r := weightSetUnloadReply h n set t
    match facetOf t n with
    | some f => if r.status = syOk then (r, freeSetSlot f set (setFacet n (dropSet set f) t)) else (r, t)
    | none => (r, t)) s

/-- WEIGHT_SET_UNLOAD (R533). -/
def execWeightSetUnload (fn : Nat) (s : State) : Host.Outcome State Fault Refusal :=
  checked (okFn fn) s (onRequest fn layWeightUnload fun h b => weightSetUnloadEff h (field b 0 1) (field b 4 4))

end Sys2Proof.Machine
end

