-- ==== Sys2Proof/Machine/Sched.lean ====
section
/-! DEFINITION. The placement at a command boundary (11 R329, R330, 14 R434, R437, 15 R467 to R469, 05 R159): choice of the
next command, weight switches, the start of a RUN_SEGMENT or of a step run on the cores, and its DISPATCH to members. -/

namespace Sys2Proof.Machine

def setServe (n : Nat) (v : Serve) (s : State) : State := { s with serve := SMap.put s.serve n v }
/-- Change the serving state of a facet, if it has one. -/
def updServe (n : Nat) (g : Serve → Serve) (s : State) : State := { s with serve := SMap.modify s.serve n g }
/-- Change the step in progress of a facet. -/
def updStep (n : Nat) (g : Step → Step) (s : State) : State := updServe n (fun v => { v with step := v.step.map g }) s

/-! ## Candidates (R467, R468) -/

/-- A command may start: a dispatched one has no queue to hold it back. -/
def mayStartRun (s : State) (id : Nat) : Bool :=
  match cmdOf s id with
  | none => false
  | some c => if c.remote.isSome then c.phase == .waiting && c.ready else mayStart s id

/-- The ready RUN_SEGMENT commands of a facet, in order of acceptance. -/
def candidates (s : State) (n : Nat) : List Nat :=
  (cmdsWhere s fun c => c.facet == n && isRun c.desc.payload).filter (mayStartRun s)

def ladderOf (c : Cmd) : Nat :=
  match c.desc.payload with
  | .runSegment l _ => l
  | _ => 0

/-- Virtual time and share of a command's context; a dispatched step run has none and comes first. -/
def candKey (s : State) (id : Nat) : Nat × Nat :=
  match (cmdOf s id).bind fun c => SMap.look s.ctxs c.desc.context with
  | some x => (vtOf x, x.weight)
  | none => (0, 65536)

/-- Lowest virtual time; ties go to the higher share, then to the earlier acceptance. -/
def goesBefore (s : State) (a b : Nat) : Bool :=
  let x := candKey s a
  let y := candKey s b
  decide (x.1 < y.1) || (x.1 == y.1 && (decide (y.2 < x.2) || (x.2 == y.2 && decide (a < b))))

def bestOf (s : State) : List Nat → Option Nat
  | [] => none
  | a :: r =>
    match bestOf s r with
    | none => some a
    | some b => some (if goesBefore s a b then a else b)

/-- Whether a ladder needs a weight switch before its current rung runs (R469). -/
def ladderSwitches (f : Facet) (ladder : Nat) : Bool :=
  match currentSeg f ladder with
  | some l => !l.seg.streamed && f.planesSet != some l.seg.weightSet
  | none => false

def needsSwitch (s : State) (f : Facet) (id : Nat) : Bool :=
  match cmdOf s id with
  | some c => ladderSwitches f (ladderOf c)
  | none => false

/-- A candidate that needs a switch is passed over for one that needs none unless its virtual time is lower by more than
switch_margin, in units of 0.1 ms, over its share. -/
def passedOver (s : State) (b c : Nat) : Bool :=
  !(decide ((candKey s c).1 + s.reg.switchMargin * 100000 * 65536 / Nat.max 1 (candKey s c).2 < (candKey s b).1))

/-- The choice of R468. -/
def chooseRun (s : State) (n : Nat) (f : Facet) : Option Nat :=
  let l := candidates s n
  if s.reg.switchMargin = 0 then bestOf s l
  else
    match bestOf s (l.filter fun c => !needsSwitch s f c) with
    | none => bestOf s l
    | some b => bestOf s (l.filter fun c => !needsSwitch s f c || !passedOver s b c)

/-! ## What stops a start -/

/-- The status of a ladder that cannot run: no segment on the current rung, or its weight set absent or not ready, is
BAD_HANDLE (R330, R357; log 13); a quarantined set is WEIGHT_POISON (R219). -/
def ladderStatus (f : Facet) (ladder : Nat) : Option Nat :=
  match currentSeg f ladder with
  | none => some stBadHandle
  | some l =>
    match SMap.look f.sets l.seg.weightSet with
    | none => some stBadHandle
    | some w => if w.quarantined then some stWeightPoison else if w.ready then none else some stBadHandle

/-- An engine of the placement holds the next command: a full calibration runs on a shadow plane that is not free, or that
plane is being restored after one (R111). -/
def calHolds (s : State) (f : Facet) (e : Nat) : Bool :=
  let x := engineOf s e
  let p := shadowPlane x
  match x.cal with
  | some c => c.prev != .empty && c.prev != .calibration
  | none =>
    match p.loading, p.src with
    | true, .chunk _ _ _ => !SMap.has f.loads (loadKey e (!x.active1))
    | _, _ => false

/-- The placement starts nothing now: the facet has not joined, has no rung, runs work, switches weights, replaces a core or
is due to, is in an eclipse, holds its next command for a calibration (R111) or for the loads of a TWO_PLANE rung (R364); compute is
not up. -/
def placementHeld (s : State) (n : Nat) (f : Facet) : Bool :=
  !f.joined || f.state == 1 || f.rung == 0 || f.running.isSome || f.switching.isSome || f.replace.isSome || f.eclipse.isSome ||
    f.state == 4 || stepRunning s n || !computeUp s || s.pwr.halt.isSome ||
    !f.failWait.isEmpty || (f.cores.any fun c => (enginesOf c).any (calHolds s f)) ||
    match f.resize with
    | some r => !r.switched && !f.loads.isEmpty && anyTwoPlane f r.rung
    | none => false

/-! ## Starting the cores -/

/-- Context-change zeroing (R159). -/
def zeroData (x : Core) : Core :=
  { x with scratch := Mem.zero x.scratch 0 Config.dataRegion, acc := [], vreg := [], feed := [], accBad := [], inq := []
           scratchBad := x.scratchBad.filter fun b => decide (Config.dataRegion ≤ b) }

/-- A core starts a command's program: zeroed first where the context changes; event counters at their start (R140). A context is
known by its number alone, so that a number bound anew counts as the same context (DESIGN CHOICE, log 39: R159 compares contexts
and does not say what a number that was unbound and bound again counts as). -/
def startCore (id ctx : Nat) (events : SMap Nat) (x : Core) : Core :=
  let y := if x.lastCtx = some ctx then x else zeroData x
  { y with cmd := some id, lastCtx := some ctx, events := events, ended := false, atBarrier := none, waiting := none
           waitFor := none, snap := none, pc := 0, done := [], fbuf := [], part := [] }

def startCores (id ctx : Nat) (events : SMap Nat) (cs : List Nat) (s : State) : State :=
  forAll cs (fun c t => updCore c (startCore id ctx events) t) s

/-- The sequencers of the cores that start fill their fetch buffers (R133). -/
def fetchAll (id : Nat) (cs : List Nat) (s : State) : State := forAll cs (fun c t => fetchOps c id 256 t) s

/-- LTC_HALF_RATE of the halves that hold some cores: the lower one (R475). -/
def lowRate (s : State) (cs : List Nat) : Nat :=
  let w := cs.any fun c => !eastCore c
  let e := cs.any eastCore
  if w && e then Nat.min s.time.westRate s.time.eastRate else if e then s.time.eastRate else s.time.westRate

/-- solo_estimate × 1,600 ÷ r (R475). -/
def scaledEstimate (s : State) (cs : List Nat) (solo : Nat) : Nat := solo * 1600 / Nat.max 1 (lowRate s cs)

/-- Send DISPATCH to one member (R374, R399). False where it cannot leave. -/
def dispatchOne (n id ctx set : Nat) (args : List Nat) (dev : Nat) (s : State) : Bool × State :=
  let t : Txn := { bareTxn s 0x10 n with context := ctx, addr := set, data := (args.take 7).flatMap (toLe 8) }
  sendTxn ⟨some n, 2, 2, dev, t,
    some { port := 0, op := 0x10, facet := n, cmd := id, dest := dev, endpoint := false }⟩ s

/-- One more, or one fewer, DISPATCH_DONE is due for a piece of work. -/
def addDue (id : Nat) (s : State) : State :=
  if 2 ^ 32 ≤ id then updStep (id - 2 ^ 32) (fun p => { p with due := p.due + 1 }) s
  else updCmd id (fun c => { c with members := c.members + 1 }) s

def dropDue (id : Nat) (s : State) : State :=
  if 2 ^ 32 ≤ id then updStep (id - 2 ^ 32) (fun p => { p with due := p.due - 1 }) s
  else updCmd id (fun c => { c with members := c.members - 1 }) s

/-- DISPATCH to every member; one that cannot be reached counts as a peer that does not answer. -/
def dispatchAll (n id ctx set : Nat) (args : List Nat) (s : State) : State :=
  forAll (((facetOf s n).map (·.memberDevs)).getD []) (fun d t =>
    let r := dispatchOne n id ctx set args d t
    if r.1 then addDue id r.2 else meetStatus id stPeerTimeout d r.2) s

/-- Event counters at the start: those of a step run that the master has dispatched are raised (R434, R440). -/
def startEvents (c : Cmd) : SMap Nat := if c.remote.isSome && c.desc.context == 0 then [(2, 1), (3, 1)] else []

/-- Step 7 of R329 for a RUN_SEGMENT. -/
def startRun (id : Nat) (s : State) : State :=
  match cmdOf s id with
  | none => s
  | some c =>
    match (facetOf s c.facet).bind fun f => currentSeg f (ladderOf c) with
    | none => s
    | some l =>
      let cs := coresOfSeg l
      let args := match c.desc.payload with
        | .runSegment _ a => a
        | _ => []
      let s1 := updCmd id (fun x => { x with cores := cs, scaled := scaledEstimate s cs l.seg.soloEstimate }) (startCmd id s)
      let s2 := updFacet c.facet (fun f => { f with
        running := some id, chosen := none, lastCtx := c.desc.context, boundaryCals := []
        planesSet := if l.seg.streamed then none else f.planesSet }) (startCores id c.desc.context (startEvents c) cs s1)
      dispatchAll c.facet id c.desc.context l.seg.weightSet args (fetchAll id cs s2)

/-- Begin a weight switch for a command or a step run (R469): the planes of the placement are refilled. -/
def beginSwitch (n id ladder : Nat) (s : State) : State :=
  match facetOf s n with
  | none => s
  | some f =>
    match currentSeg f ladder with
    | none => s
    | some l =>
      setFacet n { f with
        loads := refillLoads s f ladder (fun _ => true), switching := some (id, l.seg.weightSet), planesSet := none
        chosen := if id < 2 ^ 32 then some id else f.chosen } s

/-! ## Step runs (R434, R437, R440) -/

/-- Ladder of a run: 0 is the target run. -/
def runLadder (v : Serve) (run : Nat) : Nat := if run = 0 then v.ladder else v.draftLadder

/-- Start the run of a step that stands next: on the cores at once, or after a weight switch. -/
def launchRun (n : Nat) (s : State) : State :=
  match facetOf s n, SMap.look s.serve n with
  | some f, some v =>
    match v.step with
    | none => s
    | some p =>
      let h := runLadder v p.run
      let s0 := updStep n (fun q => { q with started := true, startedAt := ltcOf s f.master }) s
      match ladderStatus f h with
      | some st => meetStatus (stepRun n) st 0 s0
      | none =>
        if ladderSwitches f h then beginSwitch n (stepRun n) h s0
        else
          match currentSeg f h with
          | none => s0
          | some l =>
            let s1 := startCores (stepRun n) 0 [(2, 1), (3, 1)] (coresOfSeg l) s0
            let s2 := updFacet n (fun x => { x with lastCtx := 0, boundaryCals := [], planesSet := if l.seg.streamed then none else x.planesSet }) s1
            dispatchAll n (stepRun n) 0 l.seg.weightSet
              [stepAreaVa v, Config.poolBase + (windowParts v).1, 0, 0, 0, 0, 0] (fetchAll (stepRun n) (coresOfSeg l) s2)
  | _, _ => s

/-- A built step that has not started. -/
def stepWaits (s : State) (n : Nat) : Option Step :=
  match (SMap.look s.serve n).bind (·.step) with
  | some p => if p.started || p.done then none else some p
  | none => none

/-- WRITEs of a step's area to members are still unanswered (R440). -/
def stepWritesDue (s : State) (n : Nat) : Bool :=
  s.vxl.outst.any fun e => e.2.op == 0x03 && e.2.cmd == stepRun n

/-- Start the step that waits, if its turn has come: in acceptance order with the ready RUN_SEGMENT commands, once its copies
are done. -/
def tryStartStep (n : Nat) (s : State) : State :=
  match facetOf s n, stepWaits s n with
  | some f, some p =>
    if placementHeld s n f || !p.copiesDone || stepWritesDue s n || f.chosen.isSome ||
        (candidates s n).any (fun c => decide (c < p.acceptedAt)) then s
    else launchRun n s
  | _, _ => s

/-! ## Rows -/

/-- Ready commands whose ladder cannot run complete without running (R330, R357). -/
def rejectRuns (n : Nat) (s : State) : State :=
  match facetOf s n with
  | none => s
  | some f =>
    forAll (candidates s n) (fun id t =>
      match (cmdOf t id).bind fun c => ladderStatus f (ladderOf c) with
      | some st => endUnstarted id st 0 t
      | none => t) s

/-- Take a command as the next: its weight switch begins, or it is chosen to start. -/
def pickRun (n id : Nat) (f : Facet) (s : State) : State :=
  if needsSwitch s f id then
    match cmdOf s id with
    | some c => beginSwitch n id (ladderOf c) s
    | none => s
  else setFacet n { f with chosen := some id } s

def placementScheduleEff (n : Nat) (s : State) : State :=
  match facetOf s n with
  | none => s
  | some f =>
    if placementHeld s n f then s
    else
      let s1 := rejectRuns n s
      match facetOf s1 n with
      | none => s1
      | some g =>
        if (match g.chosen with
            | some id => mayStartRun s1 id
            | none => false) then s1
        else
          let g1 := { g with chosen := none }
          let s2 := setFacet n g1 s1
          if ((SMap.look s.serve n).map (·.configured)).getD false then
            match stepWaits s2 n, candidates s2 n with
            | some p, c :: _ => if c < p.acceptedAt then pickRun n c g1 s2 else tryStartStep n s2
            | some _, [] => tryStartStep n s2
            | none, c :: _ => pickRun n c g1 s2
            | none, [] => s2
          else
            match chooseRun s2 n g1 with
            | some c => pickRun n c g1 s2
            | none => s2

/-- PLACEMENT_SCHEDULE (R437, R468): at a command boundary the placement chooses its next command; in a facet with a
configured table it takes step runs and commands in acceptance order. -/
def execPlacementSchedule (facet : Nat) (s : State) : Host.Outcome State Fault Refusal :=
  checked (okFacet facet) s (placementScheduleEff facet)

def runSegmentEff (id : Nat) (s : State) : State :=
  match cmdOf s id with
  | none => s
  | some c =>
    match facetOf s c.facet with
    | none => s
    | some f =>
      if !isRun c.desc.payload || f.chosen != some id || placementHeld s c.facet f || !mayStartRun s id then s
      else
        match ladderStatus f (ladderOf c) with
        | some st => endUnstarted id st 0 (setFacet c.facet { f with chosen := none } s)
        | none => if needsSwitch s f id then beginSwitch c.facet id (ladderOf c) s else startRun id s

/-- RUN_SEGMENT (R329 step 7, R330): the chosen command starts on the placement. -/
def execRunSegment (cmd : Nat) (s : State) : Host.Outcome State Fault Refusal :=
  checked true s (runSegmentEff cmd)

/-- Loads of a resize whose switch is to come, for the set that the planes hold now. -/
def resizeReload (s : State) (f : Facet) : SMap (Nat × Nat) :=
  match f.resize with
  | some r => if r.switched then [] else resizeLoads s f r.cores r.rung
  | none => []

def weightSwitchDoneEff (n : Nat) (s : State) : State :=
  match facetOf s n with
  | none => s
  | some f =>
    match f.switching with
    | none => s
    | some (id, set) =>
      if !f.loads.isEmpty || f.eclipse.isSome then s
      else
        let f1 := { f with switching := none, planesSet := some set }
        let s1 := setFacet n (addLoads (resizeReload s f1) f1) s
        if 2 ^ 32 ≤ id then launchRun n s1 else runSegmentEff id s1

/-- WEIGHT_SWITCH_DONE (R469): the last load of the refill has ended; the command or step run starts. -/
def execWeightSwitchDone (facet : Nat) (s : State) : Host.Outcome State Fault Refusal :=
  checked (okFacet facet) s (weightSwitchDoneEff facet)

end Sys2Proof.Machine
end

