-- ==== Sys2Proof/Machine/Queue.lean ====
section
/-! DEFINITION. Doorbells, resident slots, fetch and checks of a command, the commands that the queue engine, the cluster DMA
and the invalidation unit carry out, and completion (11 R320 to R343, 15 R470). -/

namespace Sys2Proof.Machine

/-! ## Completion records (R324, R334) -/

/-- Code of a payload's opcode (R328). -/
def opcodeOf : Payload → Nat
  | .nop => 0x00
  | .runSegment _ _ => 0x01
  | .copy _ => 0x02
  | .fill _ => 0x03
  | .fenceSignal _ => 0x04
  | .fenceWait _ _ => 0x05
  | .configure _ => 0x10
  | .seqAdmit _ => 0x10
  | .seqCancel _ => 0x11
  | .stateExport _ => 0x12
  | .stateImport _ => 0x13
  | .shadowInvalidate _ _ _ _ => 0x20
  | .reserved c => c

/-- Flags of a completion record, phase bit apart. -/
def recordFlags (c : Cmd) : Nat := 2 * b2n c.lostCtx + 4 * b2n c.ran + 8 * b2n c.signalled + 16 * b2n c.regress

/-- The 32-byte record, phase 0. -/
def recordOf (c : Cmd) : List Byte :=
  toLe 8 c.desc.tag ++ toLe 1 c.status ++ toLe 1 (recordFlags c) ++ toLe 1 c.runStatus ++ toLe 1 (opcodeOf c.desc.payload) ++
    toLe 2 c.desc.context ++ toLe 2 c.index ++ toLe 8 c.detail ++ toLe 4 c.duration ++ toLe 4 0

/-- Phase of the record that a queue writes next. -/
def queuePhase (q : Queue) : Bool := q.completed / 2 ^ q.compLog2 % 2 == 0

/-- Set bit 0 of the flags of a record. -/
def withPhase (p : Bool) (r : List Byte) : List Byte := r.take 9 ++ toLe 1 ((r.getD 9 0).toNat + b2n p) ++ r.drop 10

/-- Write a record and fire the queue's source (R324). -/
def writeRecord (n : Nat) (r : List Byte) (s : State) : State :=
  match SMap.look s.queues n with
  | none => s
  | some q =>
    let place := q.compBase + 32 * (q.completed % 2 ^ q.compLog2)
    let tail := (q.completed + 1) % 65536
    let s1 := updFacet q.facet (fun f => { f with progress := f.progress + 1 })
      (setQueue n { q with completed := tail } (emit (.hostWrite q.fn place (withPhase (queuePhase q) r)) s))
    if q.source = 0 then s1
    else fireSource q.fn q.source (shapeGlint evCompletion q.fn n tail none (confFacet s1 q.facet)) s1

/-- Write a record, or keep it until the ring has room. -/
def putRecord (n : Nat) (r : List Byte) (s : State) : State :=
  match SMap.look s.queues n with
  | none => s
  | some q =>
    if compRoom q && q.waiting.isEmpty then writeRecord n r s
    else setQueue n { q with waiting := q.waiting ++ [r] } s

/-- Write records that waited, as the ring has room. -/
def drainRecords (n : Nat) : List (List Byte) → State → State
  | [], s => updQueue n (fun q => { q with waiting := [] }) s
  | r :: rest, s =>
    match SMap.look s.queues n with
    | none => s
    | some q => if compRoom q then drainRecords n rest (writeRecord n r s) else setQueue n { q with waiting := r :: rest } s

/-! ## Doorbells (R320 to R322) -/

/-- A difference of free-running counts. -/
def cnt (a b : Nat) : Nat := (a + 65536 - b) % 65536

/-- QUEUE_OVERRUN to the queue's function. -/
def queueOverrun (n value : Nat) (head : Bool) (q : Queue) (s : State) : State :=
  raiseTo [q.fn] evQueueOverrun q.fn n (value + b2n head * 2 ^ 63) none (confFacet s q.facet) s

def dbSubmitEff (f n tail : Nat) (s : State) : State :=
  match SMap.look s.queues n with
  | none => s
  | some q =>
    if q.fn != f || q.destroying.isSome then s
    else if cnt tail q.completed ≤ 2 ^ q.subLog2 && decide (cnt tail q.tail ≤ cnt tail q.completed) then
      setQueue n { q with tail := tail } s
    else queueOverrun n tail false q s

/-- DB_SUBMIT (R320, R321). -/
def execDbSubmit (fn queue tail : Nat) (s : State) : Host.Outcome State Fault Refusal :=
  checked (okFn fn && decide (queue < 16384) && decide (tail < 65536)) s (dbSubmitEff fn queue tail)

def dbCompHeadEff (f n head : Nat) (s : State) : State :=
  match SMap.look s.queues n with
  | none => s
  | some q =>
    if q.fn != f then s
    else if cnt head q.compHead ≤ cnt q.completed q.compHead then
      drainRecords n q.waiting (setQueue n { q with compHead := head } s)
    else queueOverrun n head true q s

/-- DB_COMP_HEAD (R320, R322, R324). -/
def execDbCompHead (fn queue head : Nat) (s : State) : Host.Outcome State Fault Refusal :=
  checked (okFn fn && decide (queue < 16384) && decide (head < 65536)) s (dbCompHeadEff fn queue head)

/-! ## Resident slots (R323, R470) -/

/-- Submitted commands not yet fetched. -/
def unfetched (q : Queue) : Nat := cnt q.tail q.fetched

def residents (s : State) : List Nat := (s.queues.filter fun e => e.2.resident).map (·.1)

/-- Queues that wait for a slot. -/
def slotWaiters (s : State) : List Nat :=
  (s.queues.filter fun e => !e.2.resident && e.2.destroying.isNone && decide (0 < unfetched e.2)).map (·.1)

/-- A resident queue with nothing in hand and nothing to fetch. -/
def idleResident (s : State) : Option Nat :=
  (s.queues.find? fun e => e.2.resident && e.2.current.isNone && unfetched e.2 == 0).map (·.1)

def giveSlot (n : Nat) (s : State) : State := updQueue n (fun q => { q with resident := true, marked := false }) s
def takeSlot (n : Nat) (s : State) : State := updQueue n (fun q => { q with resident := false, marked := false }) s

def residentSlotAssignEff (n : Nat) (s : State) : State :=
  if !(slotWaiters s).contains n then s
  else if (residents s).length < Config.residentSlots then giveSlot n s
  else
    match idleResident s with
    | some m => giveSlot n (takeSlot m s)
    | none => s

/-- RESIDENT_SLOT_ASSIGN (R323): a slot that is free, or whose queue has nothing in hand, goes to a queue that waits. -/
def execResidentSlotAssign (queue : Nat) (s : State) : Host.Outcome State Fault Refusal :=
  checked true s (residentSlotAssignEff queue)

/-- Rank of a queue for a review: context 0 below every virtual time, an unbound context above every one, and a queue with
no command in hand last (R470). `next` gives the contexts of descriptors not yet fetched. -/
def slotRank (next : List (Nat × Nat)) (s : State) (n : Nat) : Nat × Nat :=
  let ctx : Option Nat :=
    match (SMap.look s.queues n).bind (·.current) with
    | some id => (cmdOf s id).map (·.desc.context)
    | none => (next.find? fun e => e.1 == n).map (·.2)
  match ctx with
  | none => (3, 0)
  | some 0 => (0, 0)
  | some c =>
    match SMap.look s.ctxs c with
    | some x => (1, vtOf x)
    | none => (2, 0)

def rankLt (a b : Nat × Nat) : Bool := decide (a.1 < b.1) || (a.1 == b.1 && decide (a.2 < b.2))

/-- The queue with the lowest, and with the highest, rank. -/
def lowestRank (next : List (Nat × Nat)) (s : State) : List Nat → Option Nat
  | [] => none
  | a :: r =>
    match lowestRank next s r with
    | none => some a
    | some b => some (if rankLt (slotRank next s b) (slotRank next s a) then b else a)

def highestRank (next : List (Nat × Nat)) (s : State) : List Nat → Option Nat
  | [] => none
  | a :: r =>
    match highestRank next s r with
    | none => some a
    | some b => some (if rankLt (slotRank next s a) (slotRank next s b) then b else a)

def isPrivileged (s : State) (n : Nat) : Bool := ((SMap.look s.queues n).map (·.privileged)).getD false

/-- Between commands: no command in hand that has started. -/
def betweenCommands (s : State) (n : Nat) : Bool := ((SMap.look s.queues n).map (·.current.isNone)).getD true

/-- Up to eight moves or marks over the queues that wait (R470). -/
def reviewLoop (next : List (Nat × Nat)) : Nat → List Nat → State → State
  | 0, _, s => s
  | k + 1, w, s =>
    if (residents s).length < Config.residentSlots then
      let pr := w.filter (isPrivileged s)
      match lowestRank next s (if s.reg.privFirst && !pr.isEmpty then pr else w) with
      | none => s
      | some q => reviewLoop next k (w.filter (· != q)) (giveSlot q s)
    else
      match lowestRank next s w,
        highestRank next s ((residents s).filter fun h => !((SMap.look s.queues h).map (·.marked)).getD false) with
      | some q, some h =>
        if rankLt (slotRank next s q) (slotRank next s h) then
          if betweenCommands s h then reviewLoop next k (w.filter (· != q)) (giveSlot q (takeSlot h s))
          else reviewLoop next k (w.filter (· != q)) (updQueue h (fun x => { x with marked := true }) s)
        else s
      | _, _ => s

def slotReviewEff (next : List (Nat × Nat)) (s : State) : State := reviewLoop next 8 (slotWaiters s) s

/-- SLOT_REVIEW (R470). -/
def execSlotReview (next : List (Nat × Nat)) (s : State) : Host.Outcome State Fault Refusal :=
  checked true s (slotReviewEff next)

/-! ## The format check (R318, R326 to R333, R335, R339, R345) -/

/-- Two ranges of one space overlap. -/
def overlaps (a b n : Nat) : Bool := decide (0 < n) && decide (a < b + n) && decide (b < a + n)

/-- Bad fields of a COPY or FILL, by offset within the payload. -/
def copyBad (fill priv : Bool) (ctx : Nat) (a : CopyArgs) : List (Nat × Bool) :=
  let spaces := if fill then [a.dstSpace] else [a.srcSpace, a.dstSpace]
  [(0x00, !fill && a.srcSpace == a.dstSpace && overlaps a.src a.dst a.length),
   (0x10, decide (2 ^ 30 < a.length)),
   (0x14, spaces.any (fun x => decide (2 < x)) || (fill && a.srcSpace != 0) ||
     (!priv && spaces.any (fun x => x == 1 || x == 2)) || (ctx == 0 && spaces.contains 0)),
   (0x15, decide (1 < a.dstHint) || decide (2 < a.srcHint) || (fill && a.srcHint != 0)),
   (0x18, !fill && a.pattern != 0)]

/-- Bad fields of a fence list. -/
def fencesBad (count : Nat) (l : List (Nat × Nat)) : List (Nat × Bool) :=
  (0x00, l.isEmpty || decide (5 < l.length)) ::
    ((List.range l.length).zip l).map fun x => (0x08 + 16 * x.1, decide (count ≤ x.2.1))

/-- An output ring as a record names it (R428). -/
def sourceOk (n : Nat) : Bool := n == 0 || (decide (0x100 ≤ n) && decide (n ≤ 0x1FFF))

/-- Step budget of a facet's mode (R416). -/
def budgetOk (v : Serve) (n : Nat) : Bool :=
  if v.table then decide (1 ≤ n) && decide (n ≤ 8192) else decide (512 ≤ n) && decide (n ≤ 16384)

def payloadBad (s : State) (q : Queue) (d : Desc) : List (Nat × Bool) :=
  match d.payload with
  | .nop => []
  | .runSegment _ args => ((List.range 7).zip args).map fun x => (0x08 + 8 * x.1, decide (2 ^ 48 ≤ x.2))
  | .copy a => copyBad false q.privileged d.context a
  | .fill a => copyBad true q.privileged d.context a
  | .fenceSignal l => fencesBad q.fenceCount l
  | .fenceWait _ l => fencesBad q.fenceCount l
  | .configure a =>
    match SMap.look s.serve q.facet with
    | none => []
    | some v =>
      [(0x0C, !budgetOk v a.budget), (0x0E, decide (16 < a.draftLen) || (a.draftLadder == 0 && a.draftLen != 0))]
  | .seqAdmit a => [(0x08, a.record % 64 != 0), (0x14, (a.donor == 0) != (a.shared == 0))]
  | .seqCancel _ => []
  | .stateExport _ => []
  | .stateImport a =>
    [(0x08, a.seqId == 0 || decide (0xFFFFFFFE < a.seqId)), (0x0D, decide (a.outLog2 < 6) || decide (16 < a.outLog2)),
     (0x0E, !sourceOk a.outSource), (0x10, a.outRing % 4096 != 0)]
  | .shadowInvalidate _ all va pages =>
    if all then [(0x08, va != 0), (0x10, pages != 0)]
    else [(0x08, va % 65536 != 0 || decide (2 ^ 48 ≤ va)), (0x10, decide (2 ^ 48 < va + pages * 65536))]
  | .reserved _ => []

/-- Opcodes that context 0 may carry on a privileged queue (R318). -/
def ctx0Ok : Payload → Bool
  | .nop => true
  | .copy _ => true
  | .fill _ => true
  | .fenceSignal _ => true
  | .fenceWait _ _ => true
  | .shadowInvalidate _ _ _ _ => true
  | _ => false

def isInvalidate : Payload → Bool
  | .shadowInvalidate _ _ _ _ => true
  | _ => false

def isReserved : Payload → Bool
  | .reserved _ => true
  | _ => false

/-- Byte offset of the first bad field of a descriptor, if any (R329 step 4, R335). -/
def descBad (s : State) (q : Queue) (d : Desc) : Option Nat :=
  if isReserved d.payload then some 0
  else
    let own : List (Nat × Bool) :=
      [(0x00, isInvalidate d.payload && !q.privileged), (0x02, d.context == 0 && (!q.privileged || !ctx0Ok d.payload)),
       (0x08, d.waitEn && decide (q.fenceCount ≤ d.waitFence)), (0x0C, d.signalEn && decide (q.fenceCount ≤ d.signalFence))]
    let rsv : List Nat := match d.rsv with
      | some n => [n]
      | none => []
    let bad := rsv ++ (own.filter (·.2)).map (·.1) ++ ((payloadBad s q d).filter (·.2)).map fun x => payloadBase + x.1
    match bad with
    | [] => none
    | a :: r => some (r.foldl Nat.min a)

/-! ## Fetch (R329 steps 1 to 6) -/

/-- The status of steps 2 to 5 that completes a command, with its detail. -/
def fetchStatus (s : State) (q : Queue) (d : Desc) : Option (Nat × Nat) :=
  let bound := match SMap.look s.ctxs d.context with
    | some c => c.facet == q.facet && c.fn == q.fn && c.unbinding.isNone
    | none => false
  if d.context != 0 && !bound then some (stBadHandle, 0)
  else if d.context != 0 && s.lost.contains d.context then some (stContextLost, 0)
  else match descBad s q d with
  | some n => some (stMalformed, n)
  | none => if (fnOf s q.fn).quiesced then some (stQuiesced, 0) else none

/-- The halves of a facet come out of dim at its first work (R497). -/
def undimFacet (n : Nat) (s : State) : State :=
  match facetOf s n with
  | none => s
  | some f =>
    { s with pwr := { s.pwr with
      westDim := s.pwr.westDim && !f.cores.any fun c => !eastCore c
      eastDim := s.pwr.eastDim && !f.cores.any eastCore } }

def commandFetchEff (n : Nat) (d : Desc) (s : State) : State :=
  match SMap.look s.queues n with
  | none => s
  | some q =>
    if !q.resident || q.marked || q.destroying.isSome || q.current.isSome || unfetched q == 0 || !computeUp s ||
        s.pwr.fetchStop || s.pwr.westParked then s
    else
      match facetOf s q.facet with
      | none => s
      | some f =>
        let id := s.nextCmd
        let c : Cmd := { queue := n, index := q.fetched, fn := q.fn, facet := q.facet, report := q.report, desc := d,
                         clk := f.master, acceptedAt := ltcOf s f.master }
        let s1 := setCmd id c (setQueue n { q with fetched := (q.fetched + 1) % 65536, current := some id }
          (undimFacet q.facet { s with nextCmd := id + 1 }))
        match fetchStatus s q d with
        | some x => endUnstarted id x.1 x.2 s1
        | none => checkWaits id s1

/-- COMMAND_FETCH (R329 steps 1 to 6) with the 128 bytes that the queue's ring holds at its next place. Rings lie in host
memory, beyond the west half (R27). -/
def execCommandFetch (queue : Nat) (bytes : List Byte) (s : State) : Host.Outcome State Fault Refusal :=
  checked true s (commandFetchEff queue (descOf bytes))

/-- FENCE_REREAD (R341). -/
def execFenceReread (cmd : Nat) (s : State) : Host.Outcome State Fault Refusal :=
  checked true s (checkWaits cmd)

def commandDeadlineExpiryEff (id : Nat) (s : State) : State :=
  match cmdOf s id with
  | none => s
  | some c =>
    if c.desc.deadline = 0 || c.remote.isSome then s
    else
      match c.phase with
      | .waiting => endUnstarted id stDeadlineMissed 0 s
      | .running => setCmd id { c with late := true } s
      | .ended => s

/-- COMMAND_DEADLINE_EXPIRY (R336, R348). -/
def execCommandDeadlineExpiry (cmd : Nat) (s : State) : Host.Outcome State Fault Refusal :=
  checked true s (commandDeadlineExpiryEff cmd)

/-! ## Commands of the queue engine (R328, R332) -/

/-- Start a command whose payload holds a property and let it act; otherwise nothing happens. -/
def startWith (id : Nat) (p : Payload → Bool) (act : Cmd → State → State) (s : State) : State :=
  match cmdOf s id with
  | none => s
  | some c => if p c.desc.payload && mayStart s id then act c (startCmd id s) else s

def isNop : Payload → Bool
  | .nop => true
  | _ => false

def isFenceWait : Payload → Bool
  | .fenceWait _ _ => true
  | _ => false

def isFenceSignal : Payload → Bool
  | .fenceSignal _ => true
  | _ => false

def nopEff (id : Nat) (s : State) : State := startWith id isNop (fun _ => finishCmd id) s

/-- NOP (R328). -/
def execNop (cmd : Nat) (s : State) : Host.Outcome State Fault Refusal := checked true s (nopEff cmd)

def fenceWaitEff (id : Nat) (s : State) : State := startWith id isFenceWait (fun _ => finishCmd id) s

/-- FENCE_WAIT (R332): it has waited at step 6. -/
def execFenceWait (cmd : Nat) (s : State) : Host.Outcome State Fault Refusal := checked true s (fenceWaitEff cmd)

/-- Signal a list of fences in order for a command; the first access that fails stops it. -/
def signalList (id : Nat) (q : Queue) : List (Nat × Nat) → State → State
  | [], s => s
  | (i, v) :: r, s =>
    let x := signalFence q i v s
    match x.1 with
    | .inr e => meetStatus id e.1 e.2 x.2
    | .inl reg => signalList id q r (if reg then updCmd id (fun c => { c with regress := true }) x.2 else x.2)

def fenceSignalEff (id : Nat) (s : State) : State :=
  startWith id isFenceSignal (fun c t =>
    match c.desc.payload, SMap.look t.queues c.queue with
    | .fenceSignal l, some q => finishCmd id (signalList id q l t)
    | _, _ => t) s

/-- FENCE_SIGNAL (R332). -/
def execFenceSignal (cmd : Nat) (s : State) : Host.Outcome State Fault Refusal :=
  checked true s (fenceSignalEff cmd)

/-! ## COPY and FILL (R331, R344, R345) -/

/-- The unit that moves a command's bytes: the master cluster's DMA, or the page-migration engine on a privileged queue. -/
def cmdMover (s : State) (id : Nat) (c : Cmd) : Mover :=
  let priv := ((SMap.look s.queues c.queue).map (·.privileged)).getD false
  let k := ((facetOf s c.facet).map (·.master)).getD c.clk
  ⟨k, if priv then privVia else ⟨some k, facetClass s c.facet⟩, id, c.desc.context, c.facet, c.fn⟩

/-- Run a transfer of a command that starts or that a translation made wait; it ends unless it waits again. -/
def runTransfer (id : Nat) (p : Payload → Bool) (move : Cmd → State → Option Stop × State) (s : State) : State :=
  match cmdOf s id with
  | none => s
  | some c =>
    if !p c.desc.payload || !(mayStart s id || (c.phase == .running && c.met.isEmpty)) then s
    else
      let r := move c (if c.phase = .running then s else startCmd id (dmaWorks (cmdMover s id c).cluster c.facet s))
      match r.1 with
      | none => finishCmd id r.2
      | some .wait => r.2
      | some (.fail st d) => finishCmd id (takeStop id (.fail st d) r.2)

def copyMove (id : Nat) (host : List Byte) (c : Cmd) (s : State) : Option Stop × State :=
  match c.desc.payload with
  | .copy a =>
    let m := cmdMover s id c
    let r := moverRead m a.srcSpace a.srcHint a.src a.length host s
    match r.1 with
    | .inr e => (some e, r.2)
    | .inl d => moverWrite m a.dstSpace a.dstHint a.dst d.1 r.2
  | _ => (none, s)

def isCopy : Payload → Bool
  | .copy _ => true
  | _ => false

def isFill : Payload → Bool
  | .fill _ => true
  | _ => false

def copyEff (id : Nat) (host : List Byte) (s : State) : State := runTransfer id isCopy (copyMove id host) s

/-- COPY (R331). `hostData` is what the source reads of host memory. -/
def execCopy (cmd : Nat) (hostData : List Byte) (s : State) : Host.Outcome State Fault Refusal :=
  checked true s (copyEff cmd hostData)

/-- Byte k of the target receives pattern byte k mod 8. -/
def fillBytes (pattern n : Nat) : List Byte :=
  let p := toLe 8 pattern
  (List.range n).map fun k => p.getD (k % 8) 0

def fillMove (id : Nat) (c : Cmd) (s : State) : Option Stop × State :=
  match c.desc.payload with
  | .fill a => moverWrite (cmdMover s id c) a.dstSpace a.dstHint a.dst (fillBytes a.pattern a.length) s
  | _ => (none, s)

def fillEff (id : Nat) (s : State) : State := runTransfer id isFill (fillMove id) s

/-- FILL (R331). -/
def execFill (cmd : Nat) (s : State) : Host.Outcome State Fault Refusal := checked true s (fillEff cmd)

/-! ## SHADOW_INVALIDATE (R333) -/

def shadowInvalidateEff (id : Nat) (s : State) : State :=
  match cmdOf s id with
  | none => s
  | some c =>
    if !mayStart s id then s
    else
      match c.desc.payload with
      | .shadowInvalidate target all va pages =>
        let good := match SMap.look s.ctxs target with
          | some x => x.fn == c.fn
          | none => false
        if !good then endUnstarted id stBadHandle 0 s
        else if !all && pages == 0 then finishCmd id (startCmd id s)
        else takeInval ⟨0, some id, c.fn, [target], false, va, pages * 65536, all, 0, []⟩ (startCmd id s)
      | _ => s

/-- SHADOW_INVALIDATE (R273, R333). -/
def execShadowInvalidate (cmd : Nat) (s : State) : Host.Outcome State Fault Refusal :=
  checked true s (shadowInvalidateEff cmd)

/-! ## Completion (R329 step 8, R334 to R343) -/

/-- Work of an id has ended on its cores: every one has completed END, or it has met a status that loses the context. -/
def coresEnded (s : State) (id : Nat) (cs : List Nat) (met : List (Nat × Nat)) : Bool :=
  met.any (fun e => losesContext e.1) || cs.all fun c => (coreOf s c).cmd != some id || (coreOf s c).ended

/-- The cores leave their command. -/
def freeCores (id : Nat) (cs : List Nat) (s : State) : State :=
  forAll cs (fun c t => updCore c (fun x =>
    if x.cmd = some id then { x with cmd := none, ended := false, atBarrier := none, waiting := none, waitFor := none, snap := none, inq := [] }
    else x) t) s

/-- Convert what the engines of some cores still hold (R105). -/
def checkCores (cs : List Nat) (s : State) : State := forAll (cs.flatMap enginesOf) checkHeld s

/-- A facet is in an eclipse; its work is ended by it (R484). -/
def inEclipse (s : State) (n : Nat) : Bool := ((facetOf s n).map (·.eclipse.isSome)).getD false

/-- A running RUN_SEGMENT that has ended on its cores and its members is judged (R105, R347). -/
def endRun (id : Nat) (s : State) : State :=
  match cmdOf s id with
  | none => s
  | some c =>
    if c.phase == .running && isRun c.desc.payload && c.members == 0 && !inEclipse s c.facet && coresEnded s id c.cores c.met then
      finishCmd id (checkCores c.cores s)
    else s

/-- Placement and monitors when a RUN_SEGMENT completes (R357, R475). -/
def leavePlacement (id : Nat) (c : Cmd) (s : State) : State :=
  let good := c.status == stOk || c.status == stNumericSuspect
  updFacet c.facet (fun f => { f with
    running := if f.running = some id then none else f.running
    chosen := if f.chosen = some id then none else f.chosen
    slowDur := if good && c.ran then f.slowDur + c.duration else f.slowDur
    slowEst := if good && c.ran then f.slowEst + c.scaled else f.slowEst
    slowN := if good && c.ran then f.slowN + 1 else f.slowN }) (freeCores id c.cores s)

/-- Counts of a completion (R123, R473, R477). -/
def countCompletion (c : Cmd) (s : State) : State :=
  let missed := b2n (c.status == stDeadlineMissed)
  let suspect := c.status == stNumericSuspect
  updFacet c.facet (fun f => { f with
    suspects := f.suspects + b2n suspect, suspectAt := if suspect then some (mcNow s) else f.suspectAt
    checked := f.checked + (if c.desc.deadline = 0 then 0 else 1)
    missed := f.missed + (if c.desc.deadline = 0 then 0 else missed) })
    (updCtx c.desc.context (fun x => { x with acct := { x.acct with
      commands := x.acct.commands + 1, misses := x.acct.misses + missed } }) s)

/-- R343: signal the command's own fence. A failing access is a status of the command where it ran (R339, R347). -/
def signalOwn (id : Nat) (s : State) : State :=
  match cmdOf s id with
  | none => s
  | some c =>
    let good := c.status == stOk || c.status == stNumericSuspect
    match SMap.look s.queues c.queue with
    | none => s
    | some q =>
      if !c.desc.signalEn || !(good || c.desc.signalOnError) || decide (q.fenceCount ≤ c.desc.signalFence) then s
      else
        let x := signalFence q c.desc.signalFence c.desc.signalValue s
        match x.1 with
        | .inl reg => updCmd id (fun y => { y with signalled := true, regress := y.regress || reg }) x.2
        | .inr e =>
          if !c.ran then x.2
          else
            let r := combineStatus (c.met ++ [e])
            let st := if c.late then stDeadlineMissed else r.1
            let c1 := { decideCmd x.2 c st r.1 (if c.late then 0 else r.2) true with duration := c.duration }
            let s1 := setCmd id c1 x.2
            if lossOf c st r.1 then loseContext c.desc.context s1 else s1

/-- A command that a DISPATCH began answers with DISPATCH_DONE (R399, R400). -/
def answerDispatch (c : Cmd) (r : Remote) (s : State) : State :=
  sendReply (some c.facet) r.src { r.txn with op := 0x11, addr := c.status, data := [], encrypted := false } s

/-- Step 8 of R329 for an ended command: the fence, the record, the queue. -/
def completeCmd (id : Nat) (s : State) : State :=
  let s1 := signalOwn id s
  match cmdOf s1 id with
  | none => s1
  | some c =>
    let s2 := countCompletion c (leavePlacement id c { s1 with cmds := SMap.del s1.cmds id })
    match c.remote with
    | some r => answerDispatch c r s2
    | none =>
      putRecord c.queue (recordOf c) (updQueue c.queue (fun q => { q with
        current := if q.current = some id then none else q.current
        resident := q.resident && !q.marked, marked := false }) s2)

def commandCompleteEff (id : Nat) (s : State) : State :=
  let s1 := endRun id s
  match cmdOf s1 id with
  | none => s1
  | some c => if c.phase = .ended then completeCmd id s1 else s1

/-- COMMAND_COMPLETE (R329 step 8): the command has ended. -/
def execCommandComplete (cmd : Nat) (s : State) : Host.Outcome State Fault Refusal :=
  checked true s (commandCompleteEff cmd)

end Sys2Proof.Machine
end

