-- ==== Sys2Proof/Machine/Serve.lean ====
section
/-! DEFINITION. The serving state of a facet (14): access to the pool window, blocks, the sequence record as bytes, output
rings, END records, and accesses to the pooled tier. -/

namespace Sys2Proof.Machine

/-! ## Sequences by slot -/

def seqAt (s : State) (n slot : Nat) : Option Seq := (SMap.look s.serve n).bind fun v => SMap.look v.seqs slot
def updSeq (n slot : Nat) (g : Seq → Seq) (s : State) : State := updServe n (fun v => { v with seqs := SMap.modify v.seqs slot g }) s
/-- Slot of a sequence of a table. -/
def slotOfSeq (v : Serve) (seqId : Nat) : Option Nat := (v.seqs.find? fun e => e.2.rec_.seqId == seqId).map (·.1)
/-- Imports of a facet that hold a reserved slot (R457): slot and sequence. -/
def reservations (s : State) (n : Nat) : List (Nat × Nat) :=
  s.cmds.filterMap fun e =>
    match e.2.desc.payload with
    | .stateImport a => if e.2.facet = n && e.2.phase = .running && decide (2 ≤ e.2.stage) then some (e.2.slot, a.seqId) else none
    | _ => none
/-- A sequence number stands in the table, or in an import with a slot. -/
def idTaken (s : State) (n : Nat) (v : Serve) (seqId : Nat) : Bool :=
  (slotOfSeq v seqId).isSome || (reservations s n).any fun r => r.2 == seqId
/-- The lowest FREE slot that no import has reserved (R416, R431, R457). -/
def freeSlot (s : State) (n : Nat) (v : Serve) : Option Nat :=
  let i := lowestFrom (NSet.ofList (v.seqs.map (·.1) ++ (reservations s n).map (·.1))) 0
  if i < (if v.table then 4096 else 1024) then some i else none
/-- Slots of the sequences that hold a property. -/
def slotsWhere (s : State) (n : Nat) (p : Seq → Bool) : List Nat :=
  match SMap.look s.serve n with
  | none => []
  | some v => (v.seqs.filter fun e => p e.2).map (·.1)

/-! ## The pool window (R422, R423) -/

def winPutAux (n : Nat) (v : Serve) : List (Nat × Nat) → List Byte → State → State
  | [], _, s => s
  | (a, k) :: r, d, s => winPutAux n v r (d.drop k) (faWrite (ctlVia s n) n 0 (windowFa v a) (d.take k) s).2

/-- Write bytes at a window offset. -/
def winPut (n : Nat) (v : Serve) (off : Nat) (d : List Byte) (s : State) : State := winPutAux n v (linePieces off d.length) d s

def winGetAux (n : Nat) (v : Serve) : List (Nat × Nat) → List Byte → State → Sum (List Byte) (Nat × Nat) × State
  | [], acc, s => (.inl acc, s)
  | (a, k) :: r, acc, s =>
    let x := faRead (ctlVia s n) n 0 (windowFa v a) k s
    match x.1 with
    | .inr e => (.inr e, x.2)
    | .inl d => winGetAux n v r (acc ++ d) x.2

/-- Read bytes at a window offset. -/
def winGet (n : Nat) (v : Serve) (off len : Nat) (s : State) : Sum (List Byte) (Nat × Nat) × State :=
  winGetAux n v (linePieces off len) [] s

def blockBytes (v : Serve) : Nat := v.units * 65536

/-! ## The sequence record (R428) -/

/-- Field of little-endian bytes. -/
def fld (d : List Byte) (off n : Nat) : Nat := ofLe ((d.drop off).take n)

def stopBytes (x : StopSeq) : List Byte :=
  toLe 1 x.tokens.length ++ toLe 1 x.progress ++ toLe 2 0 ++ (List.range 6).flatMap fun i => toLe 4 (x.tokens.getD i 0)

/-- The 256 bytes of a record. -/
def recordBytes (r : SeqRecord) : List Byte :=
  toLe 4 r.seqId ++ toLe 4 r.weightSet ++ toLe 1 (b2n r.hold + 2 * b2n r.hostDrafts + 4 * b2n r.tree) ++
    toLe 1 r.maxDrafts ++ toLe 2 r.share ++ toLe 4 r.promptLen ++ toLe 8 r.prompt ++ toLe 8 r.outRing ++
    toLe 1 r.outLog2 ++ toLe 1 r.kvFormat ++ toLe 2 r.outSource ++ toLe 4 r.maxTokens ++ toLe 4 r.firstTokenNs ++
    toLe 4 r.interTokenNs ++ toLe 4 r.temperature ++ toLe 4 r.topP ++ toLe 2 r.topK ++ toLe 6 0 ++ toLe 8 r.seed ++
    ((List.range 4).flatMap fun i => toLe 4 (r.endTokens.getD i 0xFFFFFFFF)) ++
    ((List.range 4).flatMap fun i => stopBytes (r.stops.getD i ⟨0, []⟩)) ++ toLe 4 r.position ++ toLe 4 r.generated ++
    toLe 4 r.prefilled ++ toLe 4 r.lastToken ++ toLe 8 r.tier ++ toLe 2 r.modules ++ toLe 1 r.blockUnits ++
    toLe 1 (b2n r.offerUnknown) ++ toLe 4 r.offeredEpoch ++ toLe 24 0

def stopOfBytes (d : List Byte) (k : Nat) : StopSeq :=
  let o := 0x58 + 28 * k
  let n := Nat.min 6 (fld d o 1)
  ⟨Nat.min (fld d (o + 1) 1) (n - 1), (List.range n).map fun j => fld d (o + 4 + 4 * j) 4⟩

/-- The record that 256 bytes spell. -/
def recordOfBytes (d : List Byte) : SeqRecord :=
  { seqId := fld d 0x00 4, weightSet := fld d 0x04 4, hold := bit (fld d 0x08 1) 0 == 1,
    hostDrafts := bit (fld d 0x08 1) 1 == 1, tree := bit (fld d 0x08 1) 2 == 1, maxDrafts := fld d 0x09 1,
    share := fld d 0x0A 2, promptLen := fld d 0x0C 4, prompt := fld d 0x10 8, outRing := fld d 0x18 8,
    outLog2 := fld d 0x20 1, kvFormat := fld d 0x21 1, outSource := fld d 0x22 2, maxTokens := fld d 0x24 4,
    firstTokenNs := fld d 0x28 4, interTokenNs := fld d 0x2C 4, temperature := fld d 0x30 4, topP := fld d 0x34 4,
    topK := fld d 0x38 2, seed := fld d 0x40 8, endTokens := (List.range 4).map fun i => fld d (0x48 + 4 * i) 4,
    stops := (List.range 4).map (stopOfBytes d), position := fld d 0xC8 4, generated := fld d 0xCC 4,
    prefilled := fld d 0xD0 4, lastToken := fld d 0xD4 4, tier := fld d 0xD8 8, modules := fld d 0xE0 2,
    blockUnits := fld d 0xE2 1, offerUnknown := bit (fld d 0xE3 1) 0 == 1, offeredEpoch := fld d 0xE4 4, rsv := false }

/-- Offset of the first bad field of an admitted image (R428, R432), if any. -/
def recordBad (v : Serve) (f : Facet) (shared : Nat) (d : List Byte) : Option Nat :=
  let r := recordOfBytes d
  let tests : List (Nat × Bool) :=
    [(0x00, r.seqId == 0 || decide (0xFFFFFFFE < r.seqId)),
     (0x08, decide (7 < fld d 0x08 1) || (r.tree && !r.hostDrafts)),
     (0x09, decide ((if r.tree then 64 else 16) < r.maxDrafts) || (r.maxDrafts != 0 && !r.hostDrafts && v.draftLadder == 0)),
     (0x0A, r.share == 0),
     (0x0C, r.promptLen == 0 || decide (2097152 < r.promptLen) ||
       (v.table && decide (v.budget < r.promptLen - shared))),
     (0x18, r.outRing % 4096 != 0), (0x20, decide (r.outLog2 < 6) || decide (16 < r.outLog2)),
     (0x21, r.kvFormat != f.kvFormat), (0x22, !sourceOk r.outSource), (0x24, !r.hold && r.maxTokens == 0),
     (0x3A, fld d 0x3A 6 != 0)] ++
    ((List.range 4).flatMap fun k =>
      [(0x58 + 28 * k, decide (6 < fld d (0x58 + 28 * k) 1)), (0x5A + 28 * k, fld d (0x5A + 28 * k) 2 != 0)]) ++
    [(0xC8, r.position != 0), (0xCC, r.generated != 0), (0xD0, r.prefilled != 0), (0xD4, r.lastToken != 0),
     (0xD8, (f.tier.kind == 0) != (r.tier == 0)), (0xE0, r.modules != 0), (0xE2, r.blockUnits != 0),
     (0xE3, fld d 0xE3 1 != 0), (0xE4, r.offeredEpoch != 0), (0xE8, fld d 0xE8 24 != 0)]
  (tests.find? (·.2)).map (·.1)

/-! ## Keeping the serving area up to date (R423, R425, R428) -/

/-- Write the block-table entries that have changed. -/
def syncRefs (n : Nat) (old new : Serve) (s : State) : State :=
  let base := (windowParts new).1
  let keys := NSet.ofList (old.refs.map (·.1) ++ new.refs.map (·.1))
  forAll (keys.filter fun b => SMap.getD old.refs b 0 != SMap.getD new.refs b 0)
    (fun b t => winPut n new (base + 4 * b) (toLe 4 (SMap.getD new.refs b 0)) t) s

/-- Write one slot's block list and record where they have changed. -/
def syncSlot (n : Nat) (old new : Serve) (slot : Nat) (q : Seq) (s : State) : State :=
  let o := SMap.look old.seqs slot
  let p := windowParts new
  let s1 := if o.map (·.blocks) = some q.blocks then s
    else winPut n new (p.2.1 + 131072 * slot) (q.blocks.flatMap (toLe 4)) s
  if o.map (·.rec_) = some q.rec_ then s1 else winPut n new (p.2.2.1 + 256 * slot) (recordBytes q.rec_) s1

/-- Write what differs from an earlier serving state. -/
def syncServe (n : Nat) (old : Serve) (s : State) : State :=
  match SMap.look s.serve n with
  | none => s
  | some new => new.seqs.foldl (fun t e => syncSlot n old new e.1 e.2 t) (syncRefs n old new s)

/-- An effect on a facet's serving state, with the serving area kept up to date. -/
def synced (n : Nat) (g : State → State) (s : State) : State :=
  match SMap.look s.serve n with
  | none => g s
  | some old => syncServe n old (g s)

/-! ## Blocks (R425 to R427) -/

def noBlock : Nat := 0xFFFFFFFF
def refOf (v : Serve) (b : Nat) : Nat := SMap.getD v.refs b 0
def setRef (b c : Nat) (v : Serve) : Serve := { v with refs := if c = 0 then SMap.del v.refs b else SMap.put v.refs b c }

/-- One list entry gives up a block; a count of 0 puts it on the release list. -/
def decRef (v : Serve) (b : Nat) : Serve :=
  if b = noBlock then v
  else if refOf v b ≤ 1 then { setRef b 0 v with release := v.release ++ [b] }
  else setRef b (refOf v b - 1) v

def releaseBlocks (l : List Nat) (v : Serve) : Serve := l.foldl decRef v

/-- Length of the free list. -/
def freeLen (v : Serve) : Nat := v.blocks - v.fresh + v.freed.length

/-- Take the block at the head of the free list, with one reference. -/
def takeBlock (v : Serve) : Nat × Serve :=
  if v.fresh < v.blocks then (v.fresh, setRef v.fresh 1 { v with fresh := v.fresh + 1 })
  else
    match v.freed with
    | b :: r => (b, setRef b 1 { v with freed := r })
    | [] => (noBlock, v)

/-- A list entry needs a block before a row of it is written: it has none, or its block is shared. -/
def entryNeeds (v : Serve) (q : Seq) (e : Nat) : Bool :=
  decide (q.blocks.length ≤ e) || q.blocks.getD e noBlock == noBlock || decide (1 < refOf v (q.blocks.getD e noBlock))

/-- List entries of a range of rows, and of other rows. -/
def entriesOf (first count : Nat) (more : List Nat) (q : Seq) : NSet :=
  let lo := first / 64
  let range := if count = 0 then [] else (List.range ((first + count - 1) / 64 + 1 - lo)).map (· + lo)
  NSet.ofList (more.map (· / 64) ++ q.owed.map (·.1) ++ range)

def blocksNeeded (v : Serve) (q : Seq) (es : NSet) : Nat := (es.filter (entryNeeds v q)).length

/-- Give one list entry its block; a copy is due where it held or is owed one (R426). -/
def placeEntry (slot e : Nat) (x : Serve × List (Nat × Nat)) : Serve × List (Nat × Nat) :=
  match SMap.look x.1.seqs slot with
  | none => x
  | some q =>
    if !entryNeeds x.1 q e then x
    else
      let t := takeBlock x.1
      if q.blocks.length ≤ e then ({ t.2 with seqs := SMap.put t.2.seqs slot { q with blocks := q.blocks ++ [t.1] } }, x.2)
      else
        let old := q.blocks.getD e noBlock
        let src := match q.owed.find? fun o => o.1 == e with
          | some o => o.2
          | none => old
        let v1 := if old = noBlock then t.2 else setRef old (refOf t.2 old - 1) t.2
        let q1 := { q with blocks := q.blocks.set e t.1, owed := q.owed.filter fun o => o.1 != e }
        ({ v1 with seqs := SMap.put v1.seqs slot q1 }, x.2 ++ [(src, t.1)])

def placeEntries (slot : Nat) (es : NSet) (v : Serve) : Serve × List (Nat × Nat) :=
  es.foldl (fun x e => placeEntry slot e x) (v, [])

/-! ## Output rings (R447, R448) -/

def seqRoom (q : Seq) : Bool := decide (q.outTail - q.head < 2 ^ q.rec_.outLog2)

/-- Phase of the record that a ring takes next. -/
def seqPhase (q : Seq) : Bool := q.outTail / 2 ^ q.rec_.outLog2 % 2 == 0

/-- Add bits to byte 0x0B of a record. -/
def ringBits (b : Nat) (r : List Byte) : List Byte := r.take 11 ++ toLe 1 ((r.getD 11 0).toNat + b) ++ r.drop 12

def outPlace (q : Seq) : Nat := q.rec_.outRing + 0x200 + 16 * (q.outTail % 2 ^ q.rec_.outLog2)

/-- A deadline of a facet's sequence was met or missed (R477). -/
def countDeadline (n missed : Nat) (s : State) : State :=
  updFacet n (fun f => { f with checked := f.checked + 1, missed := f.missed + missed }) s

/-- Write one TOKEN record; its deadlines are met (R450). -/
def writeToken (n slot : Nat) (r : List Byte) (s : State) : State :=
  match seqAt s n slot with
  | none => s
  | some q =>
    let clk := ((facetOf s n).map (·.master)).getD 0
    let s1 := emit (.hostWrite (ownerOf s n) (outPlace q) (ringBits (b2n (seqPhase q) + 2 * b2n q.missNext) r)) s
    let s2 := if q.firstDeadline = 0 then s1 else countDeadline n 0 s1
    let s3 := if q.rec_.interTokenNs = 0 || q.lastTokenLtc = 0 || q.interMissed then s2 else countDeadline n 0 s2
    updSeq n slot (fun x => { x with
      outTail := x.outTail + 1, missNext := false, interMissed := false, firstDeadline := 0, lastTokenLtc := ltcOf s clk
      tokenClk := clk }) s3

/-- Write TOKEN records as the ring has room. -/
def writeTokens (n slot : Nat) : List (List Byte) → State → State
  | [], s => updSeq n slot (fun x => { x with tokWait := [] }) s
  | r :: rest, s =>
    match seqAt s n slot with
    | none => s
    | some q =>
      if seqRoom q then writeTokens n slot rest (writeToken n slot r s)
      else updSeq n slot (fun x => { x with tokWait := r :: rest }) s

/-- The 16 bytes of an END record, phase 0. -/
def endBytes (q : Seq) (reason status : Nat) : List Byte :=
  toLe 4 reason ++ toLe 4 q.rec_.generated ++ toLe 1 2 ++ toLe 1 status ++ toLe 2 0 ++ toLe 4 q.rec_.seqId

/-- Write the END record that is due, if the tokens are out and the ring has room: the slot goes FREE, or stays DONE and
held (R430). -/
def writeEnd (n slot : Nat) (s : State) : State :=
  match seqAt s n slot with
  | none => s
  | some q =>
    match q.endRec with
    | none => s
    | some (reason, status) =>
      if !q.tokWait.isEmpty || !seqRoom q then s
      else
        let s1 := emit (.hostWrite (ownerOf s n) (outPlace q) (ringBits (b2n (seqPhase q)) (endBytes q reason status))) s
        if q.hold then updSeq n slot (fun x => { x with state := 5, endRec := none, outTail := x.outTail + 1 }) s1
        else updServe n (fun v => { v with seqs := SMap.del v.seqs slot }) s1

/-- Fire an output ring's source (R448). -/
def fireOut (n : Nat) (q : Seq) (tail : Nat) (s : State) : State :=
  if q.rec_.outSource = 0 then s
  else fireSource (ownerOf s n) q.rec_.outSource
    (shapeGlint evOutput (ownerOf s n) q.rec_.seqId tail none (confFacet s n)) s

/-- Write what a sequence's ring takes of its waiting records, and fire its source once if something was written. -/
def flushSeq (n slot : Nat) (s : State) : State :=
  match seqAt s n slot with
  | none => s
  | some q =>
    let s1 := writeEnd n slot (writeTokens n slot q.tokWait s)
    match seqAt s1 n slot with
    | some q1 => if q1.outTail = q.outTail then s1 else fireOut n q q1.outTail s1
    | none => fireOut n q (q.outTail + q.tokWait.length + 1) s1

/-- Flush every ring of a table. -/
def flushAll (n : Nat) (s : State) : State := forAll (slotsWhere s n fun _ => true) (flushSeq n) s

/-! ## Leaving the table (R430, R439, R448) -/

/-- The command of an export ends. -/
def endExportCmd (x : Option Export) (st : Nat) (s : State) : State :=
  match x.bind (·.cmd) with
  | some id => finishCmd id (if st = stOk then s else meetStatus id st 0 s)
  | none => s

/-- A sequence leaves: DRAINING, or EVICTED, until its END record is written. Its blocks are released unless it is held, and
its context is lost where the status says so (R346). -/
def leaveSeq (n slot reason status : Nat) (keep : Bool) (s : State) : State :=
  match seqAt s n slot with
  | none => s
  | some q =>
    let s1 := endExportCmd q.exp stHandoffLost s
    let q1 := { q with
      state := if reason = 7 then 4 else 3, leave := none, exp := none, hold := keep, endRec := some (reason, status)
      prefilling := false, import_ := false, ready := false, reading := false, offered := false
      owed := if keep then q.owed else [], blocks := if keep then q.blocks else [] }
    let s2 := updServe n (fun v =>
      let v1 := if keep then v else releaseBlocks q.blocks v
      { v1 with seqs := SMap.put v1.seqs slot q1
                exhausted := if status = stKvExhausted then v1.exhausted + 1 else v1.exhausted }) s1
    if losesContext status then loseContext q.context s2 else s2

/-- Leave and write what the ring takes. -/
def leaveNow (n slot reason status : Nat) (keep : Bool) (s : State) : State :=
  flushSeq n slot (leaveSeq n slot reason status keep s)

/-- A sequence stays in the table as a held one, without an END record (R455). -/
def holdSeq (n slot : Nat) (g : SeqRecord → SeqRecord) (s : State) : State :=
  updSeq n slot (fun q => { q with state := 5, hold := true, exp := none, offered := false, rec_ := g q.rec_ }) s

/-- Free a slot and its blocks without a record (R433). -/
def freeSeq (n slot : Nat) (s : State) : State :=
  match seqAt s n slot with
  | none => s
  | some q => updServe n (fun v =>
      let v1 := releaseBlocks q.blocks v
      { v1 with seqs := SMap.del v1.seqs slot }) s

/-- A serving event of a facet goes to its owner (R462). -/
def raiseServe (kind n detail : Nat) (s : State) : State :=
  raiseTo [ownerOf s n] kind (ownerOf s n) n detail none (confFacet s n) s

/-- A run of a step ended badly, or was stopped: every sequence of the step ends with the status (R439). -/
def endStep (n st : Nat) (s : State) : State :=
  match (SMap.look s.serve n).bind (·.step) with
  | none => s
  | some p =>
    if p.done then s
    else
      let live (t : State) (slot : Nat) : Bool := ((seqAt t n slot).map (·.state)).getD 0 == 2
      let s1 := p.members.foldl (fun t slot => if live t slot then leaveNow n slot 5 st false t else t) s
      updFacet n (fun f => { f with
        stepMet := [], stepAcct := {}
        switching := match f.switching with
          | some w => if 2 ^ 32 ≤ w.1 then none else some w
          | none => none }) (updServe n (fun v => { v with step := none }) s1)

/-! ## The pooled tier (R451, R452) -/

/-- An access to the tier of a facet for a sequence: op 0x01 READ, 0x03 WRITE, 0x05 CAS. An answer, or its absence, comes as
a command of its own (log 11, log 14). -/
def tierAccess (n seqId op addr : Nat) (data : List Byte) (s : State) : State :=
  match facetOf s n with
  | none => s
  | some f =>
    if f.tier.kind = 1 then
      let t : Txn := { bareTxn s op n with endpointSpace := true, addr := addr, data := data }
      (sendTxn ⟨some n, 4, 0, f.tier.endpoint, t,
        some { port := 0, op := op, facet := n, cmd := 0, dest := f.tier.endpoint, endpoint := true, seqId := seqId }⟩ s).2
    else if f.tier.kind = 2 then emit (.hostTier f.fn (if op = 0x01 then 0 else if op = 0x03 then 1 else 2) addr data) s
    else s

/-- Whether a facet's tier is reached over Voxlink. -/
def tierLinked (s : State) (n : Nat) : Bool := ((facetOf s n).map (·.tier.kind)).getD 0 == 1

/-- Read `len` bytes of the tier: a READ asks for 4,096 bytes at most (R399), a host read names its length in 4 bytes. -/
def tierRead (n seqId addr len : Nat) (s : State) : State :=
  if tierLinked s n then
    forAll (List.range (ceilDiv len 4096)) (fun i t =>
      tierAccess n seqId 0x01 (addr + 4096 * i) (toLe 2 (Nat.min 4096 (len - 4096 * i))) t) s
  else tierAccess n seqId 0x01 addr (toLe 4 len) s

/-- Write bytes to the tier: a WRITE carries what a flit holds (R399). -/
def tierWrite (n seqId addr : Nat) (d : List Byte) (s : State) : State :=
  if tierLinked s n then
    (flitParts (flitData s n) d).foldl (fun t x => tierAccess n seqId 0x03 (addr + x.1) x.2 t) s
  else tierAccess n seqId 0x03 addr d s

/-- CAS a word of the tier. -/
def tierCas (n seqId addr old new : Nat) (s : State) : State := tierAccess n seqId 0x05 addr (toLe 8 old ++ toLe 8 new) s

/-- Modules of a facet (R452). -/
def modulesOf (f : Facet) : Nat := f.memberCount + 1

/-- Tier address of block i's part on the master. -/
def tierBlock (f : Facet) (v : Serve) (obj i : Nat) : Nat := obj + 65536 + i * modulesOf f * blockBytes v

end Sys2Proof.Machine
end

