-- ==== Sys2Proof/Machine/Serving.lean ====
section
/-! DEFINITION. Sequence serving (14 R416 to R450, R461): the table's commands, the step builder, step runs and their results,
and sequence deadlines. -/

namespace Sys2Proof.Machine

/-! ## Configure, admit, cancel (R418 to R433) -/

/-- Core counts of a ladder's rungs. -/
def rungsOf (f : Facet) (ladder : Nat) : Option (List Nat) := (SMap.look f.ladders ladder).map fun l => l.rungs.map (·.1)

def configureOk (f : Facet) (v : Serve) (a : CfgArgs) : Bool :=
  v.seqs.isEmpty && (rungsOf f a.ladder).isSome &&
    (a.draftLadder == 0 || (rungsOf f a.draftLadder).isSome && rungsOf f a.draftLadder == rungsOf f a.ladder)

def seqConfigureEff (id : Nat) (s : State) : State :=
  match cmdOf s id with
  | none => s
  | some c =>
    match c.desc.payload, facetOf s c.facet with
    | .configure a, some f =>
      if !mayStart s id then s
      else
        match SMap.look s.serve c.facet with
        | none => endUnstarted id stBadHandle 0 s
        | some v =>
          if !configureOk f v a then endUnstarted id stBadHandle 0 s
          else
            finishCmd id (setServe c.facet { v with
              configured := true, ladder := a.ladder, draftLadder := a.draftLadder, budget := a.budget
              draftLen := a.draftLen, kvLow := a.kvLow, kvArmed := v.kvArmed || v.kvLow != a.kvLow } (startCmd id s))
    | _, _ => s

/-- SEQ_CONFIGURE (R418 to R420): SEQ_ADMIT with seq_id 0. -/
def execSeqConfigure (cmd : Nat) (s : State) : Host.Outcome State Fault Refusal :=
  checked true s (seqConfigureEff cmd)

/-- A donor is RUNNING or held (R431). -/
def donorSeq (v : Serve) (seqId : Nat) : Option Seq :=
  match (slotOfSeq v seqId).bind (SMap.look v.seqs) with
  | some q => if q.state = 2 || q.state = 5 then some q else none
  | none => none

/-- List entries of a new sequence that shares a donor's prefix, with the copies it is owed (R426). -/
def shareBlocks (v : Serve) (d : Seq) (shared : Nat) : Serve × List Nat × List (Nat × Nat) :=
  (List.range (ceilDiv shared 64)).foldl (fun x e =>
    let b := d.blocks.getD e noBlock
    if b = noBlock then
      let src := match d.owed.find? fun o => o.1 == e with
        | some o => o.2
        | none => noBlock
      (x.1, x.2.1 ++ [noBlock], x.2.2 ++ [(e, src)])
    else if 65535 ≤ refOf x.1 b then (x.1, x.2.1 ++ [noBlock], x.2.2 ++ [(e, b)])
    else (setRef b (refOf x.1 b + 1) x.1, x.2.1 ++ [b], x.2.2)) (v, [], [])

/-- Detail of MALFORMED for a field of the record image (R335). -/
def imageDetail (record off : Nat) : Nat := 0xFFFF + (record + off) * 2 ^ 16

/-- Put an admitted sequence into its slot (R431). -/
def enterSeq (slot : Nat) (c : Cmd) (r : SeqRecord) (f : Facet) (v : Serve) (a : AdmitArgs) : Serve :=
  let x := match donorSeq v a.donor with
    | some d => shareBlocks v d a.shared
    | none => (v, [], [])
  let r1 := { r with position := a.shared, prefilled := a.shared, modules := modulesOf f, blockUnits := v.units }
  let q : Seq := { rec_ := r1, context := c.desc.context, report := c.report, age := v.nextAge, blocks := x.2.1, owed := x.2.2,
                   firstDeadline := if r.firstTokenNs = 0 then 0 else c.acceptedAt + r.firstTokenNs, firstClk := c.clk }
  { x.1 with seqs := SMap.put x.1.seqs slot q, nextAge := v.nextAge + 1 }

/-- What R432 says of a record that has been read: BAD_HANDLE first, then MALFORMED with its detail. -/
def admitStatus (s : State) (n : Nat) (f : Facet) (v : Serve) (a : AdmitArgs) (d : List Byte) : Option (Nat × Nat) :=
  let r := recordOfBytes d
  let set := (SMap.look f.ladders v.ladder).map (·.weightSet)
  if set != some r.weightSet || idTaken s n v a.seqId || (a.donor != 0 && (donorSeq v a.donor).isNone) then
    some (stBadHandle, 0)
  else if r.seqId != a.seqId then some (stMalformed, imageDetail a.record 0)
  else match recordBad v f a.shared d with
  | some o => some (stMalformed, imageDetail a.record o)
  | none =>
    let past := match donorSeq v a.donor with
      | some q => decide (q.rec_.position < a.shared)
      | none => false
    if a.donor != 0 && (decide (r.promptLen ≤ a.shared) || past) then some (stMalformed, payloadBase + 0x14) else none

def seqAdmitEff (id : Nat) (image : List Byte) (s : State) : State :=
  match cmdOf s id with
  | none => s
  | some c =>
    match c.desc.payload, facetOf s c.facet with
    | .seqAdmit a, some f =>
      if !(mayStart s id || (c.phase == .running && c.met.isEmpty)) then s
      else
        match SMap.look s.serve c.facet with
        | none => endUnstarted id stBadHandle 0 s
        | some v =>
          if !v.configured || a.ladder != v.ladder then endUnstarted id stBadHandle 0 s
          else
            match freeSlot s c.facet v with
            | none => s
            | some slot =>
              let s1 := if c.phase = .running then s else startCmd id s
              let m := cmdMover s1 id c
              let rd := moverRead m 0 0 a.record 256 image s1
              match rd.1 with
              | .inr .wait => rd.2
              | .inr (.fail st d) => finishCmd id (takeStop id (.fail st d) rd.2)
              | .inl d =>
                match admitStatus rd.2 c.facet f v a d.1 with
                | some (st, det) =>
                  if st = stBadHandle then endUnstarted id st 0 (updCmd id (fun x => { x with phase := .waiting, ran := false }) rd.2)
                  else finishCmd id (meetStatus id st det rd.2)
                | none =>
                  finishCmd id (synced c.facet (setServe c.facet
                    (enterSeq slot c (recordOfBytes d.1) f v a)) rd.2)
    | _, _ => s

/-- SEQ_ADMIT (R431, R432). `image` is what the record's page holds where it lies in host memory. -/
def execSeqAdmit (cmd : Nat) (image : List Byte) (s : State) : Host.Outcome State Fault Refusal :=
  checked true s (seqAdmitEff cmd image)

/-- Words of an ownership record (R453). -/
def ownWord (epoch dev fac st : Nat) : Nat := epoch % 2 ^ 32 * 2 ^ 32 + dev % 65536 * 65536 + fac % 64 * 1024 + st % 4 * 256

/-- E6: the reclaim CAS goes out (R455). -/
def beginReclaim (n slot : Nat) (s : State) : State :=
  match seqAt s n slot with
  | none => s
  | some q =>
    match q.exp with
    | none => s
    | some x =>
      let e := q.rec_.offeredEpoch
      let me := globalOf s n
      tierCas n q.rec_.seqId q.rec_.tier (ownWord e x.device x.facet 1) (ownWord (e + 1) me.1 me.2 2)
        (updSeq n slot (fun y => { y with exp := some { x with step := 8 } }) s)

/-- What a cancel does to a sequence (R433). -/
def cancelSeq (n slot : Nat) (q : Seq) (s : State) : State :=
  if q.state = 1 || q.state = 2 then updSeq n slot (fun x => { x with leave := some (3, stOk) }) s
  else if q.state = 5 && q.exp.isNone then freeSeq n slot s
  else if (q.exp.map (·.step)) = some 5 then beginReclaim n slot s
  else s

def seqCancelEff (id : Nat) (s : State) : State :=
  match cmdOf s id with
  | none => s
  | some c =>
    match c.desc.payload with
    | .seqCancel seqId =>
      if !mayStart s id then s
      else
        match (SMap.look s.serve c.facet).bind fun v => (slotOfSeq v seqId).bind fun k => (SMap.look v.seqs k).map fun q => (k, q) with
        | none => endUnstarted id stBadHandle 0 s
        | some (slot, q) =>
          if q.context != c.desc.context then endUnstarted id stBadHandle 0 s
          else finishCmd id (synced c.facet (cancelSeq c.facet slot q) (startCmd id s))
    | _ => s

/-- SEQ_CANCEL (R433). -/
def execSeqCancel (cmd : Nat) (s : State) : Host.Outcome State Fault Refusal := checked true s (seqCancelEff cmd)

/-! ## Heads and drafts (R441, R442, R447, R449) -/

/-- R442. -/
def draftsValid (tree : Bool) (d : DraftSet) : Bool :=
  decide (d.count ≤ 64) &&
    (List.range (Nat.min 64 d.count)).all fun i =>
      if tree then decide (d.parents.getD i 0 ≤ i) else d.parents.getD i 0 == i

/-- The head of an output ring header, and its draft area (R447). -/
def headOf (h : List Byte) : Nat := fld h 0 8
def draftsOf (h : List Byte) : DraftSet :=
  { gen := fld h 8 4, count := fld h 0xC 1, tokens := (List.range 64).map fun i => fld h (0x20 + 4 * i) 4
    parents := (List.range 64).map fun i => fld h (0x120 + i) 1 }

/-- Take what the builder reads of one output ring header. -/
def acceptRing (n : Nat) (r : RingRead) (s : State) : State :=
  match (SMap.look s.serve n).bind fun v => slotOfSeq v r.seqId with
  | none => s
  | some slot =>
    match seqAt s n slot with
    | none => s
    | some q =>
      let good := decide (q.head ≤ headOf r.header) && decide (headOf r.header ≤ q.outTail)
      let s1 := if good || q.headBad then s else raiseServe evOutHeadBad n q.rec_.seqId s
      let bad := q.rec_.hostDrafts && !draftsValid q.rec_.tree (draftsOf r.header)
      let s2 := if !bad || q.draftBad then s1
        else raiseServe evSeqDraftBad n (q.rec_.seqId + (draftsOf r.header).count * 2 ^ 32) s1
      updSeq n slot (fun x => { x with
        head := if good then headOf r.header else x.head, headBad := !good, drafts := draftsOf r.header
        draftBad := if q.rec_.hostDrafts then bad else x.draftBad }) s2

/-- Drafts that a sequence offers to a step (R441 to R443). -/
def draftsReady (v : Serve) (q : Seq) : Nat :=
  if q.rec_.hostDrafts then
    (if !q.draftBad && q.drafts.gen == q.rec_.generated then Nat.min q.drafts.count q.rec_.maxDrafts else 0)
  else if v.draftLadder = 0 then 0
  else Nat.min v.draftLen q.rec_.maxDrafts

/-- Draft nodes of the target run, (token, parent): host drafts, or the chain that the draft ladder sampled. -/
def nodesOf (q : Seq) : List (Nat × Nat) :=
  if q.rec_.hostDrafts then
    (List.range q.placed).map fun i => (q.drafts.tokens.getD i 0, q.drafts.parents.getD i 0)
  else (List.range q.placed).map fun i => (q.draftToks.getD i 0, i)

/-! ## Results (R443 to R446) -/

/-- The walk of R443: emitted tokens with their probabilities, and the accepted nodes in order. -/
def walkTree (res nodes : List (Nat × Nat)) (limit : Nat) : Nat → Nat → List (Nat × Nat) → List Nat → List (Nat × Nat) × List Nat
  | 0, node, acc, path => (acc ++ [res.getD node (0, 0)], path)
  | fuel + 1, node, acc, path =>
    let t := res.getD node (0, 0)
    let child := (List.range nodes.length).find? fun j => (nodes.getD j (0, 0)).2 == node && (nodes.getD j (0, 0)).1 == t.1
    match child with
    | none => (acc ++ [t], path)
    | some j => if path.length = limit then (acc ++ [t], path) else walkTree res nodes limit fuel (j + 1) (acc ++ [t]) (path ++ [j + 1])

/-- Match progress of a stop sequence after a token: the longest of its beginnings that the generated tokens end with. -/
def stopAdvance (x : StopSeq) (t : Nat) : Nat :=
  let seen := x.tokens.take x.progress ++ [t]
  ((List.range (Nat.min seen.length x.tokens.length + 1)).filter fun m =>
    seen.drop (seen.length - m) == x.tokens.take m).foldl Nat.max 0

/-- Count one emitted token in a record: the record and the END reason, if the token ends the sequence (R446). -/
def emitOne (r : SeqRecord) (t : Nat) : SeqRecord × Option Nat :=
  let stops := r.stops.map fun x => if x.tokens.isEmpty then x else { x with progress := stopAdvance x t }
  let hit := stops.any fun x => !x.tokens.isEmpty && x.progress == x.tokens.length
  let r1 := { r with generated := (r.generated + 1) % 2 ^ 32, stops := stops }
  (r1, if t != 0xFFFFFFFF && r.endTokens.contains t then some 0
       else if hit then some 1
       else if r.maxTokens ≤ r1.generated then some 2
       else none)

/-- The 16 bytes of a TOKEN record, phase and deadline bits 0. -/
def tokenBytes (t prob pos accepted : Nat) (last suspect : Bool) : List Byte :=
  toLe 4 t ++ toLe 4 pos ++ toLe 1 1 ++ toLe 1 0 ++ toLe 1 accepted ++ toLe 1 (4 * b2n last + 8 * b2n suspect) ++ toLe 4 prob

/-- Emit tokens one at a time from a position on: the record, the TOKEN records, the tokens used and the END reason. -/
def emitTokens (accepted : Nat) (suspect : Bool) :
    List (Nat × Nat) → Nat → SeqRecord → List (List Byte) → Nat → SeqRecord × List (List Byte) × Nat × Option Nat
  | [], _, r, out, used => (r, out, used, none)
  | (t, p) :: rest, pos, r, out, used =>
    let x := emitOne r t
    let b := tokenBytes t p pos accepted (x.2.isSome || rest.isEmpty) suspect
    let r1 := { x.1 with lastToken := t }
    match x.2 with
    | some why => (r1, out ++ [b], used + 1, some why)
    | none => emitTokens accepted suspect rest (pos + 1) r1 (out ++ [b]) (used + 1)

/-- Split a list of 8-byte results into token and probability. -/
def resultPairs (n : Nat) (d : List Byte) : List (Nat × Nat) := (List.range n).map fun i => (fld d (8 * i) 4, fld d (8 * i + 4) 4)

/-- Window offset of the step area of a step. -/
def stepArea (v : Serve) : Nat := stepAreaVa v - Config.poolBase

/-- A step is over for a sequence. -/
def clearPlaced (q : Seq) : Seq := { q with at_ := none, slots := 0, fillToks := [], nodes := [], placed := 0 }

/-- Take emitted tokens into a sequence: records, position, rollback, end (R443 to R446). `base` is the position before the
first of them. -/
def takeTokens (n slot base accepted : Nat) (suspect : Bool) (toks : List (Nat × Nat)) (path : List Nat) (s : State) : State :=
  match seqAt s n slot with
  | none => s
  | some q =>
    let x := emitTokens accepted suspect toks (base + 1) q.rec_ [] 0
    let used := x.2.2.1
    let pos := base + used
    let keep := ceilDiv pos 64
    let fix := (((List.range path.length).zip path).filter fun y => y.2 != y.1 + 1).map fun y => (base + y.2, base + y.1 + 1)
    let q1 := { clearPlaced q with
      rec_ := { x.1 with position := pos }, tokWait := q.tokWait ++ x.2.1, blocks := q.blocks.take keep, fixups := fix
      allAccepted := !q.rec_.hostDrafts && decide (0 < q.placed) && accepted == q.placed }
    let s1 := updServe n (fun v =>
      let v1 := releaseBlocks (q.blocks.drop keep) v
      { v1 with seqs := SMap.put v1.seqs slot q1, tokens := v1.tokens + used, proposed := v1.proposed + q.placed
                acceptedDrafts := v1.acceptedDrafts + accepted }) s
    match x.2.2.2 with
    | some why => leaveSeq n slot why stOk false s1
    | none => if 2097152 ≤ pos then leaveSeq n slot 9 stOk false s1 else s1

/-- A prefill chunk has run (R436). -/
def takePrefill (n slot : Nat) (q : Seq) (suspect : Bool) (res : List (Nat × Nat)) (s : State) : State :=
  let c := q.fillToks.length
  let done := q.rec_.prefilled + c
  let r1 := { q.rec_ with prefilled := done, position := q.rec_.position + c }
  if done < q.rec_.promptLen then updSeq n slot (fun x => { clearPlaced x with rec_ := r1 }) s
  else if q.rec_.hold then
    leaveSeq n slot 6 stOk true (updSeq n slot (fun x => { clearPlaced x with
      prefilling := false, rec_ := { r1 with lastToken := q.fillToks.getLast?.getD 0 } }) s)
  else
    takeTokens n slot (q.rec_.promptLen - 1) 0 suspect [res.getD (c - 1) (0, 0)] []
      (updSeq n slot (fun x => { x with prefilling := false, rec_ := r1 }) s)

/-- Take a sequence's results of the step that is done. -/
def takeResult (n : Nat) (suspect : Bool) (slot : Nat) (s : State) : State :=
  match SMap.look s.serve n, seqAt s n slot with
  | some v, some q =>
    match q.at_ with
    | none => s
    | some i =>
      if q.state != 2 then updSeq n slot clearPlaced s
      else
        let r := winGet n v (stepArea v + 0x40040 + 8 * i) (8 * q.slots) s
        match r.1 with
        | .inr e => updSeq n slot (fun x => { clearPlaced x with leave := some (5, e.1) }) r.2
        | .inl d =>
          let res := resultPairs q.slots d
          if !q.fillToks.isEmpty then takePrefill n slot q suspect res r.2
          else
            let p := q.rec_.position
            let w := walkTree res q.nodes (Nat.min q.rec_.maxDrafts (2097151 - p)) q.nodes.length 0 [] []
            takeTokens n slot p w.2.length suspect w.1 w.2 r.2
  | _, _ => s

/-- take_results of R435. -/
def takeResults (n : Nat) (s : State) : State :=
  match facetOf s n, (SMap.look s.serve n).bind (·.step) with
  | some f, some p =>
    if !p.done then s
    else
      let suspect := f.stepMet.any fun e => e.1 == stNumericSuspect
      updFacet n (fun g => { g with stepMet := [] })
        (updServe n (fun v => { v with step := none }) (forAll p.members (takeResult n suspect) s))
  | _, _ => s

/-! ## Leavers (R433, R450, R455, R461, R464) -/

def leaver (n slot : Nat) (s : State) : State :=
  match seqAt s n slot with
  | none => s
  | some q =>
    if q.state != 1 && q.state != 2 then s
    else
      match q.leave with
      | some (why, st) => leaveSeq n slot why st false s
      | none =>
        if s.lost.contains q.context then leaveSeq n slot 5 stContextLost false s
        else if (fnOf s (ownerOf s n)).quiesced then leaveSeq n slot 10 stQuiesced q.rec_.hold s
        else if q.exp.isSome && q.state = 2 then updSeq n slot (fun x => { x with state := 3 }) s
        else if q.ready then
          updSeq n slot (fun x => { x with
            state := 2, ready := false, import_ := false, prefilling := decide (x.rec_.prefilled < x.rec_.promptLen) }) s
        else s

/-! ## Placing (R435, R436, R438) -/

/-- What a build has left and has done: slots, free blocks, blocks short, copies, and the slots placed in order. -/
structure Bld where
  budget : Nat
  free : Nat
  deficit : Nat := 0
  copies : List (Nat × Nat) := []
  order : List Nat := []
  deriving DecidableEq, Repr

/-- Insert into a list that a relation orders. -/
def insertBy (lt : Nat × Seq → Nat × Seq → Bool) (x : Nat × Seq) : List (Nat × Seq) → List (Nat × Seq)
  | [] => [x]
  | y :: r => if lt x y then x :: y :: r else y :: insertBy lt x r

def sortBy (lt : Nat × Seq → Nat × Seq → Bool) (l : List (Nat × Seq)) : List (Nat × Seq) := l.foldr (insertBy lt) []

/-- Share, highest first, then age (R435). -/
def shareFirst (a b : Nat × Seq) : Bool :=
  decide (b.2.rec_.share < a.2.rec_.share) || (a.2.rec_.share == b.2.rec_.share && decide (a.2.age ≤ b.2.age))

/-- Share, lowest first, then the youngest (R438). -/
def shareLast (a b : Nat × Seq) : Bool :=
  decide (a.2.rec_.share < b.2.rec_.share) || (a.2.rec_.share == b.2.rec_.share && decide (b.2.age ≤ a.2.age))

/-- Slots of a table's sequences that hold a property, in an order. -/
def sortedSlots (s : State) (n : Nat) (lt : Nat × Seq → Nat × Seq → Bool) (p : Seq → Bool) : List Nat :=
  match SMap.look s.serve n with
  | none => []
  | some v => (sortBy lt (v.seqs.filter fun e => p e.2)).map (·.1)

/-- Place one decoding sequence. -/
def placeDecode (n slot : Nat) (x : Bld × State) : Bld × State :=
  match SMap.look x.2.serve n, seqAt x.2 n slot with
  | some v, some q =>
    if x.1.budget = 0 || !seqRoom q || !q.tokWait.isEmpty then x
    else
      let p := q.rec_.position
      let k := Nat.min (Nat.min (draftsReady v q) (x.1.budget - 1)) (2097152 - p - 1)
      let extra := q.allAccepted && decide (1 ≤ k)
      let first := if extra then p - 1 else p
      let es := entriesOf first (p + k + 1 - first) (q.fixups.map (·.2)) q
      let need := blocksNeeded v q es
      if x.1.free < need then
        ({ x.1 with deficit := x.1.deficit + need }, updSeq n slot (fun y => { y with short := true }) x.2)
      else
        let t := placeEntries slot es v
        let s1 := updSeq n slot (fun y =>
          let z := { y with placed := k, slots := 1 + k, short := false, at_ := some 0 }
          { z with nodes := if z.rec_.hostDrafts then nodesOf z else [] }) (setServe n t.1 x.2)
        ({ x.1 with budget := x.1.budget - (1 + k), free := x.1.free - need, copies := x.1.copies ++ t.2
                    order := x.1.order ++ [slot] }, s1)
  | _, _ => x

/-- Read the prompt tokens of a chunk. `rings` holds what HOST pages answer. -/
def readPrompt (n : Nat) (q : Seq) (c : Nat) (rings : List RingRead) (s : State) : Sum (List Nat) Stop × State :=
  let host := match rings.find? fun r => r.seqId == q.rec_.seqId with
    | some r => r.prompt
    | none => []
  let k := ((facetOf s n).map (·.master)).getD 0
  let m : Mover := ⟨k, ctlVia s n, 2 ^ 32 - 1, q.context, n, ownerOf s n⟩
  let r := moverRead m 0 0 (q.rec_.prompt + 4 * q.rec_.prefilled) (4 * c) host s
  match r.1 with
  | .inr e => (.inr e, r.2)
  | .inl d => (.inl (wordsLe 4 c d.1), r.2)

/-- Place a chunk of a prompt. False where its tokens cannot be read now; a fault ends the sequence (R432). -/
def placePrompt (n slot c : Nat) (rings : List RingRead) (x : Bld × State) : Bool × Bld × State :=
  match seqAt x.2 n slot with
  | none => (false, x)
  | some q =>
    let r := readPrompt n q c rings x.2
    match r.1 with
    | .inr .wait => (false, x.1, r.2)
    | .inr (.fail st _) => (false, x.1, leaveSeq n slot 5 st false r.2)
    | .inl toks =>
      match SMap.look r.2.serve n with
      | none => (false, x.1, r.2)
      | some v =>
        let es := entriesOf q.rec_.prefilled c [] q
        let need := blocksNeeded v q es
        let t := placeEntries slot es v
        let s1 := updSeq n slot (fun y => { y with
          slots := c, fillToks := toks, at_ := some 0, state := 2, prefilling := true, short := false }) (setServe n t.1 r.2)
        (true, { x.1 with budget := x.1.budget - c, free := x.1.free - need, copies := x.1.copies ++ t.2
                          order := x.1.order ++ [slot] }, s1)

/-- Reserve the blocks of an import and send its reads (R457 step I4). -/
def beginReads (n slot first : Nat) (x : Bld × State) : Bld × State :=
  match SMap.look x.2.serve n, seqAt x.2 n slot, facetOf x.2 n with
  | some v, some q, some f =>
    let t := placeEntries slot (List.range first) v
    let s1 := updSeq n slot (fun y => { y with reading := true }) (setServe n t.1 x.2)
    ({ x.1 with free := x.1.free - first },
      forAll (List.range first) (fun i u => tierRead n q.rec_.seqId (tierBlock f v q.rec_.tier i) (blockBytes v) u) s1)
  | _, _, _ => x

/-- RUNNING sequences of a facet. -/
def runningCount (s : State) (n : Nat) : Nat := (slotsWhere s n fun q => q.state == 2).length

/-- Chunk that a prompt gets, if it may be placed at all (R436). -/
def chunkOf (v : Serve) (q : Seq) (budget : Nat) : Option Nat :=
  let left := q.rec_.promptLen - q.rec_.prefilled
  if v.table then (if left ≤ budget then some left else none)
  else
    let c := Nat.min (Nat.min left budget) 8192
    if c = 0 || (decide (c < 512) && decide (c < left)) then none else some c

/-- Admit joiners in order; the first that does not fit stops admission. `chunk`: a MIXED build may still place one. -/
def joinLoop (n : Nat) (rings : List RingRead) : List Nat → Bool → Bld × State → Bld × State
  | [], _, x => x
  | slot :: rest, chunk, x =>
    match SMap.look x.2.serve n, seqAt x.2 n slot with
    | some v, some q =>
      let r := runningCount x.2 n
      if q.reading then joinLoop n rings rest chunk x
      else if q.import_ then
        let first := ceilDiv (q.rec_.position + 1) 64
        if first + r + 1 ≤ x.1.free then joinLoop n rings rest chunk (beginReads n slot first x) else x
      else if !v.table && !chunk then joinLoop n rings rest chunk x
      else
        match chunkOf v q x.1.budget with
        | none => x
        | some c =>
          if x.1.free < blocksNeeded v q (entriesOf q.rec_.prefilled c [] q) + r + 1 then x
          else
            let y := placePrompt n slot c rings x
            joinLoop n rings rest (chunk && !y.1) y.2
    | _, _ => x

/-- place_prefill of R435 and R436. -/
def placePrefill (n : Nat) (rings : List RingRead) (x : Bld × State) : Bld × State :=
  match SMap.look x.2.serve n with
  | none => x
  | some v =>
    let old := sortedSlots x.2 n (fun a b => decide (a.2.age ≤ b.2.age)) fun q => q.state == 2 && q.prefilling
    let join := sortedSlots x.2 n shareFirst fun q => q.state == 1
    match old with
    | [] => joinLoop n rings join true x
    | slot :: _ =>
      match seqAt x.2 n slot with
      | none => x
      | some q =>
        match chunkOf v q x.1.budget with
        | none => joinLoop n rings join v.table x
        | some c =>
          let need := blocksNeeded v q (entriesOf q.rec_.prefilled c [] q)
          if x.1.free < need then
            ({ x.1 with deficit := x.1.deficit + need }, updSeq n slot (fun y => { y with short := true }) x.2)
          else joinLoop n rings join v.table (placePrompt n slot c rings x).2

/-- Undo what a build has given a sequence: new blocks return to the free list, shared ones are in its list again. -/
def undoEntry (v0 : List Nat) (x : Serve × List Nat) (e : Nat × Nat) : Serve × List Nat :=
  let old := v0.getD e.1 noBlock
  if e.1 < v0.length && old == e.2 then x
  else
    let v1 := setRef e.2 0 { x.1 with freed := x.1.freed ++ [e.2] }
    let v2 := if e.1 < v0.length && old != noBlock then
        setRef old (refOf v1 old + 1) { v1 with release := v1.release.filter (· != old) }
      else v1
    (v2, x.2 ++ [e.2])

def undoPlace (slot : Nat) (v0 v : Serve) : Serve × List Nat :=
  match SMap.look v0.seqs slot, SMap.look v.seqs slot with
  | some q0, some q =>
    let x := ((List.range q.blocks.length).zip q.blocks).foldl (undoEntry q0.blocks) (v, [])
    let q1 := { clearPlaced q with blocks := q0.blocks, owed := q0.owed }
    ({ x.1 with seqs := SMap.put x.1.seqs slot q1 }, x.2)
  | _, _ => (v, [])

/-- Start the eviction export of a sequence (R459). -/
def beginEvict (n slot : Nat) (s : State) : State :=
  match seqAt s n slot with
  | none => s
  | some q =>
    let me := globalOf s n
    tierRead n q.rec_.seqId q.rec_.tier 8 (updSeq n slot (fun x => { x with
      state := 4, leave := none, prefilling := false, exp := some ⟨2, none, me.1, me.2, 0, none, true⟩ }) s)

/-- Evict one sequence: the blocks that this will release, and the build without it. -/
def evictOne (n : Nat) (v0 : Serve) (slot : Nat) (x : Bld × State) : Nat × Bld × State :=
  match SMap.look x.2.serve n, facetOf x.2 n with
  | some v, some f =>
    let u := undoPlace slot v0 v
    let v1 := { u.1 with evictions := u.1.evictions + 1 }
    let q := SMap.look v1.seqs slot
    let gain := match q with
      | some q => (q.blocks.filter fun b => refOf v1 b == 1).length
      | none => 0
    let seqId := (q.map (·.rec_.seqId)).getD 0
    let b := { x.1 with order := x.1.order.filter (· != slot), copies := x.1.copies.filter fun c => !u.2.contains c.2 }
    let s1 := setServe n v1 x.2
    if f.tier.kind = 0 then
      (gain, b, leaveSeq n slot 7 stKvExhausted false (raiseServe evSeqEvicted n (seqId + stKvExhausted * 2 ^ 32) s1))
    else (gain, b, beginEvict n slot s1)
  | _, _ => (0, x)

/-- Evict until the released blocks cover the deficit (R438). -/
def evictLoop (n : Nat) (v0 : Serve) : List Nat → Nat → Bld × State → Bld × State
  | [], _, x => x
  | slot :: rest, got, x =>
    if x.1.deficit ≤ got then x
    else
      let y := evictOne n v0 slot x
      evictLoop n v0 rest (got + y.1) y.2

def evictFor (n : Nat) (v0 : Serve) (x : Bld × State) : Bld × State :=
  if x.1.deficit = 0 then x
  else evictLoop n v0 (sortedSlots x.2 n shareLast fun q => q.state == 2) 0 x

/-- The placing part of a build: decoding sequences, then prefill unless blocks are short, then evictions. -/
def placeAll (n : Nat) (rings : List RingRead) (s : State) : Bld × State :=
  match SMap.look s.serve n with
  | none => (⟨0, 0, 0, [], []⟩, s)
  | some v =>
    if !v.configured then (⟨0, 0, 0, [], []⟩, s)
    else
      let dec := sortedSlots s n shareFirst fun q => q.state == 2 && !q.prefilling
      let x := dec.foldl (fun y slot => placeDecode n slot y) (⟨v.budget, freeLen v, 0, [], []⟩, s)
      evictFor n v (if x.1.deficit = 0 then placePrefill n rings x else x)

/-- KV_LOW (R420), and the release list joins the free list (R427). -/
def endOfBuild (n : Nat) (s : State) : State :=
  match SMap.look s.serve n with
  | none => s
  | some v =>
    let k := freeLen v
    let low := v.kvLow != 0 && v.kvArmed && decide (k < v.kvLow)
    let arm := if low then false else v.kvArmed || decide (v.kvLow + Nat.max 1 (v.kvLow / 8) ≤ k)
    let s1 := setServe n { v with kvArmed := arm, freed := v.freed ++ v.release, release := [] } s
    if low then raiseServe evKvLow n k s1 else s1

/-! ## Work lists (R434, R441, R444) -/

/-- One entry of 16 bytes. -/
def workEntry (tok pos row slot kind parent : Nat) : List Byte :=
  toLe 4 tok ++ toLe 4 pos ++ toLe 4 row ++ toLe 2 slot ++ toLe 1 kind ++ toLe 1 parent

/-- Depth of each node, the root first. -/
def nodeDepths (nodes : List (Nat × Nat)) : List Nat := nodes.foldl (fun d x => d ++ [d.getD x.2 0 + 1]) [0]

/-- A sequence's entries in the target run. -/
def targetEntries (slot : Nat) (q : Seq) : List (List Byte) :=
  if q.fillToks.isEmpty then
    let p := q.rec_.position
    let ds := nodeDepths q.nodes
    workEntry q.rec_.lastToken p p slot 0 0xFF :: (List.range q.nodes.length).map fun i =>
      let x := q.nodes.getD i (0, 0)
      workEntry x.1 (p + ds.getD (i + 1) 0) (p + i + 1) slot 2 (i + 1 - x.2)
  else
    (List.range q.fillToks.length).map fun i =>
      let row := q.rec_.prefilled + i
      workEntry (q.fillToks.getD i 0) row row slot (if row + 1 = q.rec_.promptLen then 3 else 1) 0xFF

/-- Whether a sequence has a slot in draft run j. -/
def inDraft (v : Serve) (j : Nat) (q : Seq) : Bool :=
  v.draftLadder != 0 && !q.rec_.hostDrafts && q.fillToks.isEmpty && decide (j ≤ q.placed)

/-- A sequence's entries in draft run j, 1 and up. -/
def draftEntries (j slot : Nat) (q : Seq) : List (List Byte) :=
  let p := q.rec_.position
  let extra := if j = 1 && q.allAccepted then [workEntry (q.draftToks.getLast?.getD 0) (p - 1) (p - 1) slot 1 0xFF] else []
  let tok := if j = 1 then q.rec_.lastToken else q.draftToks.getLast?.getD 0
  extra ++ [workEntry tok (p + j - 1) (p + j - 1) slot (if j = 1 then 0 else 2) 0xFF]

/-- Entries of a run, each sequence's with its slot. -/
def runEntries (v : Serve) (p : Step) : List (Nat × List (List Byte)) :=
  p.members.filterMap fun slot =>
    match SMap.look v.seqs slot with
    | none => none
    | some q =>
      if p.run = 0 then some (slot, targetEntries slot q)
      else if inDraft v p.run q then some (slot, draftEntries p.run slot q)
      else none

/-- First work-list slot of each sequence of a run. -/
def entryStarts (l : List (Nat × List (List Byte))) : List (Nat × Nat) :=
  (l.foldl (fun a e => (a.1 ++ [(e.1, a.2)], a.2 + e.2.length)) (([], 0) : List (Nat × Nat) × Nat)).1

/-- Fix-ups of the sequences in a target run. -/
def runFixups (v : Serve) (p : Step) : List (List Byte) :=
  if p.run != 0 then []
  else p.members.flatMap fun slot =>
    match SMap.look v.seqs slot with
    | none => []
    | some q => q.fixups.map fun x => toLe 4 slot ++ toLe 4 x.1 ++ toLe 4 x.2

/-- Send a member one WRITE of its step area (R440). -/
def sendPart (n addr dev : Nat) (d : List Byte) (s : State) : Bool × State :=
  sendTxn ⟨some n, 2, 0, dev, { bareTxn s 0x03 n with addr := addr, data := d },
    some { port := 0, op := 0x03, facet := n, cmd := stepRun n, dest := dev, endpoint := false }⟩ s

/-- Send a member its step area, as far as the writes can leave (R440). -/
def sendParts (n addr dev : Nat) : List (Nat × List Byte) → State → State
  | [], s => s
  | x :: r, s =>
    let y := sendPart n (addr + x.1) dev x.2 s
    if y.1 then sendParts n addr dev r y.2 else meetStatus (stepRun n) stPeerTimeout dev y.2

def sendArea (n addr : Nat) (d : List Byte) (dev : Nat) (s : State) : State :=
  sendParts n addr dev (flitParts (flitData s n) d) s

/-- Write the step area for the run that stands next. -/
def writeRun (n : Nat) (s : State) : State :=
  match SMap.look s.serve n, facetOf s n with
  | some v0, some f =>
    match v0.step with
    | none => s
    | some p =>
      let target (q : Seq) : Seq := if q.rec_.hostDrafts || !q.fillToks.isEmpty then q else { q with nodes := nodesOf q }
      let v := if p.run = 0 then { v0 with seqs := v0.seqs.map fun e => (e.1, if p.members.contains e.1 then target e.2 else e.2) } else v0
      let es := runEntries v p
      let fx := runFixups v p
      let slots := es.foldl (fun a e => a + e.2.length) 0
      let body := toLe 8 p.n ++ toLe 4 slots ++ toLe 4 fx.length ++ toLe 1 p.run ++ List.replicate 47 0 ++
        es.flatMap fun e => e.2.flatMap id
      let fbytes := fx.flatMap id
      let starts := entryStarts es
      let mark (slot : Nat) (q : Seq) : Seq :=
        if p.run != 0 then q
        else match starts.find? fun x => x.1 == slot with
        | some x => { q with at_ := some x.2, fixups := [] }
        | none => q
      let v1 := { v with seqs := v.seqs.map fun e => (e.1, mark e.1 e.2) }
      let s1 := winPut n v1 (stepArea v1) body (setServe n v1 s)
      let s2 := if fbytes.isEmpty then s1 else winPut n v1 (stepArea v1 + 0x60040) fbytes s1
      forAll f.memberDevs (fun d t =>
        let t1 := sendArea n (stepAreaVa v1) body d t
        if fbytes.isEmpty then t1 else sendArea n (stepAreaVa v1 + 0x60040) fbytes d t1) s2
  | _, _ => s

/-- The first run of a step: draft run 1 where some sequence drafts, else the target run. -/
def nextRun (v : Serve) (p : Step) (j : Nat) : Nat :=
  if j ≤ v.draftLen && p.members.any fun slot => ((SMap.look v.seqs slot).map (inDraft v j)).getD false then j else 0

/-- Make the step of a build, if it has slots. -/
def makeStep (n : Nat) (b : Bld) (s : State) : State :=
  match SMap.look s.serve n with
  | none => s
  | some v =>
    if b.order.isEmpty then s
    else
      let p : Step := { n := v.stepNo + 1, run := 0, copies := b.copies, copiesDone := b.copies.isEmpty, acceptedAt := s.nextCmd,
                        members := b.order }
      let p1 := { p with run := nextRun v p 1 }
      let s1 := updFacet n (fun f => { f with stepMet := [], stepAcct := {} })
        (setServe n { v with stepNo := v.stepNo + 1, step := some p1 } { s with nextCmd := s.nextCmd + 1 })
      tryStartStep n (writeRun n s1)

/-! ## Rows -/

/-- A build may begin: the last step is over and the facet is whole (R437). -/
def mayBuild (s : State) (n : Nat) : Bool :=
  match facetOf s n, SMap.look s.serve n with
  | some f, some v =>
    computeUp s && s.pwr.halt.isNone && f.eclipse.isNone && (f.state == 2 || f.state == 3) && !f.member &&
      match v.step with
      | none => true
      | some p => p.done
  | _, _ => false

/-- The build of R435. -/
def buildStep (n : Nat) (rings : List RingRead) (s : State) : State :=
  let s1 := takeResults n (rings.foldl (fun t r => acceptRing n r t) s)
  let s2 := flushAll n (forAll (slotsWhere s1 n fun _ => true) (leaver n) s1)
  let x := placeAll n rings s2
  let gone := (slotsWhere x.2 n fun q => q.endRec.isSome).filter fun k =>
    ((seqAt s2 n k).map (·.endRec.isNone)).getD false
  makeStep n x.1 (endOfBuild n (forAll gone (flushSeq n) x.2))

def stepBuildEff (n : Nat) (rings : List RingRead) (s : State) : State :=
  if mayBuild s n then synced n (buildStep n rings) s else s

/-- STEP_BUILD (R435 to R438, R443 to R449): takes the results of the last step and builds the next. `rings` is what the
builder reads of output ring headers and of prompts in host memory. -/
def execStepBuild (facet : Nat) (rings : List RingRead) (s : State) : Host.Outcome State Fault Refusal :=
  checked (okFacet facet) s (stepBuildEff facet rings)

/-- Copy one block; a failing read ends the sequence that the copy is for. -/
def copyBlock (n : Nat) (x : Nat × Nat) (s : State) : State :=
  match SMap.look s.serve n with
  | none => s
  | some v =>
    let r := winGet n v (x.1 * blockBytes v) (blockBytes v) s
    match r.1 with
    | .inl d => winPut n v (x.2 * blockBytes v) d r.2
    | .inr e =>
      forAll (slotsWhere r.2 n fun q => q.blocks.contains x.2) (fun slot t =>
        match seqAt t n slot with
        | none => t
        | some q =>
          let t1 := updSeq n slot (fun y => { y with leave := some (5, e.1) }) t
          if losesContext e.1 then loseContext q.context t1 else t1) r.2

def stepCopiesDoneEff (n : Nat) (s : State) : State :=
  match (SMap.look s.serve n).bind (·.step) with
  | none => s
  | some p =>
    if p.copiesDone then s
    else tryStartStep n (updStep n (fun q => { q with copiesDone := true }) (p.copies.foldl (fun t x => copyBlock n x t) s))

/-- STEP_COPIES_DONE (R426, R437). -/
def execStepCopiesDone (facet : Nat) (s : State) : Host.Outcome State Fault Refusal :=
  checked (okFacet facet) s (stepCopiesDoneEff facet)

/-- Part k of w of an activity. -/
def acctPart (a : Acct) (k w : Nat) : Acct :=
  { a with e8 := a.e8 * k / w, passes := a.passes * k / w, vec := a.vec * k / w, energy := a.energy * k / w, hbm := a.hbm * k / w
           link := a.link * k / w, modelled := a.modelled * k / w, commands := 0, misses := 0 }

def acctAdd (a b : Acct) : Acct :=
  { a with e8 := a.e8 + b.e8, passes := a.passes + b.passes, vec := a.vec + b.vec, energy := a.energy + b.energy
           hbm := a.hbm + b.hbm, link := a.link + b.link, modelled := a.modelled + b.modelled }

/-- Divide a run's activity among the contexts of its sequences by their slots (R466). -/
def divideAcct (n : Nat) (v : Serve) (p : Step) (s : State) : State :=
  match facetOf s n with
  | none => s
  | some f =>
    let total := Nat.max 1 (p.members.foldl (fun a k => a + ((SMap.look v.seqs k).map (·.slots)).getD 0) 0)
    let s1 := p.members.foldl (fun t k =>
      match SMap.look v.seqs k with
      | none => t
      | some q => updCtx q.context (fun x => { x with acct := acctAdd x.acct (acctPart f.stepAcct q.slots total) }) t) s
    updFacet n (fun g => { g with stepAcct := {} }) s1

/-- Slowdown sums and progress of a run (R475, R480). -/
def countRun (n : Nat) (f : Facet) (v : Serve) (p : Step) (good : Bool) (s : State) : State :=
  let slots := p.members.foldl (fun a k => a + ((SMap.look v.seqs k).map (·.slots)).getD 0) 0
  let solo := ((currentSeg f (runLadder v p.run)).map (·.seg.soloEstimate)).getD 0
  let est := scaledEstimate s f.cores solo * Nat.max slots (v.budget / 8) / Nat.max 1 v.budget
  let dur := ltcOf s f.master - p.startedAt
  updFacet n (fun g => { g with
    progress := g.progress + 1
    slowDur := if good then g.slowDur + dur else g.slowDur
    slowEst := if good then g.slowEst + est else g.slowEst
    slowN := if good then g.slowN + 1 else g.slowN }) s

/-- Take the drafts that draft run j sampled (R441). -/
def takeDrafts (n : Nat) (v : Serve) (p : Step) (s : State) : State :=
  let es := runEntries v p
  (entryStarts es).foldl (fun t x =>
    let k := ((es.find? fun e => e.1 == x.1).map (·.2.length)).getD 1
    let r := winGet n v (stepArea v + 0x40040 + 8 * (x.2 + k - 1)) 4 t
    match r.1 with
    | .inr _ => r.2
    | .inl d => updSeq n x.1 (fun q => { q with draftToks := (if p.run = 1 then [] else q.draftToks) ++ [ofLe d] }) r.2) s

/-- The run of a step has ended well: the next run, or the results are in. -/
def advanceStep (n : Nat) (v : Serve) (p : Step) (s : State) : State :=
  if p.run = 0 then
    updServe n (fun w => { w with steps := w.steps + 1, step := some { p with done := true, started := false } }) s
  else
    let s1 := takeDrafts n v p s
    let j := if p.run < v.draftLen then nextRun v p (p.run + 1) else 0
    launchRun n (writeRun n (updStep n (fun q => { q with run := j }) s1))

def stepRunCompleteEff (n : Nat) (s : State) : State :=
  match facetOf s n, SMap.look s.serve n with
  | some f, some v =>
    match v.step with
    | none => s
    | some p =>
      if !p.started || p.done || f.switching.isSome || f.eclipse.isSome || p.due != 0 || !coresEnded s (stepRun n) f.cores f.stepMet then s
      else
        let s1 := freeCores (stepRun n) f.cores (checkCores f.cores s)
        let st := (combineStatus (((facetOf s1 n).map (·.stepMet)).getD [])).1
        let good := st == stOk || st == stNumericSuspect
        let s2 := divideAcct n v p (countRun n f v p good s1)
        if good then advanceStep n v p s2 else synced n (endStep n st) s2
  | _, _ => s

/-- STEP_RUN_COMPLETE (R434, R439, R441): a run of the step in progress has ended on its cores and members. -/
def execStepRunComplete (facet : Nat) (s : State) : Host.Outcome State Fault Refusal :=
  checked (okFacet facet) s (stepRunCompleteEff facet)

/-- A sequence deadline has passed (R450). -/
def missDeadline (n slot : Nat) (q : Seq) (inter : Bool) (s : State) : State :=
  let s1 := countDeadline n 1 (updCtx q.context (fun x => { x with acct := { x.acct with misses := x.acct.misses + 1 } }) s)
  let flag (x : Seq) : Seq :=
    { x with interMissed := x.interMissed || inter, firstDeadline := if inter then x.firstDeadline else 0 }
  if q.state = 1 || !q.report then
    let s2 := updSeq n slot (fun x => { flag x with leave := some (5, stDeadlineMissed) }) s1
    if q.report then s2 else loseContext q.context s2
  else
    raiseServe evSeqDeadline n (q.rec_.seqId + b2n inter * 2 ^ 32)
      (updSeq n slot (fun x => { flag x with missNext := true }) s1)

def seqDeadlineExpiryEff (n seqId : Nat) (inter : Bool) (s : State) : State :=
  match (SMap.look s.serve n).bind fun v => slotOfSeq v seqId with
  | none => s
  | some slot =>
    match seqAt s n slot with
    | none => s
    | some q =>
      let due := if inter then q.rec_.interTokenNs != 0 && q.lastTokenLtc != 0 && !q.interMissed else q.firstDeadline != 0
      if due && (q.state == 1 || q.state == 2) && q.leave.isNone then missDeadline n slot q inter s else s

/-- SEQ_DEADLINE_EXPIRY (R450). -/
def execSeqDeadlineExpiry (facet seqId : Nat) (inter : Bool) (s : State) : Host.Outcome State Fault Refusal :=
  checked (okFacet facet) s (seqDeadlineExpiryEff facet seqId inter)

end Sys2Proof.Machine
end

