-- ==== Sys2Proof/Machine/Handoff.lean ====
section
/-! DEFINITION. State handoff through the pooled tier (14 R451 to R460): exports, evictions, offers, imports. -/

namespace Sys2Proof.Machine

/-- Offer deadline of a facet in local ns (R451). -/
def offerNs (f : Facet) : Nat := (if f.tier.offer = 0 then 500 else f.tier.offer) * 100000

/-- Change a sequence's export in progress. -/
def updExp (n slot : Nat) (g : Export → Export) (s : State) : State :=
  updSeq n slot (fun q => { q with exp := q.exp.map g }) s

/-- An effect on a sequence whose export stands at one of some steps; otherwise nothing happens. -/
def withExp (n seqId : Nat) (steps : List Nat) (act : Nat → Seq → Export → State → State) (s : State) : State :=
  match (SMap.look s.serve n).bind fun v => slotOfSeq v seqId with
  | none => s
  | some slot =>
    match seqAt s n slot with
    | none => s
    | some q =>
      match q.exp with
      | none => s
      | some x => if steps.contains x.step then synced n (act slot q x) s else s

/-- The word that an exporter accepts at E2: EMPTY, or RELEASED or OWNED by itself (R455). -/
def acceptWord (me : Nat × Nat) (w : Nat) : Bool :=
  w == 0 || w == ownWord (w / 2 ^ 32) me.1 me.2 3 || w == ownWord (w / 2 ^ 32) me.1 me.2 2

/-- An eviction export fails: END EVICTED with KV_EXHAUSTED (R459). -/
def evictFails (n slot : Nat) (q : Seq) (s : State) : State :=
  raiseServe evSeqEvicted n (q.rec_.seqId + stKvExhausted * 2 ^ 32) (leaveNow n slot 7 stKvExhausted false s)

/-- An export fails: the command completes HANDOFF_LOST and the sequence is held; after an ERROR or timeout of the offer its
outcome is unknown (R455). -/
def exportLost (n slot : Nat) (q : Seq) (x : Export) (unknown : Bool) (s : State) : State :=
  if x.evict then evictFails n slot q s
  else endExportCmd (some x) stHandoffLost
    (holdSeq n slot (fun r => { r with offerUnknown := r.offerUnknown || unknown }) s)

/-- E5: the offeree owns the sequence (R455). -/
def handedOff (n slot : Nat) (q : Seq) (x : Export) (s : State) : State :=
  let s1 := endExportCmd (some x) stOk s
  raiseServe evSeqHandoff n q.rec_.seqId
    (updServe n (fun v => { v with handedOff := v.handedOff + 1 }) (leaveNow n slot 4 stOk false s1))

/-- E2: the ownership word is read. -/
def readWord (n slot seqId tier step : Nat) (s : State) : State :=
  tierRead n seqId tier 8 (updExp n slot (fun x => { x with step := step }) s)

/-- What a sequence an export may start from (R454). -/
def exportOk (q : Seq) (c : Cmd) (a : ExportArgs) : Bool :=
  q.context == c.desc.context && q.exp.isNone &&
    if a.resolve then q.state == 5 && q.endRec.isNone
    else (q.state == 2 || q.state == 5) && !q.rec_.offerUnknown

def stateExportEff (id : Nat) (s : State) : State :=
  match cmdOf s id with
  | none => s
  | some c =>
    match c.desc.payload, facetOf s c.facet with
    | .stateExport a, some f =>
      if !mayStart s id then s
      else
        match (SMap.look s.serve c.facet).bind fun v => (slotOfSeq v a.seqId).bind fun k => (SMap.look v.seqs k).map fun q => (k, q) with
        | none => endUnstarted id stBadHandle 0 s
        | some (slot, q) =>
          if f.tier.kind == 0 || !exportOk q c a then endUnstarted id stBadHandle 0 s
          else
            let x : Export := ⟨1, some id, a.device, a.facet, 0, none, false⟩
            let s1 := updSeq c.facet slot (fun y => { y with exp := some x }) (startCmd id s)
            if q.state = 2 then s1
            else readWord c.facet slot a.seqId q.rec_.tier (if a.resolve then 7 else 2)
              (updSeq c.facet slot (fun y => { y with state := 3 }) s1)
    | _, _ => s

/-- STATE_EXPORT (R454, R458). -/
def execStateExport (cmd : Nat) (s : State) : Host.Outcome State Fault Refusal :=
  checked true s (stateExportEff cmd)

def exportLastPassDoneEff (n seqId : Nat) (s : State) : State :=
  withExp n seqId [1] (fun slot q _ t => if q.state = 3 then readWord n slot seqId q.rec_.tier 2 t else t) s

/-- EXPORT_LAST_PASS_DONE (R455 step E1): the builder has taken the sequence out, and its last step is over. -/
def execExportLastPassDone (facet seqId : Nat) (s : State) : Host.Outcome State Fault Refusal :=
  checked (okFacet facet) s (exportLastPassDoneEff facet seqId)

/-- Write the blocks of a list to the tier in full (R452); false where a read of the pool fails. -/
def exportBlocks (n : Nat) (f : Facet) (v : Serve) (q : Seq) : List Nat → State → Bool × State
  | [], s => (true, s)
  | i :: r, s =>
    let b := q.blocks.getD i noBlock
    let src := if b = noBlock then
        match q.owed.find? fun o => o.1 == i with
        | some o => o.2
        | none => b
      else b
    let d := winGet n v (src * blockBytes v) (blockBytes v) s
    match d.1 with
    | .inr _ => (false, d.2)
    | .inl bytes => exportBlocks n f v q r (tierWrite n q.rec_.seqId (tierBlock f v q.rec_.tier i) bytes d.2)

/-- E3: the record and every block are written. -/
def exportWrites (n slot : Nat) (q : Seq) (x : Export) (w : Nat) (s : State) : State :=
  match facetOf s n, SMap.look s.serve n with
  | some f, some v =>
    let s1 := updExp n slot (fun y => { y with step := 3, word := w }) s
    let s2 := tierWrite n q.rec_.seqId (q.rec_.tier + 0x100) (recordBytes q.rec_) s1
    let r := exportBlocks n f v q (List.range q.blocks.length) s2
    if r.1 then r.2 else exportLost n slot q x false r.2
  | _, _ => s

/-- E4: word 1 is written and the offer sent: a CAS from word `w` to OFFERED. An eviction offers to itself with no deadline. -/
def sendOffer (n slot : Nat) (q : Seq) (x : Export) (w : Nat) (s : State) : State :=
  let me := globalOf s n
  let e := w / 2 ^ 32
  let ns := if x.evict then 0 else ((facetOf s n).map offerNs).getD 0
  let word1 := me.1 % 65536 * 2 ^ 48 + me.2 % 64 * 2 ^ 42 + ns
  let s1 := updSeq n slot (fun y => { y with
    rec_ := { y.rec_ with offeredEpoch := e }, offerFrom := some w, exp := some { x with step := 4, word := w } }) s
  let s2 := tierWrite n q.rec_.seqId (q.rec_.tier + 8) (toLe 8 word1) s1
  tierCas n q.rec_.seqId q.rec_.tier w (ownWord e x.device x.facet 1) s2

/-- The offer stands: it is polled, with a deadline from now (R455). -/
def offerStands (n slot : Nat) (x : Export) (e : Nat) (s : State) : State :=
  let f := facetOf s n
  let due := ltcOf s ((f.map (·.master)).getD 0) + (f.map offerNs).getD 0
  endExportCmd (some x) stOk (updSeq n slot (fun q => { q with
    offered := true, offerClk := (f.map (·.master)).getD 0
    exp := some { x with step := 5, cmd := none, deadline := some due, word := ownWord e x.device x.facet 1 } }) s)

/-- R458 for an export. -/
def resolveExport (n slot : Nat) (q : Seq) (x : Export) (w : Nat) (s : State) : State :=
  let e := q.rec_.offeredEpoch
  if w = ownWord (e + 1) x.device x.facet 2 then handedOff n slot q x s
  else if w = ownWord e x.device x.facet 1 then offerStands n slot x e s
  else if q.offerFrom = some w then
    sendOffer n slot q x w (updSeq n slot (fun y => { y with rec_ := { y.rec_ with offerUnknown := false } }) s)
  else exportLost n slot q x false s

def exportWordReadEff (n seqId : Nat) (a : TierAnswer) (s : State) : State :=
  withExp n seqId [2, 7] (fun slot q x t =>
    match a with
    | .failed => exportLost n slot q x false t
    | .word w =>
      if x.step = 7 then resolveExport n slot q x w t
      else if acceptWord (globalOf t n) w then exportWrites n slot q x w t
      else exportLost n slot q x false t) s

/-- EXPORT_WORD_READ (R455 step E2, R458, R459). -/
def execExportWordRead (facet seqId : Nat) (a : TierAnswer) (s : State) : Host.Outcome State Fault Refusal :=
  checked (okFacet facet) s (exportWordReadEff facet seqId a)

def exportWritesAckedEff (n seqId : Nat) (good : Bool) (s : State) : State :=
  withExp n seqId [3] (fun slot q x t =>
    if good then sendOffer n slot q x x.word t else exportLost n slot q x false t) s

/-- EXPORT_WRITES_ACKED (R455 steps E3 and E4, R459). -/
def execExportWritesAcked (facet seqId : Nat) (ok : Bool) (s : State) : Host.Outcome State Fault Refusal :=
  checked (okFacet facet) s (exportWritesAckedEff facet seqId ok)

/-- The offer CAS is answered. -/
def casAnswered (n slot : Nat) (q : Seq) (x : Export) (a : CasAnswer) (s : State) : State :=
  match a with
  | .won =>
    if x.evict then raiseServe evSeqEvicted n q.rec_.seqId (leaveNow n slot 7 stOk false s)
    else offerStands n slot x q.rec_.offeredEpoch s
  | .compareFailed => exportLost n slot q x false s
  | .failed => exportLost n slot q x true s

def exportCasAnswerEff (n seqId : Nat) (a : CasAnswer) (s : State) : State :=
  withExp n seqId [4] (fun slot q x => casAnswered n slot q x a) s

/-- EXPORT_CAS_ANSWER (R455 step E4, R459). -/
def execExportCasAnswer (facet seqId : Nat) (a : CasAnswer) (s : State) : Host.Outcome State Fault Refusal :=
  checked (okFacet facet) s (exportCasAnswerEff facet seqId a)

def exportPollEff (n seqId : Nat) (a : TierAnswer) (s : State) : State :=
  withExp n seqId [5] (fun slot q x t =>
    let s1 := tierRead n seqId q.rec_.tier 8 t
    match a with
    | .failed => s1
    | .word w =>
      if w = ownWord (q.rec_.offeredEpoch + 1) x.device x.facet 2 then handedOff n slot q x s1
      else updExp n slot (fun y => { y with word := w }) s1) s

/-- EXPORT_POLL (R455 step E5): one read of the word, with its answer. -/
def execExportPoll (facet seqId : Nat) (a : TierAnswer) (s : State) : Host.Outcome State Fault Refusal :=
  checked (okFacet facet) s (exportPollEff facet seqId a)

def exportOfferDeadlineEff (n seqId : Nat) (s : State) : State :=
  withExp n seqId [5] (fun slot q x t =>
    if x.deadline.isSome && x.word == ownWord q.rec_.offeredEpoch x.device x.facet 1 then beginReclaim n slot t else t) s

/-- EXPORT_OFFER_DEADLINE (R455 step E6). -/
def execExportOfferDeadline (facet seqId : Nat) (s : State) : Host.Outcome State Fault Refusal :=
  checked (okFacet facet) s (exportOfferDeadlineEff facet seqId)

def reclaimAnswered (n slot : Nat) (q : Seq) (x : Export) (a : CasAnswer) (s : State) : State :=
  match a with
  | .won =>
    raiseServe evSeqHandoff n (q.rec_.seqId + 2 ^ 32) (leaveNow n slot 8 stHandoffLost true s)
  | .compareFailed =>
    updExp n slot (fun y => { y with
      step := 5, deadline := none, word := ownWord (q.rec_.offeredEpoch + 1) x.device x.facet 2 }) s
  | .failed =>
    raiseServe evSeqHandoff n (q.rec_.seqId + 2 * 2 ^ 32) (holdSeq n slot (fun r => { r with offerUnknown := true }) s)

def exportReclaimAnswerEff (n seqId : Nat) (a : CasAnswer) (s : State) : State :=
  withExp n seqId [8] (fun slot q x => reclaimAnswered n slot q x a) s

/-- EXPORT_RECLAIM_ANSWER (R455 step E6). -/
def execExportReclaimAnswer (facet seqId : Nat) (a : CasAnswer) (s : State) : Host.Outcome State Fault Refusal :=
  checked (okFacet facet) s (exportReclaimAnswerEff facet seqId a)

/-! ## Imports (R456, R457) -/

def stateImportEff (id : Nat) (s : State) : State :=
  match cmdOf s id with
  | none => s
  | some c =>
    match c.desc.payload, facetOf s c.facet, SMap.look s.serve c.facet with
    | .stateImport a, some f, some v =>
      if !mayStart s id then s
      else if f.tier.kind == 0 || !v.configured || idTaken s c.facet v a.seqId then endUnstarted id stBadHandle 0 s
      else updCmd id (fun x => { x with stage := 1 }) (startCmd id s)
    | .stateImport _, _, _ => if mayStart s id then endUnstarted id stBadHandle 0 s else s
    | _, _, _ => s

/-- STATE_IMPORT (R456). -/
def execStateImport (cmd : Nat) (s : State) : Host.Outcome State Fault Refusal :=
  checked true s (stateImportEff cmd)

/-- An effect on a running import at a stage; otherwise nothing happens. -/
def withImport (id stage : Nat) (act : Cmd → ImportArgs → Facet → Serve → State → State) (s : State) : State :=
  match cmdOf s id with
  | none => s
  | some c =>
    match c.desc.payload, facetOf s c.facet, SMap.look s.serve c.facet with
    | .stateImport a, some f, some v => if c.phase == .running && c.stage == stage then act c a f v s else s
    | _, _, _ => s

def importSlotReservedEff (id : Nat) (s : State) : State :=
  withImport id 1 (fun c a _ v t =>
    match freeSlot t c.facet v with
    | none => t
    | some slot =>
      let s1 := updCmd id (fun x => { x with stage := 2, slot := slot }) t
      tierRead c.facet a.seqId (a.tier + 0x100) 256 (tierRead c.facet a.seqId a.tier 8 s1)) s

/-- IMPORT_SLOT_RESERVED (R457 steps I0 and I1). -/
def execImportSlotReserved (cmd : Nat) (s : State) : Host.Outcome State Fault Refusal :=
  checked true s (importSlotReservedEff cmd)

/-- An import fails; its slot is free again. -/
def importFails (id st : Nat) (s : State) : State := finishCmd id (meetStatus id st 0 s)

/-- What the importer checks of a record (R457 step I1). -/
def importFits (f : Facet) (v : Serve) (r : SeqRecord) : Bool :=
  (SMap.look f.ladders v.ladder).map (·.weightSet) == some r.weightSet && r.kvFormat == f.kvFormat &&
    r.blockUnits == v.units && r.modules == modulesOf f

/-- I3: the sequence enters the table as WAITING, and the command is done. -/
def enterImport (id : Nat) (c : Cmd) (a : ImportArgs) (v : Serve) (r : SeqRecord) (epoch : Nat) (s : State) : State :=
  let ft := if a.firstTokenNs = 0 then r.firstTokenNs else a.firstTokenNs
  let r1 := { r with
    seqId := a.seqId, outRing := a.outRing, outLog2 := a.outLog2, outSource := a.outSource, tier := a.tier
    share := if a.share = 0 then r.share else a.share, firstTokenNs := ft }
  let q : Seq := { rec_ := r1, context := c.desc.context, report := c.report, age := v.nextAge, import_ := true,
                   importEpoch := epoch, firstDeadline := if ft = 0 then 0 else c.acceptedAt + ft, firstClk := c.clk }
  finishCmd id (synced c.facet (setServe c.facet { v with
    seqs := SMap.put v.seqs c.slot q, nextAge := v.nextAge + 1 }) s)

def importWordReadEff (id : Nat) (ans : TierAnswer) (image : List Byte) (s : State) : State :=
  let r := recordOfBytes image
  withImport id 2 (fun c a f v t =>
    match ans with
    | .failed => importFails id stStateLost t
    | .word w =>
      let me := globalOf t c.facet
      let e := w / 2 ^ 32
      if !importFits f v r then importFails id stBadHandle t
      else if a.resolve && w == ownWord e me.1 me.2 2 then enterImport id c a v r e t
      else if w = ownWord e me.1 me.2 1 then
        tierCas c.facet a.seqId a.tier w (ownWord (e + 1) me.1 me.2 2)
          (updCmd id (fun x => { x with stage := 3, word := w, image := some r }) t)
      else importFails id stHandoffLost t) s

/-- IMPORT_WORD_READ (R457 steps I1 and I2, R458). -/
def execImportWordRead (cmd : Nat) (a : TierAnswer) (record : List Byte) (s : State) : Host.Outcome State Fault Refusal :=
  checked true s (importWordReadEff cmd a record)

def importCasAnswerEff (id : Nat) (ans : CasAnswer) (s : State) : State :=
  withImport id 3 (fun c a _ v t =>
    match ans, c.image with
    | .won, some r => enterImport id c a v r (c.word / 2 ^ 32 + 1) t
    | .won, none => importFails id stStateLost t
    | .compareFailed, _ => importFails id stHandoffLost t
    | .failed, _ => importFails id stStateLost t) s

/-- IMPORT_CAS_ANSWER (R457 steps I2 and I3). -/
def execImportCasAnswer (cmd : Nat) (a : CasAnswer) (s : State) : Host.Outcome State Fault Refusal :=
  checked true s (importCasAnswerEff cmd a)

/-- Write read data into the blocks of a list; bytes that the operand does not give read as 0. -/
def importBlocks (n : Nat) (v : Serve) : List Nat → List Byte → State → State
  | [], _, s => s
  | b :: r, d, s =>
    let k := blockBytes v
    let d1 := d.take k
    importBlocks n v r (d.drop k) (winPut n v (b * k) (d1 ++ List.replicate (k - d1.length) 0) s)

/-- I4 is done, and the release CAS of I5 goes out; or the sequence is lost. -/
def importBlockReadsDoneEff (n seqId : Nat) (good : Bool) (data : List Byte) (s : State) : State :=
  match (SMap.look s.serve n).bind fun v => (slotOfSeq v seqId).bind fun k => (SMap.look v.seqs k).map fun q => (v, k, q) with
  | none => s
  | some (v, slot, q) =>
    if !q.reading then s
    else if !good then synced n (leaveNow n slot 5 stStateLost false) s
    else
      let me := globalOf s n
      let s1 := importBlocks n v q.blocks data s
      let s2 := updServe n (fun w => { w with imports := w.imports + 1, releases := w.releases ++ [seqId] })
        (updSeq n slot (fun x => { x with reading := false, ready := true }) s1)
      tierCas n seqId q.rec_.tier (ownWord q.importEpoch me.1 me.2 2) (ownWord q.importEpoch me.1 me.2 3) s2

/-- IMPORT_BLOCK_READS_DONE (R457 steps I4 and I5). -/
def execImportBlockReadsDone (facet seqId : Nat) (ok : Bool) (data : List Byte) (s : State) :
    Host.Outcome State Fault Refusal :=
  checked (okFacet facet) s (importBlockReadsDoneEff facet seqId ok data)

def importReleaseAnswerEff (n seqId : Nat) (a : CasAnswer) (s : State) : State :=
  match SMap.look s.serve n with
  | none => s
  | some v =>
    if !v.releases.contains seqId then s
    else
      let s1 := setServe n { v with releases := v.releases.erase seqId } s
      if a = .won then s1 else raiseServe evTierReleaseFail n seqId s1

/-- IMPORT_RELEASE_ANSWER (R457 step I5). -/
def execImportReleaseAnswer (facet seqId : Nat) (a : CasAnswer) (s : State) : Host.Outcome State Fault Refusal :=
  checked (okFacet facet) s (importReleaseAnswerEff facet seqId a)

end Sys2Proof.Machine
end

