-- ==== Sys2Proof/Machine/Eclipse.lean ====
section
/-! DEFINITION. Time limits (11 R337), COMPUTE_RESET and the eclipse of a facet's cores (15 R481 to R490). -/

namespace Sys2Proof.Machine

def updEclipse (n : Nat) (g : Eclipse → Eclipse) (s : State) : State :=
  updFacet n (fun f => { f with eclipse := f.eclipse.map g }) s

/-- Start an eclipse of a facet, or join the one in progress (R482, R490). Causes: 0 HANG, 1 time limit, 2 COMPUTE_RESET,
3 forced quiesce. `limited` is the work that has reached its time limit. -/
def startEclipse (n cause : Nat) (tickets : List Ticket) (limited : List Nat) (s : State) : State :=
  updFacet n (fun f =>
    { f with eclipse := match f.eclipse with
        | some x => some { x with tickets := x.tickets ++ tickets, limited := NSet.union x.limited limited }
        | none => some { phase := 1, cause := cause, tickets := tickets, cores := f.cores, startedAt := mcNow s
                         limited := NSet.ofList limited } }) s

def computeResetEff (h : Req) (n : Nat) (s : State) : State :=
  serveJob h opComputeReset true (fun t => { status := if (facetOf t n).isSome then syAccepted else syNotFound })
    (fun t =>
      let tk := ticketOf h opComputeReset
      if ((facetOf t n).map (·.state)).getD 4 = 4 then requestDone tk syOk t else startEclipse n 2 [tk] [] t) s

/-- COMPUTE_RESET (R481). A facet that is being destroyed has no cores left, and the request is done at once. -/
def execComputeReset (fn : Nat) (s : State) : Host.Outcome State Fault Refusal :=
  checked (okFn fn) s (onRequest fn layReset fun h b => computeResetEff h (field b 0 1))

/-- A STATE_IMPORT that waits for a slot counts as not started (R480). -/
def countsStarted (c : Cmd) : Bool :=
  match c.desc.payload with
  | .stateImport _ => c.stage != 1
  | _ => true

/-- A RUN_SEGMENT that waits because a calibration holds it: its time limit counts from its acceptance (R112, log 39). -/
def calWaits (s : State) (c : Cmd) : Bool :=
  c.phase == .waiting && c.ready && isRun c.desc.payload &&
    match facetOf s c.facet with
    | some f => f.cores.any fun k => (enginesOf k).any (calHolds s f)
    | none => false

def commandTimeLimitEff (id : Nat) (s : State) : State :=
  if 2 ^ 32 ≤ id then
    let n := id - 2 ^ 32
    match (SMap.look s.serve n).bind (·.step) with
    | some p => if p.started && !p.done then startEclipse n 1 [] [id] s else s
    | none => s
  else
    match cmdOf s id with
    | none => s
    | some c =>
      if calWaits s c then endUnstarted id stTimeLimit 0 s
      else if c.phase != .running || !countsStarted c then s
      else if isRun c.desc.payload then startEclipse c.facet 1 [] [id] s
      else finishCmd id (meetStatus id stTimeLimit 0 (dropWaiters (fun w => w == id) s))

/-- COMMAND_TIME_LIMIT (R337, R484): work on cores is eclipsed; any other command is abandoned. `cmd` is 2^32 plus the facet
for a step run. -/
def execCommandTimeLimit (cmd : Nat) (s : State) : Host.Outcome State Fault Refusal :=
  checked true s (commandTimeLimitEff cmd)

/-- An effect on a facet whose eclipse stands at a phase, unless a halt has turned the core rails off (R502, log 31); otherwise
nothing happens. -/
def atPhase (n phase : Nat) (act : Facet → Eclipse → State → State) (s : State) : State :=
  if s.pwr.state == 4 then s
  else match facetOf s n with
  | none => s
  | some f =>
    match f.eclipse with
    | none => s
    | some x => if x.phase = phase then act f x s else s

def eclipseFencedEff (n : Nat) (s : State) : State :=
  atPhase n 1 (fun _ _ => updEclipse n (fun x => { x with phase := 2 })) s

/-- ECLIPSE_FENCED (R483 step 1): issue has stopped since the cause. -/
def execEclipseFenced (facet : Nat) (s : State) : Host.Outcome State Fault Refusal :=
  checked (okFacet facet) s (eclipseFencedEff facet)

/-- Outstanding transactions of some work are abandoned; their responses are discarded when they arrive. -/
def abandonOut (p : VOut → Bool) (s : State) : State :=
  forAll ((s.vxl.outst.filter fun e => p e.2).map (·.1)) dropOut s

/-- Chunks in the hand of the decryption units for engines of some cores are dropped (R96). -/
def dropChunks (cores : NSet) (s : State) : State :=
  forAll (List.range 32) (fun k t =>
    match (clusterOf t k).job with
    | some j => if cores.contains (coreOfEngine j.engine) then dropJob k j t else t
    | none => t) s

/-- Reset the cores of an eclipse and clear them; correction tables and tracked corrections stay (R483 step 3, R109, R158). Their
ports' monitor windows give no verdict (R190). -/
def resetCores (cores : NSet) (s : State) : State := forAll cores clearCore (spoilWindows cores (dropChunks cores s))

/-- The status with which work on the cores ends (R484). -/
def eclipseStatus (x : Eclipse) (id : Nat) : Nat := if x.limited.contains id then stTimeLimit else stComputeReset

/-- The command on the cores ends and its record is written (R484). -/
def endEclipsed (id : Nat) (x : Eclipse) (s : State) : State :=
  completeCmd id (finishCmd id (meetStatus id (eclipseStatus x id) 0 s))

def penumbraEnd (n : Nat) (f : Facet) (x : Eclipse) (s : State) : State :=
  let mine (id : Nat) : Bool := f.running == some id || id == stepRun n
  let s1 := dropWaiters mine (abandonOut (fun o => o.facet == n && mine o.cmd) s)
  let s2 := resetCores x.cores { s1 with vxl := { s1.vxl with slots := s1.vxl.slots.filter fun e => e.2.facet != n } }
  let s3 := match f.running with
    | some id => endEclipsed id x s2
    | none => s2
  let s4 := if stepRunning s n then synced n (endStep n (eclipseStatus x (stepRun n))) s3 else s3
  updEclipse n (fun y => { y with phase := 3 }) s4

def eclipsePenumbraEndEff (n : Nat) (s : State) : State := atPhase n 2 (penumbraEnd n) s

/-- ECLIPSE_PENUMBRA_END (R483 steps 2 and 3). -/
def execEclipsePenumbraEnd (facet : Nat) (s : State) : Host.Outcome State Fault Refusal :=
  checked (okFacet facet) s (eclipsePenumbraEndEff facet)

/-- Cores that are lost in an eclipse wait for their replacement at its end (R485). -/
def loseCores (n : Nat) (l : List Nat) (s : State) : State :=
  updEclipse n (fun x => { x with failed := NSet.union x.failed (NSet.inter x.cores (NSet.ofList l)) }) (forAll l (coreFails n) s)

def eclipseClearedEff (n : Nat) (failed : List Nat) (s : State) : State :=
  atPhase n 3 (fun _ x t =>
    if t.fw.handover then t
    else
      let s1 := loseCores n failed t
      forAll (NSet.diff x.cores (NSet.ofList failed)) (fun c => updCore c fun y => { y with cleared := true })
        (updEclipse n (fun y => { y with phase := 4 }) s1)) s

/-- ECLIPSE_CLEARED (R483 steps 3 and 4, R485): `failed` are cores that did not finish. During a firmware handover the next
step waits (R490). -/
def execEclipseCleared (facet : Nat) (failed : List Nat) (s : State) : Host.Outcome State Fault Refusal :=
  checked (okFacet facet) s (eclipseClearedEff facet failed)

/-- The full calibration of an engine after an eclipse passes: it is in service. -/
def passCheck (e : Nat) (t : SMap ColumnCal) (repaired : Bool) (s : State) : State :=
  updEngine e (fun x => { recordCal t (b2n repaired) (engineTemp s e) (coreNow s (coreOfEngine e)) x with
    status := 1, calCall := 0, cal := none, heldCheck := false }) s

/-- The full calibration of one engine, with the repairs or the retirement that follow from it (R107, R120, R483 step 4). -/
def checkEngine (errors : SMap (List CalErrors)) (e : Nat) (s : State) : State :=
  if 3 ≤ (engineOf s e).status then s else calsInTurn 1 e (passCheck e) 5 (SMap.getD errors e []) false s

/-- What the planes of a facet need after its cores were cleared (R483 step 5): the set they held or a switch was filling, the
spare of a replacement in progress, and the loads of a resize that has not switched. -/
def reloadAll (n : Nat) (s : State) : State :=
  match facetOf s n with
  | none => s
  | some f =>
    let lost (e : Nat) : Bool := f.failWait.contains (coreOfEngine e)
    let g := match f.replace with
      | some r => substLadders r.failed r.spare f
      | none => f
    setFacet n (addLoads (resizeReload s f) { f with loads := reloadLoads s g fun e => !lost e }) s

def eclipseCalibratedEff (n : Nat) (errors : SMap (List CalErrors)) (s : State) : State :=
  atPhase n 4 (fun _ x t =>
    let es := (NSet.diff x.cores x.failed).flatMap enginesOf
    let s1 := forAll es (checkEngine errors) t
    let lost (e : Nat) : Bool := (engineOf s1 e).status == 3 && (engineOf t e).status != 3
    let s2 := loseCores n ((es.filter lost).map coreOfEngine) s1
    updEclipse n (fun y => { y with phase := 5 }) (reloadAll n s2)) s

/-- ECLIPSE_CALIBRATED (R483 steps 4 and 5, R485): `errors` lists for an engine what its successive calibrations measured (log 8). -/
def execEclipseCalibrated (facet : Nat) (errors : SMap (List CalErrors)) (s : State) : Host.Outcome State Fault Refusal :=
  checked (okFacet facet) s (eclipseCalibratedEff facet errors)

/-- The eclipse ends: ECLIPSE is raised, requests are done, and a replacement that waited starts. -/
def endEclipse (n duration : Nat) (f : Facet) (x : Eclipse) (s : State) : State :=
  let s1 := setFacet n { f with eclipse := none } s
  let d := x.cause + x.failed.length % 256 * 2 ^ 8 + duration % 2 ^ 32 * 2 ^ 32
  let s2 := raiseFw [0, f.fn] evEclipse f.fn n d none f.confidential s1
  nextFailure n (x.tickets.foldl (fun t k => requestDone k syOk t) s2)

def eclipseEff (n duration : Nat) (s : State) : State :=
  atPhase n 5 (fun f x t => if f.loads.isEmpty then endEclipse n duration f x t else t) s

/-- ECLIPSE (R483 step 5, R486): the planes are loaded. `duration` is in local µs on the MC's LTC. -/
def execEclipse (facet duration : Nat) (s : State) : Host.Outcome State Fault Refusal :=
  checked (okFacet facet) s (eclipseEff facet duration)

end Sys2Proof.Machine
end

