-- ==== Sys2Proof/Machine/Recovery.lean ====
section
/-! DEFINITION. Accounting (15 R466, R471 to R474, 16 R505, R506), the monitors of slowdown and overload (R475, R477), and the
detector of hangs (R478, R479). -/

namespace Sys2Proof.Machine

/-- What a function's record shows: the published values of its bound contexts, and those of the unbound ones (R474). -/
def fnTotals (s : State) (n : Nat) : List Nat :=
  let r := fnOf s n
  let l := (s.ctxs.filter fun e => e.2.fn == n).map fun e => (e.2.published.getD ({}, 0)).1
  [l.foldl (fun a x => a + x.e8) r.e8, l.foldl (fun a x => a + x.energy) r.energy, r.resetEnded]

def accountingPublishEff (conf : Bool) (s : State) : State :=
  if s.pwr.dusk then s
  else
    let now := mcNow s
    let s1 := { s with ctxs := s.ctxs.map fun e =>
        (e.1, if confFacet s e.2.facet = conf then { e.2 with published := some (e.2.acct, now) } else e.2) }
    forAll (List.range 64) (fun n t => updFn n (fun r => { r with published := some (fnTotals t n, now) }) t) s1

/-- ACCOUNTING_PUBLISH (R471): the contexts of confidential facets, or the others, and the function records (log 23). -/
def execAccountingPublish (confidential : Bool) (s : State) : Host.Outcome State Fault Refusal :=
  checked true s (accountingPublishEff confidential)

/-- Attributed energy of a window of which `m` was modelled of `total`, with `measured` at the input (R506). -/
def attributed (measured total m : Nat) : Nat := if total * 20 < measured then m else m * measured / Nat.max 1 total

def energyReconcileEff (measured : Nat) (s : State) : State :=
  let total := s.ctxs.foldl (fun a e => a + e.2.acct.modelled) (s.fns.foldl (fun a e => a + e.2.modelled) 0)
  let rest := if total = 0 then measured else if total * 20 < measured then measured - total else 0
  let ctx (c : Ctx) : Ctx :=
    { c with acct := { c.acct with energy := c.acct.energy + attributed measured total c.acct.modelled, modelled := 0 } }
  let fn (r : Fn) : Fn := { r with energy := r.energy + attributed measured total r.modelled, modelled := 0 }
  { s with
    ctxs := s.ctxs.map fun e => (e.1, ctx e.2)
    fns := s.fns.map fun e => (e.1, fn e.2)
    pwr := { s.pwr with unattr := s.pwr.unattr + rest } }

/-- ENERGY_RECONCILE (R506): `measured` is the module input energy of the window in pJ. -/
def execEnergyReconcile (measured : Nat) (s : State) : Host.Outcome State Fault Refusal :=
  checked true s (energyReconcileEff measured)

/-! ## Monitors -/

def slowdownWindowEff (n : Nat) (s : State) : State :=
  match facetOf s n with
  | none => s
  | some f =>
    let g := { f with slowDur := 0, slowEst := 0, slowN := 0 }
    if f.slowN < 4 then setFacet n g s
    else if f.slowDur * 256 ≤ s.reg.slowThr * f.slowEst then setFacet n { g with slowArmed := true } s
    else if s.reg.slowEn && f.slowArmed then
      let ratio := Nat.min 65535 (f.slowDur * 256 / Nat.max 1 f.slowEst)
      raiseTo [0, f.fn] evSlowdown f.fn n (ratio + Nat.min 65535 f.slowN * 2 ^ 16) none f.confidential
        (setFacet n { g with slowArmed := false } s)
    else setFacet n g s

/-- SLOWDOWN_WINDOW (R475). -/
def execSlowdownWindow (facet : Nat) (s : State) : Host.Outcome State Fault Refusal :=
  checked (okFacet facet) s (slowdownWindowEff facet)

def overloadWindowEff (n : Nat) (s : State) : State :=
  match facetOf s n with
  | none => s
  | some f =>
    let g := { f with checked := 0, missed := 0 }
    if f.missed * 1000 ≤ s.reg.overThr * f.checked then setFacet n { g with overRun := 0, overArmed := true } s
    else
      let g1 := { g with overRun := f.overRun + 1 }
      if 10 ≤ g1.overRun && s.reg.overEn && f.overArmed then
        raiseTo [0, f.fn] evOverload f.fn n (f.missed * 1000 / Nat.max 1 f.checked % 65536) none f.confidential
          (setFacet n { g1 with overArmed := false } s)
      else setFacet n g1 s

/-- OVERLOAD_WINDOW (R477). -/
def execOverloadWindow (facet : Nat) (s : State) : Host.Outcome State Fault Refusal :=
  checked (okFacet facet) s (overloadWindowEff facet)

/-! ## Hangs -/

/-- Core that fills an inbound queue of a core: the sender, or the source of the prism, named in queue_map (R129). -/
def senderOf (s : State) (c id q : Nat) : List Nat :=
  let f := (coreOf s c).facet
  match workSeg s id f with
  | none => []
  | some l =>
    match logicalCore l c with
    | none => []
    | some me =>
      let e := qmapOf l.seg me q
      if e < 0x8000 then ((SMap.look l.mapping e).map fun d => [d]).getD []
      else match workTree s id f (e - 0x8000) with
      | some (_, t) => (t.source.map fun d => [d]).getD []
      | none => []

/-- Cores that a wait is on (R478). -/
def waitsOn (s : State) (c : Nat) (w : WaitRec) : List Nat :=
  match (coreOf s c).cmd with
  | none => []
  | some id =>
    if w.kind = 1 then (if queueRoom s (w.obj / 8) (w.obj % 8) < w.need then [w.obj / 8] else [])
    else if w.kind = 2 then
      match SMap.look s.prisms w.obj with
      | some t => t.leaves.filter fun l => decide (queueRoom s l t.queue < w.need)
      | none => []
    else if w.kind = 3 then senderOf s c id w.obj
    else
      match workSeg s id (coreOf s c).facet with
      | none => []
      | some l => (coresOfSeg l).filter fun d =>
          (coreOf s d).cmd == some id && !(coreOf s d).ended && ((coreOf s d).atBarrier.map (·.1)) != some w.obj

def waitForSnapshotEff (k : Nat) (s : State) : State :=
  forAll ((List.range 17).map (· + k * 17)) (fun c t =>
    updCore c (fun x => { x with snap := x.waitFor.map fun w => (w, waitsOn s c w) }) t) s

/-- WAIT_FOR_SNAPSHOT (R478). -/
def execWaitForSnapshot (cluster : Nat) (s : State) : Host.Outcome State Fault Refusal :=
  checked (okCluster cluster) s (waitForSnapshotEff cluster)

/-- A core of the cycle waits on the next, and has shown no handshake for 100 local µs. -/
def stuckOn (s : State) (f : Facet) (c d : Nat) : Bool :=
  f.cores.contains c &&
    match (coreOf s c).snap with
    | some (w, on) => on.contains d && decide (w.since + 100000 ≤ mcNow s)
    | none => false

/-- The list is a cycle of such waits. -/
def hangCycle (s : State) (f : Facet) (l : List Nat) : Bool :=
  match l with
  | [] => false
  | a :: r => l.Nodup && (l.zip (r ++ [a])).all fun x => stuckOn s f x.1 x.2

def hangDetectEff (n : Nat) (cycle : List Nat) (s : State) : State :=
  match facetOf s n with
  | none => s
  | some f =>
    if s.reg.detectEn && f.eclipse.isNone && hangCycle s f cycle then
      let s1 := raiseTo [0, f.fn] evHang f.fn n (cycle.headD 0 + cycle.length * 2 ^ 16) none f.confidential s
      if s.reg.hangEclipse then startEclipse n 0 [] [] s1 else s1
    else s

/-- HANG_DETECT (R479): `cycle` is a cycle of waits in the snapshots, each core waiting on the next. -/
def execHangDetect (facet : Nat) (cycle : List Nat) (s : State) : Host.Outcome State Fault Refusal :=
  checked (okFacet facet) s (hangDetectEff facet cycle)

end Sys2Proof.Machine
end

