-- ==== Sys2Proof/Machine/Firmware.lean ====
section
/-! DEFINITION. Live firmware update (12 R370 to R372, 10 R300) with Lantern's check of an image (17 R514 to R516). -/

namespace Sys2Proof.Machine

def setUpdate (u : Option FwUpdate) (s : State) : State := { s with fw := { s.fw with update := u } }

/-- R515 over an image, beside the verdict on its signatures and digest. -/
def imageAccepted (s : State) (i : FwImage) : Bool :=
  i.formatOk && i.sigsOk && decide (i.keyIndex ≤ 3) && !s.fuses.revoked.contains i.keyIndex && decide (i.svn ≤ 64) &&
    decide (s.fuses.svnFloor ≤ i.svn) && decide (i.length ≤ 16777216)

def fwUpdateReply (addr : Nat) (i : FwImage) (s : State) : Reply :=
  if addr % 4096 != 0 || decide (16777216 < i.length) then { status := syMalformed }
  else if s.fw.update.isSome then { status := syBusy }
  else { status := syAccepted }

def fwUpdateEff (h : Req) (addr : Nat) (i : FwImage) (s : State) : State :=
  serveJob h opFwUpdate false (fwUpdateReply addr i) (setUpdate (some { phase := 1, img := i, ticket := ticketOf h opFwUpdate })) s

/-- FW_UPDATE (R370 step 1). -/
def execFwUpdate (fn : Nat) (image : List Byte) (sigsOk : Bool) (s : State) : Host.Outcome State Fault Refusal :=
  checked (okFn fn) s (onRequest fn layFwUpdate fun h b => fwUpdateEff h (field b 0 8) (imageOf image (field b 8 4) sigsOk))

def fwImageVerifiedEff (s : State) : State :=
  match s.fw.update with
  | none => s
  | some u =>
    if u.phase != 1 then s
    else if imageAccepted s u.img then setUpdate (some { u with phase := 2 }) s
    else requestDone u.ticket syRejected (setUpdate none s)

/-- FW_IMAGE_VERIFIED (R370 step 2): a failure ends the update with REJECTED, and nothing has changed. -/
def execFwImageVerified (s : State) : Host.Outcome State Fault Refusal := checked true s fwImageVerifiedEff

/-- No mailbox has a request outstanding (R300). -/
def quiet (s : State) : Bool := s.fns.all fun e => !e.2.outstanding

/-- Whether the MC may hand over now: at step 3 with no resize in progress (R370, R382), or to the old image once every
cluster is back on it (R372). -/
def mayHandOver (s : State) (u : FwUpdate) : Bool :=
  quiet s && ((u.phase == 2 && !s.facets.any fun e => e.2.resize.isSome) || (u.phase == 5 && s.fw.ccUpdated.isEmpty))

def fwQuietPointEff (s : State) : State :=
  match s.fw.update with
  | none => s
  | some u =>
    if mayHandOver s u then
      { s with fw := { s.fw with handover := true, update := some { u with phase := if u.phase = 2 then 3 else 6 } } }
    else s

/-- FW_QUIET_POINT (R300, R370 steps 3 and 4). -/
def execFwQuietPoint (s : State) : Host.Outcome State Fault Refusal := checked true s fwQuietPointEff

/-- The events held during a handover, in the order in which they arose. -/
def raiseHeld (s : State) : State :=
  s.fw.held.foldl (fun t e => deliverAll e.2 e.1 t) { s with fw := { s.fw with held := [], handover := false } }

def fwHandoverDoneEff (s : State) : State :=
  match s.fw.update with
  | none => s
  | some u =>
    if u.phase = 3 then
      raiseHeld { s with fw := { s.fw with
        build := u.img.build, svn := u.img.svn, header := u.img.header, prev := ⟨s.fw.build, s.fw.svn, s.fw.header⟩
        ccUpdated := [], update := some { u with phase := 4, cluster := 0 } } }
    else if u.phase = 6 then
      requestDone u.ticket syRejected
        (raiseHeld { s with fw := { s.fw with
          build := s.fw.prev.build, svn := s.fw.prev.svn, header := s.fw.prev.header, update := none } })
    else s

/-- FW_HANDOVER_DONE (R300, R370 steps 4 and 5, R372 steps 2 and 3). -/
def execFwHandoverDone (s : State) : Host.Outcome State Fault Refusal := checked true s fwHandoverDoneEff

/-- Lantern's record of a good image in the bank that the module did not boot from, and the floor (R514, R516). -/
def recordImage (i : FwImage) (s : State) : State :=
  let b : Bank := ⟨i.build, i.svn, i.header⟩
  let other := 1 - s.sec.bootBank
  { s with
    sec := { s.sec with
      bank0 := if other = 0 then b else s.sec.bank0
      bank1 := if other = 0 then s.sec.bank1 else b
      recordedBank := other }
    fuses := { s.fuses with svnFloor := if i.floor then Nat.max s.fuses.svnFloor (Nat.min 64 i.svn) else s.fuses.svnFloor } }

/-- Step 6 of R370. -/
def finishUpdate (u : FwUpdate) (s : State) : State :=
  requestDone u.ticket syOk
    (raiseFw [0] evFwUpdated 0 0 u.img.build none false (setUpdate none (recordImage u.img s)))

def clusterControllerUpdateEff (selfCheck : Bool) (s : State) : State :=
  match s.fw.update with
  | none => s
  | some u =>
    if u.phase = 4 then
      if selfCheck then
        let s1 := { s with fw := { s.fw with
          ccUpdated := NSet.add s.fw.ccUpdated u.cluster, update := some { u with cluster := u.cluster + 1 } } }
        if u.cluster + 1 < 32 then s1 else finishUpdate u { s1 with fw := { s1.fw with ccUpdated := [] } }
      else { s with fw := { s.fw with update := some { u with phase := 5 } } }
    else if u.phase = 5 then { s with fw := { s.fw with ccUpdated := s.fw.ccUpdated.drop 1 } }
    else s

/-- CLUSTER_CONTROLLER_UPDATE (R370 step 5, R371, R372): the next cluster in order. A failed self-check begins the return of
the updated clusters to the old image, one a command. -/
def execClusterControllerUpdate (selfCheck : Bool) (s : State) : Host.Outcome State Fault Refusal :=
  checked true s (clusterControllerUpdateEff selfCheck)

end Sys2Proof.Machine
end

