-- ==== Sys2Proof/Machine/Mailbox.lean ====
section
/-! DEFINITION. The mailbox and its small requests: the doorbell (10 R293 to R300), GET_INFO and TELEMETRY (R299, R265, R100,
R122 to R124, R161, R254, R285), contexts and queues (11 R312 to R317), accounting reads (15 R471 to R474), quiesce and
resume (12 R377). -/

namespace Sys2Proof.Machine

/-! ## The doorbell (R296, R300, R311) -/

/-- The management block answers BUSY itself: before mbx_ready (R311), during a handover (R300), at step 3 of an update
(R370), and after a life-cycle transition until PERST# (R539). -/
def blockBusy (s : State) : Bool :=
  !s.pwr.mbxReady || s.fw.handover || s.sec.lcDone ||
    match s.fw.update with
    | some u => u.phase == 2
    | none => false

/-- Steps 1 and 2 of R296. `buffer` is what the management block could read from MBX_REQ_ADDR on. A request whose body is
read stays outstanding until its own row answers it (log 13). -/
def mbxDoorbellEff (f seq : Nat) (buffer : List Byte) (s : State) : State :=
  let r := fnOf s f
  if !hostUp s || !fnExists s f then s
  else if r.outstanding then setFn f { r with overrun := true } s
  else
    let body := bodyOf buffer
    let op := field buffer 0 2
    let s1 := setFn f { r with outstanding := true, noResponse := false, curSeq := seq
                               request := buffer.take (32 + bodyLen buffer) } s
    let answer (st : Nat) : State := respond f seq (respAddrOf buffer) { status := st } s1
    if headerUnusable buffer then
      mbxDone f seq syMalformed (updFn f (fun q => { q with noResponse := true }) s1)
    else if blockBusy s then answer syBusy
    else if headerBad seq buffer then answer syMalformed
    else if !requestCodes.contains op then answer syUnsupported
    else if reservedSub op body then
      answer ((gate ⟨f, seq, respAddrOf buffer, respLenOf buffer, true⟩ op (needsCompute op) s1).getD syMalformed)
    else s1

/-- MBX_DOORBELL (R296). -/
def execMbxDoorbell (fn seq : Nat) (buffer : List Byte) (s : State) : Host.Outcome State Fault Refusal :=
  checked (okFn fn && decide (seq < 65536)) s (mbxDoorbellEff fn seq buffer)

/-! ## GET_INFO (R265, R299) -/

def countCores (s : State) (p : Core → Bool) : Nat := ((List.range 544).filter fun c => p (coreOf s c)).length
def countEngines (s : State) (p : Engine → Bool) : Nat := ((List.range 4352).filter fun e => p (engineOf s e)).length
def countChans (s : State) (p : Chan → Bool) : Nat := ((List.range 256).filter fun c => p (chanOf s c)).length

/-- Rate of a half at test, at 0.75 V and 65 degrees: every rated die reaches 1,600 M/s (R35). -/
def testRate (half : Nat) : Nat := clampNat 1600 65535 (Config.rateAtTest half)

/-- The 64-byte device record. -/
def deviceRecord (s : State) (fn : Nat) : List Byte :=
  toLe 1 0xB0 ++ [3, 2] ++ toLe 1 fn ++
    toLe 2 (countCores s fun c => c.status == 1 || c.status == 2) ++
    toLe 2 (countEngines s fun e => e.status == 1) ++ toLe 2 (countChans s fun c => c.state != 4) ++
    toLe 1 s.facets.length ++ toLe 1 s.reg.numVFs ++ toLe 2 (testRate 0) ++ toLe 2 (testRate 1) ++
    toLe 8 s.fw.build ++ toLe 2 s.vxl.id ++
    toLe 1 (b2n s.time.trimValid + 2 * b2n s.pwr.westParked + 4 * b2n s.pwr.eastParked + 8 * b2n s.pwr.dusk +
      16 * b2n s.vxl.idValid) ++ List.replicate 37 0

def getInfoDeviceEff (h : Req) (s : State) : State :=
  serve h opGetInfo false (fun t => ({ status := syOk, body := deviceRecord t h.fn }, t)) s

/-- GET_INFO, subop DEVICE (R299). -/
def execGetInfoDevice (fn : Nat) (s : State) : Host.Outcome State Fault Refusal :=
  checked (okFn fn) s (onRequest fn (layInfo 0) fun h _ => getInfoDeviceEff h)

/-- The record of one cluster (R299). -/
def clusterRecord (s : State) (k : Nat) : List Byte :=
  let retired := (List.range 17).foldl (fun a i => a + (if (coreOf s (k * 17 + i)).status = 3 then 2 ^ i else 0)) 0
  toLe 1 k ++ toLe 1 (reserveSlot s k) ++ toLe 1 (b2n (clusterOf s k).reserveUsed) ++ [0] ++ toLe 4 retired

def getInfoClustersEff (h : Req) (s : State) : State :=
  serve h opGetInfo false (fun t => ({ status := syOk, body := (List.range 32).flatMap (clusterRecord t) }, t)) s

/-- GET_INFO, subop CLUSTERS (R299). -/
def execGetInfoClusters (fn : Nat) (s : State) : Host.Outcome State Fault Refusal :=
  checked (okFn fn) s (onRequest fn (layInfo 1) fun h _ => getInfoClustersEff h)

/-- The record of one frame-map slot (R265). -/
def slotRecord (f : Facet) (n : Nat) : List Byte :=
  match SMap.look f.map n with
  | none => List.replicate 8 0
  | some m => toLe 1 m.channel ++ toLe 1 m.target ++ toLe 2 (m.cursor % 2 ^ 15) ++ toLe 1 (1 + 2 * b2n m.copying) ++ [0, 0, 0]

/-- Answer about a facet that the sender owns. -/
def ownFacet (h : Req) (n : Nat) (s : State) (act : Facet → Reply) : Reply :=
  match facetOf s n with
  | none => { status := syNotFound }
  | some f => if f.fn = h.fn then act f else { status := syDenied }

def getInfoFrameMapEff (h : Req) (n : Nat) (s : State) : State :=
  serve h opGetInfo false (fun t =>
    (ownFacet h n t fun f => { status := syOk, body := (List.range 256).flatMap (slotRecord f) }, t)) s

/-- GET_INFO, subop FRAME_MAP (R265, R299). -/
def execGetInfoFrameMap (fn : Nat) (s : State) : Host.Outcome State Fault Refusal :=
  checked (okFn fn) s (onRequest fn (layInfo 2) fun h b => getInfoFrameMapEff h (field b 1 1))

/-! ## Contexts (R256, R257, R312, R314) -/

/-- The answer to CONTEXT_BIND (log 13 gives the order of the checks). -/
def bindReply (h : Req) (b : BindBody) (s : State) : Reply :=
  match facetOf s b.facet with
  | none => { status := syNotFound }
  | some f =>
    if f.fn != h.fn || b.function != h.fn then { status := syDenied }
    else if !bindBodyOk f b then { status := syMalformed }
    else if SMap.has s.ctxs b.context || leaving f then { status := syBusy }
    else { status := syOk }

def contextBindEff (h : Req) (b : BindBody) (s : State) : State :=
  serve h opContextBind false (fun t =>
    let r := bindReply h b t
    if r.status = syOk then
      (r, setCtx b.context { facet := b.facet, fn := h.fn, pasid := b.pasid, root := b.root, weight := b.weight } t)
    else (r, t)) s

/-- CONTEXT_BIND (R257). -/
def execContextBind (fn : Nat) (s : State) : Host.Outcome State Fault Refusal :=
  checked (okFn fn) s (onRequest fn layBind fun h b => contextBindEff h (bindBody b))

def unbindReply (h : Req) (n : Nat) (s : State) : Reply :=
  match SMap.look s.ctxs n with
  | none => { status := syNotFound }
  | some c =>
    if c.fn != h.fn then { status := syDenied }
    else if c.unbinding.isSome then { status := syBusy }
    else { status := syAccepted }

def contextUnbindEff (h : Req) (n : Nat) (s : State) : State :=
  serveJob h opContextUnbind false (unbindReply h n) (fun t =>
    endWaiting (fun c => c.desc.context == n) stBadHandle
      (updCtx n (fun c => { c with unbinding := some (ticketOf h opContextUnbind) }) t)) s

/-- CONTEXT_UNBIND (R314). -/
def execContextUnbind (fn : Nat) (s : State) : Host.Outcome State Fault Refusal :=
  checked (okFn fn) s (onRequest fn layUnbind fun h b => contextUnbindEff h (field b 0 2))

/-- Page requests of a context outstanding (R283). -/
def ctxRequests (s : State) (n : Nat) (c : Ctx) : Bool :=
  s.xl.tracker.any fun p => (p.fn == c.fn && p.pasid == c.pasid) || p.waiters.any fun w => w.1 == n

def contextUnbindCompleteEff (n : Nat) (s : State) : State :=
  match SMap.look s.ctxs n with
  | none => s
  | some c =>
    if c.unbinding.isSome && !ctxBusy s n && !ctxRequests s n c then
      requestDoneOpt c.unbinding syOk (clearContext n s)
    else s

/-- CONTEXT_UNBIND_COMPLETE (R314 steps 2 to 4). -/
def execContextUnbindComplete (ctx : Nat) (s : State) : Host.Outcome State Fault Refusal :=
  checked true s (contextUnbindCompleteEff ctx)

/-! ## Queues (R315 to R317) -/

/-- Privileged queues of a function. -/
def privQueues (s : State) (fn : Nat) : Nat := (s.queues.filter fun e => e.2.fn == fn && e.2.privileged).length

/-- The answer to QUEUE_CREATE with the frame that the descriptor takes. -/
def queueReply (h : Req) (b : QueueBody) (s : State) : Reply × Nat :=
  match facetOf s b.facet with
  | none => ({ status := syNotFound }, 0)
  | some f =>
    if f.fn != h.fn || f.member then ({ status := syDenied }, 0)
    else if !queueBodyOk b then ({ status := syMalformed }, 0)
    else if leaving f then ({ status := syBusy }, 0)
    else if b.privileged && decide (2 ≤ privQueues s h.fn) then ({ status := syNoSpace }, 0)
    else if 16384 ≤ freeQueue s then ({ status := syNoSpace }, 0)
    else match freeFrame (poolFill s b.facet) f with
    | none => ({ status := syNoSpace }, 0)
    | some x => ({ status := syOk, body := toLe 2 (freeQueue s) ++ List.replicate 6 0 }, x)

def queueCreateEff (h : Req) (b : QueueBody) (s : State) : State :=
  serve h opQueueCreate true (fun t =>
    let r := queueReply h b t
    if r.1.status = syOk then
      (r.1, updFacet b.facet (fun f => { f with used := NSet.add f.used r.2 })
        (setQueue (freeQueue t) (queueOfBody h.fn r.2 b) t))
    else (r.1, t)) s

/-- QUEUE_CREATE (R316). -/
def execQueueCreate (fn : Nat) (s : State) : Host.Outcome State Fault Refusal :=
  checked (okFn fn) s (onRequest fn layQueueCreate fun h b => queueCreateEff h (queueBody b))

def queueDestroyReply (h : Req) (n : Nat) (s : State) : Reply :=
  match SMap.look s.queues n with
  | none => { status := syNotFound }
  | some q =>
    if q.fn != h.fn then { status := syDenied }
    else if q.destroying.isSome then { status := syBusy }
    else { status := syAccepted }

def queueDestroyEff (h : Req) (n : Nat) (s : State) : State :=
  serveJob h opQueueDestroy true (queueDestroyReply h n) (destroyQueue n (some (ticketOf h opQueueDestroy))) s

/-- QUEUE_DESTROY (R317). -/
def execQueueDestroy (fn : Nat) (s : State) : Host.Outcome State Fault Refusal :=
  checked (okFn fn) s (onRequest fn layQueueDestroy fun h b => queueDestroyEff h (field b 0 2))

def queueDestroyCompleteEff (n : Nat) (s : State) : State :=
  match SMap.look s.queues n with
  | none => s
  | some q =>
    if q.destroying.isSome && !s.cmds.any (fun e => e.2.queue == n) then
      requestDoneOpt q.destroying syOk (freeQueueNo n s)
    else s

/-- QUEUE_DESTROY_COMPLETE (R317). -/
def execQueueDestroyComplete (queue : Nat) (s : State) : Host.Outcome State Fault Refusal :=
  checked true s (queueDestroyCompleteEff queue)

/-! ## Quiesce (R377) -/

/-- The answer about a VF by number. -/
def vfReply (n : Nat) (s : State) (r : Reply) : Reply :=
  if n = 0 || 63 < n then { status := syMalformed }
  else if !fnExists s n then { status := syNotFound }
  else r

def quiesceEff (h : Req) (n : Nat) (s : State) : State :=
  serveJob h opQuiesce false
    (fun t => vfReply n t (if (fnOf t n).quiesceReq.isSome then { status := syBusy } else { status := syAccepted }))
    (fun t => endWaiting (fun c => c.fn == n) stQuiesced
      (updFn n (fun r => { r with quiesced := true, quiesceReq := some (ticketOf h opQuiesce) }) t)) s

/-- QUIESCE (R377). -/
def execQuiesce (fn : Nat) (s : State) : Host.Outcome State Fault Refusal :=
  checked (okFn fn) s (onRequest fn layQuiesce fun h b => quiesceEff h (field b 0 1))

/-- Work of a function that has started: commands, and a step in progress or an eclipse on one of its facets (R461, R490). -/
def fnBusy (s : State) (n : Nat) : Bool :=
  s.cmds.any (fun e => e.2.fn == n && e.2.ran) || s.facets.any (fun e => e.2.fn == n && e.2.eclipse.isSome) ||
    s.serve.any fun e => ownerOf s e.1 == n &&
      match e.2.step with
      | some p => !p.done
      | none => false

def quiesceDoneEff (n : Nat) (s : State) : State :=
  let r := fnOf s n
  if r.quiesceReq.isSome && !fnBusy s n then
    requestDoneOpt r.quiesceReq syOk (setFn n { r with quiesceReq := none } s)
  else s

/-- QUIESCE_DONE (R377 step 4). -/
def execQuiesceDone (function : Nat) (s : State) : Host.Outcome State Fault Refusal :=
  checked (okFn function) s (quiesceDoneEff function)

def resumeEff (h : Req) (n : Nat) (s : State) : State :=
  serve h opResume false (fun t =>
    let r := vfReply n t { status := syOk }
    (r, if r.status = syOk then updFn n (fun q => { q with quiesced := false }) t else t)) s

/-- RESUME (R377). -/
def execResume (fn : Nat) (s : State) : Host.Outcome State Fault Refusal :=
  checked (okFn fn) s (onRequest fn layResume fun h b => resumeEff h (field b 0 1))

/-! ## TELEMETRY (R299) -/

/-- The facet that an engine's core is bound to belongs to a function. -/
def coreOwned (s : State) (fn c : Nat) : Bool := (coreOf s c).status == 2 && ownerOf s (coreOf s c).facet == fn

/-- Engine record (R100, R101). -/
def engineRecord (s : State) (e : Nat) : List Byte :=
  let x := engineOf s e
  let head := toLe 2 e ++ toLe 1 x.status ++ toLe 1 x.repairs.length
  if confEngine s e then head ++ List.replicate 60 0
  else head ++ toLe 4 0 ++ toLe 8 x.passes ++ toLe 8 x.droops ++ toLe 8 x.reranges ++ toLe 8 x.clipped ++
    toLe 4 x.accSat ++ toLe 2 x.scrubFaults ++ toLe 2 x.loadRetries ++ toLe 8 x.planeWait ++ toLe 8 0

/-- Calibration record (R122, R124). -/
def calRecord (s : State) (e : Nat) : List Byte :=
  let x := engineOf s e
  let head := toLe 2 e ++ toLe 1 x.status ++ toLe 1 x.calResult
  if confEngine s e then head ++ List.replicate 60 0
  else head ++ toLe 4 x.calCount ++ toLe 8 x.calLtc ++ toLe 2 x.calEpoch ++ toLe 2 (x.calTemp % 65536).toNat ++
    toLe 2 x.gainMin ++ toLe 2 x.gainMax ++ toLe 2 x.offsetMax ++ toLe 2 x.noiseMax ++ toLe 2 x.noiseMean ++
    toLe 2 x.trackOffMax ++ toLe 2 x.trackGainMax ++ toLe 2 0 ++ toLe 4 x.checksFailed ++ toLe 4 x.earlyCals ++
    toLe 4 x.tempCals ++ (List.range 4).flatMap (fun i => toLe 2 (x.repairs.getD i 0xFFFF)) ++ toLe 8 0

/-- Engines bound to a facet. -/
def facetEngines (f : Facet) : List Nat := f.cores.flatMap enginesOf

/-- Facet summary (R123, R124). -/
def facetRecord (s : State) (n : Nat) (f : Facet) : List Byte :=
  let verdict := match f.suspectAt with
    | some t => if mcNow s - t ≤ 1000000000 then 1 else 0
    | none => 0
  let head := toLe 2 n ++ toLe 1 (b2n f.confidential) ++ toLe 1 verdict
  if f.confidential then head ++ List.replicate 60 0
  else
    let es := facetEngines f
    let fresh (e : Nat) : Bool :=
      let x := engineOf s e
      let k := clusterOfEngine e
      x.calResult != 3 && x.calEpoch == epochOf s k && decide (ltcOf s k - x.calLtc < 10000000000)
    let top (g : Engine → Nat) : Nat := es.foldl (fun m e => Nat.max m (g (engineOf s e))) 0
    head ++ toLe 4 es.length ++ toLe 4 (es.filter fresh).length ++ toLe 2 f.repairs ++ toLe 2 f.retired ++
      toLe 8 f.suspects ++ toLe 8 f.clipped ++ toLe 8 f.droops ++ toLe 8 f.reranges ++ toLe 2 (top (·.noiseMax)) ++
      toLe 2 (top (·.trackOffMax)) ++ List.replicate 12 0

/-- Core record (R161, R162). -/
def coreRecord (s : State) (c : Nat) : List Byte :=
  let x := coreOf s c
  let head := toLe 2 c ++ toLe 1 x.status ++ [0] ++ toLe 2 (if x.status = 2 then x.facet else 0xFFFF)
  if confCore s c then head ++ List.replicate 58 0
  else head ++ toLe 2 x.parityErrors ++ toLe 8 x.ops ++ toLe 8 x.stallVector ++ toLe 8 x.stallLoader ++ toLe 8 x.stallIn ++
    toLe 8 x.stallOut ++ toLe 8 x.stallMgmt ++ toLe 8 x.rotateExtra

/-- Coherence record (R254). -/
def cohRecord (s : State) (k : Nat) : List Byte :=
  let x := SMap.getD s.coh.counts k {}
  let head := toLe 2 k ++ toLe 2 x.cacheUe ++ toLe 2 x.filterUe ++ toLe 2 0
  if !cohCounts s k then head ++ List.replicate 56 0
  else head ++ toLe 8 x.hits ++ toLe 8 x.misses ++ toLe 8 x.forwards ++ toLe 8 x.invalidations ++ toLe 8 x.evictions ++
    toLe 8 x.blocked ++ toLe 8 x.cacheCe

/-- Translation record (R285). -/
def xlRecord (s : State) (k : Nat) : List Byte :=
  let x := SMap.getD s.xl.counts k {}
  let head := toLe 2 k ++ List.replicate 6 0
  if (List.range 17).any fun i => confCore s (k * 17 + i) then head ++ List.replicate 56 0
  else head ++ toLe 8 x.mirrorHits ++ toLe 8 x.dieHits ++ toLe 8 x.walks ++ toLe 8 x.ats ++ toLe 8 x.faults ++
    toLe 8 x.invalidated ++ toLe 8 x.aborted

/-- Sequences of a facet in a state. -/
def seqsIn (v : Serve) (st : Nat) : Nat := (v.seqs.filter fun e => e.2.state == st).length

/-- Serving record (R463). -/
def serveRecord (s : State) (n : Nat) (f : Facet) : List Byte :=
  let head := toLe 2 n ++ toLe 1 f.mode ++ toLe 1 (b2n f.confidential)
  match SMap.look s.serve n with
  | none => head ++ List.replicate 60 0
  | some v =>
    if f.confidential then head ++ List.replicate 60 0
    else head ++ toLe 2 (seqsIn v 1) ++ toLe 2 (seqsIn v 2) ++ toLe 2 (seqsIn v 3 + seqsIn v 4) ++ toLe 2 (seqsIn v 5) ++
      toLe 4 (v.blocks - v.fresh + v.freed.length) ++ toLe 8 v.steps ++ toLe 8 v.tokens ++ toLe 8 v.proposed ++
      toLe 8 v.acceptedDrafts ++ toLe 4 v.evictions ++ toLe 4 v.exhausted ++ toLe 4 v.handedOff ++ toLe 4 v.imports

/-- Table slots of a facet (R416). -/
def tableSlots (v : Serve) : Nat := if v.table then 4096 else 1024

/-- Table entry of a slot (R429). -/
def tableEntry (v : Serve) (conf : Bool) (slot : Nat) : List Byte :=
  match SMap.look v.seqs slot with
  | none => List.replicate 64 0
  | some q =>
    let r := q.rec_
    let stops := (List.range 4).foldl (fun a i =>
      a + (if (r.stops.getD i ⟨0, []⟩).tokens.isEmpty then 0 else 2 ^ i)) 0
    let ends := if r.endTokens.any fun x => x != 0xFFFFFFFF then 16 else 0
    if conf then toLe 4 r.seqId ++ toLe 1 q.state ++ List.replicate 59 0
    else toLe 4 r.seqId ++ toLe 1 q.state ++
      toLe 1 (b2n r.hold + 2 * b2n q.prefilling + 4 * b2n q.import_ + 8 * b2n q.offered + 16 * b2n r.offerUnknown +
        32 * b2n q.report) ++ toLe 2 q.context ++ toLe 4 r.position ++
      toLe 4 (((windowParts v).2.1 + 131072 * slot) / 65536) ++ toLe 2 r.share ++ toLe 1 q.placed ++
      toLe 1 (stops + ends) ++ toLe 4 r.generated ++ toLe 8 q.firstDeadline ++ toLe 8 q.lastTokenLtc ++
      toLe 4 r.interTokenNs ++ toLe 4 q.blocks.length ++ toLe 4 q.age ++ toLe 2 r.outSource ++ toLe 2 0 ++ toLe 8 q.outTail

/-- Readings of the eight sensors of a cluster in 0.1 degrees (log 4: 250 before the first sample). -/
def clusterTemps (s : State) (k : Nat) : List Int := (List.range 8).map fun i => SMap.getD s.pwr.dieTemp (k * 8 + i) 250

/-- The largest of a list of readings. -/
def maxInt : List Int → Int
  | [] => 0
  | x :: r => r.foldl (fun a b => if a < b then b else a) x

/-- A signed value of 16 bits. -/
def toLeInt16 (x : Int) : List Byte := toLe 2 (x % 65536).toNat

/-- Temperature record (R500). -/
def tempRecord (s : State) (k : Nat) : List Byte :=
  let l := clusterTemps s k
  toLe 2 k ++ toLeInt16 (maxInt l) ++ toLeInt16 (l.foldl (· + ·) 0 / 8) ++ toLe 2 0

/-- Flight-record entry (R543). -/
def flightBytes (e : FlightEntry) : List Byte :=
  toLe 4 e.seq ++ toLe 1 e.lc ++ toLe 1 (b2n e.withheld) ++ toLe 2 e.kind ++ toLe 8 e.ltc ++ toLe 4 e.subject ++
    toLe 8 e.detail ++ toLe 4 0

/-- Units of each record type; for table entries, those of the facet. -/
def recordUnits (s : State) (ty facet : Nat) : Nat :=
  match ty with
  | 0 => 4352
  | 1 => 4352
  | 2 => 64
  | 3 => 544
  | 6 => 64
  | 7 => ((SMap.look s.serve facet).map tableSlots).getD 0
  | 9 => s.sec.flight.length
  | _ => 32

/-- Whether a unit exists and belongs to a VF's facets, or the sender is PF0 (R299). -/
def recordShown (s : State) (fn ty facet n : Nat) : Bool :=
  fn == 0 ||
  match ty with
  | 0 => coreOwned s fn (coreOfEngine n)
  | 1 => coreOwned s fn (coreOfEngine n)
  | 2 => ownerOf s n == fn
  | 3 => coreOwned s fn n
  | 6 => ownerOf s n == fn
  | 7 => ownerOf s facet == fn
  | _ => (List.range 17).any fun i => coreOwned s fn (n * 17 + i)

def record (s : State) (ty facet n : Nat) : List Byte :=
  match ty with
  | 0 => engineRecord s n
  | 1 => calRecord s n
  | 2 => ((facetOf s n).map (facetRecord s n)).getD []
  | 3 => coreRecord s n
  | 4 => cohRecord s n
  | 5 => xlRecord s n
  | 6 => ((facetOf s n).map (serveRecord s n)).getD []
  | 7 => ((SMap.look s.serve facet).map fun v => tableEntry v (confFacet s facet) n).getD []
  | 8 => tempRecord s n
  | _ => ((s.sec.flight[n]?).map flightBytes).getD []

/-- The bytes of the body after the count name a facet for type 7 and are reserved for the others (R299, R463). -/
def telemetryReply (h : Req) (ty first count facet : Nat) (s : State) : Reply :=
  if 10 ≤ ty || (ty != 7 && facet != 0) then { status := syMalformed }
  else if ty = 9 && h.fn != 0 then { status := syDenied }
  else if ty = 7 && !SMap.has s.facets facet then { status := syNotFound }
  else if recordUnits s ty facet < first + count then { status := syMalformed }
  else
    { status := syOk
      body := ((List.range count).map (· + first)).flatMap fun n =>
        if recordShown s h.fn ty facet n then record s ty facet n else [] }

def telemetryEff (h : Req) (ty first count facet : Nat) (s : State) : State :=
  serve h opTelemetry false (fun t => (telemetryReply h ty first count facet t, t)) s

/-- TELEMETRY (R299). -/
def execTelemetry (fn : Nat) (s : State) : Host.Outcome State Fault Refusal :=
  checked (okFn fn) s
    (onRequest fn layTelemetry fun h b => telemetryEff h (field b 0 1) (field b 2 2) (field b 4 2) (field b 6 2))

/-! ## ACCOUNTING_READ (R471 to R474) -/

/-- The 96-byte context record, from the last publication. -/
def contextRecord (s : State) (n : Nat) (c : Ctx) : List Byte :=
  let p := c.published.getD ({}, 0)
  let a := p.1
  let vt := (a.e8 * 8192 / Nat.max 1 c.weight + c.vtOffset) / 65536
  toLe 2 n ++ toLe 1 c.facet ++ toLe 1 (b2n (confFacet s c.facet) + 2 * b2n (s.lost.contains n)) ++ toLe 2 c.weight ++
    toLe 2 0 ++ toLe 8 p.2 ++ toLe 8 (a.e8 / 8) ++ toLe 8 a.passes ++ toLe 8 a.vec ++ toLe 8 (a.energy / 1000000) ++
    toLe 8 a.hbm ++ toLe 8 a.link ++ toLe 8 a.commands ++ toLe 8 a.misses ++ toLe 8 vt ++ toLe 8 0

/-- The 32-byte function record, from the last publication. -/
def functionRecord (s : State) (f : Nat) : List Byte :=
  let p := ((fnOf s f).published.getD ([], 0)).1
  toLe 1 f ++ List.replicate 7 0 ++ toLe 8 (p.getD 0 0 / 8) ++ toLe 8 (p.getD 1 0 / 1000000) ++ toLe 4 (p.getD 2 0) ++ toLe 4 0

def accountingReply (h : Req) (kind first count : Nat) (s : State) : Reply :=
  let range := (List.range count).map (· + first)
  if kind = 0 then
    if count = 0 || 1024 < count then { status := syMalformed }
    else
      { status := syOk
        body := range.flatMap fun n =>
          match SMap.look s.ctxs n with
          | some c => if h.fn = 0 || c.fn = h.fn then contextRecord s n c else []
          | none => [] }
  else if kind = 1 then
    if count = 0 || 64 < count || 64 < first + count then { status := syMalformed }
    else if h.fn != 0 && range.any (fun f => f != h.fn) then { status := syDenied }
    else { status := syOk, body := range.flatMap (functionRecord s) }
  else { status := syMalformed }

def accountingReadEff (h : Req) (kind first count : Nat) (s : State) : State :=
  serve h opAccountingRead false (fun t => (accountingReply h kind first count t, t)) s

/-- ACCOUNTING_READ (R472). -/
def execAccountingRead (fn : Nat) (s : State) : Host.Outcome State Fault Refusal :=
  checked (okFn fn) s (onRequest fn layAccounting fun h b => accountingReadEff h (field b 0 1) (field b 2 2) (field b 4 2))

end Sys2Proof.Machine
end

