-- ==== Sys2Proof/Machine/VoxTxn.lean ====
section
/-! DEFINITION. Transactions that arrive over Voxlink (12 R373, R374, 13 R398 to R408, 06 R181): requests that this module
carries out for others, and the responses to its own. `src` is the module or, for a response from the endpoint space, the
tier endpoint. -/

namespace Sys2Proof.Machine

/-! ## Answers (R399, R401) -/

/-- A response to a request, with its tag, context and facet identity. -/
def answer (facet : Option Nat) (src : Nat) (q : Txn) (op addr : Nat) (data : List Byte) (last : Bool) (s : State) : State :=
  sendReply facet src { q with op := op, encrypted := false, endpointSpace := false, last := last, addr := addr, data := data } s

def answerError (facet : Option Nat) (src : Nat) (q : Txn) (code : Nat) (s : State) : State :=
  answer facet src q 0x3F code [] false s

/-- ERROR code of a status that an access meets (R401). -/
def errorOf (st : Nat) : Nat :=
  if st = stUnreachable then 1
  else if st = stDataPoisoned || st = stMemIfFail then 2
  else if st = stBadHandle then 4
  else if st = stContextLost then 5
  else if st = stMalformed then 6
  else 3

/-- Status of the requester for an ERROR code (R401). -/
def statusOfError (code : Nat) : Nat :=
  match code with
  | 1 => stUnreachable
  | 2 => stDataPoisoned
  | 3 => stUnmapped
  | 4 => stBadHandle
  | 5 => stContextLost
  | _ => stMalformed

/-! ## Memory requests (R400) -/

/-- Cluster that a port's edge router attaches to (R24). -/
def portCluster (p : Nat) : Nat := edgeCluster (32 + p)

/-- Facet that a request names and the checks that come before its own: reserved field, facet, context (R374, R401). Context
0 reaches only the window of a member facet (R440). -/
def admitReq (t : Txn) (s : State) : Sum Nat Nat :=
  match facetByGlobal s t.masterDevice t.masterFacet with
  | none => .inr 4
  | some n =>
    if t.rsv then .inr 6
    else if t.endpointSpace then .inr 3
    else if t.context = 0 then if ((facetOf s n).map (·.member)).getD false then .inl n else .inr 4
    else if ((SMap.look s.ctxs t.context).map (·.facet)) != some n then .inr 4
    else if s.lost.contains t.context then .inr 5
    else .inl n

/-- Half-port of a port that a facet's traffic enters by. -/
def boundHalf (s : State) (p n : Nat) : Nat :=
  match facetOf s n with
  | some f => if f.halfPorts.contains (2 * p + 1) && !f.halfPorts.contains (2 * p) then 2 * p + 1 else 2 * p
  | none => 2 * p

/-- The mover of a request: the shadow tables of its context, lines through their homes. -/
def remoteMover (p src n : Nat) (t : Txn) (s : State) : Mover :=
  { cluster := portCluster p, via := linkVia s (boundHalf s p n), cmd := if t.context = 0 then stepRun n else remoteAccess src t.tag t.context,
    ctx := t.context, facet := n, fn := match SMap.look s.ctxs t.context with
      | some c => c.fn
      | none => ownerOf s n }

/-- Free bytes: what the host's memory answers where a remote access reaches a HOST page (log 7). -/
def drawBytes (n : Nat) (s : State) : List Byte × State :=
  ((List.range n).map fun i => BitVec.ofNat 8 (Config.freeNat (s.freeCtr + i)), { s with freeCtr := s.freeCtr + n })

/-- The end of a request: the failure that its translation has met before, or what its access does. A request that waits on a
translation is not answered yet and is sent again. -/
def serveRemote (p src : Nat) (t : Txn) (ok : Bool) (act : Nat → Mover → State → Option Stop × State) (s : State) : State :=
  match admitReq t s with
  | .inr e => answerError (facetByGlobal s t.masterDevice t.masterFacet) src t e s
  | .inl n =>
    if !ok then answerError (some n) src t 6 s
    else
      let m := remoteMover p src n t s
      match (if t.context = 0 then none else SMap.look s.vxl.failed m.cmd) with
      | some st => answerError (some n) src t (errorOf st) { s with vxl := { s.vxl with failed := SMap.del s.vxl.failed m.cmd } }
      | none =>
        let r := act n m (chargeTxn (some n) none t s)
        match r.1 with
        | none => r.2
        | some .wait => r.2
        | some (.fail st _) => answerError (some n) src t (errorOf st) r.2

/-- READ_DATA flits of some bytes, each with the address of its own data. -/
def sendData (n src : Nat) (t : Txn) (w : Nat) : Nat → Nat → List Byte → State → State
  | 0, _, _, s => s
  | k + 1, a, d, s =>
    sendData n src t w k (a + w) (d.drop w) (answer (some n) src t 0x02 a (d.take w) (k == 0) s)

/-- READ: the bytes wanted, in the first two bytes of its data. -/
def readLen (t : Txn) : Nat := ofLe (t.data.take 2)

def vxlReadEff (p src : Nat) (t : Txn) (s : State) : State :=
  serveRemote p src t (decide (2 ≤ t.data.length) && decide (1 ≤ readLen t) && decide (readLen t ≤ 4096)) (fun n m u =>
    let h := drawBytes (readLen t) u
    let r := moverRead m 0 0 t.addr (readLen t) h.1 h.2
    match r.1 with
    | .inr e => (some e, r.2)
    | .inl d => (none, sendData n src t (flitData r.2 n) (ceilDiv (readLen t) (flitData r.2 n)) t.addr d.1 r.2)) s

/-- VXL_READ (R399, R400). -/
def execVxlRead (port src : Nat) (t : Txn) (s : State) : Host.Outcome State Fault Refusal :=
  checked (okPort port && okIdentity src) s (vxlReadEff port src t)

/-- A write of up to one flit's data, answered when it is visible. -/
def remoteWrite (p src : Nat) (t : Txn) (s : State) : State :=
  let cap := if t.encrypted then 200 else 224
  serveRemote p src t (decide (t.data.length ≤ cap)) (fun n m u =>
    let r := moverWrite m 0 0 t.addr t.data u
    match r.1 with
    | some e => (some e, r.2)
    | none => (none, answer (some n) src t 0x04 0 [] false r.2)) s

/-- VXL_WRITE (R399, R400, R237). -/
def execVxlWrite (port src : Nat) (t : Txn) (s : State) : Host.Outcome State Fault Refusal :=
  checked (okPort port && okIdentity src) s (remoteWrite port src t)

/-- VXL_PRISM_WRITE (R399): written at this leaf and acknowledged. -/
def execVxlPrismWrite (port src : Nat) (t : Txn) (s : State) : Host.Outcome State Fault Refusal :=
  checked (okPort port && okIdentity src) s (remoteWrite port src t)

/-- Read, change and write eight bytes at their line's home. -/
def atomicAt (m : Mover) (n fa : Nat) (g : Nat → Nat) (s : State) : Sum Nat Stop × State :=
  let r := faRead m.via n 0 fa 8 s
  match r.1 with
  | .inr e => (.inr (.fail e.1 e.2), r.2)
  | .inl d =>
    let w := faWrite m.via n 0 fa (toLe 8 (g (ofLe d))) (chargeHbm m.cmd 8 r.2)
    match w.1 with
    | some e => (.inr (.fail e.1 e.2), w.2)
    | none => (.inl (ofLe d), w.2)

/-- An atomic of another module (R400): at the home of its line, or in host memory as a requester (R286), where the old value
is the host's. -/
def remoteAtomic (p src : Nat) (t : Txn) (len op : Nat) (g : Nat → Nat) (s : State) : State :=
  serveRemote p src t (t.addr % 8 == 0 && decide (len ≤ t.data.length)) (fun n m u =>
    let x := translate m.cluster m.via.cls m.ctx t.addr true m.cmd u
    match x.1 with
    | .wait => (some .wait, x.2)
    | .fail st => (some (.fail st 0), x.2)
    | .host a =>
      let v := draw (emit (.hostTier m.fn op a (t.data.take len)) x.2)
      (none, answer (some n) src t 0x07 0 (toLe 8 v.1) false v.2)
    | .device fa =>
      let r := atomicAt m n fa g x.2
      match r.1 with
      | .inr e => (some e, r.2)
      | .inl old => (none, answer (some n) src t 0x07 0 (toLe 8 old) false r.2)) s

/-- CAS: the compare value, then the swap value. -/
def casOf (d : List Byte) (old : Nat) : Nat := if old = ofLe (d.take 8) then ofLe ((d.drop 8).take 8) else old

/-- VXL_CAS (R400). -/
def execVxlCas (port src : Nat) (t : Txn) (s : State) : Host.Outcome State Fault Refusal :=
  checked (okPort port && okIdentity src) s (remoteAtomic port src t 16 2 (casOf t.data))

/-- VXL_FETCHADD (R400). -/
def execVxlFetchadd (port src : Nat) (t : Txn) (s : State) : Host.Outcome State Fault Refusal :=
  checked (okPort port && okIdentity src) s (remoteAtomic port src t 8 3 (fun old => (old + ofLe (t.data.take 8)) % 2 ^ 64))

/-! ## Responses -/

/-- A response to an outstanding transaction; one of an unknown tag or of another peer is discarded. -/
def onResponse (src : Nat) (t : Txn) (ops : List Nat) (act : VOut → State → State) (s : State) : State :=
  match SMap.look s.vxl.outst t.tag with
  | none => s
  | some o => if (o.dest == src || o.op == 0x18) && ops.contains o.op then act o (chargeTxn (some o.facet) (some o) t s) else s

def vxlReadDataEff (src : Nat) (t : Txn) (s : State) : State :=
  onResponse src t [0x01] (fun _ u => if t.last then dropOut t.tag u else u) s

/-- VXL_READ_DATA (R398, R399): the flit marked last ends the READ. -/
def execVxlReadData (port src : Nat) (t : Txn) (s : State) : Host.Outcome State Fault Refusal :=
  checked (okPort port && okIdentity src) s (vxlReadDataEff src t)

def vxlWriteAckEff (src : Nat) (t : Txn) (s : State) : State :=
  onResponse src t [0x03, 0x18] (fun o u =>
    if o.left ≤ 1 then dropOut t.tag u
    else { u with vxl := { u.vxl with outst := SMap.put u.vxl.outst t.tag { o with left := o.left - 1 } } }) s

/-- VXL_WRITE_ACK (R400): a PRISM_WRITE ends with as many as its group has leaves. -/
def execVxlWriteAck (port src : Nat) (t : Txn) (s : State) : Host.Outcome State Fault Refusal :=
  checked (okPort port && okIdentity src) s (vxlWriteAckEff src t)

def vxlAtomicDataEff (src : Nat) (t : Txn) (s : State) : State := onResponse src t [0x05, 0x06] (fun _ => dropOut t.tag) s

/-- VXL_ATOMIC_DATA (R399). -/
def execVxlAtomicData (port src : Nat) (t : Txn) (s : State) : Host.Outcome State Fault Refusal :=
  checked (okPort port && okIdentity src) s (vxlAtomicDataEff src t)

/-! ## Dispatch (R374, R399, R400) -/

/-- The lowest ladder whose rung of the current placement carries a weight set. -/
def ladderOfSet (f : Facet) (set : Nat) : Option Nat :=
  (f.ladders.find? fun e =>
    match currentSeg f e.1 with
    | some l => l.seg.weightSet == set
    | none => false).map (·.1)

/-- Argument pointers 1 to 7 of a DISPATCH. -/
def dispatchArgs (d : List Byte) : List Nat := (List.range 7).map fun i => ofLe ((d.drop (8 * i)).take 8)

/-- The member's command for a DISPATCH: no queue, no fences, no deadline. -/
def dispatchCmd (s : State) (p src n ladder : Nat) (f : Facet) (t : Txn) : Cmd :=
  { queue := Config.queues, index := 0, fn := f.fn, facet := n, report := false,
    desc := { context := t.context, waitEn := false, signalEn := false, signalOnError := false, deadline := 0, waitFence := 0,
              signalFence := 0, waitValue := 0, signalValue := 0, tag := 0, rsv := none,
              payload := .runSegment ladder (dispatchArgs t.data) },
    clk := f.master, acceptedAt := ltcOf s f.master, remote := some ⟨p, src, t.tag, t⟩ }

/-- What answers a DISPATCH in place of a run. -/
def dispatchError (s : State) (t : Txn) : Option Nat :=
  match admitReq t s with
  | .inr e => some e
  | .inl n =>
    match (facetOf s n).bind fun f => ladderOfSet f (t.addr % 2 ^ 32) with
    | none => some 4
    | some _ => if t.data.length < 56 then some 6 else none

def vxlDispatchEff (p src : Nat) (t : Txn) (s : State) : State :=
  match facetByGlobal s t.masterDevice t.masterFacet with
  | none => answerError none src t 4 s
  | some n =>
    if inEclipse s n then s
    else match dispatchError s t with
    | some e => answerError (some n) src t e s
    | none =>
      match facetOf s n with
      | none => s
      | some f =>
        match ladderOfSet f (t.addr % 2 ^ 32) with
        | none => s
        | some l =>
          let s1 := chargeTxn (some n) none t s
          markReady s.nextCmd { s1 with
            cmds := SMap.put s1.cmds s.nextCmd (dispatchCmd s p src n l f t), nextCmd := s.nextCmd + 1 }

/-- VXL_DISPATCH (R374, R400): the member's command, or an ERROR; discarded unanswered in an eclipse (R483). -/
def execVxlDispatch (port src : Nat) (t : Txn) (s : State) : Host.Outcome State Fault Refusal :=
  checked (okPort port && okIdentity src) s (vxlDispatchEff port src t)

/-- A member's status reaches the work that it belongs to (R347, R400). -/
def memberEnded (o : VOut) (st detail : Nat) (s : State) : State :=
  dropDue o.cmd (if st = stOk then s else meetStatus o.cmd st detail s)

def vxlDispatchDoneEff (src : Nat) (t : Txn) (s : State) : State :=
  onResponse src t [0x10] (fun o u => memberEnded o (t.addr % 256) 0 (dropOut t.tag u)) s

/-- VXL_DISPATCH_DONE (R400). -/
def execVxlDispatchDone (port src : Nat) (t : Txn) (s : State) : Host.Outcome State Fault Refusal :=
  checked (okPort port && okIdentity src) s (vxlDispatchDoneEff src t)

/-- Logical to physical cores of a facet's placement: of the segment that runs, else of the first one loaded (R131). -/
def placementMap (s : State) (f : Facet) : SMap Nat :=
  let seg := match f.running.bind (cmdOf s) with
    | some c => currentSeg f (ladderOf c)
    | none => none
  match seg with
  | some l => l.mapping
  | none => (f.ladders.findSome? fun e => (currentSeg f e.1).map (·.mapping)).getD []

/-- Numbers of the bits that are set in a bitmap of bytes. -/
def bitsOfBytes (d : List Byte) : List Nat := (List.range (8 * d.length)).filter fun i => bit (d.getD (i / 8) 0).toNat (i % 8) == 1

def vxlSignalEff (t : Txn) (s : State) : State :=
  match admitReq t s with
  | .inr _ => s
  | .inl n =>
    match facetOf s n with
    | none => s
    | some f =>
      if f.eclipse.isSome then s
      else forAll ((bitsOfBytes (t.data.take 64)).filterMap fun i => SMap.look (placementMap s f) i)
        (fun c u => bumpEvent c 1 u) (chargeTxn (some n) none t s)

/-- VXL_SIGNAL (R400): event counter 1 of the named logical cores. It has no response, so one that cannot be carried out is
discarded. -/
def execVxlSignal (port src : Nat) (t : Txn) (s : State) : Host.Outcome State Fault Refusal :=
  checked (okPort port && okIdentity src) s (vxlSignalEff t)

/-! ## Collectives (R181, R402) -/

/-- Elements of a contribution as FP32 patterns. -/
def collElems (is32 : Bool) (d : List Byte) : List Nat :=
  if is32 then (List.range (d.length / 4)).map fun i => ofLe ((d.drop (4 * i)).take 4)
  else (List.range (d.length / 2)).map fun i => ofLe ((d.drop (2 * i)).take 2) * 65536

/-- SUM or MAX of two elements in FP32. -/
def collReduce (op a b : Nat) : Nat :=
  let x := fpDecode Fmt.fp32 a
  let y := fpDecode Fmt.fp32 b
  fpEncode Fmt.fp32 (if op = 0 then fp32Add x y else numMax x y)

/-- Bytes of a result in the slot's format. -/
def collBytes (is32 : Bool) (l : List Nat) : List Byte :=
  if is32 then l.flatMap (toLe 4) else l.flatMap fun e => toLe 2 (fpEncode Fmt.bf16 (fpDecode Fmt.fp32 e))

/-- A first contribution to a slot. -/
def collSlot (n : Nat) (t : Txn) : CSlot :=
  { device := t.masterDevice, gfacet := t.masterFacet, facet := n, op := bit t.addr 8, fp32 := bit t.addr 9 == 1,
    expected := bits t.addr 17 10, hop := bits t.addr 20 18, step := bits t.addr 47 21, got := 1,
    elems := collElems (bit t.addr 9 == 1) t.data, cores := [], txn := t }

/-- Whether a contribution matches the slot that it enters. -/
def collMatches (x y : CSlot) : Bool :=
  x.device == y.device && x.gfacet == y.gfacet && x.step == y.step && x.op == y.op && x.fp32 == y.fp32 &&
    x.expected == y.expected && x.hop == y.hop && x.elems.length == y.elems.length

/-- A local contribution, over the mesh, carries this module's own identity and names its core in the tag (log 33). -/
def collCores (s : State) (src : Nat) (t : Txn) : NSet :=
  if s.vxl.idValid && src == s.vxl.id && decide (t.tag < Config.cores) then [t.tag] else []

/-- Send a full slot's result on a port (R402, R405). -/
def forwardColl (p : Nat) (x : CSlot) (s : State) : State :=
  let dest := (portOf s p).peerId
  let t := { x.txn with data := collBytes x.fp32 x.elems, encrypted := false }
  let f : TxFlit := { kind := 2, seq := 0, half := routeHalf s (some x.facet) p 0, vnet := 2, dest := dest, txn := none }
  if !confFacet s x.facet then pushFlit p { f with txn := some t } (chargeTxn (some x.facet) none t s)
  else match sendKey s x.facet false dest with
  | none => voxEvent evVxlNoKey dest (some x.facet) s
  | some k =>
    let r := sealTxn k (peerKey false dest) t s
    pushFlit p { f with txn := some r.1.1, nonce := r.1.2 } (chargeTxn (some x.facet) none r.1.1 r.2)

/-- The result reaches a core, in the slot's format, and raises its event counter 0 (R140, R181). -/
def deliverColl (x : CSlot) (c : Nat) (s : State) : State :=
  bumpEvent c 0 (updCore c (fun y => { y with reduced := collBytes x.fp32 x.elems }) s)

/-- A full slot is free again; its result goes to the next port or to the local cores that contributed. -/
def endColl (key : Nat) (x : CSlot) (s : State) : State :=
  let s1 := { s with vxl := { s.vxl with slots := SMap.del s.vxl.slots key } }
  if x.hop = 0 then forAll x.cores (deliverColl x) s1 else forwardColl (x.hop - 1) x s1

/-- A contribution joins its slot. -/
def joinColl (key : Nat) (x : CSlot) (s : State) : State :=
  if x.expected ≤ x.got then endColl key x s
  else { s with vxl := { s.vxl with slots := SMap.put s.vxl.slots key x } }

def vxlCollectiveEff (p src : Nat) (t : Txn) (s : State) : State :=
  match facetByGlobal s t.masterDevice t.masterFacet with
  | none => s
  | some n =>
    let y := { collSlot n t with cores := collCores s src t }
    let key := p * 256 + t.addr % 256
    if inEclipse s n || t.rsv || y.expected == 0 || y.hop == 7 then s
    else
      let s1 := chargeTxn (some n) none t s
      match SMap.look s.vxl.slots key with
      | none => joinColl key y s1
      | some x =>
        if collMatches x y then
          joinColl key { x with got := x.got + 1, elems := List.zipWith (collReduce x.op) x.elems y.elems,
                                cores := NSet.union x.cores y.cores } s1
        else s

/-- VXL_COLLECTIVE (R181, R402): a contribution enters its slot. One that matches nothing is discarded (log 33). -/
def execVxlCollective (port src : Nat) (t : Txn) (s : State) : Host.Outcome State Fault Refusal :=
  checked (okPort port && okIdentity src) s (vxlCollectiveEff port src t)

/-- The work that runs on a facet's placement. -/
def runningWork (s : State) (n : Nat) : Option Nat :=
  match (facetOf s n).bind (·.running) with
  | some id => some id
  | none => if stepRunning s n then some (stepRun n) else none

def collectiveSlotTimeoutEff (p slot : Nat) (s : State) : State :=
  match SMap.look s.vxl.slots (p * 256 + slot) with
  | none => s
  | some x =>
    let s1 := { s with vxl := { s.vxl with slots := SMap.del s.vxl.slots (p * 256 + slot) } }
    match runningWork s x.facet with
    | some id => meetStatus id stPeerTimeout 0 s1
    | none => s1

/-- COLLECTIVE_SLOT_TIMEOUT (R181). -/
def execCollectiveSlotTimeout (port slot : Nat) (s : State) : Host.Outcome State Fault Refusal :=
  checked (okPort port) s (collectiveSlotTimeoutEff port slot)

/-! ## Joining (R373) -/

/-- The last member has joined: FACET_JOINED to PF0 and the owner, and the creation ends. -/
def allJoined (n : Nat) (f : Facet) (s : State) : State :=
  raiseFw [0, f.fn] evFacetJoined f.fn n f.memberCount none f.confidential (finishCreate n s)

def takeJoin (n src : Nat) (f : Facet) (t : Txn) (s : State) : State :=
  let g := { f with memberDevs := NSet.add f.memberDevs src, joinedCount := (NSet.add f.memberDevs src).length }
  let s1 := answer none src t 0x31 0 [] false (setFacet n g s)
  if g.joinedCount = f.memberCount && !f.joined then allJoined n g s1 else s1

def vxlJoinEff (src : Nat) (t : Txn) (s : State) : State :=
  if !(s.vxl.idValid && t.masterDevice == s.vxl.id) then answerError none src t 4 s
  else if t.rsv then answerError none src t 6 s
  else match facetOf s t.masterFacet with
  | none => answerError none src t 4 s
  | some f =>
    if f.member || f.memberCount == 0 || f.state == 4 ||
        (!f.memberDevs.contains src && decide (f.memberCount ≤ f.memberDevs.length)) then
      answerError none src t 4 s
    else takeJoin t.masterFacet src f t s

/-- VXL_JOIN (R373 steps 3 and 5). -/
def execVxlJoin (port src : Nat) (t : Txn) (s : State) : Host.Outcome State Fault Refusal :=
  checked (okPort port && okIdentity src) s (vxlJoinEff src t)

def vxlJoinAckEff (src : Nat) (t : Txn) (s : State) : State :=
  onResponse src t [0x30] (fun o u => finishCreate o.facet (dropOut t.tag u)) s

/-- VXL_JOIN_ACK (R373 step 3). -/
def execVxlJoinAck (port src : Nat) (t : Txn) (s : State) : Host.Outcome State Fault Refusal :=
  checked (okPort port && okIdentity src) s (vxlJoinAckEff src t)

/-! ## ERROR and silence (R400, R401) -/

/-- The transaction's work ends with a status; a DISPATCH is no longer due. A JOIN leaves the member to its own limit
(R373), and a tier access to the row of its answer (R455). -/
def outFails (o : VOut) (st : Nat) (s : State) : State :=
  if o.op = 0x10 then memberEnded o st 0 s
  else if o.op = 0x30 || o.seqId != 0 then s
  else meetStatus o.cmd st 0 s

def vxlErrorEff (src : Nat) (t : Txn) (s : State) : State :=
  onResponse src t [0x01, 0x03, 0x05, 0x06, 0x10, 0x18, 0x30]
    (fun o u => outFails o (statusOfError (t.addr % 256)) (dropOut t.tag u)) s

/-- VXL_ERROR (R401). -/
def execVxlError (port src : Nat) (t : Txn) (s : State) : Host.Outcome State Fault Refusal :=
  checked (okPort port && okIdentity src) s (vxlErrorEff src t)

def peerTimeoutExpiryEff (tag : Nat) (s : State) : State :=
  match SMap.look s.vxl.outst tag with
  | none => s
  | some o => outFails o stPeerTimeout (dropOut tag s)

/-- PEER_TIMEOUT_EXPIRY (R32, R400). -/
def execPeerTimeoutExpiry (tag : Nat) (s : State) : Host.Outcome State Fault Refusal :=
  checked (decide (tag < 65536)) s (peerTimeoutExpiryEff tag)

/-! ## By op -/

/-- Carry out a transaction that a link has accepted. A request of a reserved op is answered ERROR. -/
def takeTxn (p src : Nat) (t : Txn) (s : State) : State :=
  match t.op with
  | 0x01 => vxlReadEff p src t s
  | 0x02 => vxlReadDataEff src t s
  | 0x03 => remoteWrite p src t s
  | 0x04 => vxlWriteAckEff src t s
  | 0x05 => remoteAtomic p src t 16 2 (casOf t.data) s
  | 0x06 => remoteAtomic p src t 8 3 (fun old => (old + ofLe (t.data.take 8)) % 2 ^ 64) s
  | 0x07 => vxlAtomicDataEff src t s
  | 0x10 => vxlDispatchEff p src t s
  | 0x11 => vxlDispatchDoneEff src t s
  | 0x12 => vxlSignalEff t s
  | 0x18 => remoteWrite p src t s
  | 0x20 => vxlCollectiveEff p src t s
  | 0x30 => vxlJoinEff src t s
  | 0x31 => vxlJoinAckEff src t s
  | 0x3F => vxlErrorEff src t s
  | _ => answerError (facetByGlobal s t.masterDevice t.masterFacet) src t 6 s

end Sys2Proof.Machine
end

