-- ==== Sys2Proof/Machine/Voxlink.lean ====
section
/-! DEFINITION. The links of the Voxlink ports (13 R384 to R397, R404, R405, R409, R410): training, lanes and widths, echo,
credits, identity, and the flits that arrive. -/

namespace Sys2Proof.Machine

/-! ## Widths (R385, R395) -/

/-- Whether every lane of a range is whole. -/
def lanesWhole (fail lo n : Nat) : Bool := (List.range n).all fun i => bit fail (lo + i) == 0

/-- Width of a joined link. -/
def joinedWidth (fail maxWidth : Nat) : Nat :=
  if maxWidth = 0 && lanesWhole fail 0 16 then 0
  else if maxWidth ≤ 1 && (lanesWhole fail 0 8 || lanesWhole fail 8 8) then 1
  else if lanesWhole fail 0 4 || lanesWhole fail 4 4 || lanesWhole fail 8 4 || lanesWhole fail 12 4 then 2
  else 3

/-- Width of one link of a split port, of the lanes from `lo` on. -/
def splitWidth (fail maxWidth lo : Nat) : Nat :=
  if maxWidth ≤ 1 && lanesWhole fail lo 8 then 1
  else if lanesWhole fail lo 4 || lanesWhole fail (lo + 4) 4 then 2
  else 3

/-- Widths of the low and the high half-port. -/
def portWidths (x : Port) : Nat × Nat :=
  if x.splitNow then (splitWidth x.laneFail x.maxWidth 0, splitWidth x.laneFail x.maxWidth 8)
  else (joinedWidth x.laneFail x.maxWidth, joinedWidth x.laneFail x.maxWidth)

/-- Mark lanes failed (R394). -/
def failLanes (l : List Nat) (x : Port) : Port :=
  { x with laneFail := l.foldl (fun m k => if k < 16 && bit m k == 0 then m + 2 ^ k else m) x.laneFail }

def widthDetail (w : Nat × Nat) : Nat := w.1 + w.2 * 4

/-! ## Up and down (R397, R409) -/

/-- A port's half is powered and the module is out of dusk and of PERST#. -/
def portPowered (s : State) (p : Nat) : Bool := hostUp s && !parked s (eastPort p) && s.pwr.state == 0 && !s.pwr.dusk

/-- A link goes DOWN: its replay buffer is discarded and VXL_LINK_DOWN raised with the cause. -/
def linkDown (p state cause : Nat) (s : State) : State :=
  raisePf0 evVxlLinkDown p cause false
    (updPort p (unlink state) s)

/-- A CONTROL flit with its payload (R390). -/
def sendControl (p half : Nat) (payload : List Byte) (s : State) : State :=
  pushFlit p { kind := 1, seq := 0, half := half, vnet := 0, dest := 0, txn := some { bareTxn s 0 0 with
    masterDevice := 0, masterFacet := 0, data := payload } } s

def identPayload (s : State) : List Byte := [1, 0] ++ toLe 2 s.vxl.id ++ [0, BitVec.ofNat 8 (b2n s.vxl.idValid)]
def creditPayload (req rsp msg : Nat) : List Byte := [0, 0] ++ toLe 2 req ++ toLe 2 rsp ++ toLe 2 msg

/-- A link that has come up sends its IDENT and its first credits, of its edge router's inbound queue of 256 entries (R178);
how they divide among the vnets is open (log 7). -/
def greet (p half : Nat) (s : State) : State :=
  if linkWidth (portOf s p) half = 3 then s
  else
    let a := draw (sendControl p half (identPayload s) s)
    let b := draw a.2
    let c := draw b.2
    let req := a.1 % 257
    let rsp := b.1 % (257 - req)
    sendControl p half (creditPayload req rsp (c.1 % (257 - req - rsp))) c.2

def greetPort (p : Nat) (s : State) : State :=
  let s1 := greet p 0 s
  if (portOf s p).splitNow then greet p 1 s1 else s1

/-- The port is UP at its widths: VXL_LINK_UP, and what was held goes. -/
def linkUp (p id role : Nat) (valid : Bool) (s : State) : State :=
  let w := portWidths (portOf s p)
  let s1 := updPort p (fun x => { x with
    state := 3, widthLo := w.1, widthHi := w.2, peerId := id, peerRole := role, peerValid := valid }) s
  drainPort p (raisePf0 evVxlLinkUp p (widthDetail w + id * 2 ^ 16) false (greetPort p s1))

/-- Whether some link of the port finds a set of whole lanes. -/
def anyWidth (w : Nat × Nat) : Bool := w.1 != 3 || w.2 != 3

/-- Set enable (R409, R415): the port trains where its half has power. -/
def vxlPortEnableEff (p : Nat) (s : State) : State :=
  if (portOf s p).enable then s
  else
    let s1 := updPort p (fun x => { x with enable := true }) s
    if portPowered s p then startTraining p s1 else updPort p (fun x => { x with state := 5 }) s1

/-- VXL_PORT_ENABLE (R409). -/
def execVxlPortEnable (port : Nat) (s : State) : Host.Outcome State Fault Refusal :=
  checked (okPort port) s (vxlPortEnableEff port)

/-- State of a port whose enable is 0 (R410). -/
def idleState (x : Port) : Nat := if x.gen || x.check then 6 else 0

/-- Clear enable (R397). -/
def vxlPortDisableEff (p : Nat) (s : State) : State :=
  if !(portOf s p).enable then s
  else
    let s1 := updPort p (fun x => { x with enable := false }) s
    if (portOf s p).state = 5 then updPort p (fun x => { x with state := idleState x }) s1
    else linkDown p (idleState (portOf s p)) 2 s1

/-- VXL_PORT_DISABLE (R397). -/
def execVxlPortDisable (port : Nat) (s : State) : Host.Outcome State Fault Refusal :=
  checked (okPort port) s (vxlPortDisableEff port)

/-- Step 1 of R396. -/
def startRetrain (p : Nat) (s : State) : State :=
  if (portOf s p).state = 3 then updPort p (fun x => { x with state := 4 }) s else s

/-- retrain = 1: an UP port retrains, a DOWN one that is enabled trains. -/
def vxlRetrainEff (p : Nat) (s : State) : State :=
  if (portOf s p).state = 5 && (portOf s p).enable && portPowered s p then startTraining p s else startRetrain p s

/-- VXL_RETRAIN (R396). -/
def execVxlRetrain (port : Nat) (s : State) : Host.Outcome State Fault Refusal :=
  checked (okPort port) s (vxlRetrainEff port)

def vxlTrainingDoneEff (p : Nat) (ok : Bool) (failed : List Nat) (id role : Nat) (valid : Bool) (s : State) : State :=
  let x := failLanes failed (portOf s p)
  if x.state != 1 && x.state != 2 then s
  else if !ok then linkDown p 5 0 (setPort p x s)
  else if anyWidth (portWidths x) then linkUp p id role valid (setPort p x s)
  else linkDown p 5 1 (setPort p x s)

/-- VXL_TRAINING_DONE (R409). `failedLanes` failed the lane test; `id`, `role` and `valid` are the peer's IDENT. -/
def execVxlTrainingDone (port : Nat) (ok : Bool) (failedLanes : List Nat) (id role : Nat) (valid : Bool) (s : State) :
    Host.Outcome State Fault Refusal :=
  checked (okPort port) s (vxlTrainingDoneEff port ok failedLanes id role valid)

/-- A lane fails in service (R394, R396). -/
def laneFails (p lane : Nat) (s : State) : State :=
  let st := (portOf s p).state
  if 1 ≤ st && decide (st ≤ 4) then startRetrain p (updPort p (failLanes [lane]) s) else s

/-- VXL_LANE_LOCK_LOSS (R394). -/
def execVxlLaneLockLoss (port lane : Nat) (s : State) : Host.Outcome State Fault Refusal :=
  checked (okPort port && decide (lane < 16)) s (laneFails port lane)

/-- VXL_LANE_ERROR_WINDOW (R394): symbol errors corrected on a lane within 1 local ms. -/
def execVxlLaneErrorWindow (port lane count : Nat) (s : State) : Host.Outcome State Fault Refusal :=
  checked (okPort port && decide (lane < 16)) s (fun t => if 1600 < count then laneFails port lane t else t)

/-! ## Echo (R391 to R393, R396) -/

/-- What of the replay buffer an ack leaves. -/
def ackBuf (ack : Nat) (l : VLink) : VLink :=
  match l.buf.findIdx? fun f => f.seq == ack with
  | some i => { l with buf := l.buf.drop (i + 1) }
  | none => l

/-- Send a flit of the replay buffer again. -/
def resend (p : Nat) (f : TxFlit) (s : State) : State :=
  let x := portOf s p
  sendWire p f.half f.kind f.seq (ackOf (linkOf x f.half)) false f.vnet f.dest f.nonce f.txn s

def resendAll (p half : Nat) (s : State) : State := (linkOf (portOf s p) half).buf.foldl (fun t f => resend p f t) s

/-- Replays of a flit at which its port retrains (R393). -/
def replayLimit : Nat := 8

/-- Whether a flit has been replayed to the limit. -/
def limitReached (l : VLink) : Bool := l.buf.any fun f => decide (replayLimit ≤ f.replays)

/-- A nak: the sender replays from ack + 1, and the replay is counted (R391). -/
def nakReceived (p half ack : Nat) (s : State) : State :=
  let x := portOf s p
  if x.state != 3 then s
  else
    let l := ackBuf ack (linkOf x half)
    let l1 := { l with buf := l.buf.map fun f => { f with replays := f.replays + 1 } }
    drainPort p (resendAll p half (setPort p { setLink half l1 x with echo := satAdd 32 x.echo 1 } s))

/-- VXL_NAK_RECEIVE (R391). -/
def execVxlNakReceive (port half ack : Nat) (s : State) : Host.Outcome State Fault Refusal :=
  checked (okPort port && okTwo half && decide (ack < 4096)) s (nakReceived port half ack)

/-- VXL_REPLAY_LIMIT (R393). -/
def execVxlReplayLimit (port half : Nat) (s : State) : Host.Outcome State Fault Refusal :=
  checked (okPort port && okTwo half) s (fun t => if limitReached (linkOf (portOf t port) half) then startRetrain port t else t)

/-- A link after a retrain: up as before with what its peer has not acknowledged; DOWN where no lane set is whole; or up anew.
-/
def relink (old new ack : Nat) (l : VLink) : VLink :=
  if new = 3 || old = 3 then dropBuf l
  else
    let m := ackBuf ack l
    { m with buf := m.buf.map fun f => { f with replays := 0 } }

/-- Step 3 of R396: the replays, then new flits, and the events of the widths. -/
def retrained (p ackLo ackHi : Nat) (x : Port) (s : State) : State :=
  let w := portWidths x
  let y := { x with
    state := 3, widthLo := w.1, widthHi := w.2, lo := relink x.widthLo w.1 ackLo x.lo
    hi := if x.splitNow then relink x.widthHi w.2 ackHi x.hi else x.hi }
  let s1 := resendAll p 0 (setPort p y s)
  let s2 := if x.splitNow then resendAll p 1 s1 else s1
  let fell := (x.widthLo != 3 && w.1 == 3) || (x.widthHi != 3 && w.2 == 3)
  let rose := (x.widthLo == 3 && w.1 != 3) || (x.widthHi == 3 && w.2 != 3)
  let s3 := if fell then raisePf0 evVxlLinkDown p 1 false s2 else s2
  let s4 := if rose then raisePf0 evVxlLinkUp p (widthDetail w + x.peerId * 2 ^ 16) false s3 else s3
  let narrower := decide (x.widthLo < w.1) || decide (x.widthHi < w.2)
  let s5 := if narrower && !fell then raisePf0 evVxlDegraded p (y.laneFail + w.1 * 2 ^ 16 + w.2 * 2 ^ 18) false s4 else s4
  drainPort p s5

def vxlRetrainDoneEff (p : Nat) (ok : Bool) (failed : List Nat) (ackLo ackHi : Nat) (s : State) : State :=
  let x := failLanes failed (portOf s p)
  if x.state != 4 then s
  else if !ok then linkDown p 5 0 (setPort p x s)
  else if anyWidth (portWidths x) then retrained p ackLo ackHi x s
  else linkDown p 5 1 (setPort p x s)

/-- VXL_RETRAIN_DONE (R396). `ackLo` and `ackHi` are the peer's last acks of the links. -/
def execVxlRetrainDone (port : Nat) (ok : Bool) (failedLanes : List Nat) (ackLo ackHi : Nat) (s : State) :
    Host.Outcome State Fault Refusal :=
  checked (okPort port && decide (ackLo < 4096) && decide (ackHi < 4096)) s (vxlRetrainDoneEff port ok failedLanes ackLo ackHi)

/-- VXL_TRAIN_RETRY (R397): every 100 local ms while enable is 1. -/
def execVxlTrainRetry (port : Nat) (s : State) : Host.Outcome State Fault Refusal :=
  checked (okPort port) s (fun t =>
    if (portOf t port).enable && (portOf t port).state == 5 && portPowered t port then startTraining port t else t)

/-- VXL_IDLE_TIMER (R392): an IDLE flit with the ack. -/
def execVxlIdleTimer (port half : Nat) (s : State) : Host.Outcome State Fault Refusal :=
  checked (okPort port && okTwo half) s (fun t =>
    let x := portOf t port
    if x.state == 3 && linkWidth x half != 3 then
      sendWire port half 0 0 (ackOf (linkOf x half)) false 0 0 0 none t
    else t)

/-! ## Control messages (R390) -/

def vxlCreditEff (p half req rsp msg : Nat) (s : State) : State :=
  drainPort p (updPort p (fun x =>
    let l := linkOf x half
    setLink half { l with credReq := l.credReq + req, credRsp := l.credRsp + rsp, credMsg := l.credMsg + msg } x) s)

/-- VXL_CREDIT (R390). -/
def execVxlCredit (port half req rsp msg : Nat) (s : State) : Host.Outcome State Fault Refusal :=
  checked (okPort port && okTwo half) s (vxlCreditEff port half req rsp msg)

/-- peer_id shows the low half-port's peer. -/
def vxlIdentEff (p half id role : Nat) (valid : Bool) (s : State) : State :=
  updPort p (fun x => if useHigh x half then x else { x with peerId := id, peerRole := role, peerValid := valid }) s

/-- VXL_IDENT (R390, R412). -/
def execVxlIdent (port half id role : Nat) (valid : Bool) (s : State) : Host.Outcome State Fault Refusal :=
  checked (okPort port && okTwo half) s (vxlIdentEff port half id role valid)

/-- The payload of a CONTROL flit; a reserved subtype has no effect. -/
def takeControl (p half : Nat) (d : List Byte) (s : State) : State :=
  let w (i : Nat) : Nat := ofLe ((d.drop i).take 2)
  let b (i : Nat) : Nat := (d.getD i 0).toNat
  if b 0 = 0 then vxlCreditEff p half (w 2) (w 4) (w 6) s
  else if b 0 = 1 then vxlIdentEff p half (w 2) (b 4) (bit (b 5) 0 == 1) s
  else s

/-! ## Arriving flits (R388 to R391, R404, R405) -/

def countDrop (p : Nat) (s : State) : State := updPort p (fun x => { x with drop := satAdd 32 x.drop 1 }) s

/-- A flit for another module, or for an endpoint (R404). -/
def misrouted (s : State) (f : Flit) : Bool :=
  f.kind == 4 || ((f.kind == 2 || f.kind == 5) && !(s.vxl.idValid && f.dest == s.vxl.id)) || (f.kind == 3 && !s.vxl.idValid)

/-- A nonce is accepted once, within the window of 4,096 below the highest one accepted (R405). -/
def nonceOk (q : LinkPos) (n : Nat) : Bool := !q.seen.contains n && decide (q.high < n + 4096)
def takeNonce (n : Nat) (q : LinkPos) : LinkPos :=
  let h := Nat.max q.high n
  { q with high := h, seen := (NSet.add q.seen n).filter fun k => decide (h < k + 4096) }

/-- Traffic that travels in clear for every facet: the firmware's own (R405, R406). -/
def clearOp (op : Nat) : Bool := op == 0x30 || op == 0x31

/-- The check of R405: the state with the nonce accepted, or none where the flit is discarded. -/
def authenticate (src : Nat) (f : Flit) (t : Txn) (s : State) : Option State :=
  let n := facetByGlobal s t.masterDevice t.masterFacet
  if t.encrypted then
    match SMap.look s.sec.linkKeys (peerKey (f.kind == 5) src) with
    | none => none
    | some k =>
      let one := t.keyGen == 1
      let q := keyPos k one
      let mine := match n with
        | some m => confFacet s m && ownerOf s m == k.fn
        | none => false
      if mine && q.loaded && f.auth && nonceOk q f.nonce then
        some (setLinkKey (peerKey (f.kind == 5) src) (setKeyPos one (takeNonce f.nonce q) k) s)
      else none
  else
    let conf := match n with
      | some m => confFacet s m
      | none => false
    if conf && !clearOp t.op then none else some s

/-- A routed flit leaves the inbound queue and its credit goes back (R390). -/
def returnCredit (p half vnet : Nat) (s : State) : State :=
  sendControl p half (creditPayload (b2n (vnet == 0)) (b2n (vnet == 1)) (b2n (vnet == 2))) s

/-- Half that an arriving flit belongs to: its link on a split port, the one in its header on a joined port (R385, R389). -/
def rxHalf (s : State) (p : Nat) (f : Flit) : Nat := if (portOf s p).splitNow then f.link else f.half

/-- A routed flit in its order. -/
def takeRouted (p : Nat) (f : Flit) (s : State) : State :=
  let s1 := returnCredit p (rxHalf s p f) f.vnet s
  if 6 ≤ f.kind then s1
  else if misrouted s f then raisePf0 evVxlMisroute p (f.dest + f.src * 2 ^ 16) false (countDrop p s1)
  else
    let t := f.txn
    match authenticate f.src f t s1 with
    | none => voxEvent evVxlAuthFail f.src (facetByGlobal s t.masterDevice t.masterFacet) (countDrop p s1)
    | some s2 => takeTxn p f.src t s2

/-- Ask for a replay from the last flit received good (R391). -/
def sendNak (p half : Nat) (s : State) : State :=
  let x := portOf s p
  let l := linkOf x half
  sendWire p half 0 0 (ackOf l) true 0 0 0 none (setPort p (setLink half { l with nakked := true } x) s)

/-- A good flit with a sequence number: the next one due is accepted; one of before is discarded silently; a later one waits
for the replay. -/
def takeSequenced (p : Nat) (f : Flit) (s : State) : State :=
  let x := portOf s p
  let l := linkOf x (rxHalf s p f)
  let d := (f.seq + 4096 - l.rxNext) % 4096
  if d = 0 then
    let s1 := setPort p (setLink (rxHalf s p f) { l with rxNext := (l.rxNext + 1) % 4096, nakked := false } x) s
    if f.kind = 1 then takeControl p (rxHalf s p f) f.payload s1
    else takeRouted p f s1
  else if d < 2048 && !l.nakked then sendNak p (rxHalf s p f) s
  else s

/-- The ack, and nak, of an arriving flit. -/
def takeAck (p : Nat) (f : Flit) (s : State) : State :=
  if f.nak then nakReceived p (rxHalf s p f) f.ack s
  else drainPort p (updPort p (fun x => setLink (rxHalf s p f) (ackBuf f.ack (linkOf x (rxHalf s p f))) x) s)

def vxlFlitReceiveEff (p : Nat) (f : Flit) (s : State) : State :=
  if (portOf s p).state != 3 || linkWidth (portOf s p) (rxHalf s p f) == 3 then s
  else
    let s1 := updPort p (fun x => { x with corr := satAdd 32 x.corr f.corrected }) s
    if !f.good then sendNak p (rxHalf s p f) s1
    else
      let s2 := takeAck p f s1
      if f.kind = 0 then s2 else takeSequenced p f s2

/-- VXL_FLIT_RECEIVE (R388 to R391, R404, R405): decoding, echo, acks and credits, and the transaction or control message of a
flit that is accepted. -/
def execVxlFlitReceive (port : Nat) (f : Flit) (s : State) : Host.Outcome State Fault Refusal :=
  checked (okPort port && okTwo f.link) s (vxlFlitReceiveEff port f)

/-! ## Registers with rows of their own (R404, R410) -/

def vxlDeviceIdWriteEff (v : Nat) (s : State) : State :=
  if s.facets.any fun e => !e.2.halfPorts.isEmpty then s
  else { s with vxl := { s.vxl with idValid := bit v 31 == 1, id := v % 65536 } }

/-- VXL_DEVICE_ID_WRITE (R404, R412). -/
def execVxlDeviceIdWrite (value : Nat) (s : State) : Host.Outcome State Fault Refusal :=
  checked (okWord value) s (vxlDeviceIdWriteEff value)

/-- Bit errors that the checker has counted on a lane of a port while it checks: a free number (log 7), from the draw on that
stood when it began. -/
def prbsErrors (x : Port) (lane : Nat) : Nat :=
  match x.prbsFrom with
  | some d => Nat.min 0xFFFF (Config.freeNat (d + lane))
  | none => 0

/-- The checker runs only while enable is 0; a change of check from 0 to 1 clears the counts. -/
def vxlPrbsCtrlWriteEff (p v : Nat) (s : State) : State :=
  let starts := !(portOf s p).check && bit v 30 == 1
  updPort p (fun x =>
    let y := { x with
      gen := bit v 31 == 1, check := bit v 30 == 1, pattern := bits v 29 28
      prbsFrom := if starts then (if x.enable then none else some s.freeCtr) else x.prbsFrom }
    if y.enable then y else { y with state := idleState y }) { s with freeCtr := s.freeCtr + (if starts then 16 else 0) }

/-- VXL_PRBS_CTRL_WRITE (R410, R412). -/
def execVxlPrbsCtrlWrite (port value : Nat) (s : State) : Host.Outcome State Fault Refusal :=
  checked (okPort port && okWord value) s (vxlPrbsCtrlWriteEff port value)

end Sys2Proof.Machine
end

