-- ==== Sys2Proof/Machine/Power.lean ====
section
/-! DEFINITION. Power and cooling (16 R492 to R512): the limits, the governor, dim, dusk and wake, temperatures, coolant and
halts. The governor's set-points stand for the measured voltages (log 34). -/

namespace Sys2Proof.Machine

def setPwr (g : Pwr → Pwr) (s : State) : State := { s with pwr := g s.pwr }

/-! ## Limits (R492, R509) -/

/-- Bytes 0x02 to 0x0F of the POWER_LIMITS body, as in force. -/
def limitsBody (p : Pwr) : List Byte :=
  toLe 2 p.peakW ++ toLe 2 p.sustW ++ toLe 1 p.peakWindow ++ toLe 1 0 ++ toLe 2 p.vmaxW ++ toLe 2 p.vmaxE ++
    toLe 2 p.tSoft ++ toLe 2 p.dimDelay

def powerBodyOk (b : PowerBody) : Bool :=
  decide (800 ≤ b.peakW) && decide (b.peakW ≤ 1900) && decide (700 ≤ b.sustW) && decide (b.sustW ≤ 1600) &&
    decide (b.sustW ≤ b.peakW) && decide (5 ≤ b.peakWindow) && decide (b.peakWindow ≤ 100) && decide (600 ≤ b.vmaxW) &&
    decide (b.vmaxW ≤ 850) && decide (600 ≤ b.vmaxE) && decide (b.vmaxE ≤ 850) && decide (85 ≤ b.tSoft) &&
    decide (b.tSoft ≤ 100) && decide (1 ≤ b.dimDelay) && decide (b.dimDelay ≤ 10000)

/-- Dim is off while dim_disable is 1 (R497). -/
def setLimits (b : PowerBody) (p : Pwr) : Pwr :=
  { p with
    dimDisable := b.dimDisable, peakW := b.peakW, sustW := b.sustW, peakWindow := b.peakWindow, vmaxW := b.vmaxW
    vmaxE := b.vmaxE, tSoft := b.tSoft, dimDelay := b.dimDelay, westDim := p.westDim && !b.dimDisable
    eastDim := p.eastDim && !b.dimDisable }

def powerLimitsSetEff (h : Req) (b : PowerBody) (s : State) : State :=
  serve h opPowerLimits false (fun t =>
    if powerBodyOk b then
      let t1 := setPwr (setLimits b) t
      ({ status := syOk, body := limitsBody t1.pwr }, t1)
    else ({ status := syMalformed }, t)) s

/-- POWER_LIMITS_SET (R509). -/
def execPowerLimitsSet (fn : Nat) (s : State) : Host.Outcome State Fault Refusal :=
  checked (okFn fn) s (onRequest fn (layPower 0) fun h b => powerLimitsSetEff h (powerBody b))

/-- READ, DUSK and WAKE ignore the body but its subop (R509). -/
def ignoreBody (h : Req) : Req := { h with rsv := false }

def powerLimitsReadEff (h : Req) (s : State) : State :=
  serve (ignoreBody h) opPowerLimits false (fun t => ({ status := syOk, body := limitsBody t.pwr }, t)) s

/-- POWER_LIMITS_READ (R509). -/
def execPowerLimitsRead (fn : Nat) (s : State) : Host.Outcome State Fault Refusal :=
  checked (okFn fn) s (onRequest fn (layPower 1) fun h _ => powerLimitsReadEff h)

/-! ## Work in a half (R497) -/

/-- A facet has an accepted command that has not completed, a RUNNING sequence or a sealed load due. -/
def facetWorks (s : State) (n : Nat) (f : Facet) : Bool :=
  (s.cmds.any fun e => e.2.facet == n) || !f.loads.isEmpty ||
    match SMap.look s.serve n with
    | some v => v.seqs.any fun e => e.2.state == 2
    | none => false

/-- Work that keeps a half out of dim. -/
def halfWorks (s : State) (east : Bool) : Bool :=
  (s.facets.any fun e => (e.2.cores.any fun c => eastCore c == east) && facetWorks s e.1 e.2) ||
    (s.engines.any fun e => eastCore (coreOfEngine e.1) == east && e.2.cal.isSome) ||
    calStage s east == 1 || calStage s east == 2

/-- A half's core rail is on. -/
def halfOn (s : State) (east : Bool) : Bool := s.pwr.railsOn.contains (halfRail east)

/-- Dim ends at the first work (R497). -/
def undimBusy (s : State) : State :=
  setPwr (fun p => { p with
    westDim := p.westDim && !halfWorks s false, eastDim := p.eastDim && !halfWorks s true }) s

def setDim (east : Bool) (p : Pwr) : Pwr :=
  if east then { p with eastDim := true, eastMv := 600 } else { p with westDim := true, westMv := 600 }

def dimDelayExpiryEff (half : Nat) (s : State) : State :=
  let east := half == 1
  if s.pwr.state == 0 && s.pwr.stage == 5 && !s.pwr.dimDisable && halfOn s east && !halfWorks s east then setPwr (setDim east) s
  else s

/-- DIM_DELAY_EXPIRY (R497): the half has had no work for dim_delay. -/
def execDimDelayExpiry (half : Nat) (s : State) : Host.Outcome State Fault Refusal :=
  checked (okTwo half) s (dimDelayExpiryEff half)

/-! ## The governor (R494, R500) -/

def halfN (p : Pwr) (east : Bool) : Nat := if east then p.eastN else p.westN
def setHalfN (east : Bool) (n : Nat) (p : Pwr) : Pwr := if east then { p with eastN := n } else { p with westN := n }
def halfMv (p : Pwr) (east : Bool) : Nat := if east then p.eastMv else p.westMv
def setHalfMv (east : Bool) (v : Nat) (p : Pwr) : Pwr := if east then { p with eastMv := v } else { p with westMv := v }
def halfVmax (p : Pwr) (east : Bool) : Nat := if east then p.vmaxE else p.vmaxW
def halfRow (p : Pwr) (east : Bool) : Nat := if east then p.eastRow else p.westRow
def isDim (p : Pwr) (east : Bool) : Bool := if east then p.eastDim else p.westDim

/-- Hottest sensor of a half in 0.1 degrees: its junction temperature (R500). -/
def halfTemp (s : State) (east : Bool) : Int :=
  maxInt (((List.range 32).filter fun k => eastCluster k == east).flatMap (clusterTemps s))

/-- The half is over its thermal limit. -/
def overSoft (s : State) (east : Bool) : Bool := halfOn s east && decide (((s.pwr.tSoft * 10 : Nat) : Int) < halfTemp s east)

/-- A running core lies in the half. -/
def halfRuns (s : State) (east : Bool) : Bool := s.cores.any fun e => eastCore e.1 == east && e.2.cmd.isSome

/-- An average exceeds 97 % of its limit, or both lie below 90 %. -/
def overPower (p : Pwr) : Bool := decide (p.peakW * 97 < p.peakAvg * 100) || decide (p.sustW * 97 < p.sustAvg * 100)
def calmPower (p : Pwr) : Bool := decide (p.peakAvg * 100 < p.peakW * 90) && decide (p.sustAvg * 100 < p.sustW * 90)

/-- What limits now. -/
def limitingNow (s : State) : Nat :=
  let p := s.pwr
  if p.peakW * 97 < p.peakAvg * 100 then 1
  else if p.sustW * 97 < p.sustAvg * 100 then 2
  else if overSoft s false || overSoft s true then 3
  else if p.issue < 16 || p.westN < 16 || p.eastN < 16 then p.limiting
  else 0

/-- The issue level that a half works at: the lower one applies (R500). -/
def effectiveN (p : Pwr) (east : Bool) : Nat := Nat.min p.issue (halfN p east)

/-- Step 2: n goes down by 1, and a half above t_soft by its own. -/
def lowerN (s : State) : State :=
  let thermal (east : Bool) (p : Pwr) : Pwr := if overSoft s east then setHalfN east (Nat.max 1 (halfN p east - 1)) p else p
  setPwr (fun p => thermal true (thermal false { p with issue := if overPower p then Nat.max 1 (p.issue - 1) else p.issue })) s

/-- PWR_THROTTLE when throttling is entered. -/
def throttleEvent (before : Pwr) (s : State) : State :=
  let low (p : Pwr) : Nat := Nat.min p.issue (Nat.min p.westN p.eastN)
  if low before = 16 && decide (low s.pwr < 16) then
    raiseFw [0] evPwrThrottle 0 s.pwr.limiting (low s.pwr) none false s
  else s

/-- Step 3 for one half: the set-point goes down where the half is throttled. -/
def lowerHalf (s : State) (east : Bool) (p : Pwr) : Pwr :=
  if halfOn s east && ((p.issue < 16 && halfRuns s east) || halfN p east < 16) && decide (600 < halfMv p east) then
    { setHalfMv east (Nat.max 600 (halfMv p east - 25)) p with settling := true }
  else p

/-- Step 3: n has stayed below 16 for 100 local µs. -/
def lowerRails (s : State) : State :=
  let p := s.pwr
  let now := mcNow s
  if effectiveN p false = 16 && effectiveN p true = 16 then setPwr (fun q => { q with lowSince := none }) s
  else match p.lowSince with
  | none => setPwr (fun q => { q with lowSince := some now }) s
  | some t =>
    if p.settling || now < t + 100000 then s
    else setPwr (fun q => lowerHalf s true (lowerHalf s false { q with lowSince := some now })) s

/-- Step 4 for n: the governor's level, and that of a half whose thermal row has been left. -/
def raiseN (calm : Bool) (p : Pwr) : Pwr :=
  let back (east : Bool) (q : Pwr) : Pwr := if halfRow q east = 0 then setHalfN east (Nat.min 16 (halfN q east + 1)) q else q
  back true (back false { p with issue := if calm then Nat.min 16 (p.issue + 1) else p.issue })

/-- Step 4 for the set-points, every 1 local ms. -/
def raiseRails (s : State) : State :=
  let up (east : Bool) (p : Pwr) : Pwr :=
    if halfOn s east && !isDim p east && halfN p east = 16 then setHalfMv east (Nat.min (halfVmax p east) (halfMv p east + 25)) p
    else p
  setPwr (fun p => up true (up false { p with raiseAt := mcNow s })) s

/-- Step 4: both averages have stayed below 90 % for 1 local ms. -/
def recover (s : State) : State :=
  let p := s.pwr
  let now := mcNow s
  if !calmPower p then setPwr (fun q => { raiseN false q with calmSince := none }) s
  else match p.calmSince with
  | none => setPwr (fun q => { raiseN false q with calmSince := some now }) s
  | some t =>
    if now < t + 1000000 then setPwr (raiseN false) s
    else
      let s1 := setPwr (fun q => { raiseN true q with floor := false }) s
      if p.issue = 16 && decide (p.raiseAt + 1000000 ≤ now) then raiseRails s1 else s1

/-- The floor: n = 1 and both set-points at 0.60 V, and an average over its limit for 1 local ms. -/
def floorCheck (s : State) : State :=
  let p := s.pwr
  let now := mcNow s
  let low (east : Bool) : Bool := !halfOn s east || decide (halfMv p east ≤ 600)
  if !(p.issue == 1 && low false && low true && (decide (p.peakW < p.peakAvg) || decide (p.sustW < p.sustAvg))) then
    setPwr (fun q => { q with overSince := none }) s
  else match p.overSince with
  | none => setPwr (fun q => { q with overSince := some now }) s
  | some t =>
    if now < t + 1000000 || p.floor then s
    else raiseFw [0] evPwrFloor 0 p.limiting (p.peakAvg + p.sustAvg * 2 ^ 16) none false (setPwr (fun q => { q with floor := true }) s)

/-- Set-points never stand above vmax. -/
def clampMv (p : Pwr) : Pwr := { p with westMv := Nat.min p.westMv p.vmaxW, eastMv := Nat.min p.eastMv p.vmaxE }

def governorSampleEff (peak sust : Nat) (s : State) : State :=
  if !s.pwr.mcRunning || s.pwr.stage != 5 || s.pwr.state == 2 || s.pwr.state == 4 || s.pwr.halt.isSome then s
  else
    let s1 := setPwr (fun p => { clampMv p with peakAvg := peak, sustAvg := sust }) (undimBusy s)
    let s2 := setPwr (fun p => { p with limiting := limitingNow s1 }) (lowerN s1)
    let s3 := floorCheck (recover (lowerRails (throttleEvent s1.pwr s2)))
    setPwr (fun p => { p with limiting := limitingNow s3 }) s3

/-- GOVERNOR_SAMPLE (R494, R500): the averages of module input power in W. The governor starts at READY (R564). -/
def execGovernorSample (peakAvg sustAvg : Nat) (s : State) : Host.Outcome State Fault Refusal :=
  checked true s (governorSampleEff peakAvg sustAvg)

def governorRailSettledEff (half : Nat) (s : State) : State :=
  let east := half == 1
  if !s.pwr.settling then s
  else setPwr (fun p =>
    let q := { p with settling := false }
    if q.issue < 16 then { q with issue := q.issue + 1 }
    else if halfRow q east < 2 && decide (halfN q east < 16) then setHalfN east (halfN q east + 1) q
    else q) s

/-- GOVERNOR_RAIL_SETTLED (R494 step 3): n goes up by 1 once the rail has settled. -/
def execGovernorRailSettled (half : Nat) (s : State) : Host.Outcome State Fault Refusal :=
  checked (okTwo half) s (governorRailSettledEff half)

/-! ## Temperature (R108, R118, R500) -/

/-- Row of R500 for a half: 1 above t_soft, 2 above 105 degrees, each left 2 degrees below its level. -/
def dieRow (tSoft cur : Nat) (temp : Int) : Nat :=
  let inRow (i : Nat) (lvl : Int) : Bool := decide (lvl < temp) || (decide (i ≤ cur) && decide (lvl - 20 < temp))
  if inRow 2 1050 then 2 else if inRow 1 ((tSoft * 10 : Nat) : Int) then 1 else 0

def setRow (east : Bool) (row : Nat) (p : Pwr) : Pwr := if east then { p with eastRow := row } else { p with westRow := row }

/-- The response of a half to its junction temperature. -/
def thermalResponse (east : Bool) (s : State) : State :=
  let cur := halfRow s.pwr east
  let row := dieRow s.pwr.tSoft cur (halfTemp s east)
  let s1 := setPwr (setRow east row) s
  let s2 := if row = 2 then setPwr (fun p => setHalfMv east 600 (setHalfN east 1 p)) s1 else s1
  if cur < row then raiseFw [0] evThermalLimit 0 (b2n east) (row - 1) none false s2 else s2

/-- Engines of the module that a sensor is nearest to (log 20). -/
def sensorEngines (i : Nat) : List Nat :=
  ((List.range 17).map (· + i / 8 * 17)).flatMap fun c => if sensorOf c = i then enginesOf c else []

/-- A calibration is called for where the engine temperature has moved 3 degrees (R108). -/
def tempCall (t : Int) (e : Nat) (s : State) : State :=
  let x := engineOf s e
  if x.status = 1 && x.calCall = 0 && decide (30 ≤ (t - x.calTemp).natAbs) then setEngine e { x with calCall := 2 } s else s

/-- THERMAL_SLEW of an engine in service (R118). -/
def slewEvent (t : Int) (e : Nat) (s : State) : State :=
  if (engineOf s e).status = 1 then raiseFw [0] evThermalSlew 0 e (t % 2 ^ 64).toNat none (confEngine s e) s else s

/-- A reading outside 10 to 105 degrees, or more than 10 degrees from one of the last second (R118). -/
def slews (past : List (Nat × Int)) (t : Int) : Bool :=
  decide (t < 100) || decide (1050 < t) || past.any fun x => decide (100 < (t - x.2).natAbs)

/-- The readings of a sensor's last second, and THERMAL_SLEW as its engines leave the limits (R118; one event per departure,
log 39). -/
def slewCheck (i : Nat) (t : Int) (s : State) : State :=
  let now := mcNow s
  let past := (SMap.getD s.pwr.tempRef i []).filter fun x => decide (now ≤ x.1 + 1000000000)
  let out := slews past t
  let s1 := setPwr (fun p => { p with
    tempRef := SMap.put p.tempRef i (past ++ [(now, t)])
    slewing := if out then NSet.add p.slewing i else NSet.del p.slewing i }) s
  if out && !s.pwr.slewing.contains i then forAll (sensorEngines i) (slewEvent t) s1 else s1

/-- One sensor of a cluster. -/
def sensorRead (i : Nat) (t : Int) (s : State) : State :=
  forAll (sensorEngines i) (tempCall t) (slewCheck i t (setPwr (fun p => { p with dieTemp := SMap.put p.dieTemp i t }) s))

def dieSensorSampleEff (k : Nat) (temps : List Int) (s : State) : State :=
  let east := eastCluster k
  if !halfOn s east then s
  else
    let s1 := (temps.take 8).zipIdx.foldl (fun t x => sensorRead (k * 8 + x.2) x.1 t) s
    thermalResponse east s1

/-- DIE_SENSOR_SAMPLE (R500, R108, R118): the 8 sensors of a cluster, in 0.1 degrees. -/
def execDieSensorSample (cluster : Nat) (temps : List Int) (s : State) : Host.Outcome State Fault Refusal :=
  checked (okCluster cluster && temps.length == 8) s (dieSensorSampleEff cluster temps)

/-! ## Saving the tables (R465, R502) -/

/-- Time left to, and since, an instant of a counter that will start again. -/
def toLeft (now t : Nat) : Nat := if t = 0 then 0 else Nat.max 1 (t - now)
def fromLeft (now t : Nat) : Nat := if t = 0 then 0 else now + t
def toAgo (now t : Nat) : Nat := if t = 0 then 0 else Nat.max 1 (now - t)
def fromAgo (now t : Nat) : Nat := if t = 0 then 0 else (now + 2 ^ 64 - t) % 2 ^ 64

/-- Each instant is taken against the LTC that counts it (R41, R46, R464). -/
def saveSeq (s : State) (q : Seq) : Seq :=
  { q with
    firstDeadline := toLeft (ltcOf s q.firstClk) q.firstDeadline, lastTokenLtc := toAgo (ltcOf s q.tokenClk) q.lastTokenLtc
    exp := q.exp.map fun x => { x with deadline := x.deadline.map (toLeft (ltcOf s q.offerClk)) } }

/-- Re-based on the master cluster's LTC (R465). -/
def restoreSeq (master now : Nat) (q : Seq) : Seq :=
  { q with
    firstDeadline := fromLeft now q.firstDeadline, lastTokenLtc := fromAgo now q.lastTokenLtc
    exp := q.exp.map fun x => { x with deadline := x.deadline.map (fromLeft now) }
    firstClk := master, tokenClk := master, offerClk := master }

def masterOf (s : State) (n : Nat) : Nat := ((facetOf s n).map (·.master)).getD 0

/-- The tables with their deadlines as time remaining, and the acceptance of commands that wait as time past. -/
def saveTables (s : State) : State :=
  { s with
    serve := s.serve.map fun e => (e.1, { e.2 with
      saved := true, seqs := e.2.seqs.map fun q => (q.1, saveSeq s q.2) })
    cmds := s.cmds.map fun e => (e.1, { e.2 with acceptedAt := toAgo (ltcOf s e.2.clk) e.2.acceptedAt }) }

/-- Re-base on the master clusters' counters, which have started again. -/
def restoreTables (s : State) : State :=
  { s with
    serve := s.serve.map fun e =>
      (e.1, if e.2.saved then
        { e.2 with saved := false, seqs := e.2.seqs.map fun q => (q.1, restoreSeq (masterOf s e.1) (ltcOf s (masterOf s e.1)) q.2) }
      else e.2)
    cmds := s.cmds.map fun e => (e.1, { e.2 with acceptedAt := fromAgo (ltcOf s e.2.clk) e.2.acceptedAt }) }

/-- Tables that were not saved: every sequence ends COMPUTE_RESET at restart (R502). -/
def loseTables (s : State) : State :=
  forAll (s.serve.map (·.1)) (fun n =>
    synced n fun t =>
      match SMap.look t.serve n with
      | none => t
      | some v => v.seqs.foldl (fun u e => leaveNow n e.1 5 stComputeReset false u) t) s

/-! ## Going dark (R498, R502) -/

/-- Stacks of every half that is not parked enter self-refresh, their caches written back; enabled ports go idle. -/
def idleFabric (s : State) : State :=
  portsDown (List.range 6) (selfRefreshHalf true true (selfRefreshHalf false true s))

/-- The core rails, VDD_AN and VDD_SER go off: cores, caches and mirrors lose what they hold. -/
def railsDown (s : State) : State :=
  let s1 := powerDownHalf true (powerDownHalf false (dropChunks (List.range 544) s))
  { s1 with
    xl := { s1.xl with die := [], clus := [] }
    time := { s1.time with westRate := 0, eastRate := 0 }
    pwr := { s1.pwr with railsOn := NSet.diff s1.pwr.railsOn [0, 1, 2, 5], westCal := 0, eastCal := 0, westDim := false
                         eastDim := false } }

/-- A facet has work that keeps the module out of dusk (R498). -/
def duskBusy (s : State) : Bool :=
  !s.cmds.isEmpty || (s.facets.any fun e => e.2.eclipse.isSome) ||
    s.serve.any fun e => e.2.seqs.any fun q => q.2.state == 2 || q.2.state == 3

/-- Whether dusk may begin now (log 34: also not during a park, an update, a halt or start-up). -/
def mayDusk (s : State) : Bool :=
  s.pwr.stage == 5 && s.pwr.state == 0 && !duskBusy s && s.pwr.park.isNone && !updateBusy s && s.pwr.halt.isNone

/-- Step 1 of R498. -/
def beginDusk (s : State) : State :=
  let cals := (s.engines.filter fun e => e.2.cal.isSome).map (·.1)
  forAll cals calibrationAbandonEff (setPwr (fun p => { p with state := 1, fetchStop := true }) s)

def powerLimitsDuskEff (h : Req) (s : State) : State :=
  serve (ignoreBody h) opPowerLimits false (fun t =>
    if t.pwr.state == 1 || t.pwr.state == 2 then ({ status := syOk, body := limitsBody t.pwr }, t)
    else if mayDusk t then ({ status := syOk, body := limitsBody t.pwr }, beginDusk t)
    else ({ status := syBusy }, t)) s

/-- POWER_LIMITS_DUSK (R498, R509). -/
def execPowerLimitsDusk (fn : Nat) (s : State) : Host.Outcome State Fault Refusal :=
  checked (okFn fn) s (onRequest fn (layPower 2) fun h _ => powerLimitsDuskEff h)

def pf0D3hotEntryEff (s : State) : State :=
  let s1 := updFn 0 (fun r => { r with d3hot := true }) s
  if mayDusk s1 then beginDusk s1 else s1

/-- PF0_D3HOT_ENTRY (R498): where a request would be BUSY, no dusk begins. -/
def execPf0D3hotEntry (s : State) : Host.Outcome State Fault Refusal := checked true s pf0D3hotEntryEff

/-- A frame copy is in progress on some channel. -/
def copying (s : State) : Bool := s.chans.any fun e => e.2.copy.isSome

def duskEnteredEff (s : State) : State :=
  if s.pwr.state != 1 || copying s || s.pwr.halt.isSome then s
  else
    let s1 := railsDown (idleFabric (flushAllM (saveTables s)))
    raiseFw [0] evDuskEntered 0 0 0 none false (setPwr (fun p => { p with state := 2, dusk := true }) s1)

/-- DUSK_ENTERED (R498 steps 1 to 4). -/
def execDuskEntered (s : State) : Host.Outcome State Fault Refusal := checked true s duskEnteredEff

/-! ## Waking (R499, R504) -/

/-- WAKE is refused: locked until PERST# (R541), coolant not stable, or a thermal trip whose last readings exceeded 95 degrees. -/
def wakeRefused (s : State) : Bool := s.pwr.lockedUntilPerst || !s.pwr.coolStable || (s.pwr.tripHalt && s.pwr.hotTrip)

/-- The rails at vmax, the cores cleared, the stacks and ports back for every half that is not parked. -/
def powerUp (east : Bool) (s : State) : State :=
  if parked s east then s
  else
    let s1 := setPwr (fun p => setHalfMv east (halfVmax p east) { p with railsOn := NSet.add p.railsOn (halfRail east) }) s
    portsTrain (portsOfHalf east) (setCalStage east 0 (selfRefreshHalf east false (powerUpHalf east s1)))

/-- An eclipse that a halt overtook has its cores cleared and calibrated by the wake; its reload remains (log 31). -/
def wakeFacet (n : Nat) (s : State) : State :=
  reloadAll n (updFacet n (fun f => { f with eclipse := f.eclipse.map fun x => { x with phase := 5 } }) s)

def beginWake (s : State) : State :=
  let s1 := setPwr (fun p => { p with
    railsOn := NSet.union p.railsOn [2, 5], state := 3, alert := false, thermTripN := false, coolHalt := false
    tripHalt := false, hotTrip := false, issue := 16, westN := 16, eastN := 16, limiting := 0, floor := false
    lowSince := none, calmSince := none, overSince := none, settling := false, westRow := 0, eastRow := 0 }) s
  let s2 := powerUp true (powerUp false s1)
  forAll (s2.facets.map (·.1)) wakeFacet s2

def powerLimitsWakeEff (h : Req) (s : State) : State :=
  serve (ignoreBody h) opPowerLimits false (fun t =>
    if t.pwr.state == 0 && t.pwr.halt.isNone then ({ status := syOk, body := limitsBody t.pwr }, t)
    else if (t.pwr.state == 2 || t.pwr.state == 4) && !wakeRefused t then
      ({ status := syOk, body := limitsBody t.pwr }, beginWake t)
    else ({ status := syBusy }, t)) s

/-- POWER_LIMITS_WAKE (R499, R504). -/
def execPowerLimitsWake (fn : Nat) (s : State) : Host.Outcome State Fault Refusal :=
  checked (okFn fn) s (onRequest fn (layPower 3) fun h _ => powerLimitsWakeEff h)

def pf0D0EntryEff (s : State) : State :=
  if !(fnOf s 0).d3hot then s
  else
    let s1 := updFn 0 (fun r => { r with d3hot := false }) s
    if (s1.pwr.state == 2 || s1.pwr.state == 4) && !wakeRefused s1 then beginWake s1 else s1

/-- PF0_D0_ENTRY (R499). Where R504 would refuse the wake, none begins. -/
def execPf0D0Entry (s : State) : Host.Outcome State Fault Refusal := checked true s pf0D0EntryEff

/-- The half is up and calibrated, or parked. -/
def halfReady (s : State) (east : Bool) : Bool := parked s east || (calStage s east == 3 && halfCleared s east)

/-- The monitors of R475 and R477 start with empty windows on wake (R491). -/
def emptyWindows (s : State) : State :=
  { s with facets := s.facets.map fun e => (e.1, { e.2 with slowDur := 0, slowEst := 0, slowN := 0, checked := 0, missed := 0 }) }

def wokeEff (ms : Nat) (s : State) : State :=
  if s.pwr.state != 3 || !halfReady s false || !halfReady s true || (s.facets.any fun e => !e.2.loads.isEmpty) then s
  else
    let s1 := emptyWindows (setPwr (fun p => { p with state := 0, dusk := false, fetchStop := false, tablesLost := false }) s)
    raiseFw [0] evWoke 0 0 ms none false (markRestored (if s.pwr.tablesLost then loseTables s1 else restoreTables s1))

/-- WOKE (R499): `ms` is the wake time in local ms. -/
def execWoke (ms : Nat) (s : State) : Host.Outcome State Fault Refusal := checked true s (wokeEff ms)

/-! ## The order of the rails (R550, R554) -/

/-- Rails that a step of the order raises, in turn but for step 5. -/
def orderRails (n : Nat) : List Nat :=
  match n with
  | 2 => [3, 4]
  | 4 => [2]
  | 5 => [0, 1]
  | 6 => [5, 6]
  | _ => []

/-- The step in progress has what ends it. Before AON good, and when the order has ended, no step is in progress. -/
def orderStepDone (p : Pwr) : Bool :=
  if p.order = 3 then p.coolStable
  else decide (2 ≤ p.order) && decide (p.order < 7) && (orderRails p.order).all fun r => p.railsOn.contains r

/-- Pass over the steps that are done. -/
def advanceOrder : Nat → Pwr → Pwr
  | 0, p => p
  | n + 1, p => if orderStepDone p then advanceOrder n { p with order := p.order + 1 } else p

/-- The milestones start: Lantern's security steps, the first of which draw a new key for memory key slot 0 (R517, R523). -/
def startMilestones (s : State) : State :=
  if s.pwr.perst then s
  else
    let d := draw s
    setPwr (fun p => { p with stage := 2, bootAt := mcNow s, readyMs := 0xFFFF, mbxMs := 0xFFFF })
      { d.2 with sec := { d.2.sec with memKey0 := toLe 64 d.1 } }

/-- Go on with the order from the step in progress. -/
def runOrder (s : State) : State :=
  let p := advanceOrder 6 s.pwr
  let s1 := setPwr (fun _ => { p with stage := if p.order = 3 then 1 else 0 }) s
  if p.order = 7 then startMilestones s1 else s1

/-- A halt or a tamper stops an order that is not ended; PERST# or WAKE raises what is missing. -/
def stopOrder (p : Pwr) : Pwr := if 2 ≤ p.order then { p with order := 7 } else p

/-! ## Halts (R502 to R504, R511) -/

/-- Commands past step 7 complete COMPUTE_RESET, and their records are written (R503). -/
def haltCommands (s : State) : State :=
  forAll (cmdsWhere s fun c => c.phase == .running)
    (fun id t => completeCmd id (finishCmd id (meetStatus id stComputeReset 0 (dropWaiters (fun w => w == id) t)))) s

/-- The steps in flight end (R439). -/
def haltSteps (s : State) : State :=
  forAll (s.serve.map (·.1)) (fun n t => if stepRunning t n then synced n (endStep n stComputeReset) t else t) s

/-- The halt has something to stop: a core rail or VDD_AN is on (R564). -/
def computeOn (s : State) : Bool := halfOn s false || halfOn s true || s.pwr.railsOn.contains 2

/-- Step 4: the record, ALERT_N, the state and the event. -/
def haltRecord (trip : Bool) (subject : Nat) (temp : Int) (s : State) : State :=
  let s1 := setPwr (fun p => { stopOrder p with
    state := 4, halt := none, alert := true, coolHalt := p.coolHalt || !trip, tripHalt := p.tripHalt || trip }) s
  if trip then raisePf0 evThermtrip subject (temp % 2 ^ 64).toNat false s1 else raisePf0 evCoolLoss 0 subject false s1

/-- Step 1, or step 4 alone in dusk. For a loss of coolant the halt remembers the commands that it ended. -/
def startHalt (trip : Bool) (subject : Nat) (temp : Int) (s : State) : State :=
  if s.pwr.halt.isSome || s.pwr.state == 4 then s
  else if s.pwr.state == 2 then haltRecord trip subject temp s
  else if !computeOn s then s
  else
    let n := (cmdsWhere s fun c => c.phase == .running && !c.late).length
    let hot := trip && s.pwr.dieTemp.any fun e => decide (950 < e.2)
    let s1 := setPwr (fun p => { p with fetchStop := true, hotTrip := hot, thermTripN := p.thermTripN || trip }) s
    let s2 := haltSteps (haltCommands s1)
    setPwr (fun p => { p with halt := some ⟨trip, 2, false, if trip then subject else n, temp⟩ }) s2

/-- Steps 3 and 4. -/
def finishHalt (h : Halt) (s : State) : State := haltRecord h.trip h.subject h.temp (railsDown (idleFabric s))

/-- THERMTRIP (R500, R502): the subject is a cluster, or 0x100 plus a stack, with its temperature. -/
def execThermtrip (subject : Nat) (temp : Int) (s : State) : Host.Outcome State Fault Refusal :=
  checked (okTrip subject) s (startHalt true subject temp)

def haltTablesSavedEff (s : State) : State :=
  match s.pwr.halt with
  | none => s
  | some h => if s.fw.handover then s else finishHalt h (flushAllM (saveTables s))

/-- HALT_TABLES_SAVED (R502 steps 2 to 4): not during a firmware handover (R511). -/
def execHaltTablesSaved (s : State) : Host.Outcome State Fault Refusal := checked true s haltTablesSavedEff

def haltSaveTimeoutEff (s : State) : State :=
  match s.pwr.halt with
  | none => s
  | some h => finishHalt h (setPwr (fun p => { p with tablesLost := true }) s)

/-- HALT_SAVE_TIMEOUT (R502): hardware completes the halt without the tables. -/
def execHaltSaveTimeout (s : State) : Host.Outcome State Fault Refusal := checked true s haltSaveTimeoutEff

/-! ## COOL_OK (R502, R504, R550) -/

/-- COOL_OK_DEASSERT (R502). -/
def execCoolOkDeassert (s : State) : Host.Outcome State Fault Refusal :=
  checked true s (fun t =>
    if t.pwr.coolOk then setPwr (fun p => { p with coolOk := false, coolTimer := true, coolStable := false }) t else t)

/-- COOL_OK_ASSERT (R502, R550): a dip shorter than the filter is counted and changes nothing. -/
def execCoolOkAssert (s : State) : Host.Outcome State Fault Refusal :=
  checked true s (fun t =>
    if t.pwr.coolOk then t
    else setPwr (fun p => { p with coolOk := true, coolTimer := false, coolDips := p.coolDips + b2n p.coolTimer }) t)

/-- COOL_OK_STABLE (R504, R550 step 3): the order of the rails goes on where it waits. -/
def execCoolOkStable (s : State) : Host.Outcome State Fault Refusal :=
  checked true s (fun t =>
    if !t.pwr.coolOk then t
    else
      let t1 := setPwr (fun p => { p with coolStable := true }) t
      if t.pwr.order = 3 then runOrder t1 else t1)

/-- COOL_LOSS (R502): COOL_OK has stayed deasserted for 50 ms. -/
def execCoolLoss (s : State) : Host.Outcome State Fault Refusal :=
  checked true s (fun t =>
    if t.pwr.coolOk || !t.pwr.coolTimer then t
    else startHalt false 0 0 (setPwr (fun p => { p with coolTimer := false }) t))

end Sys2Proof.Machine
end

