-- ==== Sys2Proof/Machine/Security.lean ====
section
/-! DEFINITION. Lantern's services (17 R513 to R547): SPDM and the vendor-defined ops over each function's DOE mailbox, keys,
binding slots, the life cycle, wipes and tamper. Vendor-defined requests come as the bytes of their bodies; verdicts of signatures
and MACs come with the command (log 12). -/

namespace Sys2Proof.Machine

def setSec (g : Sec → Sec) (s : State) : State := { s with sec := g s.sec }

/-! ## SPDM (R519) -/

/-- Message codes of SPDM's responses (log 12). -/
def dmVersion : Nat := 0x04
def dmCapabilities : Nat := 0x61
def dmAlgorithms : Nat := 0x63
def dmDigests : Nat := 0x01
def dmCertificate : Nat := 0x02
def dmChallengeAuth : Nat := 0x03
def dmMeasurements : Nat := 0x60
def dmKeyExchange : Nat := 0x64
def dmFinish : Nat := 0x65
def dmHeartbeat : Nat := 0x68
def dmKeyUpdate : Nat := 0x69
def dmEndSession : Nat := 0x6C
def dmVendor : Nat := 0x7E
def dmError : Nat := 0x7F

/-- Error codes: invalid request, unexpected request, unspecified, decryption, session limit. -/
def deInvalid : Nat := 0x01
def deUnexpected : Nat := 0x04
def deUnspecified : Nat := 0x05
def deDecrypt : Nat := 0x06
def deSessionLimit : Nat := 0x0A

def spdmOf (s : State) (fn : Nat) : Spdm := SMap.getD s.sec.spdm fn {}
def setSpdm (fn : Nat) (x : Spdm) (s : State) : State := setSec (fun c => { c with spdm := SMap.put c.spdm fn x }) s

/-- Send a response on a function's DOE mailbox. -/
def doeSend (fn code : Nat) (data : List Byte) (s : State) : State := emit (.doe fn code data) s
def doeError (fn e : Nat) (s : State) : State := doeSend fn dmError (toLe 1 e) s

/-- A DOE request: answered while the functions answer, from the function that exists; `ok` is what it needs, else an ERROR. -/
def doeAsk (fn : Nat) (ok : Bool) (e : Nat) (act : State → State) (s : State) : State :=
  if !hostUp s || !fnExists s fn then s
  else if ok then act s
  else doeError fn e s

def spdmGetVersionEff (fn : Nat) (s : State) : State :=
  doeAsk fn true 0 (fun t => doeSend fn dmVersion [0x12, 0x13] (setSpdm fn { version := true } t)) s

/-- SPDM_GET_VERSION (R519): versions 1.2 and 1.3; the connection starts anew. -/
def execSpdmGetVersion (fn : Nat) (s : State) : Host.Outcome State Fault Refusal :=
  checked (okFn fn) s (spdmGetVersionEff fn)

def spdmGetCapabilitiesEff (fn : Nat) (s : State) : State :=
  doeAsk fn (spdmOf s fn).version deUnexpected
    (fun t => doeSend fn dmCapabilities [] (setSpdm fn { spdmOf t fn with caps := true } t)) s

/-- SPDM_GET_CAPABILITIES (R519). -/
def execSpdmGetCapabilities (fn : Nat) (s : State) : Host.Outcome State Fault Refusal :=
  checked (okFn fn) s (spdmGetCapabilitiesEff fn)

def spdmNegotiateAlgorithmsEff (fn : Nat) (supported : Bool) (s : State) : State :=
  doeAsk fn (spdmOf s fn).caps deUnexpected (doeAsk fn supported deInvalid
    (fun t => doeSend fn dmAlgorithms [] (setSpdm fn { spdmOf t fn with algs := true } t))) s

/-- SPDM_NEGOTIATE_ALGORITHMS (R519): `supported` says that the requester offers the algorithms of R519. -/
def execSpdmNegotiateAlgorithms (fn : Nat) (supported : Bool) (s : State) : Host.Outcome State Fault Refusal :=
  checked (okFn fn) s (spdmNegotiateAlgorithmsEff fn supported)

/-- A request that needs agreed algorithms, and one that needs the identity keys as well (R518). -/
def agreed (s : State) (fn : Nat) : Bool := (spdmOf s fn).algs
def withIdentity (fn : Nat) (act : State → State) (s : State) : State :=
  doeAsk fn (agreed s fn) deUnexpected (doeAsk fn s.fuses.identityKeys deUnspecified act) s

def spdmGetDigestsEff (fn : Nat) (s : State) : State := withIdentity fn (doeSend fn dmDigests [0x01]) s

/-- SPDM_GET_DIGESTS (R519): slot 0 only. -/
def execSpdmGetDigests (fn : Nat) (s : State) : Host.Outcome State Fault Refusal :=
  checked (okFn fn) s (spdmGetDigestsEff fn)

def spdmGetCertificateEff (fn slot offset length : Nat) (s : State) : State :=
  withIdentity fn (doeAsk fn (slot == 0) deInvalid 
    (doeSend fn dmCertificate (toLe 1 slot ++ ((Config.rsaChain.drop offset).take length)))) s

/-- SPDM_GET_CERTIFICATE (R519): a portion of slot 0's chain. -/
def execSpdmGetCertificate (fn slot offset length : Nat) (s : State) : Host.Outcome State Fault Refusal :=
  checked (okFn fn) s (spdmGetCertificateEff fn slot offset length)

def spdmChallengeEff (fn slot : Nat) (s : State) : State :=
  withIdentity fn (doeAsk fn (slot == 0) deInvalid
    (fun t => doeSend fn dmChallengeAuth (toLe 1 slot) (setSpdm fn { spdmOf t fn with challenged := true } t))) s

/-- SPDM_CHALLENGE (R519). -/
def execSpdmChallenge (fn slot : Nat) (s : State) : Host.Outcome State Fault Refusal :=
  checked (okFn fn) s (spdmChallengeEff fn slot)

/-- The booted bank's image. -/
def bootedBank (s : State) : Bank := if s.sec.bootBank = 0 then s.sec.bank0 else s.sec.bank1

/-- Confidential facets of a function for measurement 6. -/
def facetMeasure (s : State) (fn : Nat) : List Byte :=
  (s.facets.filter fun e => e.2.fn == fn && e.2.confidential).flatMap fun e =>
    toLe 1 e.1 ++ toLe 1 (1 + 2 * b2n e.2.member) ++ toLe 1 (fnOf s fn).tdi

/-- The content of a measurement block (R520). The fused owner key hash is a number of 48 bytes. -/
def measurement (s : State) (fn index : Nat) : List Byte :=
  match index with
  | 1 => Config.romDigest
  | 2 => if s.sec.imageOk then Config.sha384 s.fw.header else List.replicate 48 0
  | 3 => toLe 8 s.fw.build ++ toLe 4 s.fw.svn ++ toLe 4 s.fuses.svnFloor
  | 4 => toLe 1 s.fuses.lcState ++ toLe 1 (b2n s.sec.tampered) ++ s.fuses.revoked.flatMap (toLe 1) ++ toLe 1 s.sec.bootBank
  | 5 => toLe 48 s.fuses.ownerKey
  | 6 => facetMeasure s fn
  | _ => []

/-- Blocks that an index asks for: 0 their number, 0xFF all (R520). -/
def measureBlocks (s : State) (fn index : Nat) : List Byte :=
  if index = 0 then [6]
  else if index = 0xFF then (List.range 6).flatMap fun i => toLe 1 (i + 1) ++ measurement s fn (i + 1)
  else toLe 1 index ++ measurement s fn index

def measureAnswer (fn index : Nat) (signed : Bool) (s : State) : State :=
  doeSend fn dmMeasurements (measureBlocks s fn index)
    (setSpdm fn { spdmOf s fn with measured := signed } s)

def spdmGetMeasurementsEff (fn index : Nat) (signed : Bool) (s : State) : State :=
  doeAsk fn (agreed s fn) deUnexpected (doeAsk fn (decide (index ≤ 6) || index == 0xFF) deInvalid
    (doeAsk fn (!signed || s.fuses.identityKeys) deUnspecified (measureAnswer fn index signed))) s

/-- SPDM_GET_MEASUREMENTS (R520). -/
def execSpdmGetMeasurements (fn index : Nat) (signed : Bool) (s : State) : Host.Outcome State Fault Refusal :=
  checked (okFn fn) s (spdmGetMeasurementsEff fn index signed)

/-- Sessions of a function. -/
def sessionsOf (s : State) (fn : Nat) : List Session := s.sec.sessions.filter fun x => x.fn == fn
def sessionOf (s : State) (fn id : Nat) : Option Session := s.sec.sessions.find? fun x => x.fn == fn && x.id == id
def inSession (s : State) (fn id : Nat) : Bool := ((sessionOf s fn id).map (·.established)).getD false
def dropSessions (p : Session → Bool) (s : State) : State :=
  setSec (fun c => { c with sessions := c.sessions.filter fun x => !p x }) s
def updSession (fn id : Nat) (g : Session → Session) (s : State) : State :=
  setSec (fun c => { c with sessions := c.sessions.map fun x => if x.fn == fn && x.id == id then g x else x }) s

def openSession (fn : Nat) (s : State) : State :=
  doeSend fn dmKeyExchange (toLe 2 s.sec.nextSession)
    (setSec (fun c => { c with sessions := c.sessions ++ [{ fn := fn, id := c.nextSession }], nextSession := c.nextSession + 1 }) s)

def spdmKeyExchangeEff (fn : Nat) (s : State) : State :=
  withIdentity fn (doeAsk fn (decide ((sessionsOf s fn).length < 2)) deSessionLimit (openSession fn)) s

/-- SPDM_KEY_EXCHANGE (R519): at most 2 sessions of a function. -/
def execSpdmKeyExchange (fn : Nat) (s : State) : Host.Outcome State Fault Refusal :=
  checked (okFn fn) s (spdmKeyExchangeEff fn)

def finishSession (fn id : Nat) (macOk : Bool) (s : State) : State :=
  if macOk then doeSend fn dmFinish [] (updSession fn id (fun x => { x with established := true }) s)
  else doeError fn deDecrypt (dropSessions (fun x => x.fn == fn && x.id == id) s)

def spdmFinishEff (fn id : Nat) (macOk : Bool) (s : State) : State :=
  doeAsk fn (((sessionOf s fn id).map fun x => !x.established).getD false) deUnexpected (finishSession fn id macOk) s

/-- SPDM_FINISH (R519). -/
def execSpdmFinish (fn session : Nat) (macOk : Bool) (s : State) : Host.Outcome State Fault Refusal :=
  checked (okFn fn) s (spdmFinishEff fn session macOk)

def spdmHeartbeatEff (fn id : Nat) (s : State) : State :=
  doeAsk fn (inSession s fn id) deUnexpected (doeSend fn dmHeartbeat []) s

/-- SPDM_HEARTBEAT (R519). -/
def execSpdmHeartbeat (fn session : Nat) (s : State) : Host.Outcome State Fault Refusal :=
  checked (okFn fn) s (spdmHeartbeatEff fn session)

def spdmKeyUpdateEff (fn id : Nat) (s : State) : State :=
  doeAsk fn (inSession s fn id) deUnexpected (doeSend fn dmKeyUpdate []) s

/-- SPDM_KEY_UPDATE (R519). -/
def execSpdmKeyUpdate (fn session : Nat) (s : State) : Host.Outcome State Fault Refusal :=
  checked (okFn fn) s (spdmKeyUpdateEff fn session)

def spdmEndSessionEff (fn id : Nat) (s : State) : State :=
  doeAsk fn (inSession s fn id) deUnexpected
    (fun t => doeSend fn dmEndSession [] (dropSessions (fun x => x.fn == fn && x.id == id) t)) s

/-- SPDM_END_SESSION (R519). -/
def execSpdmEndSession (fn session : Nat) (s : State) : Host.Outcome State Fault Refusal :=
  checked (okFn fn) s (spdmEndSessionEff fn session)

/-! ## Vendor-defined ops (R521) -/

/-- The answer of a vendor-defined op: its status and what follows it. -/
def vendorSend (fn status : Nat) (d : List Byte) (s : State) : State := doeSend fn dmVendor (toLe 1 status ++ d) s

/-- A vendor-defined op: it answers a status and its data, and acts only with OK. -/
def vendorOp (fn : Nat) (act : State → (Nat × List Byte) × State) (s : State) : State :=
  doeAsk fn true 0 (fun t =>
    let r := act t
    vendorSend fn r.1.1 r.1.2 (if r.1.1 = syOk then r.2 else t)) s

def refuse (st : Nat) (s : State) : (Nat × List Byte) × State := ((st, []), s)
/-- OK with a slot in byte 1 (R524), and with other data. -/
def accept (slot : Nat) (s : State) : (Nat × List Byte) × State := ((syOk, toLe 1 slot), s)
def acceptWith (d : List Byte) (s : State) : (Nat × List Byte) × State := ((syOk, d), s)

def getPqChainEff (fn : Nat) (s : State) : State :=
  vendorOp fn (fun t => if t.fuses.identityKeys then acceptWith Config.pqChain t else refuse syNotFound t) s

/-- GET_PQ_CHAIN (R521). -/
def execGetPqChain (fn : Nat) (s : State) : Host.Outcome State Fault Refusal := checked (okFn fn) s (getPqChainEff fn)

/-- A signature goes out. -/
def signAnswer (s : State) : (Nat × List Byte) × State :=
  let d := draw s
  acceptWith (Config.pqSignature d.1) d.2

/-- The response that PQ_SIGN names exists. -/
def pqTarget (s : State) (fn : Nat) (session : Option Nat) (target : Nat) : Bool :=
  match target with
  | 0 => (spdmOf s fn).challenged
  | 1 => (spdmOf s fn).measured
  | _ => match session with
    | some id => inSession s fn id
    | none => false

def pqSignEff (fn : Nat) (session : Option Nat) (target : Nat) (s : State) : State :=
  vendorOp fn (fun t =>
    if 2 < target then refuse syMalformed t
    else if !t.fuses.identityKeys || !pqTarget t fn session target then refuse syNotFound t
    else match (if target = 2 then session else none) with
    | some id => signAnswer (updSession fn id (fun x => { x with pq := true }) t)
    | none => signAnswer t) s

/-- PQ_SIGN (R521): target 2 opens the session to the key ops (R522). -/
def execPqSign (fn : Nat) (session : Option Nat) (target : Nat) (s : State) : Host.Outcome State Fault Refusal :=
  checked (okFn fn) s (pqSignEff fn session target)

/-! ## Key ops (R522 to R528, R534) -/

/-- A session takes key ops: established, PQ_SIGN answered for it, and the module DEPLOYED. -/
def keyOpsOpen (s : State) (fn id : Nat) : Bool :=
  s.fuses.lcState == 3 && ((sessionOf s fn id).map fun x => x.established && x.pq).getD false

/-- A key op with its checks in order: DENIED, then MALFORMED for a reserved field. -/
def keyOp (fn id : Nat) (rsv : Bool) (act : State → (Nat × List Byte) × State) (s : State) : State :=
  vendorOp fn (fun t =>
    if !keyOpsOpen t fn id then refuse syDenied t
    else if rsv then refuse syMalformed t
    else act t) s

/-- A KEY_SET body is one of a row's kind, or of no kind that KEY_SET has. -/
def keyKind (kind : Nat) (b : List Byte) : Bool := field b 0 1 == 0x10 && (field b 1 1 == kind || decide (2 < field b 1 1))

/-- Reserved fields of a KEY_SET body by kind, and a kind that KEY_SET does not have (R524). -/
def keySetBad (kind : Nat) (b : List Byte) : Bool :=
  field b 1 1 != kind ||
    match kind with
    | 0 => badBody 80 [(2, 1), (4, 2), (6, 2), (8, 4), (12, 4)] b
    | 1 => badBody 80 [(3, 1), (6, 2), (12, 4), (0x30, 32)] b || !zeroBits (field b 2 1) 3 8
    | _ => badBody 80 [(2, 1), (3, 1), (4, 2), (6, 2), (8, 4), (12, 4), (0x30, 32)] b

/-- A KEY_SET of a kind; a body of another kind is another row's. -/
def keySetOp (kind fn id : Nat) (b : List Byte) (act : State → (Nat × List Byte) × State) (s : State) : State :=
  if keyKind kind b then keyOp fn id (keySetBad kind b) act s else s

/-- R526 step 1. -/
def setMemoryKey (fn n : Nat) (key : List Byte) (s : State) : (Nat × List Byte) × State :=
  match facetOf s n with
  | none => refuse syNotFound s
  | some f =>
    let slot := freeMemSlot s
    if f.fn != fn || !f.confidential then refuse syDenied s
    else if f.rekey.isSome || f.state == 4 then refuse syBusy s
    else if 255 < slot then refuse syNoSpace s
    else accept slot (setFacet n { f with memSlot := slot, rekey := some ⟨f.memSlot, f.channels⟩ }
      (setSec (fun c => { c with memSlots := SMap.put c.memSlots slot key }) s))

def keySetMemoryEff (fn session : Nat) (b : List Byte) (s : State) : State :=
  keySetOp 0 fn session b (setMemoryKey fn (field b 3 1) (slice b 0x10 64)) s

/-- KEY_SET_MEMORY (R524, R526 step 1): the re-key pass begins. -/
def execKeySetMemory (fn session : Nat) (body : List Byte) (s : State) : Host.Outcome State Fault Refusal :=
  checked (okFn fn) s (keySetMemoryEff fn session body)

/-- A line of the facet's channels takes the new slot. -/
def retagLine (chans : NSet) (old new gl slot : Nat) : Nat := if slot = old && chans.contains (chOfLine gl) then new else slot

/-- What the re-key pass leaves: every line that was under the old slot is under the new one. -/
def retagAll (chans : NSet) (old new : Nat) (s : State) : State :=
  { s with
    lineMeta := s.lineMeta.map fun e => (e.1, { e.2 with keySlot := retagLine chans old new e.1 e.2.keySlot })
    msc := s.msc.map fun e => (e.1, e.2.map fun l => { l with keySlot := retagLine chans old new l.gl l.keySlot })
    coh := { s.coh with
      lines := s.coh.lines.map fun e => (e.1, e.2.map fun l => { l with keySlot := retagLine chans old new l.gl l.keySlot }) } }

def keyRotatedEff (n : Nat) (s : State) : State :=
  match facetOf s n with
  | none => s
  | some f =>
    match f.rekey with
    | none => s
    | some r =>
      if retiring s n then s
      else
        let s1 := dropRekey n (retagAll f.channels r.oldSlot f.memSlot s)
        raiseTo [0, f.fn] evKeyRotated f.fn n f.memSlot none f.confidential s1

/-- KEY_ROTATED (R526 steps 2 and 3): every channel is done. A frame copy of a retirement comes first (R546). -/
def execKeyRotated (facet : Nat) (s : State) : Host.Outcome State Fault Refusal :=
  checked (okFacet facet) s (keyRotatedEff facet)

/-- Load a key into a position: its nonce count starts at 0. -/
def freshPos (key : List Byte) : LinkPos := { loaded := true, key := key }

/-- Stage and activate (R527). A load without flags replaces the sending key (log 35). -/
def changeLink (k : LinkKey) (stage activate : Bool) (key : List Byte) : Option LinkKey :=
  let k1 := if stage then setKeyPos (!k.send1) (freshPos key) k
    else if activate then k else setKeyPos k.send1 (freshPos key) k
  if !activate then some k1
  else if (keyPos k1 (!k1.send1)).loaded then some { k1 with send1 := !k1.send1 }
  else none

def setLinkKeyOp (fn peer : Nat) (stage activate : Bool) (salt : Nat) (key : List Byte) (s : State) : (Nat × List Byte) × State :=
  match SMap.look s.sec.linkKeys peer with
  | some k =>
    if k.fn != fn then refuse syDenied s
    else if salt != 0 then refuse syMalformed s
    else match changeLink k stage activate key with
    | some k1 => accept 0 (setLinkKey peer k1 s)
    | none => refuse syNotFound s
  | none =>
    if activate && !stage then refuse syNotFound s
    else if 4096 ≤ s.sec.linkKeys.length then refuse syNoSpace s
    else
      match changeLink { fn := fn, salt := salt } stage activate key with
      | some k1 => accept 0 (setLinkKey peer k1 s)
      | none => refuse syNotFound s

/-- A flag of a key op's body. -/
def keyFlag (b : List Byte) (i : Nat) : Bool := bit (field b 2 1) i == 1

/-- Key-table number of the peer that a body names. -/
def bodyPeer (b : List Byte) : Nat := peerKey (keyFlag b 2) (field b 4 2)

def keySetLinkEff (fn session : Nat) (b : List Byte) (s : State) : State :=
  keySetOp 1 fn session b
    (setLinkKeyOp fn (bodyPeer b) (keyFlag b 0) (keyFlag b 1) (field b 8 4) (slice b 0x10 32)) s

/-- KEY_SET_LINK (R524, R527). -/
def execKeySetLink (fn session : Nat) (body : List Byte) (s : State) : Host.Outcome State Fault Refusal :=
  checked (okFn fn) s (keySetLinkEff fn session body)

def setWeightKey (fn : Nat) (key : List Byte) (s : State) : (Nat × List Byte) × State :=
  let slot := lowestFrom (s.sec.weightSlots.map (·.1)) 0
  if 64 ≤ slot then refuse syNoSpace s
  else accept slot (setSec (fun c => { c with weightSlots := SMap.put c.weightSlots slot ⟨fn, key⟩ }) s)

def keySetWeightEff (fn session : Nat) (b : List Byte) (s : State) : State :=
  keySetOp 2 fn session b (setWeightKey fn (slice b 0x10 32)) s

/-- KEY_SET_WEIGHT (R524, R528). -/
def execKeySetWeight (fn session : Nat) (body : List Byte) (s : State) : Host.Outcome State Fault Refusal :=
  checked (okFn fn) s (keySetWeightEff fn session body)

/-- A loaded weight set decrypts from a slot. -/
def slotInUse (s : State) (slot : Nat) : Bool := s.facets.any fun e => e.2.sets.any fun w => w.2.keySlot == slot

def clearLinkKey (fn peer : Nat) (stage : Bool) (s : State) : (Nat × List Byte) × State :=
  match SMap.look s.sec.linkKeys peer with
  | none => refuse syNotFound s
  | some k =>
    if k.fn != fn then refuse syDenied s
    else if stage then accept 0 (setLinkKey peer (setKeyPos (!k.send1) {} k) s)
    else accept 0 (setSec (fun c => { c with linkKeys := SMap.del c.linkKeys peer }) s)

def clearWeightKey (fn slot : Nat) (s : State) : (Nat × List Byte) × State :=
  match SMap.look s.sec.weightSlots slot with
  | none => refuse syNotFound s
  | some o =>
    if o.owner != fn then refuse syDenied s
    else if slotInUse s slot then refuse syBusy s
    else accept 0 (setSec (fun c => { c with weightSlots := SMap.del c.weightSlots slot }) s)

def clearBinding (fn identity : Nat) (s : State) : (Nat × List Byte) × State :=
  if fn != 0 then refuse syDenied s
  else if SMap.has s.sec.bindings identity then accept 0 (setSec (fun c => { c with bindings := SMap.del c.bindings identity }) s)
  else refuse syNotFound s

/-- Reserved fields of a KEY_CLEAR body: 8 bytes, of which kind 3 has its identity in bytes 4 to 7 (R524). -/
def keyClearBad (b : List Byte) : Bool :=
  match field b 1 1 with
  | 1 => badBody 8 [(3, 1), (6, 2)] b || !zeroBits (field b 2 1) 3 8
  | 2 => badBody 8 [(2, 1), (3, 1), (6, 2)] b
  | 3 => badBody 8 [(2, 1), (3, 1)] b
  | _ => true

def keyClearEff (fn session : Nat) (b : List Byte) (s : State) : State :=
  if field b 0 1 = 0x11 then
    keyOp fn session (keyClearBad b) (fun t =>
      match field b 1 1 with
      | 1 => clearLinkKey fn (bodyPeer b) (keyFlag b 0) t
      | 2 => clearWeightKey fn (field b 4 2) t
      | _ => clearBinding fn (field b 4 4) t) s
  else s

/-- KEY_CLEAR (R524, R527, R528, R534). The layout names no memory key, so kind 0 is MALFORMED (log 35). -/
def execKeyClear (fn session : Nat) (body : List Byte) (s : State) : Host.Outcome State Fault Refusal :=
  checked (okFn fn) s (keyClearEff fn session body)

/-- Members of a BINDING_SET body, and the tags that it lists (R534). -/
def bindingCount (b : List Byte) : Nat := field b 40 2
def bindingTags (b : List Byte) : List Nat := (List.range (bindingCount b)).map fun i => field b (48 + 16 * i) 16

def bindingBad (b : List Byte) : Bool :=
  badBody (48 + 16 * bindingCount b) [(1, 3), (42, 6)] b || bindingCount b == 0 || decide (1024 < bindingCount b)

def setBinding (b : List Byte) (s : State) : (Nat × List Byte) × State :=
  let identity := field b 4 4
  if !(bindingTags b).contains s.fuses.identityTag then refuse syRejected s
  else if 16 ≤ s.sec.bindings.length && !SMap.has s.sec.bindings identity then refuse syNoSpace s
  else acceptWith [] (setSec (fun c => { c with
    bindings := SMap.put c.bindings identity ⟨slice b 8 32, Config.sha384 (slice b 48 (16 * bindingCount b))⟩ }) s)

def bindingSetEff (session : Nat) (b : List Byte) (s : State) : State :=
  if field b 0 1 = 0x12 then keyOp 0 session (bindingBad b) (setBinding b) s else s

/-- BINDING_SET (R534), in a session of PF0. -/
def execBindingSet (session : Nat) (body : List Byte) (s : State) : Host.Outcome State Fault Refusal :=
  checked true s (bindingSetEff session body)

/-! ## Wipes, tamper and the life cycle (R537 to R541) -/

/-- The secure part of a scratchpad (R156). -/
def wipeCore (c : Nat) (s : State) : State :=
  if (coreOf s c).powered then
    forAll (enginesOf c) (fun e t => updEngine e (fun x => { x with plane0 := {}, plane1 := {} }) t)
      (updCore c (fun x => { x with scratch := Mem.zero x.scratch Config.dataRegion 0x40000, buffers := [] }) s)
  else s

/-- R540. -/
def wipe (s : State) : State :=
  forAll (List.range 544) wipeCore (setSec (fun c => { c with
    memSlots := [], memKey0 := [], linkKeys := [], weightSlots := [], bindings := [], sessions := [] }) s)

/-- The hardware path of R502 without a table save: steps 1 and 3, and the state and ALERT_N of step 4. In dusk or a halt only
the state changes. -/
def hardHalt (s : State) : State :=
  let s1 := if computeOn s then railsDown (idleFabric (haltSteps (haltCommands (setPwr (fun p => { p with tablesLost := true }) s))))
    else s
  setPwr (fun p => { stopOrder p with state := 4, halt := none, alert := true, fetchStop := true, lockedUntilPerst := true }) s1

/-- A firmware update in progress is abandoned (R546). -/
def abandonUpdate (s : State) : State := raiseHeld (setUpdate none s)

def tamperEff (source : Nat) (s : State) : State :=
  if s.fuses.lcState == 0 || !s.pwr.aonGood then s
  else
    let s1 := setPwr (fun p => { p with stage := if p.stage = 5 then 5 else 6 }) (hardHalt (wipe (abandonUpdate s)))
    raisePf0 evTamper source (mcNow s) false (setSec (fun c => { c with tampered := true }) s1)

/-- TAMPER (R541): the source is 0 pin, 1 light, 2 voltage, 3 temperature. -/
def execTamper (source : Nat) (s : State) : Host.Outcome State Fault Refusal := checked (decide (source < 4)) s (tamperEff source)

def getNonceEff (fn : Nat) (s : State) : State :=
  vendorOp fn (fun t =>
    if fn != 0 then refuse syDenied t
    else
      let d := draw t
      acceptWith (toLe 32 d.1) (setSec (fun c => { c with nonce := some (d.1 % 2 ^ 256) }) d.2)) s

/-- GET_NONCE (R521): a nonce of 32 bytes. -/
def execGetNonce (fn : Nat) (s : State) : Host.Outcome State Fault Refusal := checked (okFn fn) s (getNonceEff fn)

/-- NONCE_EXPIRY (R521). -/
def execNonceExpiry (s : State) : Host.Outcome State Fault Refusal :=
  checked true s (setSec fun c => { c with nonce := none })

/-- Who must authorise a transition (R538): 1 Psilum, 2 the owner, 3 the owner's claim; none is not allowed. -/
def lcAuthority (src dst : Nat) : Option Nat :=
  if src = 0 && dst = 1 then some 1
  else if src = 1 && dst = 2 then some 1
  else if src = 2 && dst = 3 then some 3
  else if src = 2 && dst = 4 then some 1
  else if src = 3 && dst = 4 then some 2
  else if src = 3 && dst = 5 then some 2
  else if src = 4 && dst = 5 then some 1
  else none

/-- The authorisation that came with the request: for the claim, the owner's public key in a session of PF0. -/
def lcAuthorised (s : State) (need : Nat) (session : Option Nat) (byOwner byPsilum : Bool) : Bool :=
  match need with
  | 1 => byPsilum
  | 2 => byOwner
  | _ => match session with
    | some id => inSession s 0 id
    | none => false

/-- R539 steps 1 to 5. -/
def lcAct (target ownerKey : Nat) (s : State) : State :=
  let from_ := s.fuses.lcState
  let s1 := setSec (fun c => { c with lcDone := true }) (wipe (hardHalt s))
  let s2 := { s1 with fuses := { s1.fuses with
    lcState := target, ownerKey := if from_ = 2 && target = 3 then ownerKey else s1.fuses.ownerKey
    identityKeys := if target = 5 then false else if target = 2 then true else s1.fuses.identityKeys } }
  raisePf0 evLcChanged target 0 false s2

/-- The target and the nonce of an LC_TRANSITION body, and the hash of the key that a claim carries from byte 48 (R538, R539). -/
def lcTarget (b : List Byte) : Nat := field b 1 1
def lcNonce (b : List Byte) : Nat := field b 4 32
def claimHash (b : List Byte) : Nat := ofLe (Config.sha384 (b.drop 48))

def lcTransitionEff (fn : Nat) (session : Option Nat) (b : List Byte) (byOwner byPsilum : Bool) (s : State) : State :=
  if field b 0 1 != 0x21 then s
  else vendorOp fn (fun t =>
    if fn != 0 then refuse syDenied t
    else match lcAuthority t.fuses.lcState (lcTarget b) with
    | none => refuse syDenied t
    | some need =>
      if t.sec.nonce != some (lcNonce b) || !lcAuthorised t need session byOwner byPsilum then refuse syRejected t
      else acceptWith [] (lcAct (lcTarget b) (claimHash b) t)) s

/-- LC_TRANSITION (R538, R539). The signatures' verdicts are `byOwner` and `byPsilum`; `session` is the secured session that the
request came in. -/
def execLcTransition (fn : Nat) (session : Option Nat) (body : List Byte) (byOwner byPsilum : Bool) (s : State) :
    Host.Outcome State Fault Refusal :=
  checked (okFn fn) s (lcTransitionEff fn session body byOwner byPsilum)

end Sys2Proof.Machine
end

