-- ==== Sys2Proof/Machine/Startup.lean ====
section
/-! DEFINITION. Start-up, PERST#, loss of power, the sideband and the test access port (18 R548 to R564, 17 R517, 05 R156). -/

namespace Sys2Proof.Machine

/-! ## Rails (R550, R551) -/

def aonGoodEff (slot : Nat) (s : State) : State :=
  if s.pwr.aonGood then s
  else runOrder { s with side := {}, pwr := { s.pwr with aonGood := true, slotId := slot, order := 2 } }

/-- AON_GOOD (R550 step 1, R559): Lantern leaves power-on reset, reads SLOT_ID and starts the sideband. -/
def execAonGood (slotId : Nat) (s : State) : Host.Outcome State Fault Refusal :=
  checked (decide (slotId < 8)) s (aonGoodEff slotId)

/-- The rails of the step in progress that are not in range yet. -/
def railsDue (p : Pwr) : List Nat := (orderRails p.order).filter fun r => !p.railsOn.contains r

/-- The rail that has been commanded: the first that is due, or either core rail. -/
def railCommanded (p : Pwr) (r : Nat) : Bool := (railsDue p).contains r && (p.order == 5 || (railsDue p).head? == some r)

/-- A core rail in range: the half powers up (R44, R158). -/
def coreRailUp (r : Nat) (s : State) : State :=
  if r = 0 then powerUpHalf false s else if r = 1 then powerUpHalf true s else s

def railRaiseDoneEff (r : Nat) (s : State) : State :=
  if railCommanded s.pwr r && s.pwr.stage != 6 then
    runOrder (coreRailUp r (setPwr (fun p => { p with railsOn := NSet.add p.railsOn r }) s))
  else s

/-- RAIL_RAISE_DONE (R550). -/
def execRailRaiseDone (rail : Nat) (s : State) : Host.Outcome State Fault Refusal :=
  checked (okRail rail) s (railRaiseDoneEff rail)

/-- The flight record's entry of a rail failure: no kind is stated for it (log 7). -/
def railRecord (s : State) : State :=
  let k := draw s
  let a := draw k.2
  let b := draw a.2
  let c := b.2.sec
  let e : FlightEntry := ⟨c.flightSeq, s.fuses.lcState, false, k.1 % 2 ^ 16, mcNow s, a.1 % 2 ^ 32, b.1 % 2 ^ 64⟩
  let l := c.flight ++ [e]
  setSec (fun x => { x with flight := l.drop (l.length - 256), flightSeq := x.flightSeq + 1 }) b.2

/-- R551: every rail that was raised goes off. The mailbox and the sideband go on. -/
def failRail (r : Nat) (s : State) : State :=
  let s1 := railsDown (dropHalfCaches true (dropHalfCaches false s))
  railRecord (setPwr (fun p => { p with
    railsOn := [], railFail := NSet.add p.railFail r, stage := 6, order := 0, alert := true, fetchStop := true }) { s1 with msc := [] })

def railFailureEff (r : Nat) (s : State) : State :=
  if s.pwr.aonGood && (s.pwr.railsOn.contains r || railCommanded s.pwr r) then failRail r s else s

/-- RAIL_FAILURE (R551). -/
def execRailFailure (rail : Nat) (s : State) : Host.Outcome State Fault Refusal :=
  checked (okRail rail) s (railFailureEff rail)

/-! ## PERST# (R552 to R554) -/

/-- What the non-volatile store says of a core: retired, or brought in from the reserve (R367; log 4). -/
def keepCore (s : State) (c : Nat) (x : Core) : Option (Nat × Core) :=
  if x.status = 3 then some (c, { coreInit s c with status := 3 })
  else if isReserve s c && x.status != 0 then some (c, { coreInit s c with status := 1 })
  else none

/-- What it says of an engine: retired, and field repairs (R97, R116). An engine of a core brought in is no reserve one. -/
def keepEngine (s : State) (e : Nat) (x : Engine) : Option (Nat × Engine) :=
  let c := coreOfEngine e
  let used := isReserve s c && (coreOf s c).status != 0
  if x.status = 3 || !x.repairs.isEmpty || used then
    some (e, { engineInit s e with
      repairs := x.repairs, status := if x.status = 3 then 3 else if used then 0 else (engineInit s e).status })
  else none

/-- What it says of a channel (R213, R228). -/
def keepChan (n : Nat) (c : Chan) : Option (Nat × Chan) := if c.recorded then some (n, { recorded := true }) else none

def keepCluster (k : Nat) (c : Cluster) : Option (Nat × Cluster) :=
  if c.reserveUsed then some (k, { reserveUsed := true }) else none

/-- Lantern's store, binding slots and flight record; everything else of its state is lost (R547, R552). -/
def keepSec (c : Sec) : Sec :=
  { recordedBank := c.recordedBank, bank0 := c.bank0, bank1 := c.bank1, bindings := c.bindings, flight := c.flight
    flightSeq := c.flightSeq }

/-- Everything volatile is lost; the queue of commands and the model's own fields stand. -/
def coldState (s : State) : State :=
  { pending := s.pending, out := s.out, freeCtr := s.freeCtr, nextCmd := s.nextCmd
    cores := s.cores.filterMap fun e => keepCore s e.1 e.2
    engines := s.engines.filterMap fun e => keepEngine s e.1 e.2
    chans := s.chans.filterMap fun e => keepChan e.1 e.2
    clusters := s.clusters.filterMap fun e => keepCluster e.1 e.2
    fuses := s.fuses, sec := keepSec s.sec }

/-- Rails that are on stay on, the order stands, and the pins are what they are. A failed order starts again. -/
def perstPwr (p : Pwr) : Pwr :=
  { aonGood := p.aonGood, perst := true, railsOn := p.railsOn, coolOk := p.coolOk, coolTimer := p.coolTimer
    coolStable := p.coolStable, slotId := p.slotId
    order := if p.aonGood && p.stage == 6 && !p.railFail.isEmpty then 2 else p.order }

/-- Step 3's stage while the order runs. -/
def orderStage (p : Pwr) : Pwr := { p with stage := if p.order = 3 then 1 else 0 }

def perstAssertEff (s : State) : State :=
  if s.pwr.perst then s
  else
    let c := coldState s
    setPwr (fun p => orderStage (advanceOrder 6 p)) { c with
      pwr := perstPwr s.pwr, side := s.side, time := { c.time with refclkOk := s.time.refclkOk } }

/-- PERST_ASSERT (R554): asserted for 100 µs. -/
def execPerstAssert (s : State) : Host.Outcome State Fault Refusal := checked true s perstAssertEff

/-- The bank that passes R515: the recorded one, else the other (R517 step 3). `ok0` and `ok1` are the verdicts on the banks'
signatures, keys and digests; the floor is checked here. -/
def chooseBank (ok0 ok1 : Bool) (floor : Nat) (c : Sec) : Sec :=
  let good (b : Nat) : Bool :=
    if b = 0 then ok0 && decide (floor ≤ c.bank0.svn) else ok1 && decide (floor ≤ c.bank1.svn)
  if good c.recordedBank then { c with bootBank := c.recordedBank, fallback := false, imageOk := true }
  else if good (1 - c.recordedBank) then { c with bootBank := 1 - c.recordedBank, fallback := true, imageOk := true }
  else { c with fallback := true, imageOk := false }

/-- Rails that the order has raised and that are off now, after dusk or a halt. -/
def railsMissing (p : Pwr) : Bool := (List.range 7).any fun r => !p.railsOn.contains r

/-- The halves that are on are in their first power-up (R45). -/
def firstPowerUp (s : State) : State :=
  { s with time := { s.time with
    westFirst := s.time.westFirst && !s.pwr.railsOn.contains 0, eastFirst := s.time.eastFirst && !s.pwr.railsOn.contains 1 } }

def perstDeassertEff (ok0 ok1 : Bool) (s : State) : State :=
  if !s.pwr.perst || !s.pwr.aonGood then s
  else
    let s1 := firstPowerUp (setSec (chooseBank ok0 ok1 s.fuses.svnFloor) (setPwr (fun p => { p with perst := false, pcie := s.time.refclkOk }) s))
    if s1.pwr.stage = 6 then s1
    else if s1.pwr.order = 7 then
      if railsMissing s1.pwr then runOrder (setPwr (fun p => { p with order := 2 }) s1) else startMilestones s1
    else s1

/-- PERST_DEASSERT (R517, R554). -/
def execPerstDeassert (bank0Ok bank1Ok : Bool) (s : State) : Host.Outcome State Fault Refusal :=
  checked true s (perstDeassertEff bank0Ok bank1Ok)

/-- Cores of the powered halves, cleared when the MC starts (R158). -/
def clearPowered (s : State) : State :=
  forAll (List.range 544) (fun c t =>
    if (coreOf t c).status = 0 || !halfOn t (eastCore c) then t
    else forAll (enginesOf c) (fun e u => updEngine e (uncalibrated (coreNow t c)) u) (clearCore c t)) s

def mcStartEff (s : State) : State :=
  if s.pwr.stage != 2 || s.pwr.perst || !s.sec.imageOk || s.fuses.lcState == 5 then s
  else
    let b := bootedBank s
    let s1 := clearPowered { s with
      fw := { build := b.build, svn := b.svn, header := b.header, prev := b }
      pwr := { s.pwr with mcRunning := true, mbxReady := true, stage := 4, mbxMs := bootMs s } }
    if s.sec.fallback then raisePf0 evBootFallback s.sec.bootBank 0 false s1 else s1

/-- MC_START (R517 step 4, R554): the clusters' controllers are loaded, mbx_ready sets and training may begin. -/
def execMcStart (s : State) : Host.Outcome State Fault Refusal := checked true s mcStartEff

/-- VDD_AON_LOSS (R552): pins read as their pulls leave them. -/
def execVddAonLoss (s : State) : Host.Outcome State Fault Refusal := checked true s coldState

/-! ## The sideband (R559 to R561) -/

/-- Messages of the sideband: dynamic address taken, MCTP control response, PLDM response, PLDM platform event. -/
def sbAddress : Nat := 0
def sbControl : Nat := 1
def sbPldm : Nat := 2
def sbEvent : Nat := 3

def setSide (g : Side → Side) (s : State) : State := { s with side := g s.side }

/-- The sideband answers whenever VDD_AON is in range. -/
def onSideband (act : State → State) (s : State) : State := if s.pwr.aonGood then act s else s

/-- Take a dynamic address, unless one is held (R559). -/
def takeAddress (addr : Nat) (s : State) : State :=
  if s.side.dynAddr.isSome then s
  else emit (.sideband sbAddress (toLe 1 addr)) (setSide (fun x => { x with dynAddr := some addr }) s)

/-- I3C_SETDASA (R559): to the static address 0x30 + SLOT_ID. -/
def execI3cSetdasa (addr : Nat) (s : State) : Host.Outcome State Fault Refusal :=
  checked (decide (addr < 128)) s (onSideband (takeAddress addr))

/-- I3C_ENTDAA (R559). -/
def execI3cEntdaa (addr : Nat) (s : State) : Host.Outcome State Fault Refusal :=
  checked (decide (addr < 128)) s (onSideband (takeAddress addr))

def sideSend (kind : Nat) (l : List Nat) (s : State) : State := emit (.sideband kind (l.map (BitVec.ofNat 8))) s

/-- MCTP control (R560), with DSP0236's codes: 1 Set Endpoint ID, 2 Get Endpoint ID, 5 Get Message Type Support. Types 0 and
1 are supported; another code is answered as not supported (log 12). -/
def mctpControlEff (code eid : Nat) (s : State) : State :=
  match code with
  | 1 =>
    if eid = 0 || eid = 0xFF then sideSend sbControl [1, 2] s
    else sideSend sbControl [1, 0, 0, eid, 0] (setSide (fun x => { x with eid := eid }) s)
  | 2 => sideSend sbControl [2, 0, s.side.eid, 0, 0] s
  | 5 => sideSend sbControl [5, 0, 2, 0, 1] s
  | _ => sideSend sbControl [code, 5] s

/-- MCTP_CONTROL (R560). -/
def execMctpControl (code eid : Nat) (s : State) : Host.Outcome State Fault Refusal :=
  checked (decide (eid < 256)) s (onSideband (mctpControlEff code eid))

/-- A PLDM response: type, command, completion code, data. -/
def pldmSend (ty code cc : Nat) (l : List Byte) (s : State) : State :=
  emit (.sideband sbPldm ([BitVec.ofNat 8 ty, BitVec.ofNat 8 code, BitVec.ofNat 8 cc] ++ l)) s

/-- Commands of the PLDM types that R560 names, by DSP0240, DSP0248 and DSP0257 (log 12). -/
def pldmCommands (ty : Nat) : List Nat :=
  match ty with
  | 0 => [1, 2, 3, 4, 5]
  | 2 => [0x04, 0x0A, 0x11, 0x21, 0x51]
  | 4 => [1, 2]
  | _ => []

/-- A 32-byte bitmap of a list of numbers. -/
def bitmap32 (l : List Nat) : List Byte := toLe 32 (l.foldl (fun a n => a + 2 ^ n) 0)

/-- PLDM type 0: 1 SetTID, 2 GetTID, 3 GetPLDMVersion (the version is not stated: log 7), 4 GetPLDMTypes, 5 GetPLDMCommands. -/
def pldmDiscoveryEff (code arg : Nat) (s : State) : State :=
  match code with
  | 1 =>
    if arg = 0 || arg = 0xFF then pldmSend 0 1 2 [] s
    else pldmSend 0 1 0 [] (setSide (fun x => { x with tid := arg }) s)
  | 2 => pldmSend 0 2 0 (toLe 1 s.side.tid) s
  | 3 =>
    if (pldmCommands arg).isEmpty then pldmSend 0 3 0x83 [] s
    else
      let d := draw s
      pldmSend 0 3 0 (toLe 4 d.1) d.2
  | 4 => pldmSend 0 4 0 (toLe 8 0x15) s
  | 5 => if (pldmCommands arg).isEmpty then pldmSend 0 5 0x83 [] s else pldmSend 0 5 0 (bitmap32 (pldmCommands arg)) s
  | _ => pldmSend 0 code 5 [] s

/-- PLDM_DISCOVERY (R560). -/
def execPldmDiscovery (code arg : Nat) (s : State) : Host.Outcome State Fault Refusal :=
  checked true s (onSideband (pldmDiscoveryEff code arg))

/-- A reading, or unavailable where the sensor's domain is off: state 0 enabled, 1 unavailable, then the value. -/
def sensorBytes (s : State) (id : Nat) : List Byte :=
  match SMap.look s.side.sensors id with
  | some v => toLe 1 0 ++ toLe 4 (v % 2 ^ 32).toNat
  | none => toLe 1 1 ++ toLe 4 0

def readSensor (code lo hi id : Nat) (s : State) : State :=
  if lo ≤ id && id ≤ hi then pldmSend 2 code 0 (sensorBytes s id) s else pldmSend 2 code 0x80 [] s

/-- PLDM_GET_SENSOR_READING (R561): the numeric sensors 1 to 25. -/
def execPldmGetSensorReading (id : Nat) (s : State) : Host.Outcome State Fault Refusal :=
  checked true s (onSideband (readSensor 0x11 1 25 id))

/-- PLDM_GET_STATE_SENSOR_READINGS (R561): the state sensors 26 to 29. -/
def execPldmGetStateSensorReadings (id : Nat) (s : State) : Host.Outcome State Fault Refusal :=
  checked true s (onSideband (readSensor 0x21 26 29 id))

/-- PLDM_SET_EVENT_RECEIVER (R560). -/
def execPldmSetEventReceiver (eid : Nat) (s : State) : Host.Outcome State Fault Refusal :=
  checked (decide (eid < 256)) s
    (onSideband fun t => pldmSend 2 4 0 [] (setSide (fun x => { x with receiver := some eid }) t))

/-- The ordering code, and the stepping, as R560 spells them. -/
def orderingCode : List Byte := [0x56, 0x58, 0x38, 0x2D, 0x4D, 0x35, 0x31, 0x32]
def stepping : List Byte := [0x42, 0x30]

/-- PLDM_FRU_READ (R560). -/
def execPldmFruRead (s : State) : Host.Outcome State Fault Refusal :=
  checked true s (onSideband fun t =>
    pldmSend 4 2 0 (orderingCode ++ stepping ++ toLe 16 t.fuses.identityTag ++ toLe 8 t.fw.build) t)

/-- Hottest die sensor in 0.1 degrees. -/
def dieMax (s : State) : Int := maxInt ((List.range 32).flatMap (clusterTemps s))
def stackTempOf (s : State) (k : Nat) : Int := SMap.getD s.stackTemp k 250
def natInt (n : Nat) : Int := (n : Int)

/-- The value of a sensor, or none where its domain is off. Rails' voltages and currents come with the refresh, in mV and mA. -/
def sensorValue (readings : SMap Int) (s : State) (id : Nat) : Option Int :=
  if id = 1 then (if s.pwr.mcRunning then some (natInt s.pwr.sustAvg) else none)
  else if id = 2 then (if s.pwr.mcRunning then some (natInt s.pwr.peakAvg) else none)
  else if id = 3 then (if halfOn s false || halfOn s true then some (dieMax s / 10) else none)
  else if id ≤ 11 then (if s.pwr.railsOn.contains 3 then some (stackTempOf s (id - 4) / 10) else none)
  else if id ≤ 18 then (if s.pwr.railsOn.contains (id - 12) then SMap.look readings id else none)
  else if id ≤ 25 then (if s.pwr.railsOn.contains (id - 19) then SMap.look readings id else none)
  else if id = 26 then some (natInt s.pwr.state)
  else if id = 27 then some (natInt (b2n s.pwr.coolOk))
  else if id = 28 then some (natInt s.pwr.stage)
  else some (natInt (s.fuses.lcState + 8 * b2n s.sec.tampered))

/-- Operating range of a rail in mV (R548), at its present set-point for the core rails. -/
def railRange (p : Pwr) (r : Nat) : Int × Int :=
  match r with
  | 0 => (natInt (p.westMv * 97) / 100, natInt (p.westMv * 103) / 100)
  | 1 => (natInt (p.eastMv * 97) / 100, natInt (p.eastMv * 103) / 100)
  | 2 => (873, 927)
  | 3 => (728, 772)
  | 4 => (1019, 1081)
  | 5 => (825, 875)
  | _ => (1710, 1890)

/-- Current limit of a rail in mA (R548). -/
def railLimit (r : Nat) : Int := [900000, 900000, 120000, 150000, 320000, 130000, 60000].getD r 0

/-- The conditions that a sensor's thresholds set, in the order of R561: each holds or not. -/
def thresholds (p : Pwr) (id : Nat) (v : Int) : List Bool :=
  if id = 1 then [decide (natInt (p.sustW * 97) < v * 100), decide (natInt p.sustW < v)]
  else if id = 2 then [decide (natInt p.peakW < v)]
  else if id = 3 then [decide (natInt p.tSoft < v), decide (105 < v), decide (110 < v)]
  else if id ≤ 11 then [decide (95 < v), decide (105 < v), decide (115 < v)]
  else if id ≤ 18 then [decide (v < (railRange p (id - 12)).1 || (railRange p (id - 12)).2 < v)]
  else if id ≤ 25 then [decide (railLimit (id - 19) < v)]
  else if id = 28 then [decide (v = 6)]
  else if id = 29 then [decide (8 ≤ v)]
  else []

/-- One threshold of a sensor: a crossing is told to the event receiver, for a state sensor only on entry. -/
def crossing (id k : Nat) (now : Bool) (v : Int) (s : State) : State :=
  let key := id * 4 + k
  if s.side.crossed.contains key == now then s
  else
    let s1 := setSide (fun x => { x with crossed := if now then NSet.add x.crossed key else NSet.del x.crossed key }) s
    if s.side.receiver.isSome && (now || decide (id ≤ 25)) then
      emit (.sideband sbEvent (toLe 2 id ++ toLe 1 k ++ toLe 1 (b2n now) ++ toLe 4 (v % 2 ^ 32).toNat)) s1
    else s1

def refreshOne (readings : SMap Int) (id : Nat) (s : State) : State :=
  match sensorValue readings s id with
  | none => setSide (fun x => { x with sensors := SMap.del x.sensors id }) s
  | some v =>
    let s1 := setSide (fun x => { x with sensors := SMap.put x.sensors id v }) s
    (thresholds s.pwr id v).zipIdx.foldl (fun t b => crossing id b.2 b.1 v t) s1

/-- During a handover the values hold their last refresh (R564). -/
def sensorRefreshEff (readings : SMap Int) (s : State) : State :=
  if s.fw.handover then s else forAll ((List.range 30).drop 1) (refreshOne readings) s

/-- SENSOR_REFRESH (R561). -/
def execSensorRefresh (readings : SMap Int) (s : State) : Host.Outcome State Fault Refusal :=
  checked true s (onSideband (sensorRefreshEff readings))

/-! ## The test access port (R156, R162, R537, R558) -/

/-- The port answers: VDD_IO is on and the life cycle opens it. Psilum's unlock in RETURN has no row (log 35). -/
def testPortOpen (s : State) : Bool := s.pwr.railsOn.contains 6 && decide (s.fuses.lcState ≤ 1)

/-- An access that is refused: zeros, and SECURE_ACCESS (R156, R162). -/
def refuseAccess (c off : Nat) (write : Bool) (n : Nat) (s : State) : State :=
  let s1 := raisePf0 evSecureAccess c off (confCore s c) (countCore c (fun x => { x with stallMgmt := x.stallMgmt + 1 }) s)
  if write then s1 else emit (.testPort (List.replicate n 0)) s1

def testAccessPortAccessEff (c off : Nat) (write : Bool) (data : List Byte) (s : State) : State :=
  if !testPortOpen s || !(coreOf s c).powered then s
  else if confCore s c || decide (Config.dataRegion < off + data.length) then refuseAccess c off write data.length s
  else if write then scratchWrite c off data s
  else emit (.testPort (Mem.readN (coreOf s c).scratch off data.length)) s

/-- TEST_ACCESS_PORT_ACCESS (R156): as many bytes as `data` has, read or written from offset `off` of the scratchpad. -/
def execTestAccessPortAccess (core off : Nat) (write : Bool) (data : List Byte) (s : State) :
    Host.Outcome State Fault Refusal :=
  checked (okCore core && decide (off + data.length ≤ 2 ^ 21)) s (testAccessPortAccessEff core off write data)

end Sys2Proof.Machine
end

