-- ==== Sys2Proof/Machine/Host.lean ====
section
/-! DEFINITION. The host port beside the mailbox: BAR2 (10 R286 to R290), configuration space (R286, R311), function resets and
removal (12 R378 to R382), and the TDISP interface (17 R536). -/

namespace Sys2Proof.Machine

/-! ## BAR2 (R58, R211, R286, R289) -/

/-- The facet that the window shows: bound, and not confidential. BAR2 passes through the west half (R27). -/
def windowFacet (s : State) : Option Nat :=
  if !s.reg.bar2Valid || s.pwr.state != 0 || s.pwr.dusk || s.pwr.westParked then none
  else match facetOf s s.reg.bar2Facet with
  | some f => if f.confidential || f.state == 4 then none else some s.reg.bar2Facet
  | none => none

/-- A read that is answered with Completer Abort, and reported through AER. -/
def abortRead (s : State) : State := emit (.completion none false) (emit (.aer 0 1) s)
/-- A write that is discarded and counted in the MC's statistics. -/
def discardWrite (s : State) : State := { s with reg := { s.reg with bar2Discards := s.reg.bar2Discards + 1 } }
/-- A read of a poisoned line: poisoned data, reported through AER. -/
def poisonRead (n : Nat) (s : State) : State := emit (.completion (some (List.replicate n 0)) true) (emit (.aer 0 2) s)

def bar2ReadEff (addr len : Nat) (s : State) : State :=
  if !hostUp s then s
  else match windowFacet s with
  | none => abortRead s
  | some n =>
    if rangeWaits (fnVia s (ownerOf s n)) n addr len false s then s
    else
    let r := faRead (fnVia s (ownerOf s n)) n 1 addr len s
    match r.1 with
    | .inl d => emit (.completion (some d) false) r.2
    | .inr (st, _) => if st = stDataPoisoned then poisonRead len r.2 else abortRead r.2

/-- BAR2_READ (R289). An access to a line that a transaction blocks waits at the home until its row comes again (R248). -/
def execBar2Read (addr len : Nat) (s : State) : Host.Outcome State Fault Refusal :=
  checked (decide (addr + len ≤ 2 ^ 39)) s (bar2ReadEff addr len)

def bar2WriteEff (addr : Nat) (data : List Byte) (s : State) : State :=
  if !hostUp s then s
  else match windowFacet s with
  | none => discardWrite s
  | some n =>
    if rangeWaits (fnVia s (ownerOf s n)) n addr data.length true s then s
    else
    let r := faWrite (fnVia s (ownerOf s n)) n 1 addr data s
    match r.1 with
    | none => r.2
    | some _ => discardWrite r.2

/-- BAR2_WRITE (R289). -/
def execBar2Write (addr : Nat) (data : List Byte) (s : State) : Host.Outcome State Fault Refusal :=
  checked (decide (addr + data.length ≤ 2 ^ 39)) s (bar2WriteEff addr data)

/-- New value of an AtomicOp: 0 FetchAdd of a, 1 Swap to a, 2 CAS from a to b. -/
def atomicNew (kind size a b old : Nat) : Nat :=
  match kind with
  | 0 => (old + a) % 2 ^ (8 * size)
  | 1 => a
  | _ => if old = a then b else old

/-- The AtomicOps that BAR2 completes: 32 and 64 bits wide, aligned. -/
def atomicOk (addr kind size : Nat) : Bool := decide (kind ≤ 2) && (size == 4 || size == 8) && addr % size == 0

def atomicRun (n addr kind size a b : Nat) (s : State) : State :=
  let r := faRead (fnVia s (ownerOf s n)) n 1 addr size s
  match r.1 with
  | .inr (st, _) => if st = stDataPoisoned then poisonRead size r.2 else abortRead r.2
  | .inl d =>
    let w := faWrite (fnVia s (ownerOf s n)) n 1 addr (toLe size (atomicNew kind size a b (ofLe d))) r.2
    emit (.completion (some d) false) w.2

def bar2AtomicEff (addr kind size a b : Nat) (s : State) : State :=
  if !hostUp s then s
  else match windowFacet s with
  | none => abortRead s
  | some n =>
    if rangeWaits (fnVia s (ownerOf s n)) n addr size true s then s
    else if atomicOk addr kind size then atomicRun n addr kind size a b s else abortRead s

/-- BAR2_ATOMIC (R286): carried out at the line's home; the old value is the completion. -/
def execBar2Atomic (addr kind size a b : Nat) (s : State) : Host.Outcome State Fault Refusal :=
  checked (decide (addr + size ≤ 2 ^ 39)) s (bar2AtomicEff addr kind size a b)

/-! ## What a reset leaves (R310, R378 to R380, R382) -/

/-- A request of another function that a reset ends has no stated status (log 7). -/
def requestCut (t : Option Ticket) (s : State) : State :=
  match t with
  | none => s
  | some k =>
    let d := draw s
    requestDone k (d.1 % 10) d.2

/-- Slots of a move that is given up stay with their source. -/
def dropMoves (added : NSet) (m : SMap Slot) : SMap Slot :=
  (m.filter fun e => !added.contains e.2.channel).map fun e => (e.1, { e.2 with target := 0, cursor := 0, copying := false })

/-- Slots of a move whose frames go to the target. -/
def endMoves (moves : List (Nat × Nat)) (m : SMap Slot) : SMap Slot :=
  m.map fun e => (e.1, match moves.find? fun x => x.1 == e.2.channel with
    | some x => { channel := x.2 }
    | none => e.2)

/-- A resize before its switch: what it added is released, and the facet keeps its sets. -/
def undoResize (n : Nat) (f : Facet) (r : Resize) (s : State) : State :=
  let s1 := forAll (NSet.diff r.cores f.cores) releaseCore s
  let s2 := forAll (r.moves.map (·.1)) (fun c t => updChan c (fun x => { x with copy := none }) t) s1
  let f1 := { f with
    resize := none, state := if f.state = 3 then 2 else f.state, channels := NSet.diff f.channels r.added
    halfPorts := NSet.diff f.halfPorts r.addedPorts, map := dropMoves r.added f.map }
  requestCut r.ticket (forAll r.added (fun c t => zeroChan c 1 t) (setFacet n f1 s2))

/-- A resize after its switch: it is brought to its end. -/
def hastenResize (n : Nat) (s : State) : State :=
  let s1 := resizeOldPlacementDrainedEff n s
  match (facetOf s1 n).bind (·.resize) with
  | none => s1
  | some r =>
    let src := r.moves.map (·.1)
    let s2 := forAll src (fun c t => zeroChan c 1 (updChan c (fun x => { x with copy := none }) t)) s1
    finishResize n (updFacet n (fun f => { f with
      map := endMoves r.moves f.map, channels := NSet.diff f.channels src, resize := some { r with moves := [] } }) s2)

/-- R382: an FLR abandons a resize. A destruction that waited for it starts. -/
def abandonResize (n : Nat) (s : State) : State :=
  match facetOf s n with
  | none => s
  | some f =>
    match f.resize with
    | none => s
    | some r =>
      if r.switched then hastenResize n s
      else if r.degrade then s
      else
        let s1 := undoResize n f r s
        match f.destroying with
        | some t => destroyFacet n (some t) s1
        | none => s1

/-- Zero-fill a channel that stays bound (R378 step 3). One that retires goes on with its retirement. -/
def zeroBound (n c : Nat) (s : State) : State :=
  let x := chanOf s c
  if x.state = 2 then updChan c (fun y => { y with facet := n }) (zeroChan c 2 s)
  else if x.state = 3 then updChan c (fun y => { y with state := 3, facet := n, after := x.after, copy := x.copy }) (zeroChan c x.after s)
  else s

/-- Clear a core that stays bound. -/
def clearBound (c : Nat) (s : State) : State := updCore c (fun x => { x with cleared := true }) (clearCore c s)

/-- A table without sequences, to be configured again. -/
def emptyTable (v : Serve) : Serve :=
  { v with
    configured := false, ladder := 0, draftLadder := 0, budget := 0, draftLen := 0, kvLow := 0, kvArmed := true, refs := []
    fresh := 0, freed := [], release := [], seqs := [], nextAge := 0, step := none, releases := [], saved := false }

/-- Steps 2 and 3 of R378 for a facet: it stays, owned and empty, and its memory key is drawn anew (R525). -/
def emptyFacet (n : Nat) (s : State) : State :=
  let s1 := dropRekey n (unloadAll n (abandonResize n s))
  match facetOf s1 n with
  | none => s1
  | some f =>
    if f.state = 4 then s1
    else
      let s2 := setFacet n { f with running := none, chosen := none, stepMet := [], stepAcct := {} } s1
      let s3 := { s2 with
        serve := SMap.modify s2.serve n emptyTable
        vxl := { s2.vxl with slots := s2.vxl.slots.filter fun e => e.2.facet != n } }
      let s4 := if f.confidential then drawMemKey f.memSlot s3 else s3
      forAll f.channels (zeroBound n) (forAll f.cores clearBound (dropChunks f.cores s4))

def facetsOf (s : State) (fn : Nat) : List Nat := (s.facets.filter fun e => e.2.fn == fn).map (·.1)

/-- A RUN_SEGMENT, a step or a serving command of a facet runs. -/
def facetRuns (s : State) (n : Nat) : Bool :=
  ((facetOf s n).bind (·.running)).isSome || stepRunning s n ||
    s.cmds.any fun e => e.2.facet == n && e.2.phase == .running && isServing e.2.desc.payload

/-- R379 steps 1 to 3. -/
def forcedQuiesce (fn : Nat) (s : State) : State :=
  let mine := facetsOf s fn
  let n := (s.cmds.filter fun e => e.2.fn == fn && e.2.remote.isNone).length
  let s1 := forAll (mine.filter (facetRuns s)) (fun f t => startEclipse f 3 [] [] t) s
  let s2 := abandonOut (fun o => mine.contains o.facet && o.op != 0x30) s1
  let s3 := dropCmds (fun _ c => c.fn == fn) s2
  raiseFw [0] evFunctionResetDone fn fn n none false (updFn fn (fun r => { r with resetEnded := r.resetEnded + n }) s3)

/-- Requests of the function that the firmware abandons (R310): a creation is undone, an update that has not reached its
handover is dropped, a quiesce in progress is lifted. -/
def undoRequests (fn : Nat) (s : State) : State :=
  let by_ (t : Option Ticket) : Bool := (t.map (·.fn)) == some fn
  let s1 := match s.fw.update with
    | some u => if u.ticket.fn == fn && decide (u.phase ≤ 2) then setUpdate none s else s
    | none => s
  let s2 := { s1 with fns := s1.fns.map fun e =>
    (e.1, if by_ e.2.quiesceReq then { e.2 with quiesced := false, quiesceReq := none } else e.2) }
  let made := (s2.facets.filter fun e => e.2.state == 1 && by_ e.2.creating).map (·.1)
  let resizing := (s2.facets.filter fun e =>
    match e.2.resize with
    | some r => by_ r.ticket && !r.switched
    | none => false).map (·.1)
  forAll made (fun n t => destroyFacet n none (forAll (ctxsOfFacet t n) clearContext (dropJoin n t)))
    (forAll resizing abandonResize s2)

/-- What the translation units hold of a function (R283). Invalidations that wait begin. -/
def dropTranslation (fn : Nat) (s : State) : State :=
  let keep := s.xl.invals.filter fun v => v.fn != fn
  let wait := s.xl.invWait.filter fun v => v.fn != fn
  let room := 32 - keep.length
  let s1 := { s with xl := { s.xl with tracker := s.xl.tracker.filter fun p => p.fn != fn, invals := keep, invWait := wait.drop room } }
  retryTrackWait ((wait.take room).foldl (fun t v => beginInval v t) s1)

/-- The weight key slots that no loaded set uses, the link entries and the sessions of a function go (R546). -/
def dropFnKeys (fn : Nat) (s : State) : State :=
  setSec (fun c => { c with
    sessions := c.sessions.filter fun x => x.fn != fn
    spdm := SMap.del c.spdm fn
    linkKeys := c.linkKeys.filter fun e => e.2.fn != fn
    weightSlots := c.weightSlots.filter fun e => e.2.owner != fn || slotInUse s e.1 }) s

/-- The function as its reset leaves it: its accounting record (R474) and a quiesce in force stay. -/
def freshFn (r : Fn) : Fn :=
  { e8 := r.e8, energy := r.energy, modelled := r.modelled, resetEnded := r.resetEnded, published := r.published
    quiesced := r.quiesced, quiesceReq := r.quiesceReq }

/-- R378. -/
def resetFn (fn : Nat) (s : State) : State :=
  let qs := (s.queues.filter fun e => e.2.fn == fn).map (·.1)
  let cs := (s.ctxs.filter fun e => e.2.fn == fn).map (·.1)
  let s1 := forAll cs clearContext (forAll qs freeQueueNo (dropCmds (fun _ c => c.fn == fn) s))
  let s2 := forAll (facetsOf s1 fn) emptyFacet s1
  let s3 := dropTranslation fn (dropFnKeys fn s2)
  let s4 := { s3 with reg := { s3.reg with cfg := s3.reg.cfg.filter fun e => e.1 / 4096 != fn } }
  setFn fn (freshFn (fnOf s4 fn)) s4

/-- A function is quiesced and has come to rest. -/
def atRest (s : State) (fn : Nat) : Bool := (fnOf s fn).quiesced && !fnBusy s fn

def resetFunction (fn : Nat) (s : State) : State :=
  resetFn fn (undoRequests fn (if atRest s fn then s else forcedQuiesce fn s))

def functionLevelResetEff (fn : Nat) (s : State) : State :=
  if hostUp s && fnExists s fn then resetFunction fn s else s

/-- FUNCTION_LEVEL_RESET (R378, R379). -/
def execFunctionLevelReset (fn : Nat) (s : State) : Host.Outcome State Fault Refusal :=
  checked (okFn fn) s (functionLevelResetEff fn)

/-- A facet of a removed VF is destroyed; a creation of it that was in progress is cut. -/
def removeFacet (n : Nat) (s : State) : State :=
  let s1 := requestCut ((facetOf s n).bind (·.creating)) (updFacet n (fun f => { f with creating := none }) (dropJoin n s))
  destroyFacet n ((facetOf s n).bind (·.destroying)) s1

/-- A removed VF: reset, then its facets are destroyed (R380). -/
def removeFn (fn : Nat) (s : State) : State :=
  let s1 := resetFunction fn s
  forAll ((facetsOf s1 fn).filter fun n => ((facetOf s1 n).map (·.state)).getD 4 != 4) removeFacet s1

def numvfsLowerEff (n : Nat) (s : State) : State :=
  if !hostUp s || s.reg.numVFs ≤ n then s
  else
    let gone := ((List.range (s.reg.numVFs + 1)).drop (n + 1))
    let s1 := forAll gone removeFn s
    { s1 with reg := { s1.reg with numVFs := n } }

/-- NUMVFS_LOWER (R380). -/
def execNumvfsLower (n : Nat) (s : State) : Host.Outcome State Fault Refusal := checked (okFn n) s (numvfsLowerEff n)

/-! ## Configuration space (R286, R311) -/

/-- Retry Status ends when the MC runs, or when no image or no rail lets it. -/
def configReady (s : State) : Bool := s.pwr.mcRunning || !s.sec.imageOk || s.pwr.stage == 6

/-- Offsets that the model chooses for the capabilities' control fields (log 37). -/
def cfgPower : Nat := 0x044
def cfgAts : Nat := 0x200
def cfgPri : Nat := 0x210
def cfgPriAlloc : Nat := 0x214
def cfgNumVFs : Nat := 0x220
def cfgIde : Nat := 0x230

def configRead (s : State) (fn off : Nat) : Nat :=
  let r := fnOf s fn
  if off = cfgPower then 3 * b2n r.d3hot
  else if off = cfgAts then b2n r.ats * 2 ^ 31
  else if off = cfgPri then b2n r.pri + b2n r.priFailed * 2 ^ 16
  else if off = cfgPriAlloc then r.priAlloc
  else if off = cfgNumVFs && fn == 0 then s.reg.numVFs
  else if off = cfgIde then b2n r.ideStream
  else SMap.getD s.reg.cfg (fn * 4096 + off) 0

/-- PF0's power state moves the module (R498, R499); a VF's is only kept. -/
def powerWrite (fn value : Nat) (s : State) : State :=
  let d3 := value % 4 == 3
  if fn = 0 then (if d3 then pf0D3hotEntryEff s else pf0D0EntryEff s) else updFn fn (fun r => { r with d3hot := d3 }) s

/-- NumVFs: a lower value removes functions. -/
def numVFsWrite (value : Nat) (s : State) : State :=
  let n := Nat.min 63 (value % 2 ^ 16)
  if n < s.reg.numVFs then numvfsLowerEff n s else { s with reg := { s.reg with numVFs := n } }

/-- PRI Enable that is cleared and set ends Response Failure (R277); the status clears with the enable. -/
def priWrite (value : Nat) (r : Fn) : Fn :=
  let on := value % 2 == 1
  { r with pri := on, priFailed := r.priFailed && (on && r.pri) }

def configWrite (fn off value : Nat) (s : State) : State :=
  if off = cfgPower then powerWrite fn value s
  else if off = cfgAts then updFn fn (fun r => { r with ats := bit value 31 == 1 }) s
  else if off = cfgPri then updFn fn (priWrite value) s
  else if off = cfgPriAlloc then updFn fn (fun r => { r with priAlloc := value % 2 ^ 32 }) s
  else if off = cfgNumVFs && fn == 0 then numVFsWrite value s
  else if off = cfgIde then updFn fn (fun r => { r with ideStream := value % 2 == 1 }) s
  else { s with reg := { s.reg with cfg := SMap.put s.reg.cfg (fn * 4096 + off) (value % 2 ^ 32) } }

def configSpaceAccessEff (fn : Nat) (write : Bool) (off value : Nat) (s : State) : State :=
  if !hostUp s then s
  else if !configReady s then emit (.configRetry fn) s
  else if !fnExists s fn then (if write then s else emit (.completion none false) s)
  else if write then configWrite fn off value s
  else emit (.completion (some (toLe 4 (configRead s fn off))) false) s

/-- CONFIG_SPACE_ACCESS (R311). -/
def execConfigSpaceAccess (fn : Nat) (write : Bool) (off value : Nat) (s : State) : Host.Outcome State Fault Refusal :=
  checked (okFn fn && decide (off < 4096) && off % 4 == 0 && okWord value) s (configSpaceAccessEff fn write off value)

/-! ## TDISP (R536) -/

/-- TDISP messages of the interface, by their codes (log 12): lock response, start response, error. -/
def tdispSend (fn code : Nat) (s : State) : State := emit (.doe fn dmVendor (toLe 1 code)) s
def tdLocked : Nat := 0x03
def tdStarted : Nat := 0x06
def tdError : Nat := 0x7F

def mayLock (s : State) (fn : Nat) : Bool :=
  fn != 0 && (fnOf s fn).tdi == 0 && (fnOf s fn).ideStream && (fnOf s fn).quiesced &&
    (facetsOf s fn).all (confFacet s)

def tdispLockInterfaceEff (fn : Nat) (s : State) : State :=
  if !hostUp s || !fnExists s fn then s
  else if mayLock s fn then tdispSend fn tdLocked (updFn fn (fun r => { r with tdi := 1 }) s)
  else tdispSend fn tdError s

/-- TDISP_LOCK_INTERFACE (R536). -/
def execTdispLockInterface (fn : Nat) (s : State) : Host.Outcome State Fault Refusal :=
  checked (okFn fn) s (tdispLockInterfaceEff fn)

def tdispStartInterfaceEff (fn : Nat) (s : State) : State :=
  if !hostUp s || !fnExists s fn then s
  else if (fnOf s fn).tdi = 1 then tdispSend fn tdStarted (updFn fn (fun r => { r with tdi := 2 }) s)
  else tdispSend fn tdError s

/-- TDISP_START_INTERFACE (R536). -/
def execTdispStartInterface (fn : Nat) (s : State) : Host.Outcome State Fault Refusal :=
  checked (okFn fn) s (tdispStartInterfaceEff fn)

end Sys2Proof.Machine
end

