-- ==== Sys2Proof/Machine/Regulation.lean ====
section
/-! DEFINITION. Share classes and the guarantee monitor (06 R182 to R196). -/

namespace Sys2Proof.Machine

/-- Functions that hear of a master's miss (R189). -/
def masterTo (s : State) (m : Nat) : List Nat :=
  if 0x600 ≤ m && m < 0x640 then [0, m - 0x600]
  else match masterFacet s m with
  | some n => [0, ownerOf s n]
  | none => [0]

def masterConf (s : State) (m : Nat) : Bool := ((masterFacet s m).map (confFacet s)).getD false

/-- A window that an eclipse, a resize or a change of class has met gives no verdict; a class that held as many entries as it has
reserved misses nothing (R189, R190). -/
def guaranteeMonitorWindowEff (m target held entries : Nat) (s : State) : State :=
  let c := masterClass s m
  if s.reg.spoiled.contains m then { s with reg := { s.reg with spoiled := NSet.del s.reg.spoiled m } }
  else if classReserved s target c ≤ entries || held < 5000 then s
  else
    let s1 := { s with reg := { s.reg with gmiss := SMap.put s.reg.gmiss c (satAdd 32 (SMap.getD s.reg.gmiss c 0) 1) } }
    if s.reg.monitorEn then
      raiseTo (masterTo s m) evGuaranteeMiss ((masterTo s m).getLastD 0) (m + c * 2 ^ 16) target none (masterConf s m) s1
    else s1

/-- GUARANTEE_MONITOR_WINDOW (R189, R190, R196): `held` is the time in local ns for which a request of the master was held, and
`entries` the entries of the target that its class held meanwhile. -/
def execGuaranteeMonitorWindow (master target held entries : Nat) (s : State) : Host.Outcome State Fault Refusal :=
  checked (okMaster master && okTarget target) s (guaranteeMonitorWindowEff master target held entries)

/-- What a commit checks of the eight class registers (R193). -/
def classesOk (m : SMap ClassCfg) : Bool :=
  let l := (List.range 8).map fun i => SMap.getD m i {}
  (l.all fun c => decide (c.queueMax ≤ 100) && decide (c.cacheMax ≤ 100) && decide (c.queueMin ≤ c.queueMax) &&
      decide (c.cacheMin ≤ c.cacheMax)) &&
    decide (l.foldl (fun a c => a + c.queueMin) 0 ≤ 100) && decide (l.foldl (fun a c => a + c.cacheMin) 0 ≤ 100)

def fctShareCtrlCommitEff (value : Nat) (s : State) : State :=
  let r := { s.reg with monitorEn := bit value 0 == 1 }
  { s with reg :=
      if bit value 31 = 0 || s.reg.commitBusy then r
      else if classesOk s.reg.classes then { r with commitError := false, commitBusy := true, inForce := s.reg.classes }
      else { r with commitError := true } }

/-- FCT_SHARE_CTRL_COMMIT (R193). -/
def execFctShareCtrlCommit (value : Nat) (s : State) : Host.Outcome State Fault Refusal :=
  checked (okWord value) s (fctShareCtrlCommitEff value)

/-- The commit is in force at every target. -/
def shareCommitAppliedEff (s : State) : State := { s with reg := { s.reg with commitBusy := false } }

/-- SHARE_COMMIT_APPLIED (R193). -/
def execShareCommitApplied (s : State) : Host.Outcome State Fault Refusal := checked true s shareCommitAppliedEff

end Sys2Proof.Machine
end

