-- ==== Sys2Proof/Machine/Registers.lean ====
section
/-! DEFINITION. BAR0 (10 R291): the event controller's rows (R301 to R307), REGISTER_WRITE under the access codes of R13, and
what a read of each register returns. -/

namespace Sys2Proof.Machine

/-! ## The event controller (R301 to R307) -/

/-- Mode OFF; the reserved value 3 is held as written and treated as OFF (R13, R302). -/
def evcOff (r : Fn) : Bool := r.evcMode != 1 && r.evcMode != 2

/-- Event-kind glints of the holding buffer are dropped when OFF is entered (R310). -/
def enterOff (m : Nat) (r : Fn) : Fn :=
  let n := heldCount r.holding
  { r with evcMode := m, inService := [], holding := [], dropped := 0, lost := r.lost || decide (0 < n), lostCount := satAdd 16 r.lostCount n }

/-- Groups that have a bit set. -/
def busyGroups (r : Fn) : NSet := NSet.ofList (r.pendBits.map (· / 64))

/-- Send a group's vector and put it in service (R305). -/
def serviceGroup (f g : Nat) (s : State) : State :=
  sendVector f (SMap.getD (fnOf s f).vmap g 0) (updFn f (fun r => { r with inService := NSet.add r.inService g }) s)

def enterPending (f : Nat) (s : State) : State :=
  forAll (busyGroups (fnOf s f)) (serviceGroup f) (updFn f (fun r => { r with evcMode := 1 }) s)

/-- The ring starts at 0 with phase 1; what was lost in OFF is told first (R306, R310). -/
def enterQueue (f : Nat) (s : State) : State :=
  let s1 := updFn f (fun r => { r with evcMode := 2, head := 0, tail := 0, phase := true }) s
  let r := fnOf s1 f
  if r.lost && !r.disabled.contains evGlintLost then
    let g := lostGlint f r.lostCount
    ringWrite f g (setFn f (logGlint g r) s1)
  else s1

def evcModeWriteEff (f value : Nat) (s : State) : State :=
  if !hostUp s || !fnExists s f then s
  else
    let r := fnOf s f
    let m := value % 4
    if (r.evcMode == 1 && m == 2) || (r.evcMode == 2 && m == 1) then setFn f { r with modeError := true } s
    else
      let s1 := setFn f { r with ringVector := bits value 14 8 } s
      if m = r.evcMode then s1
      else match m with
      | 1 => enterPending f s1
      | 2 => enterQueue f s1
      | _ => if evcOff r then updFn f (fun x => { x with evcMode := m }) s1 else updFn f (enterOff m) s1

/-- EVC_MODE_WRITE (R302, R305, R306, R310). -/
def execEvcModeWrite (fn value : Nat) (s : State) : Host.Outcome State Fault Refusal :=
  checked (okFn fn && okWord value) s (evcModeWriteEff fn value)

/-- R307. -/
def headValid (r : Fn) (v : Nat) : Bool :=
  let n := 2 ^ r.ringSize
  decide (v < n) && decide ((v + n - r.head) % n ≤ (r.tail + n - r.head) % n)

def evcRingHeadWriteEff (f value : Nat) (s : State) : State :=
  let r := fnOf s f
  let v := value % 65536
  if !hostUp s || !fnExists s f || r.evcMode != 2 then s
  else if !headValid r v then setFn f { r with headError := true } s
  else
    let s1 := setFn f { r with head := v } s
    flushRing f (if v = r.tail then s1 else sendVector f r.ringVector s1)

/-- EVC_RING_HEAD_WRITE (R306, R307). -/
def execEvcRingHeadWrite (fn value : Nat) (s : State) : Host.Outcome State Fault Refusal :=
  checked (okFn fn && okWord value) s (evcRingHeadWriteEff fn value)

def evcPendingAckEff (f word mask : Nat) (s : State) : State :=
  if !hostUp s || !fnExists s f then s
  else
    let s1 := updFn f (fun r => { r with
      pendBits := r.pendBits.filter fun n => !(n / 64 == word && bit mask (n % 64) == 1)
      inService := NSet.del r.inService word }) s
    if (fnOf s1 f).evcMode == 1 && (busyGroups (fnOf s1 f)).contains word then serviceGroup f word s1 else s1

/-- EVC_PENDING_ACK (R305). -/
def execEvcPendingAck (fn word mask : Nat) (s : State) : Host.Outcome State Fault Refusal :=
  checked (okFn fn && decide (word < 128) && decide (mask < 2 ^ 64)) s (evcPendingAckEff fn word mask)

/-- RW1C: a 1 clears the bit. -/
def keepBit (b : Bool) (value i : Nat) : Bool := b && bit value i == 0

def evcStatusWriteEff (f value : Nat) (s : State) : State :=
  if !hostUp s || !fnExists s f then s
  else updFn f (fun r => { r with
    modeError := keepBit r.modeError value 31, lost := keepBit r.lost value 29
    lostCount := if bit value 29 = 1 then 0 else r.lostCount
    restored := keepBit r.restored value 28, headError := keepBit r.headError value 27 }) s

/-- EVC_STATUS_WRITE (R302). -/
def execEvcStatusWrite (fn value : Nat) (s : State) : Host.Outcome State Fault Refusal :=
  checked (okFn fn && okWord value) s (evcStatusWriteEff fn value)

/-! ## REGISTER_WRITE (R13, R14, R291) -/

/-- Replace the low or the high half of a 64-bit register. -/
def setLow (reg v : Nat) : Nat := reg / 2 ^ 32 * 2 ^ 32 + v
def setHigh (reg v : Nat) : Nat := reg % 2 ^ 32 + v * 2 ^ 32

/-- Bits of EVC_ENABLE_k as the set of disabled kinds; kind 0 and the kinds from 0x0100 do not exist. -/
def writeEnable (k v : Nat) (l : NSet) : NSet :=
  NSet.union (l.filter fun n => n / 32 != k) (((List.range 32).filter fun b => bit v b == 0).map (· + 32 * k))

def writeVmap (g v : Nat) (m : SMap Nat) : SMap Nat :=
  (List.range 4).foldl (fun a i => if g + i < 128 then SMap.put a (g + i) (v / 2 ^ (8 * i) % 256) else a) m

/-- Mailbox, event controller and MSI-X table of a function, at a 32-bit offset. -/
def fnRegWrite (off v : Nat) (r : Fn) : Fn :=
  if off = 0x1000 then { r with reqAddr := setLow r.reqAddr (v / 64 * 64) }
  else if off = 0x1004 then { r with reqAddr := setHigh r.reqAddr v }
  else if off = 0x1010 then { r with done := keepBit r.done v 31, overrun := keepBit r.overrun v 29 }
  else if off = 0x2008 then (if evcOff r then { r with ringBase := setLow r.ringBase (v / 4096 * 4096) } else r)
  else if off = 0x200C then (if evcOff r then { r with ringBase := setHigh r.ringBase v } else r)
  else if off = 0x2010 then (if evcOff r then { r with ringSize := clampNat 6 16 (v % 32) } else r)
  else if 0x2020 ≤ off && off < 0x2040 then { r with disabled := writeEnable ((off - 0x2020) / 4) v r.disabled }
  else if 0x2100 ≤ off && off < 0x2180 then { r with vmap := writeVmap (off - 0x2100) v r.vmap }
  else if 0x3000 ≤ off && off < 0x3800 then { r with msix := SMap.put r.msix ((off - 0x3000) / 4) v }
  else r

/-- One write with a row of its own or not, in the part of BAR0 that every function has. -/
def commonWrite (f off v : Nat) (s : State) : State :=
  if off = 0x2000 then evcModeWriteEff f v s
  else if off = 0x2004 then evcStatusWriteEff f v s
  else if off = 0x2014 then evcRingHeadWriteEff f v s
  else if 0x4000 ≤ off && off < 0x4400 then evcPendingAckEff f ((off - 0x4000) / 8) (if off % 8 = 4 then v * 2 ^ 32 else v) s
  else if off = 0x10000 then dbSubmitEff f (bits v 29 16) (v % 65536) s
  else if off = 0x10004 then dbCompHeadEff f (bits v 29 16) (v % 65536) s
  else updFn f (fnRegWrite off v) s

/-- Sharing and recovery registers (R488). -/
def sharingWrite (off v : Nat) (r : Regs) : Regs :=
  if off = 0x102000 then
    { r with switchMargin := bits v 31 16, slotQuantum := clampNat 1 255 (bits v 15 8), privFirst := bit v 0 == 1 }
  else if off = 0x102004 then { r with slowEn := bit v 31 == 1, slowThr := clampNat 256 65535 (v % 65536) }
  else if off = 0x102008 then { r with overEn := bit v 31 == 1, overThr := clampNat 1 1000 (v % 65536) }
  else { r with detectEn := bit v 31 == 1, hangEclipse := bit v 30 == 1 }

def classOfWord (v : Nat) : ClassCfg :=
  { queueMax := bits v 31 24, queueMin := bits v 23 16, cacheMax := bits v 15 8, cacheMin := bits v 7 0 }

def writeFnClass (m v : Nat) (l : SMap Nat) : SMap Nat :=
  (List.range 8).foldl (fun a k => SMap.put a (8 * m + k) (bits v (4 * k + 2) (4 * k))) l

/-- Regulation registers (R192 to R195). -/
def classWrite (off v : Nat) (r : Regs) : Regs :=
  if off < 0x105020 then { r with classes := SMap.put r.classes ((off - 0x105000) / 4) (classOfWord v) }
  else if off = 0x105024 then { r with pmeCap := clampNat 64 2048 (bits v 31 20), lceCap := clampNat 16 255 (bits v 19 12) }
  else if off = 0x105028 then { r with linkClass := v % 8 }
  else if 0x105040 ≤ off && off < 0x105060 then { r with fnClass := writeFnClass ((off - 0x105040) / 4) v r.fnClass }
  else r

def errCtrlWrite (v : Nat) (r : Regs) : Regs :=
  { r with scrubPeriod := clampNat 4 24 (bits v 31 24), autoRetire := bit v 23 == 1, ceDegrade := v % 65536 }

/-- VXL_PORT_CTRL_p (R412): the plain fields, then an edge of enable, then retrain. -/
def portCtrlWrite (p v : Nat) (s : State) : State :=
  let s1 := updPort p (fun x => { x with split := bit v 29 == 1, maxWidth := bits v 28 27, loopback := bits v 26 24 }) s
  let s2 := if bit v 31 = 1 then vxlPortEnableEff p s1 else vxlPortDisableEff p s1
  if bit v 30 = 1 then vxlRetrainEff p s2 else s2

/-- Clear the failed lanes written as 1. -/
def clearLanes (v : Nat) (x : Port) : Port :=
  { x with laneFail := (List.range 16).foldl (fun a k => a + (if bit v k = 1 then 0 else bit x.laneFail k * 2 ^ k)) 0 }

/-- The registers of one port, at their offset in its block. -/
def portWrite (p off v : Nat) (s : State) : State :=
  match off with
  | 0x00 => portCtrlWrite p v s
  | 0x08 => updPort p (clearLanes v) s
  | 0x0C => vxlPrbsCtrlWriteEff p v s
  | _ => s

def setVxl (g : Vxl → Vxl) (s : State) : State := { s with vxl := g s.vxl }

/-- Voxlink registers (R411, R412). -/
def voxWrite (off v : Nat) (s : State) : State :=
  if off = 0x107000 then vxlDeviceIdWriteEff v s
  else if 0x107100 ≤ off && off < 0x107280 then portWrite ((off - 0x107100) / 0x40) ((off - 0x107100) % 0x40) v s
  else if 0x107400 ≤ off && off < 0x107500 then
    setVxl (fun x => { x with groups := SMap.put x.groups ((off - 0x107400) / 4) v }) s
  else if 0x200000 ≤ off && off < 0x240000 then
    setVxl (fun x => { x with routes := SMap.put x.routes ((off - 0x200000) / 4) (v / 2 ^ 22 * 2 ^ 22) }) s
  else if 0x240000 ≤ off && off < 0x280000 then
    setVxl (fun x => { x with epRoutes := SMap.put x.epRoutes ((off - 0x240000) / 4) (v / 2 ^ 22 * 2 ^ 22) }) s
  else s

def setReg (g : Regs → Regs) (s : State) : State := { s with reg := g s.reg }

/-- Masters whose class the two class-select registers give (R182, R195). -/
def selectedMasters : List Nat := ((List.range 12).map (· + 0x500)) ++ (List.range 64).map (· + 0x600)

/-- PF0's device-management region. -/
def deviceWrite (off v : Nat) (s : State) : State :=
  if off = 0x100010 then setReg (fun r => { r with bar2Valid := bit v 31 == 1, bar2Facet := v % 64 }) s
  else if 0x102000 ≤ off && off < 0x102010 then setReg (sharingWrite off v) s
  else if off = 0x103008 then ltcCaptureGoEff v s
  else if off = 0x105020 then fctShareCtrlCommitEff v s
  else if 0x105000 ≤ off && off < 0x105060 then
    let s1 := setReg (classWrite off v) s
    spoilWindows (selectedMasters.filter fun m => masterClass s1 m != masterClass s m) s1
  else if off = 0x106400 then setReg (errCtrlWrite v) s
  else voxWrite off v s

/-- One 32-bit write at an aligned offset. Writes of unassigned and read-only offsets are ignored. -/
def barWrite32 (f off v : Nat) (s : State) : State :=
  if off % 4 != 0 then s
  else if off < 0x100000 then commonWrite f off v s
  else if f = 0 then deviceWrite off v s
  else s

/-- A 64-bit write of a pending word is one acknowledgement; any other is its two halves. -/
def barWrite (f off v : Nat) (wide : Bool) (s : State) : State :=
  if !wide then barWrite32 f off (v % 2 ^ 32) s
  else if off % 8 != 0 then s
  else if 0x4000 ≤ off && off < 0x4400 then evcPendingAckEff f ((off - 0x4000) / 8) v s
  else barWrite32 f (off + 4) (v / 2 ^ 32 % 2 ^ 32) (barWrite32 f off (v % 2 ^ 32) s)

def registerWriteEff (f off v : Nat) (wide : Bool) (s : State) : State :=
  if hostUp s && fnExists s f then barWrite f off v wide s else s

/-- REGISTER_WRITE (R13, R14). A doorbell of the mailbox has its own row, which carries the request header. -/
def execRegisterWrite (fn off value : Nat) (wide : Bool) (s : State) : Host.Outcome State Fault Refusal :=
  checked (okFn fn && decide (off < 2 ^ 26) && decide (value < 2 ^ 64)) s (registerWriteEff fn off value wide)

/-! ## What registers read as

No row reads a register: these functions give the value that each read returns, as the field tables lay it out. -/

/-- A number shifted to its field. -/
def fieldAt (n lo : Nat) : Nat := n * 2 ^ lo
def flagAt (b : Bool) (i : Nat) : Nat := b2n b * 2 ^ i
def bitmapOf (l : List Nat) : Nat := l.foldl (fun a n => a + 2 ^ n) 0

/-- FCT_ID and FCT_STATUS (R292). -/
def readFctId (f : Nat) : Nat := fieldAt 0xB0 24 + fieldAt 3 16 + fieldAt 2 8 + f
def readFctStatus (s : State) (f : Nat) : Nat :=
  flagAt s.pwr.mbxReady 31 + flagAt s.fw.handover 30 + flagAt s.pwr.dusk 29 + flagAt s.pwr.westParked 28 +
    flagAt s.pwr.eastParked 27 + flagAt (fnOf s f).quiesced 26

/-- MBX_STATUS (R293). -/
def readMbxStatus (r : Fn) : Nat := flagAt r.done 31 + flagAt r.outstanding 30 + flagAt r.overrun 29 + flagAt r.noResponse 28

/-- EVC_STATUS (R302). -/
def readEvcStatus (r : Fn) : Nat :=
  flagAt r.modeError 31 + flagAt (ringUsed r == 2 ^ r.ringSize - 1) 30 + flagAt r.lost 29 + flagAt r.restored 28 +
    flagAt r.headError 27 + r.lostCount

/-- EVC_ENABLE_k. -/
def readEnable (k : Nat) (r : Fn) : Nat := bitmapOf ((List.range 32).filter fun b => !r.disabled.contains (32 * k + b))

/-- A word of the pending-bit array, and a record of the glint log. -/
def readPending (r : Fn) (word : Nat) : Nat := bitmapOf ((r.pendBits.filter fun n => n / 64 == word).map (· % 64))
def readLog (r : Fn) (off : Nat) : Nat := ofLe (((SMap.getD r.glog (off / 16) (List.replicate 16 0)).drop (off % 16)).take 4)

/-- Registers that every function has. -/
def readCommon (s : State) (f off : Nat) : Nat :=
  let r := fnOf s f
  if off = 0 then readFctId f
  else if off = 4 then readFctStatus s f
  else if off = 0x1000 then r.reqAddr % 2 ^ 32
  else if off = 0x1004 then r.reqAddr / 2 ^ 32
  else if off = 0x100C then r.respSeq
  else if off = 0x1010 then readMbxStatus r
  else if off = 0x2000 then fieldAt r.ringVector 8 + r.evcMode
  else if off = 0x2004 then readEvcStatus r
  else if off = 0x2008 then r.ringBase % 2 ^ 32
  else if off = 0x200C then r.ringBase / 2 ^ 32
  else if off = 0x2010 then r.ringSize
  else if off = 0x2014 then r.head
  else if off = 0x2018 then r.tail
  else if off = 0x201C then r.logCount % 2 ^ 32
  else if 0x2020 ≤ off && off < 0x2040 then readEnable ((off - 0x2020) / 4) r
  else if 0x2100 ≤ off && off < 0x2180 then
    (List.range 4).foldl (fun a i => a + fieldAt (SMap.getD r.vmap (off - 0x2100 + i) 0) (8 * i)) 0
  else if 0x3000 ≤ off && off < 0x3800 then SMap.getD r.msix ((off - 0x3000) / 4) 0
  else if 0x4000 ≤ off && off < 0x4400 then readPending r ((off - 0x4000) / 8) / 2 ^ (32 * (off / 4 % 2)) % 2 ^ 32
  else if 0x8000 ≤ off && off < 0xA000 then readLog r (off - 0x8000)
  else 0

/-- FCT_BOOT_STAT and FCT_BOOT_TIME (R555). -/
def readBootStat (p : Pwr) : Nat :=
  fieldAt p.stage 28 + fieldAt (bitmapOf p.railFail) 21 + flagAt p.bootDegraded 20 + fieldAt p.channelsOk 11
def readBootTime (p : Pwr) : Nat := fieldAt p.readyMs 16 + p.mbxMs

/-- Power and thermal registers (R508). -/
def readPwrStatus (p : Pwr) : Nat :=
  fieldAt p.state 29 + flagAt p.coolOk 28 + flagAt p.coolHalt 27 + flagAt p.tripHalt 26 + flagAt p.westDim 25 +
    flagAt p.eastDim 24 + fieldAt p.limiting 22 + flagAt p.floor 21 + p.issue
def readPwrRails (p : Pwr) : Nat :=
  fieldAt (if p.railsOn.contains 1 then p.eastMv else 0) 16 + (if p.railsOn.contains 0 then p.westMv else 0)

/-- A temperature in whole degrees, in 8 bits. -/
def degrees (t : Int) : Nat := (t / 10 % 256).toNat

/-- The highest sample, the lowest number first; 0 at number 0 before any sample (R508). -/
def hottest (l : SMap Int) : Nat × Int :=
  match l with
  | [] => (0, 0)
  | x :: r => r.foldl (fun a e => if a.2 < e.2 then e else a) x

def readThmStatus (s : State) : Nat :=
  let d := hottest s.pwr.dieTemp
  let t := hottest s.stackTemp
  fieldAt (degrees d.2) 24 + fieldAt (degrees t.2) 16 + fieldAt (d.1 / 8) 11 + fieldAt t.1 8

/-- LTC_CAPT_INFO and LTC_HALF_RATE (R50, R51). -/
def readCaptInfo (t : Time) : Nat :=
  flagAt t.captDone 31 + flagAt t.captError 30 + flagAt t.trimValid 29 + flagAt t.captBusy 28 + fieldAt t.captSource 16 + t.captEpoch

/-- Facet registers (R353). -/
def readFacetStat (f : Facet) : Nat :=
  fieldAt f.state 29 + flagAt f.degraded 28 + flagAt f.confidential 27 + fieldAt f.mode 26 + flagAt f.member 25 +
    flagAt f.joined 24 + fieldAt f.cls 21 + fieldAt f.fn 15 + fieldAt f.master 10 + f.cores.length
def readFacetRes (f : Facet) : Nat := fieldAt f.channels.length 23 + fieldAt (bitmapOf f.halfPorts) 11 + f.rung
def readFacetMaster (s : State) (n : Nat) (f : Facet) : Nat :=
  if f.member then fieldAt f.masterFacet 16 + f.masterDevice else fieldAt n 16 + s.vxl.id

def readFacet (s : State) (n k : Nat) : Nat :=
  match facetOf s n with
  | none => 0
  | some f =>
    match k with
    | 0 => readFacetStat f
    | 1 => readFacetRes f
    | 2 => f.gen % 2 ^ 32
    | _ => readFacetMaster s n f

/-- A facet has started work that has not ended (R480). -/
def progressBusy (s : State) (n : Nat) : Bool :=
  (s.cmds.any fun e => e.2.facet == n && e.2.ran && (e.2.phase == .ended || countsStarted e.2)) ||
    match (SMap.look s.serve n).bind (·.step) with
    | some p => !p.done
    | none => false

/-- FCT_PROGRESS_n (R480, R488). -/
def readProgress (s : State) (n : Nat) : Nat :=
  match facetOf s n with
  | none => 0
  | some f => flagAt (progressBusy s n) 31 + f.progress % 2 ^ 31

/-- Regulation registers (R192 to R196). -/
def readClass (c : ClassCfg) : Nat := fieldAt c.queueMax 24 + fieldAt c.queueMin 16 + fieldAt c.cacheMax 8 + c.cacheMin
def readShareCtrl (r : Regs) : Nat := flagAt r.commitError 30 + flagAt r.commitBusy 29 + flagAt r.monitorEn 0
def readCaps (r : Regs) : Nat := fieldAt r.pmeCap 20 + fieldAt r.lceCap 12 + fieldAt 16 6 + 4
def readFnClass (r : Regs) (m : Nat) : Nat := (List.range 8).foldl (fun a k => a + fieldAt (SMap.getD r.fnClass (8 * m + k) 0) (4 * k)) 0

/-- Memory registers (R225, R226). -/
def readChan (s : State) (n : Nat) : Nat :=
  let c := chanOf s n
  let off := parked s (eastChan n)
  fieldAt (if off then 0 else c.state) 29 + flagAt c.degraded 28 + fieldAt c.thermal 26 + flagAt c.selfRefresh 25 +
    fieldAt (if c.state = 2 || c.state = 3 then c.facet else 0) 16 + (if confChan s n then 0 else Nat.min c.ceLast 65535)
def readErrCtrl (r : Regs) : Nat := fieldAt r.scrubPeriod 24 + flagAt r.autoRetire 23 + r.ceDegrade
/-- Channels in service for the patrol: not off, retired or testing (R210). -/
def servedChans (s : State) : List Chan :=
  ((List.range 256).map (chanOf s)).filter fun c => c.state != 0 && c.state != 4 && c.state != 5
/-- The channel that is behind: fewer passes, or less of the same pass. -/
def slower (a b : Chan) : Chan := if b.passes < a.passes || (b.passes == a.passes && decide (b.patrol < a.patrol)) then b else a
def readScrubStat (s : State) : Nat :=
  match servedChans s with
  | [] => 0
  | c :: r =>
    let x := r.foldl slower c
    fieldAt (x.passes % 2 ^ 16) 16 + x.patrol * 2 ^ 16 / 2 ^ 25

/-- Voxlink registers (R412). -/
def readPortStat (x : Port) : Nat :=
  fieldAt x.state 29 + fieldAt x.widthLo 27 + fieldAt x.widthHi 25 + flagAt x.peerValid 24 + fieldAt x.peerRole 22 + x.peerId
def readPort (x : Port) (k : Nat) : Nat :=
  match k with
  | 0 => flagAt x.enable 31 + flagAt x.split 29 + fieldAt x.maxWidth 27 + fieldAt x.loopback 24
  | 1 => readPortStat x
  | 2 => x.laneFail
  | 3 => flagAt x.gen 31 + flagAt x.check 30 + fieldAt x.pattern 28
  | 12 => x.echo
  | 13 => x.corr
  | 14 => x.drop
  | k =>
    if 4 ≤ k && k < 12 then fieldAt (prbsErrors x (2 * (k - 4) + 1)) 16 + prbsErrors x (2 * (k - 4)) else 0

/-- Security registers (R544). -/
def readSecStatus (u : Fuses) (c : Sec) : Nat :=
  fieldAt u.lcState 29 + flagAt c.tampered 28 + fieldAt c.bootBank 27 + flagAt c.fallback 26 + fieldAt u.svnFloor 19 +
    fieldAt c.bindings.length 14
def readSecKeys (c : Sec) : Nat :=
  fieldAt c.linkKeys.length 19 + fieldAt (c.memSlots.length + 1) 10 + fieldAt c.weightSlots.length 3

/-- The registers at 0x10_0000 to 0x10_4FFF. -/
def readDeviceLow (s : State) (off : Nat) : Nat :=
  if off = 0x100010 then flagAt s.reg.bar2Valid 31 + s.reg.bar2Facet
  else if off = 0x100100 then readBootStat s.pwr
  else if off = 0x100104 then readBootTime s.pwr
  else if off = 0x101000 then readPwrStatus s.pwr
  else if off = 0x101004 then fieldAt s.pwr.sustAvg 16 + s.pwr.peakAvg
  else if off = 0x101008 then readPwrRails s.pwr
  else if off = 0x101010 then s.pwr.unattr % 2 ^ 32
  else if off = 0x101014 then s.pwr.unattr / 2 ^ 32 % 2 ^ 32
  else if off = 0x101100 then readThmStatus s
  else if off = 0x102000 then fieldAt s.reg.switchMargin 16 + fieldAt s.reg.slotQuantum 8 + flagAt s.reg.privFirst 0
  else if off = 0x102004 then flagAt s.reg.slowEn 31 + s.reg.slowThr
  else if off = 0x102008 then flagAt s.reg.overEn 31 + s.reg.overThr
  else if off = 0x10200C then flagAt s.reg.detectEn 31 + flagAt s.reg.hangEclipse 30
  else if 0x102100 ≤ off && off < 0x102200 then readProgress s ((off - 0x102100) / 4)
  else if off = 0x103000 then mcNow s % 2 ^ 32
  else if off = 0x103004 then s.time.latchNow
  else if off = 0x103010 then s.time.captMc % 2 ^ 32
  else if off = 0x103014 then s.time.latchMc
  else if off = 0x103018 then s.time.captLocal % 2 ^ 32
  else if off = 0x10301C then s.time.latchLocal
  else if off = 0x103020 then readCaptInfo s.time
  else if off = 0x103028 then fieldAt s.time.eastRate 16 + s.time.westRate
  else if 0x104000 ≤ off && off < 0x104400 then readFacet s ((off - 0x104000) / 16) (off % 16 / 4)
  else 0

/-- The registers from 0x10_5000 on. -/
def readDeviceHigh (s : State) (off : Nat) : Nat :=
  if off < 0x105020 then readClass (SMap.getD s.reg.classes ((off - 0x105000) / 4) {})
  else if off = 0x105020 then readShareCtrl s.reg
  else if off = 0x105024 then readCaps s.reg
  else if off = 0x105028 then s.reg.linkClass
  else if 0x105040 ≤ off && off < 0x105060 then readFnClass s.reg ((off - 0x105040) / 4)
  else if 0x105080 ≤ off && off < 0x1050A0 then SMap.getD s.reg.gmiss ((off - 0x105080) / 4) 0
  else if 0x106000 ≤ off && off < 0x106400 then readChan s ((off - 0x106000) / 4)
  else if off = 0x106400 then readErrCtrl s.reg
  else if off = 0x106404 then readScrubStat s
  else if off = 0x107000 then flagAt s.vxl.idValid 31 + s.vxl.id
  else if 0x107100 ≤ off && off < 0x107280 then readPort (portOf s ((off - 0x107100) / 0x40)) ((off - 0x107100) % 0x40 / 4)
  else if 0x107400 ≤ off && off < 0x107500 then SMap.getD s.vxl.groups ((off - 0x107400) / 4) 0
  else if off = 0x109000 then readSecStatus s.fuses s.sec
  else if off = 0x109004 then readSecKeys s.sec
  else if 0x200000 ≤ off && off < 0x240000 then SMap.getD s.vxl.routes ((off - 0x200000) / 4) 0
  else if 0x240000 ≤ off && off < 0x280000 then SMap.getD s.vxl.epRoutes ((off - 0x240000) / 4) 0
  else 0

/-- What a 32-bit read of a function's BAR0 returns. Unassigned offsets read 0. -/
def barRead (s : State) (f off : Nat) : Nat :=
  if off % 4 != 0 then 0
  else if off < 0x100000 then readCommon s f off
  else if f != 0 then 0
  else if off < 0x105000 then readDeviceLow s off
  else readDeviceHigh s off

/-- What a 64-bit read returns: the two halves at once, with the high half of a counter as it stands (R48). -/
def barRead64 (s : State) (f off : Nat) : Nat :=
  if f = 0 && off = 0x103000 then mcNow s
  else if f = 0 && off = 0x103010 then s.time.captMc
  else if f = 0 && off = 0x103018 then s.time.captLocal
  else barRead s f off + barRead s f (off + 4) * 2 ^ 32

/-- What a 32-bit read of a low half latches (R48). -/
def barLatch (f off : Nat) (s : State) : State :=
  if f != 0 then s
  else if off = 0x103000 then { s with time := { s.time with latchNow := mcNow s / 2 ^ 32 } }
  else if off = 0x103010 then { s with time := { s.time with latchMc := s.time.captMc / 2 ^ 32 } }
  else if off = 0x103018 then { s with time := { s.time with latchLocal := s.time.captLocal / 2 ^ 32 } }
  else s

end Sys2Proof.Machine
end

