-- ==== Sys2Proof/Machine/Dispatch.lean ====
section
/-! DEFINITION. What each command does: one arm for each constructor of Instr. -/

namespace Sys2Proof.Machine

def exec (i : Instr) (s : State) : Host.Outcome State Fault Refusal :=
  match i with
  | .mbxDoorbell fn seq buffer => Sys2Proof.Machine.execMbxDoorbell fn seq buffer s
  | .getInfoDevice fn => Sys2Proof.Machine.execGetInfoDevice fn s
  | .getInfoClusters fn => Sys2Proof.Machine.execGetInfoClusters fn s
  | .getInfoFrameMap fn => Sys2Proof.Machine.execGetInfoFrameMap fn s
  | .contextBind fn => Sys2Proof.Machine.execContextBind fn s
  | .contextUnbind fn => Sys2Proof.Machine.execContextUnbind fn s
  | .contextUnbindComplete ctx => Sys2Proof.Machine.execContextUnbindComplete ctx s
  | .queueCreate fn => Sys2Proof.Machine.execQueueCreate fn s
  | .queueDestroy fn => Sys2Proof.Machine.execQueueDestroy fn s
  | .queueDestroyComplete queue => Sys2Proof.Machine.execQueueDestroyComplete queue s
  | .facetCreate fn => Sys2Proof.Machine.execFacetCreate fn s
  | .memberJoinTimeout facet => Sys2Proof.Machine.execMemberJoinTimeout facet s
  | .facetResize fn => Sys2Proof.Machine.execFacetResize fn s
  | .placementSwitch facet => Sys2Proof.Machine.execPlacementSwitch facet s
  | .resizeOldPlacementDrained facet => Sys2Proof.Machine.execResizeOldPlacementDrained facet s
  | .slotMoveDone facet source => Sys2Proof.Machine.execSlotMoveDone facet source s
  | .facetDestroy fn => Sys2Proof.Machine.execFacetDestroy fn s
  | .facetPark fn => Sys2Proof.Machine.execFacetPark fn s
  | .facetUnpark fn => Sys2Proof.Machine.execFacetUnpark fn s
  | .halfUnparkReady half => Sys2Proof.Machine.execHalfUnparkReady half s
  | .segmentLoad fn container => Sys2Proof.Machine.execSegmentLoad fn container s
  | .segmentUnload fn => Sys2Proof.Machine.execSegmentUnload fn s
  | .weightSetLoad fn container tagOk unwrapOk => Sys2Proof.Machine.execWeightSetLoad fn container tagOk unwrapOk s
  | .weightSetLoadDone facet set images => Sys2Proof.Machine.execWeightSetLoadDone facet set images s
  | .weightSetUnload fn => Sys2Proof.Machine.execWeightSetUnload fn s
  | .quiesce fn => Sys2Proof.Machine.execQuiesce fn s
  | .quiesceDone function => Sys2Proof.Machine.execQuiesceDone function s
  | .resume fn => Sys2Proof.Machine.execResume fn s
  | .computeReset fn => Sys2Proof.Machine.execComputeReset fn s
  | .fwUpdate fn image sigsOk => Sys2Proof.Machine.execFwUpdate fn image sigsOk s
  | .fwImageVerified => Sys2Proof.Machine.execFwImageVerified s
  | .fwQuietPoint => Sys2Proof.Machine.execFwQuietPoint s
  | .fwHandoverDone => Sys2Proof.Machine.execFwHandoverDone s
  | .clusterControllerUpdate selfCheck => Sys2Proof.Machine.execClusterControllerUpdate selfCheck s
  | .powerLimitsSet fn => Sys2Proof.Machine.execPowerLimitsSet fn s
  | .powerLimitsRead fn => Sys2Proof.Machine.execPowerLimitsRead fn s
  | .powerLimitsDusk fn => Sys2Proof.Machine.execPowerLimitsDusk fn s
  | .pf0D3hotEntry => Sys2Proof.Machine.execPf0D3hotEntry s
  | .duskEntered => Sys2Proof.Machine.execDuskEntered s
  | .powerLimitsWake fn => Sys2Proof.Machine.execPowerLimitsWake fn s
  | .pf0D0Entry => Sys2Proof.Machine.execPf0D0Entry s
  | .woke ms => Sys2Proof.Machine.execWoke ms s
  | .memtestAcquire fn => Sys2Proof.Machine.execMemtestAcquire fn s
  | .memtestConfigure fn => Sys2Proof.Machine.execMemtestConfigure fn s
  | .memtestStart fn => Sys2Proof.Machine.execMemtestStart fn s
  | .memtestStop fn steps reads => Sys2Proof.Machine.execMemtestStop fn steps reads s
  | .memtestRead fn => Sys2Proof.Machine.execMemtestRead fn s
  | .memtestRelease fn => Sys2Proof.Machine.execMemtestRelease fn s
  | .memtestRetire fn => Sys2Proof.Machine.execMemtestRetire fn s
  | .tgRunEnd ch reads => Sys2Proof.Machine.execTgRunEnd ch reads s
  | .telemetry fn => Sys2Proof.Machine.execTelemetry fn s
  | .accountingRead fn => Sys2Proof.Machine.execAccountingRead fn s
  | .dbSubmit fn queue tail => Sys2Proof.Machine.execDbSubmit fn queue tail s
  | .dbCompHead fn queue head => Sys2Proof.Machine.execDbCompHead fn queue head s
  | .residentSlotAssign queue => Sys2Proof.Machine.execResidentSlotAssign queue s
  | .slotReview next => Sys2Proof.Machine.execSlotReview next s
  | .commandFetch queue bytes => Sys2Proof.Machine.execCommandFetch queue bytes s
  | .fenceReread cmd => Sys2Proof.Machine.execFenceReread cmd s
  | .commandDeadlineExpiry cmd => Sys2Proof.Machine.execCommandDeadlineExpiry cmd s
  | .commandTimeLimit cmd => Sys2Proof.Machine.execCommandTimeLimit cmd s
  | .nop cmd => Sys2Proof.Machine.execNop cmd s
  | .runSegment cmd => Sys2Proof.Machine.execRunSegment cmd s
  | .copy cmd hostData => Sys2Proof.Machine.execCopy cmd hostData s
  | .fill cmd => Sys2Proof.Machine.execFill cmd s
  | .fenceSignal cmd => Sys2Proof.Machine.execFenceSignal cmd s
  | .fenceWait cmd => Sys2Proof.Machine.execFenceWait cmd s
  | .seqConfigure cmd => Sys2Proof.Machine.execSeqConfigure cmd s
  | .seqAdmit cmd image => Sys2Proof.Machine.execSeqAdmit cmd image s
  | .seqCancel cmd => Sys2Proof.Machine.execSeqCancel cmd s
  | .stateExport cmd => Sys2Proof.Machine.execStateExport cmd s
  | .stateImport cmd => Sys2Proof.Machine.execStateImport cmd s
  | .shadowInvalidate cmd => Sys2Proof.Machine.execShadowInvalidate cmd s
  | .commandComplete cmd => Sys2Proof.Machine.execCommandComplete cmd s
  | .placementSchedule facet => Sys2Proof.Machine.execPlacementSchedule facet s
  | .weightSwitchDone facet => Sys2Proof.Machine.execWeightSwitchDone facet s
  | .pass core mask rep pcw input engineStride tokenStride upset => Sys2Proof.Machine.execPass core mask rep pcw input engineStride tokenStride upset s
  | .anDroopReplay engine => Sys2Proof.Machine.execAnDroopReplay engine s
  | .engineDroopStop engine => Sys2Proof.Machine.execEngineDroopStop engine s
  | .engineDroopResume engine => Sys2Proof.Machine.execEngineDroopResume engine s
  | .planeLoad core mask image imageStride => Sys2Proof.Machine.execPlaneLoad core mask image imageStride s
  | .planeLoadDone engine retries faultRow => Sys2Proof.Machine.execPlaneLoadDone engine retries faultRow s
  | .planeSwap core mask => Sys2Proof.Machine.execPlaneSwap core mask s
  | .vload core vd addr count upset => Sys2Proof.Machine.execVload core vd addr count upset s
  | .vstore core va addr count => Sys2Proof.Machine.execVstore core va addr count s
  | .vadd core fmt vd va vb count scalar => Sys2Proof.Machine.execVadd core fmt vd va vb count scalar s
  | .vmul core fmt vd va vb count scalar => Sys2Proof.Machine.execVmul core fmt vd va vb count scalar s
  | .vfma core fmt vd va vb vc count scalar => Sys2Proof.Machine.execVfma core fmt vd va vb vc count scalar s
  | .vmax core fmt vd va vb count scalar => Sys2Proof.Machine.execVmax core fmt vd va vb count scalar s
  | .vsum core fmt vd va count => Sys2Proof.Machine.execVsum core fmt vd va count s
  | .vrmax core fmt vd va count => Sys2Proof.Machine.execVrmax core fmt vd va count s
  | .vsfn core fmt vd va count kind => Sys2Proof.Machine.execVsfn core fmt vd va count kind s
  | .vcvt core fmt vd va vb count target => Sys2Proof.Machine.execVcvt core fmt vd va vb count target s
  | .vacc core vd va vb addr count upset => Sys2Proof.Machine.execVacc core vd va vb addr count upset s
  | .vrope core fmt vd va vb vc count => Sys2Proof.Machine.execVrope core fmt vd va vb vc count s
  | .vqk core vd va vb addr count k4 hd heads upset => Sys2Proof.Machine.execVqk core vd va vb addr count k4 hd heads upset s
  | .vpv core vd va addr count k4 hd heads upset => Sys2Proof.Machine.execVpv core vd va addr count k4 hd heads upset s
  | .vtopk core vd va vc count k lists => Sys2Proof.Machine.execVtopk core vd va vc count k lists s
  | .vsample core vd va addr count upset => Sys2Proof.Machine.execVsample core vd va addr count upset s
  | .dmaIn core hint list base va listLen dst length hostData upset => Sys2Proof.Machine.execDmaIn core hint list base va listLen dst length hostData upset s
  | .dmaOut core hint list base va listLen src length upset => Sys2Proof.Machine.execDmaOut core hint list base va listLen src length upset s
  | .send core dest queue flits src upset => Sys2Proof.Machine.execSend core dest queue flits src upset s
  | .recv core queue flits dst upset => Sys2Proof.Machine.execRecv core queue flits dst upset s
  | .prismSend core prism flits src upset => Sys2Proof.Machine.execPrismSend core prism flits src upset s
  | .barrier core number facetScope participants => Sys2Proof.Machine.execBarrier core number facetScope participants s
  | .waitEvent core event threshold => Sys2Proof.Machine.execWaitEvent core event threshold s
  | .endOp core => Sys2Proof.Machine.execEndOp core s
  | .sealedChunkStart cluster engine plane facet set chunk buffer scrub => Sys2Proof.Machine.execSealedChunkStart cluster engine plane facet set chunk buffer scrub s
  | .sealedChunkDone cluster tagOk image retries faultRow upset => Sys2Proof.Machine.execSealedChunkDone cluster tagOk image retries faultRow upset s
  | .planeScrubVisit engine plane row upset => Sys2Proof.Machine.execPlaneScrubVisit engine plane row upset s
  | .scrubGapTimeout engine => Sys2Proof.Machine.execScrubGapTimeout engine s
  | .scrubRewriteDone engine ok => Sys2Proof.Machine.execScrubRewriteDone engine ok s
  | .calibrationPeriodExpiry engine => Sys2Proof.Machine.execCalibrationPeriodExpiry engine s
  | .calibrationStart engine => Sys2Proof.Machine.execCalibrationStart engine s
  | .calibrationDone engine errors => Sys2Proof.Machine.execCalibrationDone engine errors s
  | .calibrationAbandon engine => Sys2Proof.Machine.execCalibrationAbandon engine s
  | .calibrationOverdue engine => Sys2Proof.Machine.execCalibrationOverdue engine s
  | .startUpCalibration half => Sys2Proof.Machine.execStartUpCalibration half s
  | .calibrationLoadSettled half => Sys2Proof.Machine.execCalibrationLoadSettled half s
  | .startUpCalibrationDone half errors => Sys2Proof.Machine.execStartUpCalibrationDone half errors s
  | .coreClearingDone core => Sys2Proof.Machine.execCoreClearingDone core s
  | .halfRateSample west east => Sys2Proof.Machine.execHalfRateSample west east s
  | .ltcTrim => Sys2Proof.Machine.execLtcTrim s
  | .refclkLoss => Sys2Proof.Machine.execRefclkLoss s
  | .refclkRestore => Sys2Proof.Machine.execRefclkRestore s
  | .ltcCaptureGo value => Sys2Proof.Machine.execLtcCaptureGo value s
  | .ltcCaptureDone => Sys2Proof.Machine.execLtcCaptureDone s
  | .guaranteeMonitorWindow master target held entries => Sys2Proof.Machine.execGuaranteeMonitorWindow master target held entries s
  | .fctShareCtrlCommit value => Sys2Proof.Machine.execFctShareCtrlCommit value s
  | .shareCommitApplied => Sys2Proof.Machine.execShareCommitApplied s
  | .channelRequest master ch line hint write offset data out cmd => Sys2Proof.Machine.execChannelRequest master ch line hint write offset data out cmd s
  | .ceDegradeWindow ch => Sys2Proof.Machine.execCeDegradeWindow ch s
  | .patrolScrubLine ch out => Sys2Proof.Machine.execPatrolScrubLine ch out s
  | .channelRetire ch => Sys2Proof.Machine.execChannelRetire ch s
  | .frameCopyLine ch out => Sys2Proof.Machine.execFrameCopyLine ch out s
  | .frameSwitch ch => Sys2Proof.Machine.execFrameSwitch ch s
  | .frameSourceDrained ch => Sys2Proof.Machine.execFrameSourceDrained ch s
  | .zeroFillDone ch => Sys2Proof.Machine.execZeroFillDone ch s
  | .stackTemperatureSample stack temp => Sys2Proof.Machine.execStackTemperatureSample stack temp s
  | .channelTrainingDone failed => Sys2Proof.Machine.execChannelTrainingDone failed s
  | .readShared cluster line filterUe => Sys2Proof.Machine.execReadShared cluster line filterUe s
  | .readOwn cluster line filterUe => Sys2Proof.Machine.execReadOwn cluster line filterUe s
  | .upgrade cluster line => Sys2Proof.Machine.execUpgrade cluster line s
  | .writeBack cluster line => Sys2Proof.Machine.execWriteBack cluster line s
  | .cleanEvictNotice cluster line => Sys2Proof.Machine.execCleanEvictNotice cluster line s
  | .snoopForward cluster line ue => Sys2Proof.Machine.execSnoopForward cluster line ue s
  | .snoopInvalidation cluster line => Sys2Proof.Machine.execSnoopInvalidation cluster line s
  | .snoopAck cluster line => Sys2Proof.Machine.execSnoopAck cluster line s
  | .completionAck cluster line offset data => Sys2Proof.Machine.execCompletionAck cluster line offset data s
  | .nonAllocatingRead line hint => Sys2Proof.Machine.execNonAllocatingRead line hint s
  | .nonAllocatingWrite line hint offset data => Sys2Proof.Machine.execNonAllocatingWrite line hint offset data s
  | .translationWalk cluster ctx va write cmd => Sys2Proof.Machine.execTranslationWalk cluster ctx va write cmd s
  | .walkComplete ctx vpage => Sys2Proof.Machine.execWalkComplete ctx vpage s
  | .atsTranslationCompletion ctx vpage status hpa size r w => Sys2Proof.Machine.execAtsTranslationCompletion ctx vpage status hpa size r w s
  | .atsInvalidateRequest fn pasid base pages tag => Sys2Proof.Machine.execAtsInvalidateRequest fn pasid base pages tag s
  | .invalidationDrained id => Sys2Proof.Machine.execInvalidationDrained id s
  | .invalidationDrainTimeout id aborted => Sys2Proof.Machine.execInvalidationDrainTimeout id aborted s
  | .prgResponse fn index code => Sys2Proof.Machine.execPrgResponse fn index code s
  | .bar2Read addr len => Sys2Proof.Machine.execBar2Read addr len s
  | .bar2Write addr data => Sys2Proof.Machine.execBar2Write addr data s
  | .bar2Atomic addr kind size a b => Sys2Proof.Machine.execBar2Atomic addr kind size a b s
  | .configSpaceAccess fn write off value => Sys2Proof.Machine.execConfigSpaceAccess fn write off value s
  | .functionLevelReset fn => Sys2Proof.Machine.execFunctionLevelReset fn s
  | .numvfsLower n => Sys2Proof.Machine.execNumvfsLower n s
  | .tdispLockInterface fn => Sys2Proof.Machine.execTdispLockInterface fn s
  | .evcModeWrite fn value => Sys2Proof.Machine.execEvcModeWrite fn value s
  | .evcRingHeadWrite fn value => Sys2Proof.Machine.execEvcRingHeadWrite fn value s
  | .evcPendingAck fn word mask => Sys2Proof.Machine.execEvcPendingAck fn word mask s
  | .evcStatusWrite fn value => Sys2Proof.Machine.execEvcStatusWrite fn value s
  | .registerWrite fn off value wide => Sys2Proof.Machine.execRegisterWrite fn off value wide s
  | .vxlPortEnable port => Sys2Proof.Machine.execVxlPortEnable port s
  | .vxlPortDisable port => Sys2Proof.Machine.execVxlPortDisable port s
  | .vxlRetrain port => Sys2Proof.Machine.execVxlRetrain port s
  | .vxlTrainingDone port ok failedLanes id role valid => Sys2Proof.Machine.execVxlTrainingDone port ok failedLanes id role valid s
  | .vxlLaneLockLoss port lane => Sys2Proof.Machine.execVxlLaneLockLoss port lane s
  | .vxlLaneErrorWindow port lane count => Sys2Proof.Machine.execVxlLaneErrorWindow port lane count s
  | .vxlRetrainDone port ok failedLanes ackLo ackHi => Sys2Proof.Machine.execVxlRetrainDone port ok failedLanes ackLo ackHi s
  | .vxlTrainRetry port => Sys2Proof.Machine.execVxlTrainRetry port s
  | .vxlFlitReceive port f => Sys2Proof.Machine.execVxlFlitReceive port f s
  | .vxlNakReceive port half ack => Sys2Proof.Machine.execVxlNakReceive port half ack s
  | .vxlReplayLimit port half => Sys2Proof.Machine.execVxlReplayLimit port half s
  | .vxlIdleTimer port half => Sys2Proof.Machine.execVxlIdleTimer port half s
  | .vxlCredit port half req rsp msg => Sys2Proof.Machine.execVxlCredit port half req rsp msg s
  | .vxlIdent port half id role valid => Sys2Proof.Machine.execVxlIdent port half id role valid s
  | .vxlDeviceIdWrite value => Sys2Proof.Machine.execVxlDeviceIdWrite value s
  | .vxlPrbsCtrlWrite port value => Sys2Proof.Machine.execVxlPrbsCtrlWrite port value s
  | .vxlRead port src t => Sys2Proof.Machine.execVxlRead port src t s
  | .vxlReadData port src t => Sys2Proof.Machine.execVxlReadData port src t s
  | .vxlWrite port src t => Sys2Proof.Machine.execVxlWrite port src t s
  | .vxlWriteAck port src t => Sys2Proof.Machine.execVxlWriteAck port src t s
  | .vxlCas port src t => Sys2Proof.Machine.execVxlCas port src t s
  | .vxlFetchadd port src t => Sys2Proof.Machine.execVxlFetchadd port src t s
  | .vxlAtomicData port src t => Sys2Proof.Machine.execVxlAtomicData port src t s
  | .vxlDispatch port src t => Sys2Proof.Machine.execVxlDispatch port src t s
  | .vxlDispatchDone port src t => Sys2Proof.Machine.execVxlDispatchDone port src t s
  | .vxlSignal port src t => Sys2Proof.Machine.execVxlSignal port src t s
  | .vxlPrismWrite port src t => Sys2Proof.Machine.execVxlPrismWrite port src t s
  | .vxlCollective port src t => Sys2Proof.Machine.execVxlCollective port src t s
  | .collectiveSlotTimeout port slot => Sys2Proof.Machine.execCollectiveSlotTimeout port slot s
  | .vxlJoin port src t => Sys2Proof.Machine.execVxlJoin port src t s
  | .vxlJoinAck port src t => Sys2Proof.Machine.execVxlJoinAck port src t s
  | .vxlError port src t => Sys2Proof.Machine.execVxlError port src t s
  | .peerTimeoutExpiry tag => Sys2Proof.Machine.execPeerTimeoutExpiry tag s
  | .stepBuild facet rings => Sys2Proof.Machine.execStepBuild facet rings s
  | .stepCopiesDone facet => Sys2Proof.Machine.execStepCopiesDone facet s
  | .stepRunComplete facet => Sys2Proof.Machine.execStepRunComplete facet s
  | .seqDeadlineExpiry facet seqId inter => Sys2Proof.Machine.execSeqDeadlineExpiry facet seqId inter s
  | .exportLastPassDone facet seqId => Sys2Proof.Machine.execExportLastPassDone facet seqId s
  | .exportWordRead facet seqId a => Sys2Proof.Machine.execExportWordRead facet seqId a s
  | .exportWritesAcked facet seqId ok => Sys2Proof.Machine.execExportWritesAcked facet seqId ok s
  | .exportCasAnswer facet seqId a => Sys2Proof.Machine.execExportCasAnswer facet seqId a s
  | .exportPoll facet seqId a => Sys2Proof.Machine.execExportPoll facet seqId a s
  | .exportOfferDeadline facet seqId => Sys2Proof.Machine.execExportOfferDeadline facet seqId s
  | .exportReclaimAnswer facet seqId a => Sys2Proof.Machine.execExportReclaimAnswer facet seqId a s
  | .importSlotReserved cmd => Sys2Proof.Machine.execImportSlotReserved cmd s
  | .importWordRead cmd a record => Sys2Proof.Machine.execImportWordRead cmd a record s
  | .importCasAnswer cmd a => Sys2Proof.Machine.execImportCasAnswer cmd a s
  | .importBlockReadsDone facet seqId ok data => Sys2Proof.Machine.execImportBlockReadsDone facet seqId ok data s
  | .importReleaseAnswer facet seqId a => Sys2Proof.Machine.execImportReleaseAnswer facet seqId a s
  | .accountingPublish confidential => Sys2Proof.Machine.execAccountingPublish confidential s
  | .energyReconcile measured => Sys2Proof.Machine.execEnergyReconcile measured s
  | .slowdownWindow facet => Sys2Proof.Machine.execSlowdownWindow facet s
  | .overloadWindow facet => Sys2Proof.Machine.execOverloadWindow facet s
  | .waitForSnapshot cluster => Sys2Proof.Machine.execWaitForSnapshot cluster s
  | .hangDetect facet cycle => Sys2Proof.Machine.execHangDetect facet cycle s
  | .eclipseFenced facet => Sys2Proof.Machine.execEclipseFenced facet s
  | .eclipsePenumbraEnd facet => Sys2Proof.Machine.execEclipsePenumbraEnd facet s
  | .eclipseCleared facet failed => Sys2Proof.Machine.execEclipseCleared facet failed s
  | .eclipseCalibrated facet errors => Sys2Proof.Machine.execEclipseCalibrated facet errors s
  | .eclipse facet duration => Sys2Proof.Machine.execEclipse facet duration s
  | .coreReplacementDone facet failed => Sys2Proof.Machine.execCoreReplacementDone facet failed s
  | .governorSample peakAvg sustAvg => Sys2Proof.Machine.execGovernorSample peakAvg sustAvg s
  | .governorRailSettled half => Sys2Proof.Machine.execGovernorRailSettled half s
  | .dimDelayExpiry half => Sys2Proof.Machine.execDimDelayExpiry half s
  | .dieSensorSample cluster temps => Sys2Proof.Machine.execDieSensorSample cluster temps s
  | .thermtrip subject temp => Sys2Proof.Machine.execThermtrip subject temp s
  | .coolOkDeassert => Sys2Proof.Machine.execCoolOkDeassert s
  | .coolOkAssert => Sys2Proof.Machine.execCoolOkAssert s
  | .coolOkStable => Sys2Proof.Machine.execCoolOkStable s
  | .coolLoss => Sys2Proof.Machine.execCoolLoss s
  | .haltSaveTimeout => Sys2Proof.Machine.execHaltSaveTimeout s
  | .haltTablesSaved => Sys2Proof.Machine.execHaltTablesSaved s
  | .spdmGetVersion fn => Sys2Proof.Machine.execSpdmGetVersion fn s
  | .spdmGetCapabilities fn => Sys2Proof.Machine.execSpdmGetCapabilities fn s
  | .spdmNegotiateAlgorithms fn supported => Sys2Proof.Machine.execSpdmNegotiateAlgorithms fn supported s
  | .spdmGetDigests fn => Sys2Proof.Machine.execSpdmGetDigests fn s
  | .spdmGetCertificate fn slot offset length => Sys2Proof.Machine.execSpdmGetCertificate fn slot offset length s
  | .spdmChallenge fn slot => Sys2Proof.Machine.execSpdmChallenge fn slot s
  | .spdmGetMeasurements fn index signed => Sys2Proof.Machine.execSpdmGetMeasurements fn index signed s
  | .spdmKeyExchange fn => Sys2Proof.Machine.execSpdmKeyExchange fn s
  | .spdmFinish fn session macOk => Sys2Proof.Machine.execSpdmFinish fn session macOk s
  | .spdmHeartbeat fn session => Sys2Proof.Machine.execSpdmHeartbeat fn session s
  | .spdmKeyUpdate fn session => Sys2Proof.Machine.execSpdmKeyUpdate fn session s
  | .spdmEndSession fn session => Sys2Proof.Machine.execSpdmEndSession fn session s
  | .getPqChain fn => Sys2Proof.Machine.execGetPqChain fn s
  | .pqSign fn session target => Sys2Proof.Machine.execPqSign fn session target s
  | .keySetMemory fn session body => Sys2Proof.Machine.execKeySetMemory fn session body s
  | .keySetLink fn session body => Sys2Proof.Machine.execKeySetLink fn session body s
  | .keySetWeight fn session body => Sys2Proof.Machine.execKeySetWeight fn session body s
  | .keyClear fn session body => Sys2Proof.Machine.execKeyClear fn session body s
  | .bindingSet session body => Sys2Proof.Machine.execBindingSet session body s
  | .getNonce fn => Sys2Proof.Machine.execGetNonce fn s
  | .nonceExpiry => Sys2Proof.Machine.execNonceExpiry s
  | .lcTransition fn session body byOwner byPsilum => Sys2Proof.Machine.execLcTransition fn session body byOwner byPsilum s
  | .keyRotated facet => Sys2Proof.Machine.execKeyRotated facet s
  | .tamper source => Sys2Proof.Machine.execTamper source s
  | .aonGood slotId => Sys2Proof.Machine.execAonGood slotId s
  | .railRaiseDone rail => Sys2Proof.Machine.execRailRaiseDone rail s
  | .railFailure rail => Sys2Proof.Machine.execRailFailure rail s
  | .perstAssert => Sys2Proof.Machine.execPerstAssert s
  | .perstDeassert bank0Ok bank1Ok => Sys2Proof.Machine.execPerstDeassert bank0Ok bank1Ok s
  | .mcStart => Sys2Proof.Machine.execMcStart s
  | .i3cSetdasa addr => Sys2Proof.Machine.execI3cSetdasa addr s
  | .i3cEntdaa addr => Sys2Proof.Machine.execI3cEntdaa addr s
  | .mctpControl code eid => Sys2Proof.Machine.execMctpControl code eid s
  | .pldmDiscovery code arg => Sys2Proof.Machine.execPldmDiscovery code arg s
  | .pldmGetSensorReading id => Sys2Proof.Machine.execPldmGetSensorReading id s
  | .pldmGetStateSensorReadings id => Sys2Proof.Machine.execPldmGetStateSensorReadings id s
  | .pldmSetEventReceiver eid => Sys2Proof.Machine.execPldmSetEventReceiver eid s
  | .pldmFruRead => Sys2Proof.Machine.execPldmFruRead s
  | .sensorRefresh readings => Sys2Proof.Machine.execSensorRefresh readings s
  | .vddAonLoss => Sys2Proof.Machine.execVddAonLoss s
  | .testAccessPortAccess core off write data => Sys2Proof.Machine.execTestAccessPortAccess core off write data s
  | .tdispStartInterface fn => Sys2Proof.Machine.execTdispStartInterface fn s

end Sys2Proof.Machine
end

