-- ==== Sys2Proof/Safety.lean ====
section
/-! DEFINITION. What claims say of a run: which states keep the rules that no command may break, and what a command leaves
alone. -/

namespace Sys2Proof.Machine

/-- The life-cycle state is one of the six that R537 names. -/
abbrev lcLegal (s : State) : Prop := s.fuses.lcState ≤ 5

/-- Nothing burned in the fuses is set back (R513, R516, R537). -/
abbrev fusesHold (a b : Fuses) : Prop :=
  a.lcState ≤ b.lcState ∧ a.svnFloor ≤ b.svnFloor ∧ b.revoked = a.revoked ∧ b.identityTag = a.identityTag

/-- The stacked memory lists its bytes in canonical form. -/
abbrev dramOk (s : State) : Prop := Mem.wf s.dram = true

/-- Every waiting command names only what exists. -/
abbrev queueOk (s : State) : Prop := ∀ c ∈ s.pending, c.wf = true

/-- Two states agree on every byte of the stacked memory as a DRAM access finds it. -/
def sameDram (s t : State) : Prop := ∀ a, Mem.read t.dram a = Mem.read s.dram a

/-- An outcome is a next state. -/
def completes (o : Host.Outcome State Fault Refusal) : Prop := ∃ t, o = .next t

/-- A request row may run: its doorbell is the one in hand, and no common check ends it (R296, R298). -/
abbrev Served (h : Req) (op : Nat) (compute : Bool) (s : State) : Prop :=
  h.fn < 64 ∧ inHand h s = true ∧ gate h op compute s = none

/-- It may also be accepted: fewer than 16 accepted requests of the function are in progress (R298). -/
abbrev MayAccept (h : Req) (op : Nat) (compute : Bool) (s : State) : Prop :=
  Served h op compute s ∧ 16 ≤ h.respLen ∧ (fnOf s h.fn).accepted.length < 16

/-- A function's mailbox holds a request of a row, with this header and body, and no common check ends it (R294, R296, R298). -/
abbrev Asked (fn : Nat) (l : Layout) (compute : Bool) (h : Req) (b : List Byte) (s : State) : Prop :=
  fn < 64 ∧ askedBy s fn l = some (h, b) ∧ gate h l.op compute s = none

/-- It may also be accepted (R298). -/
abbrev AskedJob (fn : Nat) (l : Layout) (compute : Bool) (h : Req) (b : List Byte) (s : State) : Prop :=
  Asked fn l compute h b s ∧ 16 ≤ h.respLen ∧ (fnOf s fn).accepted.length < 16

/-- The state after the response to a request (R296 steps 4 and 5). -/
def answeredWith (h : Req) (r : Reply) (s : State) : State := respond h.fn h.seq h.respAddr r s

/-- The state after the response of an ACCEPTED request, before its work. -/
def taken (h : Req) (op : Nat) (body : List Byte) (s : State) : State :=
  answeredWith h { status := syAccepted, body := body }
    (updFn h.fn (fun f => { f with accepted := f.accepted ++ [ticketOf h op] }) s)

/-- A core stands at operation `i` of its program, which a command row names by its class and operands, and may carry it out
(R133, R141). -/
abbrev AtOp (c id i : Nat) (key : List Nat) (s : State) : Prop :=
  c < 544 ∧ issues s c = some id ∧ opAt (coreOf s c) key = some i

/-- The state once an operation has been carried out: it is counted, complete, and the fetch buffer moves on (R133, R161). -/
def opRan (c id i : Nat) (s : State) : State := opDone c id i (opStarted c i s)

end Sys2Proof.Machine
end

