-- ==== Sys2Proof/Certificates/Slice0/Obligations.lean ====
section
/-! DEFINITION. The statements for the provers: one `def Obligations.<Name> : Prop` per obligation, read from the numbered rules
of the spec. Each names the rules it rests on. -/

open Sys2Proof Sys2Proof.Machine

/-- The row's cut of the block: a step takes the command at the front of the queue and carries it out on the state with the rest
of the queue. With an empty queue a step is one tick (the model's choice, log 1). -/
def Obligations.StepTakesFront : Prop :=
  (∀ (c : Instr) (rest : List Instr) (s : State), s.pending = c :: rest → Machine.step s = exec c { s with pending := rest }) ∧
  (∀ (c : Instr) (s : State), Machine.step { s with pending := c :: s.pending } = exec c s) ∧
  (∀ s : State, s.pending = [] → Machine.step s = .next (tick s))

/-- R18, R40, R286 and the tables of fields: a command that names only what exists completes in every state, and one that names a
unit or a field value that does not exist stops with that fault. -/
def Obligations.WellFormedCompletes : Prop :=
  ∀ (c : Instr) (s : State), (c.wf = true → ∃ t, exec c s = .next t) ∧ (c.wf = false → exec c s = .fault .noSuchUnit)

/-- R516, R537: no step lowers the security version floor or sets the life-cycle state back, the floor stays within its 64 fuses
and the state one of the six; the revocation fuses and the identity tag stay; and a last cluster controller that passes its
self-check brings the floor to the version of an image with the floor flag. -/
def Obligations.FusesNeverSetBack : Prop :=
  (∀ s t : State, Machine.step s = .next t → s.fuses.svnFloor ≤ 64 → lcLegal s →
    fusesHold s.fuses t.fuses ∧ t.fuses.svnFloor ≤ 64 ∧ lcLegal t) ∧
  (∀ (u : FwUpdate) (s : State), s.fw.update = some u → u.phase = 4 → u.cluster = 31 → u.img.floor = true →
    s.fuses.svnFloor ≤ u.img.svn → u.img.svn ≤ 64 →
    ∃ t, exec (.clusterControllerUpdate true) s = .next t ∧ t.fuses = { s.fuses with svnFloor := u.img.svn })

/-- R13, R15, R537, R552 and the reset columns of the field tables: the state after reset. Of the fuses, only that the state is
one of those that R537 names and the floor within 64 is said; their values are the model's choice (log 4). -/
def Obligations.ResetState : Prop :=
  State.reset.pending = [] ∧ lcLegal State.reset ∧ State.reset.fuses.svnFloor ≤ 64 ∧ dramOk State.reset ∧ queueOk State.reset ∧
  State.reset.facets = [] ∧ State.reset.queues = [] ∧ State.reset.ctxs = [] ∧ State.reset.cmds = [] ∧
  (∀ f, f < 64 → (fnOf State.reset f).evcMode = 0 ∧ (fnOf State.reset f).outstanding = false ∧
    (fnOf State.reset f).ringSize = 6 ∧ (fnOf State.reset f).disabled = [] ∧ (fnOf State.reset f).quiesced = false) ∧
  State.reset.reg.commitBusy = false ∧ State.reset.reg.commitError = false ∧ State.reset.reg.monitorEn = true ∧
  State.reset.time.trimValid = false ∧ State.reset.time.captBusy = false ∧ State.reset.pwr.mcRunning = false ∧
  (∀ e, e < 4352 → (engineOf State.reset e).status ≠ 1) ∧ (∀ c, c < 544 → (coreOf State.reset c).powered = false ∧ (coreOf State.reset c).cmd = none) ∧
  (∀ p, p < 6 → (portOf State.reset p).enable = false)

/-- R198, R206: a line of the stacked memory holds what was last written to it; a write of one line leaves every other line as it
was, and the memory keeps its canonical form. -/
def Obligations.LineStores : Prop :=
  ∀ (gl : Nat) (d : List Byte) (s : State), d.length = 64 →
    dramLine (dramWrite gl d s) gl = d ∧ (∀ k, k ≠ gl → dramLine (dramWrite gl d s) k = dramLine s k) ∧
    (dramOk s → dramOk (dramWrite gl d s)) ∧
    (∀ a, a < gl * 64 ∨ gl * 64 + 64 ≤ a → Mem.read (dramWrite gl d s).dram a = Mem.read s.dram a)

/-- R196: FCT_GMISS_n starts at 0, counts the guarantee misses of its class alone, saturates at 0xFFFF_FFFF, and a write of it is
ignored. -/
def Obligations.GuaranteeMissCounters : Prop :=
  (∀ n, n < 8 → barRead State.reset 0 (0x105080 + 4 * n) = 0) ∧
  (∀ (n v : Nat) (s : State), n < 8 → v < 2 ^ 32 → exec (.registerWrite 0 (0x105080 + 4 * n) v false) s = .next s) ∧
  (∀ (m target held entries : Nat) (s : State), okMaster m = true → okTarget target = true → m ∉ s.reg.spoiled → 5000 ≤ held →
    entries < classReserved s target (masterClass s m) →
    ∃ t, exec (.guaranteeMonitorWindow m target held entries) s = .next t ∧ ∀ n, n < 8 → barRead t 0 (0x105080 + 4 * n) = if n = masterClass s m then
      Nat.min 0xFFFFFFFF (barRead s 0 (0x105080 + 4 * n) + 1) else barRead s 0 (0x105080 + 4 * n))

/-- R393: when one flit has been replayed 8 times and is still not acknowledged the port retrains; where none has, nothing
changes. -/
def Obligations.ReplayLimit : Prop :=
  ∀ (p half : Nat) (s : State), p < 6 → half < 2 → (portOf s p).state = 3 →
    ((∃ f ∈ (linkOf (portOf s p) half).buf, 8 ≤ f.replays) →
      exec (.vxlReplayLimit p half) s = .next (setPort p { portOf s p with state := 4 } s)) ∧
    ((∀ f ∈ (linkOf (portOf s p) half).buf, f.replays < 8) → exec (.vxlReplayLimit p half) s = .next s)

/-- R49, R50: a write of LTC_CAPTURE with go = 1 starts a capture of its source; a write with go = 0 or while busy changes
nothing; the capture ends with both values, or with error and zeros for a reserved source or an unpowered counter. R42, R43:
a trim, and the return of the reference clock, change rates only and set trim_valid; the loss of the clock clears trim_valid
and raises LTC_UNTRIMMED to PF0. No counter is stepped. The rate itself is a free value (log 7). R51, R55: a half-rate sample
writes both fields, 0 for a parked half; with no facet whose seam state changes nothing else happens, a facet with resources
in both halves whose minimum is first missed gets SEAM_SLOW, and a rate at or above the minimum arms the event again. -/
def Obligations.LocalTime : Prop :=
  ((∀ (v : Nat) (s : State), v < 2 ^ 32 → bit v 31 = 1 → s.time.captBusy = false →
     exec (.ltcCaptureGo v) s =
       .next { s with time := { s.time with captDone := false, captBusy := true, captSource := v % 64 } }) ∧
   (∀ (v : Nat) (s : State), v < 2 ^ 32 → bit v 31 = 0 ∨ s.time.captBusy = true → exec (.ltcCaptureGo v) s = .next s) ∧
   (∀ s : State, s.time.captBusy = true → s.time.captSource < 42 → ltcPowered s s.time.captSource = true →
     exec .ltcCaptureDone s = .next { s with time := { s.time with
       captBusy := false, captDone := true, captError := false, captMc := ltcOf s 42
       captLocal := ltcOf s s.time.captSource, captEpoch := epochOf s s.time.captSource } }) ∧
   (∀ s : State, s.time.captBusy = true → 42 ≤ s.time.captSource ∨ ltcPowered s s.time.captSource = false →
     exec .ltcCaptureDone s = .next { s with time := { s.time with
       captBusy := false, captDone := true, captError := true, captMc := 0, captLocal := 0, captEpoch := 0 } })) ∧
  ((∀ s : State, s.time.refclkOk = true → s.pwr.mcRunning = true → ∃ t, exec .ltcTrim s = .next t ∧
     t = { s with time := { s.time with rate := t.time.rate, trimValid := true }, freeCtr := t.freeCtr } ∧
     ∀ n, SMap.getD t.time.rate n 0 - SMap.getD s.time.rate n 0 ≤ 1000 ∧
       SMap.getD s.time.rate n 0 - SMap.getD t.time.rate n 0 ≤ 1000) ∧
   (∀ s : State, s.time.refclkOk = true → ∃ u,
     u = { s with time := { s.time with rate := u.time.rate, refclkOk := false, trimValid := false }, freeCtr := u.freeCtr } ∧
     exec .refclkLoss s =
       .next (if s.pwr.mcRunning then raiseTo [0] evLtcUntrimmed 0 0 0 none false u else u)) ∧
   (∀ s : State, s.time.refclkOk = false → s.pwr.mcRunning = true → ∃ t, exec .refclkRestore s = .next t ∧
     t = { s with
       time := { s.time with rate := t.time.rate, refclkOk := true, trimValid := true }
       freeCtr := t.freeCtr
       pwr := { s.pwr with pcie := s.pwr.pcie || !s.pwr.perst } })) ∧
  ((∀ (w e : Nat) (s : State), s.facets = [] → exec (.halfRateSample w e) s = .next { s with time := { s.time with
       westRate := if s.pwr.westParked then 0 else w % 2 ^ 16, eastRate := if s.pwr.eastParked then 0 else e % 2 ^ 16 } }) ∧
   (∀ (w e n : Nat) (f : Facet) (s : State), s.facets = [(n, f)] → s.pwr.westParked = false → s.pwr.eastParked = false →
     inHalf f false = true → inHalf f true = true → f.seamLow = false → Nat.min (w % 2 ^ 16) (e % 2 ^ 16) < f.minRate →
     exec (.halfRateSample w e) s = .next
       (raiseTo [f.fn] evSeamSlow f.fn n (w % 2 ^ 16 + e % 2 ^ 16 * 2 ^ 16) none f.confidential
         { s with
           time := { s.time with westRate := w % 2 ^ 16, eastRate := e % 2 ^ 16 }
           facets := [(n, { f with seamLow := true })] })) ∧
   (∀ (w e n : Nat) (f : Facet) (s : State), s.facets = [(n, f)] → s.pwr.westParked = false → s.pwr.eastParked = false →
     f.seamLow = true → f.minRate ≤ Nat.min (w % 2 ^ 16) (e % 2 ^ 16) → exec (.halfRateSample w e) s = .next { s with
       time := { s.time with westRate := w % 2 ^ 16, eastRate := e % 2 ^ 16 }
       facets := [(n, { f with seamLow := false })] }))

/-- R184, R189, R190: a request held for 5,000 local ns of a window by a class that holds fewer entries of the target than R184
reserves for it is counted, and raises GUARANTEE_MISS where the monitor is enabled; a shorter hold, or a class that holds
what is reserved, changes nothing; a window that an eclipse, a resize or a change of class met gives no verdict and the next
one starts afresh. What the class held in the window comes with the command (log 16). R193: a commit of class registers that
pass its checks puts them in force and is busy until applied; one that fails them sets error and leaves what is in force;
monitor_en is taken from each write. -/
def Obligations.SharingControl : Prop :=
  (∀ (m target held entries : Nat) (s : State), okMaster m = true → okTarget target = true →
     (m ∈ s.reg.spoiled → exec (.guaranteeMonitorWindow m target held entries) s =
       .next { s with reg := { s.reg with spoiled := NSet.del s.reg.spoiled m } }) ∧
     (m ∉ s.reg.spoiled → held < 5000 ∨ classReserved s target (masterClass s m) ≤ entries →
       exec (.guaranteeMonitorWindow m target held entries) s = .next s) ∧
     (m ∉ s.reg.spoiled → 5000 ≤ held → entries < classReserved s target (masterClass s m) → ∀ u : State,
       u = { s with reg := { s.reg with
         gmiss := SMap.put s.reg.gmiss (masterClass s m) (satAdd 32 (SMap.getD s.reg.gmiss (masterClass s m) 0) 1) } } →
       (s.reg.monitorEn = false → exec (.guaranteeMonitorWindow m target held entries) s = .next u) ∧
       (s.reg.monitorEn = true → exec (.guaranteeMonitorWindow m target held entries) s =
         .next (raiseTo (masterTo s m) evGuaranteeMiss ((masterTo s m).getLastD 0) (m + masterClass s m * 2 ^ 16) target none
           (masterConf s m) u)))) ∧
  ((∀ (v : Nat) (s : State), v < 2 ^ 32 → bit v 31 = 1 → s.reg.commitBusy = false → classesOk s.reg.classes = true →
     exec (.fctShareCtrlCommit v) s = .next { s with reg := { s.reg with
       monitorEn := bit v 0 == 1, commitError := false, commitBusy := true, inForce := s.reg.classes } }) ∧
   (∀ (v : Nat) (s : State), v < 2 ^ 32 → bit v 31 = 1 → s.reg.commitBusy = false → classesOk s.reg.classes = false →
     exec (.fctShareCtrlCommit v) s =
       .next { s with reg := { s.reg with monitorEn := bit v 0 == 1, commitError := true } }) ∧
   (∀ (v : Nat) (s : State), v < 2 ^ 32 → bit v 31 = 0 ∨ s.reg.commitBusy = true →
     exec (.fctShareCtrlCommit v) s = .next { s with reg := { s.reg with monitorEn := bit v 0 == 1 } }) ∧
   (∀ s : State, exec .shareCommitApplied s = .next { s with reg := { s.reg with commitBusy := false } }))

/-- R184, R201, R204, R211: what the three hints do at a base die that serves the channel, for a class that its port admits: a
read that hits, a read that misses, a write of a whole line that misses, and a hit on a poisoned line. Where R185 leaves a
full set no line to replace, mscPut does not allocate (the model's choice, log 16). -/
def Obligations.CacheHints : Prop :=
  ∀ (m ch line cmd : Nat) (s : State), okRequester m = true → ch < 256 → line < 2 ^ 25 → parked s (eastChan ch) = false →
    admitted s ch (requesterClass s m) = true →
    (chanOf s ch).state = 1 ∨ (chanOf s ch).state = 2 ∨ (chanOf s ch).state = 3 →
    (∀ (l : MscLine) (out : LineOutcome) (u : State), mscFind s (ch * 2 ^ 25 + line) = some l → ifFails out = false →
      u = countParity ch out s →
      (l.poisoned = false →
        exec (.channelRequest m ch line 0 false 0 [] out cmd) s = .next (mscPut true l u) ∧
        exec (.channelRequest m ch line 1 false 0 [] out cmd) s = .next u ∧
        exec (.channelRequest m ch line 2 false 0 [] out cmd) s = .next (mscDrop (ch * 2 ^ 25 + line) u)) ∧
      (l.poisoned = true → exec (.channelRequest m ch line 1 false 0 [] out cmd) s =
        .next (meetStatus cmd stDataPoisoned (faOfLine s (ch * 2 ^ 25 + line)) u))) ∧
    (mscFind s (ch * 2 ^ 25 + line) = none → (metaOf s (ch * 2 ^ 25 + line)).poisoned = false →
      (∀ l : MscLine, l = ⟨ch * 2 ^ 25 + line, dramLine s (ch * 2 ^ 25 + line), false, false,
          (metaOf s (ch * 2 ^ 25 + line)).keySlot, requesterClass s m⟩ →
        exec (.channelRequest m ch line 0 false 0 [] .clean cmd) s = .next (mscPut true l s) ∧
        exec (.channelRequest m ch line 1 false 0 [] .clean cmd) s = .next (mscPut false l s)) ∧
      exec (.channelRequest m ch line 2 false 0 [] .clean cmd) s = .next s) ∧
    (∀ data : List Byte, data.length = 64 → ∀ l : MscLine,
      l = ⟨ch * 2 ^ 25 + line, data, true, false, keySlotOf s ch, requesterClass s m⟩ →
      mscFind s (ch * 2 ^ 25 + line) = none →
      exec (.channelRequest m ch line 0 true 0 data .clean cmd) s = .next (mscPut true l s) ∧
      exec (.channelRequest m ch line 1 true 0 data .clean cmd) s = .next (mscPut false l s) ∧
      exec (.channelRequest m ch line 2 true 0 data .clean cmd) s = .next (mscPut false l s))

/-- R209, R212: patrol over a clean line, and the error counter of a channel in service: a second at or below ce_degrade starts
the count of seconds again, the tenth in a row above it marks the channel degraded and raises MEM_DEGRADED. R213: the
firmware retires a degraded FREE channel at once: RETIRED, recorded, MEM_RETIRED to PF0. R215, R263: a frame copy moves the
coherent value of the next line to the target, a line that fails arrives poisoned; the frame switches when its 1,024 lines
are copied; the source is released when drained, and the next frame begins. R223: a zero-fill ends in the state that it leads
to; the end of one that does not run changes nothing. -/
def Obligations.ChannelUpkeep : Prop :=
  ((∀ (ch : Nat) (s : State), ch < 256 → (chanOf s ch).state = 1 ∨ (chanOf s ch).state = 2 → (chanOf s ch).selfRefresh = false →
     (chanOf s ch).patrol + 1 < 2 ^ 25 → exec (.patrolScrubLine ch .clean) s = .next
       (updChan ch (fun c => { c with patrol := c.patrol + 1 })
         (setMeta (ch * 2 ^ 25 + (chanOf s ch).patrol) { metaOf s (ch * 2 ^ 25 + (chanOf s ch).patrol) with
           scrubPass := (chanOf s ch).passes % 2 == 1 } s))) ∧
   (∀ (ch : Nat) (s : State), ch < 256 → (chanOf s ch).ceCount ≤ s.reg.ceDegrade →
     exec (.ceDegradeWindow ch) s = .next (setChan ch
       { chanOf s ch with ceLast := (chanOf s ch).ceCount, ceCount := 0, ceRun := 0 } s)) ∧
   (∀ (ch : Nat) (s : State), ch < 256 → s.reg.ceDegrade ≠ 0 → s.reg.ceDegrade < (chanOf s ch).ceCount →
     (chanOf s ch).ceRun = 9 → (chanOf s ch).state = 1 → (chanOf s ch).degraded = false →
     exec (.ceDegradeWindow ch) s = .next (raiseTo [0, 0] evMemDegraded 0 ch 1 none false (setChan ch
       { chanOf s ch with ceLast := (chanOf s ch).ceCount, ceCount := 0, ceRun := 10, degraded := true } s)))) ∧
  (∀ (ch : Nat) (s : State), ch < 256 → (chanOf s ch).state = 1 → (chanOf s ch).degraded = true → s.reg.autoRetire = true →
     updateBusy s = false → s.pwr.park = none →
     exec (.channelRetire ch) s = .next (raiseFw [0] evMemRetired 0 ch 0 none false
       (setChan ch { chanOf s ch with
         state := 4, facet := 0, recorded := true, copy := none, ticket := none, blocked := false, retireWait := false } s))) ∧
  ((∀ (ch : Nat) (c : FrameCopy) (d : List Byte) (out : LineOutcome) (s : State), ch < 256 → (chanOf s ch).copy = some c →
     c.draining = false → c.line < 1024 → c.frame < 32768 →
     SMap.has s.coh.blocked (ch * 2 ^ 25 + c.frame * 1024 + c.line) = false →
     ∀ r, r = baseRead none (ch * 2 ^ 25 + c.frame * 1024 + c.line) 1 out
       (invalidateAll (ch * 2 ^ 25 + c.frame * 1024 + c.line) s) →
     (r.1 = .data d →
       exec (.frameCopyLine ch out) s = .next (updChan ch (fun x => { x with copy := some { c with line := c.line + 1 } })
         (baseWrite none (c.target * 2 ^ 25 + c.frame * 1024 + c.line) 1 0 d (keySlotOf r.2 c.target) .clean r.2))) ∧
     (∀ st, r.1 = .fail st →
       exec (.frameCopyLine ch out) s = .next (updChan ch (fun x => { x with copy := some { c with line := c.line + 1 } })
         (mscPut false ⟨c.target * 2 ^ 25 + c.frame * 1024 + c.line, zeroLine, true, true, keySlotOf r.2 c.target, none⟩ r.2)))) ∧
   (∀ (ch : Nat) (c : FrameCopy) (s : State), ch < 256 → (chanOf s ch).copy = some c → c.draining = false → c.line = 1024 →
     exec (.frameSwitch ch) s = .next
       (updFacet (chanOf s ch).facet (fun f => { f with map := f.map.map fun e =>
         (e.1, if e.2.channel = ch ∧ e.2.copying = true then { e.2 with cursor := e.2.cursor + 1 } else e.2) })
         (updChan ch (fun x => { x with copy := some { c with draining := true } }) s))) ∧
   (∀ (ch : Nat) (c : FrameCopy) (s : State), ch < 256 → (chanOf s ch).copy = some c → c.draining = true → c.frame + 1 < 32768 →
     exec (.frameSourceDrained ch) s = .next (setChan ch { chanOf s ch with
       copy := some { c with frame := c.frame + 1, line := 0, draining := false } } s))) ∧
  ((∀ (ch : Nat) (s : State), ch < 256 → (chanOf s ch).state = 6 → (chanOf s ch).ticket = none → s.facets = [] →
     s.pwr.stage = 5 → (∀ c, c < 256 → (chanOf s c).blocked = false ∧ (chanOf s c).retireWait = false) →
     exec (.zeroFillDone ch) s = .next (setChan ch { chanOf s ch with state := (chanOf s ch).after, ticket := none } s)) ∧
   (∀ (ch : Nat) (s : State), ch < 256 → (chanOf s ch).state ≠ 6 → exec (.zeroFillDone ch) s = .next s))

/-- R230 to R232: the MEMTEST subops on a channel of a live half: ACQUIRE of a FREE or RETIRED channel, CONFIGURE, START, STOP
and READ, each answered OK with the generator block; BUSY where the channel's state does not allow the subop, MALFORMED for a
bad configuration and for a channel above 255. STOP ends the run after the accesses that come with the command (log 18);
bytes beyond a body's layout are reserved (log 13). R213, R230, R231: RELEASE and RETIRE are accepted, then carried out: a
released channel is zero-filled and goes to the state that R230 gives it; a retirement of a BOUND or FREE channel begins, or
waits its turn. R230, R232, R234: a run of a set number of loops ends with its last access or at the failure that stops it;
done is set, running clears, and the run is entered into the channel's coverage. An endless run that no failure stops goes
on. Where no run is on, nothing happens. What each read met comes with the command (log 18). -/
def Obligations.ChannelTests : Prop :=
  (∀ (fn : Nat) (h : Req) (b : List Byte) (ch : Nat) (s : State), ch = memtestChan b → ch < 256 → 80 ≤ h.respLen →
     parked s (eastChan ch) = false →
     (Asked fn (layMemtest 0) true h b s →
       ((chanOf s ch).state = 1 ∨ (chanOf s ch).state = 4 → exec (.memtestAcquire fn) s = .next
         (answeredWith h { status := syOk, body := tgBlock (chanOf s ch).tg }
           (updChan ch (fun c => { c with prev := c.state, state := 5, cover := [] }) s))) ∧
       ((chanOf s ch).state ≠ 1 → (chanOf s ch).state ≠ 4 →
         exec (.memtestAcquire fn) s = .next (answeredWith h { status := syBusy } s))) ∧
     (Asked fn (layMemtest 1) true h b s →
       ((chanOf s ch).state = 5 → tgCfgOk (tgCfgOf b) = true → exec (.memtestConfigure fn) s = .next
         (answeredWith h { status := syOk, body := tgBlock { (chanOf s ch).tg with cfg := tgCfgOf b } }
           (updChan ch (fun c => { c with tg := { c.tg with cfg := tgCfgOf b } }) s))) ∧
       (tgCfgOk (tgCfgOf b) = false →
         exec (.memtestConfigure fn) s = .next (answeredWith h { status := syMalformed } s))) ∧
     (Asked fn (layMemtest 2) true h b s → (chanOf s ch).state = 5 →
       ((chanOf s ch).tg.running = false → exec (.memtestStart fn) s = .next
         (answeredWith h { status := syOk, body := tgBlock { cfg := (chanOf s ch).tg.cfg, running := true } }
           (updChan ch (fun c => { c with tg := { cfg := c.tg.cfg, running := true } }) s))) ∧
       ((chanOf s ch).tg.running = true → exec (.memtestStart fn) s = .next (answeredWith h { status := syBusy } s))) ∧
     (∀ (steps : Nat) (reads : List TgRead) (t : State), Asked fn (layMemtest 3) true h b s → (chanOf s ch).state = 5 →
       t = (if (chanOf s ch).tg.running then (tgRun ch reads steps 0 s).2 else s) →
       exec (.memtestStop fn steps reads) s = .next (answeredWith h { status := syOk, body := tgBlock (chanOf t ch).tg } t)) ∧
     (Asked fn (layMemtest 4) true h b s → exec (.memtestRead fn) s = .next
       (answeredWith h { status := syOk, body := tgBlock (chanOf s ch).tg } s))) ∧
  (∀ (fn : Nat) (h : Req) (b : List Byte) (ch : Nat) (s u : State), ch = memtestChan b → ch < 256 → 80 ≤ h.respLen →
     parked s (eastChan ch) = false → u = taken h opMemtest (tgBlock (chanOf s ch).tg) s →
     (∀ back : Bool, AskedJob fn (layMemtest 5) true h b s → (chanOf s ch).state = 5 →
       back = mayReturn (chanOf s ch) (bit (field b 1 1) 0 == 1) →
       exec (.memtestRelease fn) s = .next
         (updChan ch (fun x => { x with tg := { x.tg with running := false }, recorded := x.recorded && !back,
                                        degraded := x.degraded && !back, ticket := some (ticketOf h opMemtest) })
           (zeroChan ch (if back then 1 else 4) u))) ∧
     (AskedJob fn (layMemtest 6) true h b s → mayRetire s ch = true →
       exec (.memtestRetire fn) s = .next (retireOrWait ch (some (ticketOf h opMemtest)) u))) ∧
  ((∀ (ch : Nat) (reads : List TgRead) (g : TgCfg) (s : State), ch < 256 → (chanOf s ch).state = 5 →
     (chanOf s ch).tg.running = true → (chanOf s ch).tg.cfg = g → g.loops ≠ 0 → ∃ t,
     exec (.tgRunEnd ch reads) s = .next t ∧ t = tgCover ch (tgRun ch reads (g.loops * tgPer g) 0 s).2 ∧
       (chanOf t ch).tg.done = true ∧ (chanOf t ch).tg.running = false ∧ (chanOf t ch).tg.cfg = g) ∧
   (∀ (ch : Nat) (reads : List TgRead) (g : TgCfg) (r : Bool × State) (s : State), ch < 256 → (chanOf s ch).state = 5 →
     (chanOf s ch).tg.running = true → (chanOf s ch).tg.cfg = g → g.loops = 0 →
     r = tgRun ch reads (((reads.map (·.step)).foldl Nat.max 0 / tgPer g + 1) * tgPer g) 0 s →
     exec (.tgRunEnd ch reads) s = .next (if r.1 then tgCover ch r.2 else s)) ∧
   (∀ (ch : Nat) (reads : List TgRead) (s : State), ch < 256 → (chanOf s ch).tg.running = false →
     exec (.tgRunEnd ch reads) s = .next s))

/-- R222: the rows of the stack temperature table with their 3-degree hysteresis; a row entered from below raises its event to
PF0. R228: training ends once; channels that the store records stay out of service, those that fail are RETIRED and recorded. -/
def Obligations.StacksAndTraining : Prop :=
  (∀ (k : Nat) (temp : Int) (s : State), k < 8 → ∃ u, exec (.stackTemperatureSample k temp) s = .next
       (if (chanOf s (k * 32)).thermal < stackRow (chanOf s (k * 32)).thermal temp then
         (if stackRow (chanOf s (k * 32)).thermal temp = 1 then raisePf0 evMemHot k temp.toNat false u
          else raisePf0 evMemThrottle k (stackRow (chanOf s (k * 32)).thermal temp) false u)
        else u) ∧
     u = { s with stackTemp := SMap.put s.stackTemp k temp, chans := u.chans } ∧
     (∀ c, c / 32 = k → chanOf u c = { chanOf s c with thermal := stackRow (chanOf s (k * 32)).thermal temp }) ∧
     (∀ c, c / 32 ≠ k → chanOf u c = chanOf s c)) ∧
  (∀ (failed : List Nat) (s : State), s.pwr.stage = 4 → s.pwr.trained = false → s.chans = [] → s.coh = {} →
     (∀ c, c < 256 → c ∈ failed) →
     ∃ t, exec (.channelTrainingDone failed) s = .next t ∧ t.pwr.trained = true ∧ t.pwr.bootDegraded = true ∧
       ∀ c, c < 256 → chanOf t c = { chanOf s c with state := 4, recorded := true })

/-- R242, R244: a caching request to a home. It waits behind a blocked line; an owner is forwarded to; other sharers of a line to
be owned are invalidated; a line that nobody holds elsewhere is granted with the data of the memory side. A home takes
requests of a channel in service over a live half, for a class that its port admits (R58, R184; log 16). R242 to R245:
forwards, invalidations, acknowledgements, and the completion that unblocks the line. -/
def Obligations.CoherentRequests : Prop :=
  (∀ (k gl : Nat) (s u : State), k < 32 → gl < 2 ^ 33 → homeServes s gl = true → mayAllocate s k (chOfLine gl) = true →
     (∀ w ∈ s.coh.waiting, w.1 ≠ gl) →
     u = countCoh k (fun c => { c with misses := c.misses + 1 }) s →
     (SMap.has s.coh.blocked gl = true → cacheFind s k gl = none →
       exec (.readShared k gl false) s = .next (countCoh (homeOf (chOfLine gl)) (fun c => { c with blocked := c.blocked + 1 })
         { u with coh := { u.coh with waiting := u.coh.waiting ++ [(gl, .readShared k)] } }) ∧
       exec (.readOwn k gl false) s = .next (countCoh (homeOf (chOfLine gl)) (fun c => { c with blocked := c.blocked + 1 })
         { u with coh := { u.coh with waiting := u.coh.waiting ++ [(gl, .readOwn k)] } })) ∧
     (∀ l : CLine, SMap.has s.coh.blocked gl = true → cacheFind s k gl = some l → l.m = false →
       exec (.upgrade k gl) s = .next (countCoh (homeOf (chOfLine gl)) (fun c => { c with blocked := c.blocked + 1 })
         { u with coh := { u.coh with waiting := u.coh.waiting ++ [(gl, .upgrade k)] } })) ∧
     (SMap.has s.coh.blocked gl = false →
       (∀ j : Nat, cacheFind s k gl = none → ownerOfLine u gl = some j → j ≠ k →
         exec (.readShared k gl false) s =
           .next (countForward gl (setTxn gl ⟨.readShared k, [j], some j, none, false, noFillLine u gl⟩ u)) ∧
         exec (.readOwn k gl false) s =
           .next (countForward gl (setTxn gl ⟨.readOwn k, [j], some j, none, false, noFillLine u gl⟩ u))) ∧
       (∀ j : Nat, cacheFind s k gl = none → ownerOfLine u gl = none → sharers u gl = [j] → j ≠ k →
         exec (.readOwn k gl false) s =
           .next (countInvalidations gl 1 (setTxn gl ⟨.readOwn k, [j], none, none, false, noFillLine u gl⟩ u))) ∧
       (∀ l : CLine, cacheFind s k gl = some l → l.m = false → sharers u gl = [k] → exec (.upgrade k gl) s =
           .next (setTxn gl ⟨.upgrade k, [], none, none, true, noFillLine u gl⟩ u)) ∧
       (∀ (e : FEntry) (d : List Byte), cacheFind s k gl = none → ownerOfLine u gl = none → filterFind u gl = some e →
         (baseRead (lineClass u gl) gl 0 .clean u).1 = .data d →
         exec (.readShared k gl false) s = .next (setTxn gl
           ⟨.readShared k, [], none, some (d, keySlotOf (baseRead (lineClass u gl) gl 0 .clean u).2 (chOfLine gl)), true,
             noFillLine u gl⟩
           (baseRead (lineClass u gl) gl 0 .clean u).2)))) ∧
  ((∀ (k gl c : Nat) (t : HomeTxn) (l : CLine) (s : State), k < 32 → gl < 2 ^ 33 → SMap.look s.coh.blocked gl = some t →
     t.fwd = some k → cacheFind s k gl = some l → l.bad ≠ 2 →
     (t.req = .readShared c → exec (.snoopForward k gl false) s =
       .next (setTxn gl { t with fwd := none, data := some (l.data, l.keySlot) } (downgradeOwner gl s))) ∧
     (t.req = .readOwn c → exec (.snoopForward k gl false) s =
       .next (setTxn gl { t with fwd := none, data := some (l.data, l.keySlot) } (cacheDrop k gl s)))) ∧
   (∀ (k gl : Nat) (t : HomeTxn) (s : State), k < 32 → gl < 2 ^ 33 → SMap.look s.coh.blocked gl = some t → k ∈ t.acks →
     t.fwd = none →
     (∀ l, cacheFind s k gl = some l → l.m = false → exec (.snoopInvalidation k gl) s = .next (cacheDrop k gl s)) ∧
     (cacheFind s k gl = none → exec (.snoopInvalidation k gl) s = .next s) ∧
     (∀ j r, cacheFind s k gl = none → NSet.del t.acks k = j :: r →
       exec (.snoopAck k gl) s = .next (setTxn gl { t with acks := j :: r } s)) ∧
     (∀ c, cacheFind s k gl = none → NSet.del t.acks k = [] → t.req = .upgrade c →
       exec (.snoopAck k gl) s = .next (setTxn gl { t with acks := [], granted := true } s)) ∧
     (∀ c d, cacheFind s k gl = none → NSet.del t.acks k = [] → t.req = .readOwn c → t.data = some d →
       exec (.snoopAck k gl) s = .next (setTxn gl { t with acks := [], granted := true } s))) ∧
   (∀ (k gl off slot : Nat) (d data : List Byte) (t : HomeTxn) (s : State), k < 32 → gl < 2 ^ 33 → off + data.length ≤ 64 →
     SMap.look s.coh.blocked gl = some t → t.granted = true → t.data = some (d, slot) → t.noFill = false → s.coh.waiting = [] →
     (t.req = .readShared k → ∃ u, u = cacheFill k { gl := gl, m := false, data := d, keySlot := slot } (filterRecord gl false (NSet.add (sharers s gl) k) s) ∧
       (u.coh.waiting = [] → exec (.completionAck k gl off data) s =
         .next { u with coh := { u.coh with blocked := SMap.del u.coh.blocked gl } })) ∧
     (t.req = .readOwn k → ∃ u, u = cacheFill k { gl := gl, m := true, data := mergeLine d off data, keySlot := slot } (filterRecord gl true [k] s) ∧
       (u.coh.waiting = [] → exec (.completionAck k gl off data) s =
         .next { u with coh := { u.coh with blocked := SMap.del u.coh.blocked gl } }))))

/-- R242, R243: an eviction. The home writes an owner's M line back with KEEP and frees its entry; an S line's notice clears the
sender's bit. R247, R248: a non-allocating access that finds the line free is carried out by the home at once; on a blocked
line it waits. -/
def Obligations.EvictionsAndHomeAccesses : Prop :=
  (∀ (k gl : Nat) (l : CLine) (s u : State), k < 32 → gl < 2 ^ 33 → homeServes s gl = true → cacheFind s k gl = some l →
     SMap.has s.coh.blocked gl = false → s.coh.waiting = [] → s.coh.wbBuf = [] → l.gl = gl → u = cacheDrop k gl s →
     (l.m = true → ownerOfLine s gl = some k → exec (.writeBack k gl) s = .next (filterClear k gl (writeBackLine k l u))) ∧
     (l.m = true → ownerOfLine s gl ≠ some k → exec (.writeBack k gl) s = .next (filterClear k gl u)) ∧
     (l.m = false → exec (.cleanEvictNotice k gl) s = .next (filterClear k gl u))) ∧
  (∀ (gl hint off : Nat) (data : List Byte) (s : State), gl < 2 ^ 33 → off + data.length ≤ 64 → homeServes s gl = true →
     s.coh.waiting = [] →
     (SMap.has s.coh.blocked gl = true →
       exec (.nonAllocatingRead gl hint) s = .next (countCoh (homeOf (chOfLine gl)) (fun c => { c with blocked := c.blocked + 1 })
         { s with coh := { s.coh with waiting := [(gl, .naRead hint)] } }) ∧
       exec (.nonAllocatingWrite gl hint off data) s =
         .next (countCoh (homeOf (chOfLine gl)) (fun c => { c with blocked := c.blocked + 1 })
           { s with coh := { s.coh with waiting := [(gl, .naWrite hint off data)] } })) ∧
     (SMap.has s.coh.blocked gl = false →
       exec (.nonAllocatingRead gl hint) s = .next (homeRead (lineClass s gl) gl hint s).2 ∧
       exec (.nonAllocatingWrite gl hint off data) s = .next (homeWrite (lineClass s gl) gl hint off data s)))

/-- R267, R268: a request for an address that a cluster mirror holds is answered there; one that no mirror holds starts a walk;
the end of a walk at a DEVICE entry fills the mirrors of the die and of the waiters. -/
def Obligations.MirrorsAndWalks : Prop :=
  ∀ (ctx va : Nat) (c : Ctx) (s : State), SMap.look s.ctxs ctx = some c → va < 2 ^ 48 →
    (∀ (k cmd : Nat) (write : Bool), k < 32 → va < Config.poolBase →
      (∀ e : MEnt, clusFind s k ctx va = some e → placeOf e va write ≠ .wait →
        exec (.translationWalk k ctx va write cmd) s =
          .next (countXl k (fun n => { n with mirrorHits := n.mirrorHits + 1 }) (clusFill k e s))) ∧
      (clusFind s k ctx va = none → dieFind s ctx va = none → s.xl.walks = [] →
        exec (.translationWalk k ctx va write cmd) s = .next (countXl k (fun n => { n with walks := n.walks + 1 })
          { s with xl := { s.xl with
            walks := [{ ctx := ctx, vpage := va / 2 ^ 16, va := va, waiters := [⟨k, cmd, write, 0, facetClass s c.facet⟩] }] } }))) ∧
    (∀ (x : Walk) (fa size : Nat) (u : State), s.xl.walks = [x] → x.ctx = ctx → x.va = va → x.ats = none → x.restart = false →
      walkTables (x.waiters.head?.bind (·.cls)) c va s = (.device fa size, u) →
      exec (.walkComplete ctx x.vpage) s = .next (fillFor ⟨ctx, va / 2 ^ size * 2 ^ size, size, false, fa / 2 ^ 16, true, true⟩
        x.waiters (endWalk ctx x.vpage u)))

/-- R269: an ATS completion with both permissions is cached at the smaller of the two sizes, 4 KiB or more, for every waiter; a
failed one raises ATS_ERROR and every waiter meets UNMAPPED. R271 to R274: an Invalidate Request removes what it covers at
once and completes when the recorded requests have drained, or by aborting those that have not, which the command names (log
12). R277: a PRG Response that matches nothing outstanding is discarded and counted; Success starts the walks again; a
Response Failure fails the waiters, disables the function's interface and raises its event. -/
def Obligations.HostTranslation : Prop :=
  (∀ (x : Walk) (c : Ctx) (entry hpa size : Nat) (s u : State), s.xl.walks = [x] → SMap.look s.ctxs x.ctx = some c →
     x.ats = some entry → x.restart = false → x.waiters ≠ [] → 12 ≤ Nat.min size entry → u = { s with xl := { s.xl with walks := [] } } →
     exec (.atsTranslationCompletion x.ctx x.vpage 0 hpa size true true) s = .next (fillFor
       ⟨x.ctx, x.va / 2 ^ Nat.min size entry * 2 ^ Nat.min size entry, Nat.min size entry, true,
         hpa / 2 ^ Nat.min size entry * 2 ^ Nat.min size entry, true, true⟩ x.waiters u) ∧
     exec (.atsTranslationCompletion x.ctx x.vpage 1 hpa size true true) s = .next (failAll stUnmapped x.va x.waiters
       (raiseTo [0, c.fn] evAtsError c.fn x.ctx x.va none (confFacet s c.facet) u))) ∧
  ((∀ (fn tag p base pages : Nat) (s : State), fn < 64 → tag < 32 → s.xl.invals = [] →
     exec (.atsInvalidateRequest fn (some p) base pages tag) s = .next (beginInval
       ⟨s.xl.nextInval, none, fn, (s.ctxs.filter fun e => e.2.fn == fn && e.2.pasid == p).map (·.1), true, base, pages * 4096,
         false, tag, []⟩ { s with xl := { s.xl with nextInval := s.xl.nextInval + 1 } })) ∧
   (∀ (v : Inval) (s : State), s.xl.invals = [v] → s.xl.invWait = [] → v.cmd = none →
     exec (.invalidationDrained v.id) s =
       .next (emit (.invalidateCompletion v.fn v.tag) { s with xl := { s.xl with invals := [] } })) ∧
   (∀ (v : Inval) (k i : Nat) (c : Cmd) (s u : State), s.xl.invals = [v] → s.xl.invWait = [] → v.cmd = none → v.recorded = [i] →
     k < 32 → cmdOf s i = some c → i < 2 ^ 32 → c.phase = .running → v.whole = true →
     u = meetStatus i stInvalidationAbort v.base (countXl k (fun n => { n with aborted := n.aborted + 1 }) s) →
     exec (.invalidationDrainTimeout v.id [(k, i)]) s = .next (completeInval v
       (raiseTo [0, v.fn] evInvalidationAborted v.fn c.desc.context v.base (some (0, 0))
         (((SMap.look u.ctxs c.desc.context).map fun x => confFacet u x.facet).getD false) u)))) ∧
  ((∀ (fn idx code : Nat) (s : State), fn < 64 → idx < 512 → s.xl.tracker = [] →
     exec (.prgResponse fn idx code) s = .next { s with reg := { s.reg with prgDiscards := s.reg.prgDiscards + 1 } }) ∧
   (∀ (p : PageReq) (ctx : Nat) (w : Waiter) (s u : State), p.fn < 64 → p.index < 512 → s.xl.tracker = [p] → s.xl.trackWait = [] →
     p.waiters = [(ctx, w)] → u = { s with xl := { s.xl with tracker := [] } } →
     exec (.prgResponse p.fn p.index 0) s = .next (startWalk ctx (p.vpage * 2 ^ 16) w u)) ∧
   (∀ (p : PageReq) (s u : State), p.fn < 64 → p.index < 512 → s.xl.tracker = [p] → s.xl.trackWait = [] → p.waiters = [] →
     u = { s with xl := { s.xl with tracker := [] } } →
     exec (.prgResponse p.fn p.index 2) s = .next (raiseTo [0, p.fn] evPriResponseFailure p.fn p.pasid 0 none false
       (updFn p.fn (fun r => { r with priFailed := true }) u))))

/-- R67, R70, R137, R141: a PASS that the core's program has next feeds and integrates its engines repeat by repeat and adds into
the blocks of the repeats; with its last repeat it is complete. While one of its engines is not free it has no effect. The
error of each conversion is a free value (log 8). R78, R79: a droop discards the pass of an engine that runs one, and is
counted for the engine and its facet; after 16 in a row the engine stops, HELD where it was in service, with AN_DROOP to PF0;
it returns when the supply has stayed up. R89, R90, R219, R220: a plane load of engine 0 of a core begins on its shadow
plane, or ends its command WEIGHT_POISON where the set is quarantined; it ends with the bytes of the set's stream image in
the plane, and waits where a line of it reads uncorrectable; a swap exchanges the planes at once where nothing holds it, and
waits otherwise. An image number beyond the stream image gives the plane free bytes (log 7); the handshakes that a swap waits
are a free figure (log 7). -/
def Obligations.PassesAndPlanes : Prop :=
  (∀ (c id i mask rep w input es ts : Nat) (s : State), c < 544 → issues s c = some id →
     opAt (coreOf s c) [0x01, mask, rep, w, input, es, ts] = some i → partOf s c i ≤ rep →
     (((maskEngines mask).all fun e => engineFree s (c * 8 + e)) = true → partOf s c i = rep →
       exec (.pass c mask rep w input es ts []) s = .next (opDone c id i (opStarted c i
         (setPart c i (rep + 1) (passRepeat c id mask w input es ts rep (opStarted c i s)))))) ∧
     (((maskEngines mask).all fun e => engineFree s (c * 8 + e)) = false →
       exec (.pass c mask rep w input es ts []) s = .next s)) ∧
  (∀ (e : Nat) (s : State), e < 4352 →
     (runsPasses s e = true → ∀ u, u = countEngine e (fun y => { y with droops := y.droops + 1 })
         (updEngine e (fun x => { x with droopRow := x.droopRow + 1 }) s) →
       exec (.anDroopReplay e) s = .next (if (coreOf s (coreOfEngine e)).status = 2 then updFacet (facetOfEngine s e)
         (fun f => if f.confidential then f else { f with droops := f.droops + 1 }) u else u)) ∧
     (runsPasses s e = false → exec (.anDroopReplay e) s = .next s) ∧
     ((engineOf s e).stopped = false → 16 ≤ (engineOf s e).droopRow → exec (.engineDroopStop e) s = .next
       (raisePf0 evAnDroop e (clusterOfEngine e) (confEngine s e) (setEngine e { engineOf s e with
         stopped := true, status := if (engineOf s e).status = 1 then 2 else (engineOf s e).status } s))) ∧
     ((engineOf s e).stopped = true ∨ (engineOf s e).droopRow < 16 → exec (.engineDroopStop e) s = .next s) ∧
     ((engineOf s e).stopped = true → exec (.engineDroopResume e) s = .next (setEngine e { engineOf s e with
       stopped := false, droopRow := 0
       status := if (engineOf s e).status = 2 ∧ heldOther (engineOf s e) = false then 1 else (engineOf s e).status } s)) ∧
     ((engineOf s e).stopped = false → exec (.engineDroopResume e) s = .next s)) ∧
  ((∀ (c id i image stride n set : Nat) (f : Facet) (w : WSet) (s : State), c < 544 → issues s c = some id →
     opAt (coreOf s c) [0x02, 1, image, stride] = some i → SMap.has (coreOf s c).part i = false → n = (coreOf s c).facet →
     facetOf s n = some f → set = setOfWork s id n → SMap.look f.sets set = some w →
     (w.quarantined = true →
       exec (.planeLoad c 1 image stride) s = .next (opDone c id i (opStarted c i (meetStatus id stWeightPoison 0 s)))) ∧
     (w.quarantined = false → (engineOf s (c * 8)).active1 = false → (engineOf s (c * 8)).rewrites = [] →
       exec (.planeLoad c 1 image stride) s = .next (opStarted c i (updEngine (c * 8)
         (fun x => updPlane true (fun p => { loading := true, src := .stream n set image, refFlip := p.refFlip }) (abandonCal x))
         (streamWorks (clusterOfCore c) n s))))) ∧
   (∀ (e f set i retries : Nat) (fault : Bool) (s : State), e < 4352 → (engineOf s e).active1 = false →
     (engineOf s e).plane1.loading = true → (engineOf s e).plane1.src = .stream f set i →
     (streamFrame s f set i = none → exec (.planeLoadDone e retries fault) s =
       .next (endPlaneLoad e true (.stream f set i) (freeImage s).1 retries fault (freeImage s).2)) ∧
     (∀ n r, streamFrame s f set i = some n → r = faRead (facetVia s f) f 1 (n * 65536) 65536 s →
       exec (.planeLoadDone e retries fault) s = .next (match r.1 with
         | .inl d => endPlaneLoad e true (.stream f set i) d retries fault r.2
         | .inr _ => if ((setOf s f set).map (·.quarantined)).getD true then
             finishSwap e ((loadWaiters s e .empty).foldl (fun t id => meetStatus id stWeightPoison 0 t)
               (updEngine e (updPlane true fun p => { refFlip := p.refFlip }) r.2))
           else r.2))) ∧
   (∀ (c id i : Nat) (s : State), c < 544 → issues s c = some id → opAt (coreOf s c) [0x03, 1] = some i →
     SMap.has (coreOf s c).part i = false →
     (swapBlocked (engineOf s (c * 8)) = false → exec (.planeSwap c 1) s = .next (opDone c id i (opStarted c i
       (setEngine (c * 8) (swapPlanes (abandonCal (engineOf s (c * 8)))) s)))) ∧
     (swapBlocked (engineOf s (c * 8)) = true → exec (.planeSwap c 1) s = .next (opStarted c i
       (countPlaneWait (c * 8) (setEngine (c * 8) { abandonCal (engineOf s (c * 8)) with swapWait := true } s))))))

/-- R70 step 6, R144: an accumulator entry takes the saturated 32-bit sum, or the value alone in overwrite mode; an add to an
entry with bad parity leaves it and reports the error; every other entry stays. -/
def Obligations.AccumulatorSaturates : Prop :=
  ∀ (write : Bool) (i n : Nat) (v : Int) (b : Bool) (x : Core), Mem.wf x.acc = true →
    (write = true ∨ i ∉ x.accBad → accEntry (accAdd write i [v] (x, n, b)).1 i =
      clampInt (-(2 ^ 31)) (2 ^ 31 - 1) (if write then v else accEntry x i + v)) ∧
    (write = false → i ∈ x.accBad → accAdd write i [v] (x, n, b) = (x, n, true)) ∧
    (∀ j, j ≠ i → accEntry (accAdd write i [v] (x, n, b)).1 j = accEntry x j)

/-- R73, R74: a conversion rounds to the nearest code of its range, and clips to the end codes beyond full scale. -/
def Obligations.ConversionCodes : Prop :=
  ∀ (r : Nat) (sum err : Int), -512 ≤ (convert r sum err).1 ∧ (convert r sum err).1 ≤ 511 ∧
    (16 * (fullScale r : Nat) < 16 * sum + err → convert r sum err = (511, true)) ∧
    (16 * sum + err < -(16 * (fullScale r : Nat)) → convert r sum err = (-512, true)) ∧
    (-(16 * (fullScale r : Nat)) ≤ 16 * sum + err → 16 * sum + err ≤ 16 * (fullScale r : Nat) →
      (convert r sum err).2 = false ∧ (convert r sum err).1 = clampInt (-512) 511 (roundDiv (16 * sum + err) (16 * adcStep r)))

/-- R82, R84 to R86, R218, R219: a sealed chunk whose turn it is is taken into a free buffer of its core; decrypted with a right
tag it stands in the buffer and goes on to its plane, its scrub rewrite or its stream image, and a failed first copy is
repaired; a chunk that fails moves to the replica, and with no copy left the set is quarantined. The plaintext and the
outcome of the tag come with the command (log 12). R93 to R95: a scrub read that is good is stamped; a bad row of the active
plane holds the engine until its rewrite; a delayed read holds the next pass; a rewrite whose source is at hand ends with the
row written, and one that fails readback takes the engine out under R92. -/
def Obligations.SealedLoadsAndScrub : Prop :=
  ((∀ (k e p set chunk b f : Nat) (w : WSet) (s u : State), k < 32 → e < 4352 → p < 2 → b < 4 → f < 64 →
     clusterOfEngine e = k → (clusterOf s k).job = none → (coreOf s (coreOfEngine e)).powered = true →
     b ∉ (coreOf s (coreOfEngine e)).buffers → (engineOf s e).status ≠ 3 → (engineOf s e).status ≠ 4 →
     setOf s f set = some w → w.ready = true → w.quarantined = false → chunk < w.hdr.chunkCount →
     loadDue s e (p == 1) f set chunk = true → rebuildDue s e (p == 1) f set chunk = none → scrubTurn s k = false →
     turnFacet s k = some f →
     u = updCore (coreOfEngine e) (fun y => { y with buffers := NSet.add y.buffers b }) (updCluster k (fun y => { y with
       job := some { engine := e, plane1 := p == 1, facet := f, set := set, chunk := chunk, buffer := b, scrub := false
                     rebuild := none, second := w.badFirst.contains chunk }
       sinceScrub := Nat.min 4 (y.sinceScrub + 1), lastFacet := f }) s) →
     exec (.sealedChunkStart k e p f set chunk b false) s = .next (updEngine e
       (fun y => updPlane (p == 1) (fun q => { q with loading := true, src := .chunk f set chunk })
         (if (p == 1) = y.active1 then y else abandonCal y)) (dropRewrites e (p == 1) u))) ∧
   (∀ (k retries : Nat) (image : List Byte) (fault : Bool) (j : ChunkJob) (w : WSet) (r : Option (List Byte) × State) (s : State),
     k < 32 → (clusterOf s k).job = some j → setOf s j.facet j.set = some w → r = readChunk j.facet w j.second j.chunk s →
     exec (.sealedChunkDone k true image retries fault []) s = .next (if r.1.isSome then
       chunkReady k j (takePad 65536 image) retries fault
         (chunkRepaired j (scratchWrite (coreOfEngine j.engine) (bufferAt j.buffer) (takePad 65536 image) r.2))
       else chunkFails k j r.2) ∧
     exec (.sealedChunkDone k false image retries fault []) s = .next (chunkFails k j r.2)) ∧
   (∀ (k : Nat) (j : ChunkJob) (w : WSet) (t : State), setOf t j.facet j.set = some w →
     (w.replicated = true → j.second = false → j.chunk ∉ w.badSecond →
       chunkFails k j t = updCluster k (fun y => { y with job := some { j with second := true } })
         (updSet j.facet j.set (fun y => { y with badFirst := NSet.add y.badFirst j.chunk }) t)) ∧
     (w.replicated = false ∨ j.second = true → chunkFails k j t = chunkLost k j t))) ∧
  ((∀ (e row : Nat) (s : State), e < 4352 → row < 256 → (engineOf s e).plane0.loading = false →
     (coreOf s (coreOfEngine e)).powered = true → (engineOf s e).status ≠ 3 → rowParityBad (engineOf s e).plane0 row = false →
     rowRefBad (engineOf s e).plane0 row = false →
     exec (.planeScrubVisit e 0 row []) s = .next (finishSwap e (setEngine e { engineOf s e with
       scrubWait := none
       plane0 := { (engineOf s e).plane0 with
         scrubbed := SMap.put (engineOf s e).plane0.scrubbed row
           (ltcOf s (clusterOfEngine e), epochOf s (clusterOfEngine e)) } } s))) ∧
   (∀ (e row : Nat) (s : State), e < 4352 → row < 256 → (engineOf s e).plane0.loading = false →
     (coreOf s (coreOfEngine e)).powered = true → (engineOf s e).status = 1 → (engineOf s e).active1 = false →
     (engineOf s e).plane0.src = .empty → (engineOf s e).plane0.users = [] → (engineOf s e).rewrites = [] →
     confEngine s e = false → rowParityBad (engineOf s e).plane0 row = true →
     exec (.planeScrubVisit e 0 row []) s = .next (setEngine e { engineOf s e with
       scrubWait := none, heldScrub := true, status := 2
       rewrites := [{ one := false, row := row, last := lastScrub (engineOf s e).plane0 row, act := true, refOnly := false }]
       scrubFaults := satAdd 16 (engineOf s e).scrubFaults 1 } s)) ∧
   (∀ (e : Nat) (s : State), e < 4352 → (engineOf s e).status = 1 → exec (.scrubGapTimeout e) s =
     .next (setEngine e { engineOf s e with scrubWait := some ((engineOf s e).active1, 0) } s)) ∧
   (∀ (e : Nat) (r : Rewrite) (s : State), e < 4352 → nextRewrite s e = some r →
     (r.act = false → exec (.scrubRewriteDone e true) s = .next (finishSwap e (dropRewrite e r (writeRow e r s)))) ∧
     (r.act = true → r.told = false →
       exec (.scrubRewriteDone e true) s = .next (finishSwap e (scrubFaultEvent e r (dropRewrite e r (writeRow e r s))))) ∧
     (r.act = false → exec (.scrubRewriteDone e false) s =
       .next (finishSwap e (planeLoadFault e .empty (dropRewrite e r (writeRow e r s)))))))

/-- R107 to R113, R116: a full calibration is called for, starts in a window, and ends with a new table, tracked corrections at
zero and the engine in service; or with columns repaired and a new calibration, or with the engine retired; or is given up
and called for again. What the conversions measured comes with the command; the windows of the tracking start again with the
table (log 8). R114, R158: the stages of start-up calibration of a half; an UNCALIBRATED engine all of whose columns are
accepted goes IN_SERVICE; and the end of the clearing of a core that no facet waits for. What the conversions measured comes
with the command (log 8). -/
def Obligations.Calibration : Prop :=
  ((∀ (e : Nat) (s : State), e < 4352 → (engineOf s e).status = 1 → (engineOf s e).calCall = 0 →
     exec (.calibrationPeriodExpiry e) s = .next (setEngine e { engineOf s e with calCall := 1 } s)) ∧
   (∀ (e : Nat) (s : State), e < 4352 → calWindow s e = true → shadowFree (engineOf s e) = true →
     (engineOf s e).active1 = false → (engineOf s e).cal = none → (engineOf s e).calCall = 1 →
     exec (.calibrationStart e) s = .next (setEngine e { engineOf s e with
       plane1 := calPlane (coreNow s (coreOfEngine e)) (engineOf s e).plane1
       cal := some { cause := 1, began := ltcOf s (clusterOfEngine e), temp := engineTemp s e
                     prev := (engineOf s e).plane1.src } } s)) ∧
   (∀ (e : Nat) (k : CalRun) (errors : CalErrors) (x y : Engine) (bad : NSet) (s : State), e < 4352 → x = engineOf s e →
     x.cal = some k → k.paused = false → bad = failingColumns x.repairs (calTable 1 errors) →
     (bad = [] → y = restoreShadow k.prev (installCal (calTable 1 errors) k (coreNow s (coreOfEngine e)) x) →
       exec (.calibrationDone e errors) s = .next (finishSwap e (setEngine e y s)) ∧
       y.track = [] ∧ y.cal = none ∧ y.calCall = 0 ∧ y.calCount = x.calCount + 1 ∧ y.calTemp = k.temp ∧ y.heldCheck = false ∧
       activePlane y = activePlane x) ∧
     (bad ≠ [] → repairable x.repairs bad = true →
       exec (.calibrationDone e errors) s = .next (forAll bad (repairColumn e) (setEngine e
         { recordCal (calTable 1 errors) 1 k.temp (coreNow s (coreOfEngine e)) x with
           cal := some { k with cause := 4, passes := 0, ordinary := 0, paused := true }, calCall := 4 } s))) ∧
     (bad ≠ [] → repairable x.repairs bad = false →
       exec (.calibrationDone e errors) s = .next (retireEngine e (setEngine e
         (restoreShadow .empty (recordCal (calTable 1 errors) 2 k.temp (coreNow s (coreOfEngine e)) x)) s)))) ∧
   (∀ (e : Nat) (k : CalRun) (s : State), e < 4352 → (engineOf s e).cal = some k → k.cause ≠ 0 → k.paused = false →
     exec (.calibrationAbandon e) s =
       .next (setEngine e (restoreShadow k.prev { engineOf s e with cal := none, calCall := k.cause }) s)) ∧
   (∀ (e : Nat) (s : State), e < 4352 → (engineOf s e).status = 1 →
     exec (.calibrationOverdue e) s = .next (raisePf0 evCalibrationOverdue e 0 (confEngine s e) s))) ∧
  ((∀ (half : Nat) (s : State), half < 2 → railOn s (half == 1) = true → s.pwr.mcRunning = true → calStage s (half == 1) = 0 →
     exec (.startUpCalibration half) s = .next (setCalStage (half == 1) 1 s)) ∧
   (∀ (half : Nat) (s : State), half < 2 → calStage s (half == 1) = 1 →
     exec (.calibrationLoadSettled half) s = .next (setCalStage (half == 1) 2 s)) ∧
   (∀ (half : Nat) (errors : SMap (List CalErrors)) (s : State), half < 2 → calStage s (half == 1) = 2 →
     exec (.startUpCalibrationDone half errors) s = .next (readyCheck (setCalStage (half == 1) 3
       (forAll ((coresOfHalf (half == 1)).flatMap enginesOf) (startUpEngine errors) s)))) ∧
   (∀ (e : Nat) (errors : SMap (List CalErrors)) (t : SMap ColumnCal) (s : State), (engineOf s e).status = 0 →
     t = calTable 64 ((SMap.getD errors e []).headD []) → failingColumns (engineOf s e).repairs t = [] →
     (engineOf (startUpEngine errors e s) e).status = 1 ∧
     (engineOf (startUpEngine errors e s) e).corr = t.map fun x => (x.1, (x.2.off, tableGain x.2))) ∧
   (∀ (c : Nat) (s : State), c < 544 → (coreOf s c).powered = true → s.pwr.stage = 5 → s.facets = [] →
     exec (.coreClearingDone c) s = .next (updCore c (fun x => { x with cleared := true }) s)))

/-- R147: the elementwise operations, register by register in rising order (log 10). Each is one operation of the core's program,
and a count of 0 does nothing else (R135). A product and sum of VROPE are FP32 operations (log 10); a NaN's payload is a free
value (log 9). R147, R148, R565: the reductions to element 0, the special functions, the conversion and the scaling of
accumulators without parity errors. Values of the special functions are free within their error bounds (log 9); the
handshakes that a conversion is charged may be free (log 7), and change only the accounting. -/
def Obligations.VectorArithmetic : Prop :=
  (∀ (c id i fmt vd va vb vc count : Nat) (scalar : Bool) (s u : State), 0 < count →
     u = chargeVec id c (elemHandshakes fmt count) s →
     (AtOp c id i [0x10, 3, fmt, vd, va, vb, count, b2n scalar] s →
       exec (.vadd c fmt vd va vb count scalar) s = .next (opRan c id i (vecSteps c count (fun k x => regWrite (vd + k) (numBytes fmt
         (zipNums fp32Add (regNums fmt x (va + k)) (secondNums fmt scalar x vb k))) x) u))) ∧
     (AtOp c id i [0x10, 4, fmt, vd, va, vb, count, b2n scalar] s →
       exec (.vmul c fmt vd va vb count scalar) s = .next (opRan c id i (vecSteps c count (fun k x => regWrite (vd + k) (numBytes fmt
         (zipNums fp32Mul (regNums fmt x (va + k)) (secondNums fmt scalar x vb k))) x) u))) ∧
     (AtOp c id i [0x10, 6, fmt, vd, va, vb, count, b2n scalar] s →
       exec (.vmax c fmt vd va vb count scalar) s = .next (opRan c id i (vecSteps c count (fun k x => regWrite (vd + k) (numBytes fmt
         (zipNums numMax (regNums fmt x (va + k)) (secondNums fmt scalar x vb k))) x) u))) ∧
     (AtOp c id i [0x10, 3, fmt, vd, va, vb, 0, b2n scalar] s →
       exec (.vadd c fmt vd va vb 0 scalar) s = .next (opRan c id i s)) ∧
     (AtOp c id i [0x10, 5, fmt, vd, va, vb, vc, count, b2n scalar] s →
       exec (.vfma c fmt vd va vb vc count scalar) s = .next (opRan c id i (vecSteps c count (fun k x => regWrite (vd + k)
         (numBytes fmt (((regNums fmt x (va + k)).zip (secondNums fmt scalar x vb k)).zip (regNums fmt x (vc + k)) |>.map fun p =>
           fp32Round ((p.1.1.mul p.1.2).add p.2))) x) u))) ∧
     (AtOp c id i [0x10, 0x0C, fmt, vd, va, vb, vc, count] s →
       exec (.vrope c fmt vd va vb vc count) s = .next (opRan c id i (vecSteps c count (fun k x => regWrite (vd + k) (numBytes fmt
         (rotatePairs (regNums fmt x (va + k)) (regNums fmt x (vb + k)) (regNums fmt x (vc + k)))) x) u)))) ∧
  (∀ (c id i fmt vd va vb addr count kind : Nat) (s : State), 0 < count →
     (AtOp c id i [0x10, 7, fmt, vd, va, count] s →
       exec (.vsum c fmt vd va count) s = .next (opRan c id i
         (updCore c (fun x => putFp32 vd (treeSum (rangeNums fmt x va count)) x) (chargeVec id c (elemHandshakes fmt count) s)))) ∧
     (AtOp c id i [0x10, 8, fmt, vd, va, count] s →
       exec (.vrmax c fmt vd va count) s = .next (opRan c id i (updCore c (fun x => putFp32 vd
           (treeFold numMax (.fin false 0 0) (rangeNums fmt x va count).length (rangeNums fmt x va count)) x)
         (chargeVec id c (elemHandshakes fmt count) s)))) ∧
     (AtOp c id i [0x10, 9, fmt, vd, va, count, kind] s →
       exec (.vsfn c fmt vd va count kind) s = .next (opRan c id i (vecSteps c count (fun k x => regWrite (vd + k) (numBytes fmt
         ((regNums fmt x (va + k)).map (specialNum kind))) x)
         (chargeVec id c (ceilDiv (count * elemsPerReg fmt) 64) s)))) ∧
     (∀ target, AtOp c id i [0x10, 0x0A, fmt, vd, va, vb, count, target] s → ∃ n k,
       exec (.vcvt c fmt vd va vb count target) s = .next (opRan c id i (updCore c (fun x => regWrite vd (packElems target
         ((rangeNums fmt x va count).map fun v => elemEncode target (v.mul (fp32Elem0 x vb)))) x)
         (chargeVec id c n { s with freeCtr := k })))) ∧
     (AtOp c id i [0x10, 0x0B, vd, va, vb, addr, count] s → (coreOf s c).accBad = [] →
       exec (.vacc c vd va vb addr count []) s = .next (opRan c id i (vecSteps c count (fun k x => regWrite (vd + k) (numBytes 3
         (vaccBlock ((wordsLe 4 256 (Mem.readN x.acc (addr - 2 ^ 21 + 1024 * k) 1024)).map (elemDecode 4))
           (regNums 3 (coreOf s c) va) (fp32Elem0 (coreOf s c) vb))) x) (chargeVec id c (2 * count) s)))))

/-- R147, R149, R150: loads, stores, attention over a tile, ranking and sampling, on memory without parity errors. -/
def Obligations.VectorMemory : Prop :=
  ∀ (c id i vd va vb vc addr count k hd heads : Nat) (k4 lists : Bool) (s : State), 0 < count →
    (coreOf s c).scratchBad = [] → (coreOf s c).accBad = [] →
    (AtOp c id i [0x10, 1, vd, addr, count] s →
      (addr < 2 ^ 21 → exec (.vload c vd addr count []) s = .next (opRan c id i
        (updCore c (regWrite vd (Mem.readN (coreOf s c).scratch addr (1024 * count)))
          (chargeVec id c (2 * rowAccesses addr (1024 * count)) (countRotate c addr (1024 * count) s))))) ∧
      (2 ^ 21 ≤ addr → exec (.vload c vd addr count []) s = .next (opRan c id i
        (updCore c (regWrite vd (Mem.readN (coreOf s c).acc (addr - 2 ^ 21) (1024 * count)))
          (chargeVec id c (2 * count) s))))) ∧
    (AtOp c id i [0x10, 2, va, addr, count] s → exec (.vstore c va addr count) s = .next (opRan c id i
      (scratchWrite c addr (regRead (coreOf s c) va count)
        (chargeVec id c (2 * rowAccesses addr (1024 * count)) (countRotate c addr (1024 * count) s))))) ∧
    (AtOp c id i [0x10, 0x10, vd, va, vb, addr, count, b2n k4, hd, heads] s → ∀ p u,
      u = chargeVec id c (attnHandshakes k4 (headDim hd) heads) (countTile c addr k4 (headDim hd) false s) →
      tilePart (coreOf u c) addr k4 (headDim hd) false = some p →
      exec (.vqk c vd va vb addr count k4 hd heads []) s = .next (opRan c id i (vecSteps c heads (fun j x => regWrite (vd + j)
        (numBytes 3 (scores k4 (headDim hd) p.1 p.2 ((regNums 0 x (va + j)).take (headDim hd)) (fp32Elem0 (coreOf u c) vb))) x) u))) ∧
    (AtOp c id i [0x10, 0x11, vd, va, addr, count, b2n k4, hd, heads] s → ∀ p u,
      u = chargeVec id c (attnHandshakes k4 (headDim hd) heads) (countTile c addr k4 (headDim hd) true s) →
      tilePart (coreOf u c) addr k4 (headDim hd) true = some p →
      exec (.vpv c vd va addr count k4 hd heads []) s = .next (opRan c id i (vecSteps c heads (fun j x => regWrite (vd + j) (numBytes 3
        (weightedRows (headDim hd) ((List.range 64).map (tileRow k4 (headDim hd) p.1 p.2)) ((regNums 3 x (va + j)).take 64)
          (regNums 3 x (vd + j)))) x) u))) ∧
    (AtOp c id i [0x10, 0x18, vd, va, vc, count, k, b2n lists] s → exec (.vtopk c vd va vc count k lists) s = .next (opRan c id i
      (updCore c (fun x => regWrite vd (candBytes (rankCands k (topkInputs x va vc count lists))) x)
        (chargeVec id c (ceilDiv (if lists then count / 8 * 1024 else count * 512) 128 + 16) s)))) ∧
    (AtOp c id i [0x10, 0x19, vd, va, addr, count] s → ∀ d cs r, d = Mem.readN (coreOf s c).scratch addr 32 →
      (ofLe ((d.drop 24).take 4) ≤ 65535 → ofLe ((d.drop 10).take 2) = 0 → ofLe ((d.drop 28).take 4) = 0 →
        cs = listCands (regRead (coreOf s c) va 8) →
        r = sample cs (fpDecode Fmt.fp32 (ofLe ((d.drop 0).take 4))) (fpDecode Fmt.fp32 (ofLe ((d.drop 4).take 4)))
          (ofLe ((d.drop 8).take 2)) (ofLe ((d.drop 16).take 8)) (ofLe ((d.drop 12).take 4)) (ofLe ((d.drop 24).take 4)) →
        exec (.vsample c vd va addr count []) s = .next (opRan c id i
          (updCore c (regWrite vd (toLe 4 r.1 ++ toLe 4 (fpEncode Fmt.fp32 r.2)))
            (chargeVec id c (32 + 2 * ceilDiv cs.length 64) (countRotate c addr 32 s))))) ∧
      (65535 < ofLe ((d.drop 24).take 4) → exec (.vsample c vd va addr count []) s = .next (opRan c id i
        (meetStatus id stMalformed (0xFFFF + addr * 2 ^ 16) (countRotate c addr 32 s)))))

/-- R146: a rounding never leaves the finite range of its format: what lies beyond takes the largest finite value. -/
def Obligations.RoundingSaturates : Prop :=
  ∀ (f : Fmt) (x : Sys2Proof.Num), f ∈ [Fmt.bf16, Fmt.e4m3Fmt, Fmt.e5m2, Fmt.fp32, Fmt.fp16] → x ≠ .nan →
    fpEncode f x % 2 ^ (f.ebits + f.mbits) ≤ f.maxFinite

/-- R139: a DMA of one transfer within a line, to and from the scratchpad, and its wait. R151, R163, R176: SEND puts the flits
for which its destination's queue has room into it, completes with the last of them and waits otherwise; to a core behind a
parked half it ends UNREACHABLE; PRISM_SEND puts a message into the queues of every leaf that the routers hold; RECV takes
the whole message at the head of its queue, or waits. R140: barriers, events and END. How many cores of members have arrived
at a barrier of facet scope is a free value (log 14). -/
def Obligations.CoreOperations : Prop :=
  (∀ (c id i hint base va a length loc : Nat) (host : List Byte) (s : State), 0 < length → (coreOf s c).scratchBad = [] →
     SMap.has (coreOf s c).part i = false → a = va + argPointer s c id base → a % 64 + length ≤ 64 →
     (AtOp c id i [0x20, hint, 0, base, va, 0, loc, length] s →
       (∀ d rest u, moverRead (coreMover s c id) 0 hint a length (takePad length host) s = (.inl (d, rest), u) →
         exec (.dmaIn c hint false base va 0 loc length host []) s = .next (opRan c id i (setPart c i 1 (opStarted c i
           (scratchWrite c loc d (countRotate c loc length u)))))) ∧
       (∀ u, moverRead (coreMover s c id) 0 hint a length (takePad length host) s = (.inr .wait, u) →
         exec (.dmaIn c hint false base va 0 loc length host []) s = .next (opStarted c i u))) ∧
     (AtOp c id i [0x21, hint, 0, base, va, 0, loc, length] s → ∀ u,
       moverWrite (coreMover s c id) 0 hint a (Mem.readN (coreOf s c).scratch loc length) s = (none, u) →
       exec (.dmaOut c hint false base va 0 loc length []) s = .next (opRan c id i (setPart c i 1 (opStarted c i
         (countRotate c loc length u)))))) ∧
  (∀ (c id i q n : Nat) (s : State), 0 < n → (coreOf s c).scratchBad = [] → SMap.has (coreOf s c).part i = false →
     (∀ dest d src k u v, AtOp c id i [0x30, dest, q, n, src] s → sendTarget s c id dest q = some d → src < 2 ^ 21 →
       (routeParked s (clusterOfCore c) (clusterOfCore d) = true →
         exec (.send c dest q n src []) s = .next (opRan c id i (meetStatus id stUnreachable 0 s))) ∧
       (routeParked s (clusterOfCore c) (clusterOfCore d) = false → k = Nat.min n (queueRoom s d q) →
         u = setPart c i k (opStarted c i (countRotate c src (128 * n) s)) →
         v = enqueue d q (flitsOf n 0 k (Mem.readN (coreOf s c).scratch src (128 * k)) (fun _ => false)) u →
         exec (.send c dest q n src []) s =
           .next (if k = n then opRan c id i (clearWait c v) else opStarted c i (noteWait c 1 (d * 8 + q) (n - k) v)))) ∧
     (∀ dst f rest, AtOp c id i [0x31, q, n, dst] s → SMap.getD (coreOf s c).inq q [] = f :: rest → f.len = n →
       n ≤ (f :: rest).length → (((f :: rest).take n).any fun (y : QFlit) => y.bad) = false →
       exec (.recv c q n dst []) s = .next (opRan c id i (scratchWrite c dst (((f :: rest).take n).flatMap fun (y : QFlit) => y.data)
         (countRotate c dst (128 * n) (clearWait c (touchQueue c q
           (updCore c (fun x => { x with inq := SMap.put x.inq q ((f :: rest).drop n) }) s))))))) ∧
     (∀ dst, AtOp c id i [0x31, q, n, dst] s → SMap.getD (coreOf s c).inq q [] = [] →
       exec (.recv c q n dst []) s = .next (noteWait c 3 q n s)) ∧
     (∀ p k tree src u, AtOp c id i [0x32, p, n, src] s → workTree s id (coreOf s c).facet p = some (k, tree) → src < 2 ^ 21 →
       ((prismLeaves s k c).all fun d => decide (n ≤ queueRoom s d tree.queue)) = true →
       u = setPart c i n (opStarted c i (countRotate c src (128 * n) s)) →
       exec (.prismSend c p n src []) s = .next (opRan c id i (clearWait c ((prismLeaves s k c).foldl (fun t d =>
         enqueue d tree.queue (flitsOf n 0 n (Mem.readN (coreOf s c).scratch src (128 * n)) (fun _ => false)) t) u))))) ∧
  (∀ (c id i : Nat) (s : State),
     (∀ number scope p f u m, AtOp c id i [0x40, number, b2n scope, p] s → f = (coreOf s c).facet →
       u = updCore c (fun x => { x with atBarrier := some (number, scope, p) }) s → m = membersArrived f scope u →
       (p ≤ (arrivedAt m.2 f id number scope).length + m.1 →
         exec (.barrier c number scope p) s = .next (opRan c id i (forAll (arrivedAt m.2 f id number scope)
           (fun d v => updCore d (fun x => { x with atBarrier := none, waitFor := none }) v) m.2))) ∧
       ((arrivedAt m.2 f id number scope).length + m.1 < p →
         exec (.barrier c number scope p) s = .next (opRan c id i (noteWait c 4 number 0
           (touchWaits (fun d w => w.kind == 4 && w.obj == number && (coreOf m.2 d).facet == f) m.2))))) ∧
     (∀ e n, AtOp c id i [0x41, e, n] s →
       (n ≤ SMap.getD (coreOf s c).events e 0 → exec (.waitEvent c e n) s = .next (opRan c id i s)) ∧
       (SMap.getD (coreOf s c).events e 0 < n →
         exec (.waitEvent c e n) s = .next (opRan c id i (updCore c (fun x => { x with waiting := some (e, n) }) s)))) ∧
     (AtOp c id i [0x7F] s → ∀ u, u = updCore c (fun x => { x with ended := true, inq := [] }) s →
       (((coreOf s c).inq.any fun e => !e.2.isEmpty) = false → exec (.endOp c) s = .next (opRan c id i u)) ∧
       (((coreOf s c).inq.any fun e => !e.2.isEmpty) = true →
         exec (.endOp c) s = .next (opRan c id i (meetStatus id stMalformed 0xFFFF u)))))

/-- R293, R296: the doorbell makes a request outstanding; a doorbell while one is outstanding sets overrun; a header that cannot
be used, a busy block, a bad header and an unknown opcode are answered by the management block itself, and a subop that no
row carries by the firmware's common checks. Any other request stays outstanding, its bytes kept, for its own row. That the
bytes beyond a layout are reserved and that a body which cannot be read is MALFORMED are log 13's choices. R296: a response
writes the body, then the header, sets done, clears outstanding and raises MBX_DONE. -/
def Obligations.MailboxProtocol : Prop :=
  (∀ (f n : Nat) (buf : List Byte) (s : State), f < 64 → n < 65536 → hostUp s = true → fnExists s f = true →
     ((fnOf s f).outstanding = true →
       exec (.mbxDoorbell f n buf) s = .next (setFn f { fnOf s f with overrun := true } s)) ∧
     ((fnOf s f).outstanding = false → ∀ t,
       t = setFn f { fnOf s f with outstanding := true, noResponse := false, curSeq := n, request := buf.take (32 + bodyLen buf) } s →
       ∀ op b h, op = field buf 0 2 → b = bodyOf buf → h = ⟨f, n, respAddrOf buf, respLenOf buf, true⟩ →
       (headerUnusable buf = true → exec (.mbxDoorbell f n buf) s = .next
         (mbxDone f n syMalformed (setFn f { fnOf t f with noResponse := true } t))) ∧
       (headerUnusable buf = false →
         (blockBusy s = true → exec (.mbxDoorbell f n buf) s = .next (respond f n (respAddrOf buf) { status := syBusy } t)) ∧
         (blockBusy s = false →
           (headerBad n buf = true → exec (.mbxDoorbell f n buf) s = .next
             (respond f n (respAddrOf buf) { status := syMalformed } t)) ∧
           (headerBad n buf = false →
             (op ∉ requestCodes → exec (.mbxDoorbell f n buf) s = .next
               (respond f n (respAddrOf buf) { status := syUnsupported } t)) ∧
             (op ∈ requestCodes →
               (reservedSub op b = true → exec (.mbxDoorbell f n buf) s = .next
                 (respond f n (respAddrOf buf) { status := (gate h op (needsCompute op) t).getD syMalformed } t)) ∧
               (reservedSub op b = false → exec (.mbxDoorbell f n buf) s = .next t))))))) ∧
  (∀ (f n a : Nat) (r : Reply) (s : State), f < 64 →
     (fnOf (respond f n a r s) f).respSeq = n ∧ (fnOf (respond f n a r s) f).done = true ∧
     (fnOf (respond f n a r s) f).outstanding = false ∧
     (∀ g, g ≠ f → fnOf (respond f n a r s) g = fnOf s g) ∧
     (∃ tl, (respond f n a r s).out = s.out ++ ((if r.body = [] then [] else [.hostWrite f (a + 16) r.body]) ++
       [.hostWrite f a (responseHeader n r.status r.body.length r.needed)]) ++ tl) ∧
     (respond f n a r s).dram = s.dram ∧ (respond f n a r s).facets = s.facets ∧ (respond f n a r s).cmds = s.cmds ∧
     (respond f n a r s).chans = s.chans ∧ (respond f n a r s).pwr = s.pwr ∧ (respond f n a r s).fuses = s.fuses)

/-- R299, R265, R463, R472: the requests that read answer OK with their records and change nothing else. -/
def Obligations.ReadRequests : Prop :=
  (∀ (fn : Nat) (h : Req) (b : List Byte) (s : State),
    (Asked fn (layInfo 0) false h b s → 80 ≤ h.respLen →
      exec (.getInfoDevice fn) s = .next (answeredWith h { status := syOk, body := deviceRecord s h.fn } s)) ∧
    (Asked fn (layInfo 1) false h b s → 272 ≤ h.respLen → exec (.getInfoClusters fn) s = .next
      (answeredWith h { status := syOk, body := (List.range 32).flatMap (clusterRecord s) } s)) ∧
    (Asked fn (layInfo 2) false h b s → ∀ n, n = field b 1 1 →
      (∀ f, facetOf s n = some f → f.fn = fn → 2064 ≤ h.respLen → exec (.getInfoFrameMap fn) s = .next
        (answeredWith h { status := syOk, body := (List.range 256).flatMap (slotRecord f) } s)) ∧
      (facetOf s n = none → 16 ≤ h.respLen →
        exec (.getInfoFrameMap fn) s = .next (answeredWith h { status := syNotFound } s)))) ∧
  (∀ (h : Req) (b : List Byte) (s : State), Asked 0 layTelemetry false h b s → ∀ ty first count facet,
    ty = field b 0 1 → first = field b 2 2 → count = field b 4 2 → facet = field b 6 2 → ty < 10 →
    (ty ≠ 7 → facet = 0) → (ty = 7 → SMap.has s.facets facet = true) → first + count ≤ recordUnits s ty facet →
    ∀ r, r = ((List.range count).map (· + first)).flatMap (record s ty facet) → 16 + r.length ≤ h.respLen →
    exec (.telemetry 0) s = .next (answeredWith h { status := syOk, body := r } s)) ∧
  (∀ (h : Req) (b : List Byte) (s : State), Asked 0 layAccounting false h b s → ∀ kind first count,
    kind = field b 0 1 → first = field b 2 2 → count = field b 4 2 → 1 ≤ count →
    (kind = 0 → count ≤ 1024 → ∀ r, r = ((List.range count).map (· + first)).flatMap (fun n =>
      ((SMap.look s.ctxs n).map (contextRecord s n)).getD []) → 16 + r.length ≤ h.respLen →
      exec (.accountingRead 0) s = .next (answeredWith h { status := syOk, body := r } s)) ∧
    (kind = 1 → first + count ≤ 64 → ∀ r, r = ((List.range count).map (· + first)).flatMap (functionRecord s) →
      16 + r.length ≤ h.respLen →
      exec (.accountingRead 0) s = .next (answeredWith h { status := syOk, body := r } s)))

/-- R256, R257, R314: an entry is bound to a facet of its own function with its root in the frame map; unbinding ends the waiting
commands and is complete when no command of the context runs. R316, R317: a queue takes the lowest free number and a frame
for its descriptor; its destruction drops what has not started and ends when nothing of it is left. R377: quiescing a VF ends
its waiting commands QUIESCED, is complete once nothing of it runs, and RESUME lifts it. -/
def Obligations.ObjectRequests : Prop :=
  ((∀ (fn : Nat) (h : Req) (b : List Byte) (f : Facet) (s : State), Asked fn layBind false h b s → 16 ≤ h.respLen →
     ∀ d, d = bindBody b → facetOf s d.facet = some f →
     (f.fn = fn → d.function = fn → bindBodyOk f d = true → SMap.has s.ctxs d.context = false → leaving f = false →
       exec (.contextBind fn) s = .next (answeredWith h { status := syOk }
         (setCtx d.context { facet := d.facet, fn := fn, pasid := d.pasid, root := d.root, weight := d.weight } s))) ∧
     (f.fn ≠ fn → exec (.contextBind fn) s = .next (answeredWith h { status := syDenied } s))) ∧
   (∀ (fn : Nat) (h : Req) (b : List Byte) (c : Ctx) (s : State), AskedJob fn layUnbind false h b s → ∀ n, n = field b 0 2 →
     SMap.look s.ctxs n = some c → c.fn = fn → c.unbinding = none →
     exec (.contextUnbind fn) s = .next (endWaiting (fun d => d.desc.context == n) stBadHandle
       (updCtx n (fun x => { x with unbinding := some (ticketOf h opContextUnbind) }) (taken h opContextUnbind [] s)))) ∧
   (∀ (n : Nat) (c : Ctx) (t : Ticket) (s : State), SMap.look s.ctxs n = some c → c.unbinding = some t →
     (∀ e ∈ s.cmds, e.2.desc.context = n → e.2.ran = false) → ctxRequests s n c = false →
     exec (.contextUnbindComplete n) s = .next (requestDone t syOk (clearContext n s)))) ∧
  ((∀ (fn : Nat) (h : Req) (b : List Byte) (f : Facet) (x : Nat) (s : State), Asked fn layQueueCreate true h b s →
     24 ≤ h.respLen → ∀ d, d = queueBody b →
     facetOf s d.facet = some f → f.fn = fn → f.member = false → queueBodyOk d = true → leaving f = false →
     (d.privileged = true → privQueues s fn < 2) → freeQueue s < 16384 → freeFrame (poolFill s d.facet) f = some x →
     exec (.queueCreate fn) s = .next
       (answeredWith h { status := syOk, body := toLe 2 (freeQueue s) ++ List.replicate 6 0 }
         (updFacet d.facet (fun g => { g with used := NSet.add g.used x })
           (setQueue (freeQueue s) (queueOfBody fn x d) s)))) ∧
   (∀ (fn : Nat) (h : Req) (b : List Byte) (q : Queue) (s : State), AskedJob fn layQueueDestroy true h b s →
     ∀ n, n = field b 0 2 → SMap.look s.queues n = some q → q.fn = fn → q.destroying = none →
     exec (.queueDestroy fn) s = .next
       (destroyQueue n (some (ticketOf h opQueueDestroy)) (taken h opQueueDestroy [] s))) ∧
   (∀ (n : Nat) (q : Queue) (t : Ticket) (s : State), SMap.look s.queues n = some q → q.destroying = some t →
     (∀ e ∈ s.cmds, e.2.queue ≠ n) →
     exec (.queueDestroyComplete n) s = .next (requestDone t syOk (freeQueueNo n s)))) ∧
  ((∀ (fn : Nat) (h : Req) (b : List Byte) (s : State), AskedJob fn layQuiesce false h b s → ∀ n, n = field b 0 1 →
     1 ≤ n → n ≤ 63 → n ≤ s.reg.numVFs → (fnOf s n).quiesceReq = none →
     exec (.quiesce fn) s = .next (endWaiting (fun c => c.fn == n) stQuiesced
       (updFn n (fun r => { r with quiesced := true, quiesceReq := some (ticketOf h opQuiesce) })
         (taken h opQuiesce [] s)))) ∧
   (∀ (n : Nat) (t : Ticket) (s : State), n < 64 → (fnOf s n).quiesceReq = some t → fnBusy s n = false →
     exec (.quiesceDone n) s = .next (requestDone t syOk (setFn n { fnOf s n with quiesceReq := none } s))) ∧
   (∀ (fn : Nat) (h : Req) (b : List Byte) (s : State), Asked fn layResume false h b s → 16 ≤ h.respLen → ∀ n, n = field b 0 1 →
     1 ≤ n → n ≤ 63 → n ≤ s.reg.numVFs →
     exec (.resume fn) s = .next (answeredWith h { status := syOk } (updFn n (fun r => { r with quiesced := false }) s))))

/-- R359, R360, R373, R163: FACET_CREATE binds the named resources to the lowest free facet number; a member whose join times out
is destroyed with NOT_FOUND. R368, R525: FACET_DESTROY of a facet without queues and contexts releases its cores, zeroes its
channels and leaves it DESTROYING with nothing bound; during a creation or a resize it waits. -/
def Obligations.FacetCreation : Prop :=
  ((∀ (fn : Nat) (h : Req) (body : List Byte) (n : Nat) (s : State), AskedJob fn layFacetCreate true h body s →
     24 ≤ h.respLen → ∀ b, b = facetBody body →
     (b.confidential = true → s.fuses.lcState = 3 ∧ freeMemSlot s ≤ 255) → tdiLocked s b.function = false →
     facetBodyOk b = true → fnExists s b.function = true →
     resourcesClosed s b.cores b.channels b.halfPorts = false → updateBusy s = false →
     n = lowestFrom (s.facets.map (·.1)) 0 → n < 64 → resourcesFree s b.cores b.channels b.halfPorts = true →
     poolFits s b = true →
     exec (.facetCreate fn) s = .next
       (createFacet b (ticketOf h opFacetCreate) (taken h opFacetCreate (toLe 1 n ++ List.replicate 7 0) s))) ∧
   (∀ (b : FacetBody) (t : Ticket) (s : State), b.confidential = false → b.member = false → b.memberCount ≠ 0 →
     b.kvBlocks = 0 → ∀ n, n = lowestFrom (s.facets.map (·.1)) 0 →
     facetOf (createFacet b t s) n = some (facetOfBody b t 0) ∧
     (∀ c, c ∈ b.cores → coreOf (createFacet b t s) c = { coreOf s c with status := 2, facet := n }) ∧
     (∀ c, c ∉ b.cores → coreOf (createFacet b t s) c = coreOf s c) ∧
     (∀ c, c ∈ b.channels → chanOf (createFacet b t s) c = { chanOf s c with state := 2, facet := n }) ∧
     (∀ c, c ∉ b.channels → chanOf (createFacet b t s) c = chanOf s c) ∧
     (createFacet b t s).dram = s.dram ∧ (createFacet b t s).fns = s.fns) ∧
   (∀ (n : Nat) (f : Facet) (s : State), n < 64 → facetOf s n = some f → f.member = true → f.state = 1 → f.joined = false →
     exec (.memberJoinTimeout n) s = .next (destroyFacet n f.destroying
       (forAll (ctxsOfFacet s n) clearContext (requestDoneOpt f.creating syNotFound
         (updFacet n (fun x => { x with creating := none }) (dropJoin n s))))))) ∧
  ((∀ (fn : Nat) (h : Req) (b : List Byte) (f : Facet) (s : State), AskedJob fn layFacetDestroy true h b s → ∀ n, n = field b 0 1 →
     facetOf s n = some f → retiring s n = false → tdiLocked s f.fn = false → (∀ e ∈ s.queues, e.2.facet ≠ n) → ctxsOfFacet s n = [] →
     f.state ≠ 4 → f.destroying = none → updateBusy s = false →
     (f.state ≠ 1 → f.resize = none → exec (.facetDestroy fn) s = .next
       (destroyFacet n (some (ticketOf h opFacetDestroy)) (taken h opFacetDestroy [] s))) ∧
     (f.state = 1 ∨ f.resize ≠ none → exec (.facetDestroy fn) s = .next
       (updFacet n (fun g => { g with destroying := some (ticketOf h opFacetDestroy) }) (taken h opFacetDestroy [] s)))) ∧
   (∀ (n : Nat) (f : Facet) (t : Option Ticket) (s : State), facetOf s n = some f → f.eclipse = none → f.rekey = none →
     (∃ g, facetOf (destroyFacet n t s) n = some g ∧ g.state = 4 ∧ g.cores = [] ∧ g.channels = f.channels ∧ g.map = [] ∧
       g.ladders = [] ∧ g.sets = [] ∧ g.destroying = t) ∧
     (∀ c ∈ f.channels, (chanOf (destroyFacet n t s) c).state = 6 ∧ (chanOf (destroyFacet n t s) c).after = 1) ∧
     ((∀ e ∈ s.coh.lines, ∀ l ∈ e.2, l.bad ≠ 2) → (destroyFacet n t s).fns = s.fns) ∧
     (destroyFacet n t s).fuses = s.fuses))

/-- R362, R363, R365, R366: a resize of an ACTIVE facet begins, switches at a command boundary with its loads done and its cores
cleared, gives up the old placement and ends with its last move; one that changes only settings takes effect at once. -/
def Obligations.FacetResizing : Prop :=
  (∀ (fn : Nat) (h : Req) (body : List Byte) (f : Facet) (s : State), Asked fn layFacetResize true h body s →
    16 ≤ h.respLen → ∀ b, b = resizeBody body →
    facetOf s b.facet = some f → retiring s b.facet = false → tdiLocked s f.fn = false → resizeOk f b = true →
    f.state = 2 → f.resize = none → f.destroying = none → updateBusy s = false → ∀ cores chans ports,
    cores = (NSet.ofList b.cores).filter (fun c => !f.cores.contains c) →
    chans = (NSet.ofList b.channels).filter (fun c => !f.channels.contains c) →
    ports = (NSet.ofList b.halfPorts).filter (fun p => !f.halfPorts.contains p) →
    resourcesClosed s cores chans ports = false →
    (settingsOnly f b = true → exec (.facetResize fn) s = .next
      (answeredWith h { status := syOk } (updFacet b.facet (applyLimits b) s))) ∧
    (settingsOnly f b = false → (∀ e ∈ f.ladders, SMap.has e.2.rungs (NSet.ofList b.cores).length = true) →
      resourcesFree s cores chans ports = true → (fnOf s fn).accepted.length < 16 →
      exec (.facetResize fn) s = .next
        (beginResize b (ticketOf h opFacetResize) (taken h opFacetResize [] s)))) ∧
  (∀ (n : Nat) (f : Facet) (r : Resize) (s : State), n < 64 → facetOf s n = some f → f.resize = some r →
    r.switched = false → uncleared s r.cores = false → f.loads = [] → f.switching = none → f.running = none →
    f.eclipse = none → stepRunning s n = false → f.replace = none →
    exec (.placementSwitch n) s = .next (switchPlacement n f r s)) ∧
  (∀ (n : Nat) (f : Facet) (r : Resize) (s : State), n < 64 → facetOf s n = some f → f.resize = some r →
    r.switched = true → r.drained = false →
    exec (.resizeOldPlacementDrained n) s = .next (finishResize n
      (forAll r.oldChannels (fun c t => zeroChan c 1 t)
        (freeOldTrees n (setFacet n { f with
            resize := some { r with drained := true }, channels := NSet.diff f.channels r.oldChannels
            halfPorts := r.halfPorts, map := f.map.filter fun e => !r.oldChannels.contains e.2.channel }
          (forAll r.oldCores releaseCore (leaveClusters r.oldCores f.cores f.channels
            (spoilWindows (portMasters (NSet.diff f.halfPorts r.halfPorts)) s)))))))) ∧
  (∀ (n source : Nat) (f : Facet) (r : Resize) (s : State), n < 64 → source < 256 → facetOf s n = some f →
    f.resize = some r → (∃ m ∈ r.moves, m.1 = source) → moveEnded s source = true →
    exec (.slotMoveDone n source) s = .next (finishResize n (zeroChan source 1
      (updFacet n (fun g => { g with
          channels := NSet.del g.channels source
          resize := some { r with moves := r.moves.filter fun m => m.1 != source } })
        (updChan source (fun c => { c with copy := none }) s)))))

/-- R27, R56, R57, R369: a half is parked at once when no facet needs it, and an unpark ends when the half is calibrated and
cleared. R498, R499, R504: dusk begins from D0 when no facet works, by request or by D3hot, and is BUSY otherwise; wake
begins from dusk or from HALTED with stable coolant, by request or by D0. That dusk is also refused during a park, an update,
a halt and start-up is log 34's choice. -/
def Obligations.ParkingAndDusk : Prop :=
  ((∀ (fn : Nat) (h : Req) (b : List Byte) (s : State), ∀ half, half = field b 0 1 → half < 2 →
     (AskedJob fn (layPark 0) true h b s → parked s (half == 1) = false → parkBusy (half == 1) s = false →
       exec (.facetPark fn) s = .next
         (requestDone (ticketOf h opFacetPark) syOk (parkHalf (half == 1) (taken h opFacetPark [] s)))) ∧
     (AskedJob fn (layPark 1) true h b s → parked s (half == 1) = true → s.pwr.park = none → updateBusy s = false →
       ∃ t, exec (.facetUnpark fn) s = .next
         { t with pwr := { t.pwr with park := some ⟨half, true, 6, some (ticketOf h opFacetPark)⟩ } } ∧
       t = unparkHalf (half == 1) (taken h opFacetPark [] s))) ∧
   (∀ (half : Nat) (p : ParkStep) (s : State), half < 2 → s.pwr.park = some p → p.unpark = true → p.half = half →
     calStage s (half == 1) = 3 → halfCleared s (half == 1) = true →
     exec (.halfUnparkReady half) s = .next
       (retryBlocked (requestDoneOpt p.ticket syOk
         (if half = 1 then setParked true false { s with pwr := { s.pwr with park := none } }
          else markRestored (setParked false false { s with pwr := { s.pwr with park := none } })))))) ∧
  ((∀ (fn : Nat) (h : Req) (d : List Byte) (s : State), fn < 64 → gate (ignoreBody h) opPowerLimits false s = none →
     30 ≤ h.respLen →
     (askedBy s fn (layPower 2) = some (h, d) →
       (s.pwr.state = 1 ∨ s.pwr.state = 2 → exec (.powerLimitsDusk fn) s = .next
         (answeredWith h { status := syOk, body := limitsBody s.pwr } s)) ∧
       (mayDusk s = true → exec (.powerLimitsDusk fn) s = .next
         (answeredWith h { status := syOk, body := limitsBody s.pwr } (beginDusk s))) ∧
       (s.pwr.state ≠ 1 → s.pwr.state ≠ 2 → mayDusk s = false →
         exec (.powerLimitsDusk fn) s = .next (answeredWith h { status := syBusy } s))) ∧
     (askedBy s fn (layPower 3) = some (h, d) →
       (s.pwr.state = 0 → s.pwr.halt = none → exec (.powerLimitsWake fn) s = .next
         (answeredWith h { status := syOk, body := limitsBody s.pwr } s)) ∧
       (s.pwr.state = 2 ∨ s.pwr.state = 4 → wakeRefused s = false → exec (.powerLimitsWake fn) s = .next
         (answeredWith h { status := syOk, body := limitsBody s.pwr } (beginWake s))) ∧
       (s.pwr.state = 2 ∨ s.pwr.state = 4 → wakeRefused s = true → exec (.powerLimitsWake fn) s = .next
         (answeredWith h { status := syBusy } s)))) ∧
   (∀ s : State, mayDusk s = true → exec .pf0D3hotEntry s = .next
     (beginDusk (updFn 0 (fun r => { r with d3hot := true }) s))) ∧
   (∀ s : State, (fnOf s 0).d3hot = true → s.pwr.state = 2 → wakeRefused s = false → exec .pf0D0Entry s = .next
     (beginWake (updFn 0 (fun r => { r with d3hot := false }) s))) ∧
   (∀ s : State, s.pwr.state = 1 → copying s = false → s.pwr.halt = none → ∃ t, exec .duskEntered s = .next t ∧
     t.pwr.state = 2 ∧ t.pwr.dusk = true ∧ 0 ∉ t.pwr.railsOn ∧ 1 ∉ t.pwr.railsOn ∧ 2 ∉ t.pwr.railsOn ∧
     5 ∉ t.pwr.railsOn ∧ (∀ v ∈ t.serve, v.2.saved = true)) ∧
   (∀ (ms : Nat) (s : State), s.pwr.state = 3 → halfReady s false = true → halfReady s true = true →
     (∀ e ∈ s.facets, e.2.loads = []) → ∃ t, exec (.woke ms) s = .next t ∧ t.pwr.state = 0 ∧ t.pwr.dusk = false ∧
     t.pwr.fetchStop = false ∧ (∀ f, f < 64 → (fnOf t f).restored = true)))

/-- R127, R128, R132, R355, R356: a container that passes every check is decoded, copied into frames of the facet and loaded into
a new ladder with the facet's next handle; UNLOAD of a ladder that no command names frees them. R87, R217, R219, R529, R532,
R533: WEIGHT_SET_LOAD is accepted when the container, its key, its tags and the frames are right; the end of the load builds
the stream image and makes the set ready; WEIGHT_SET_UNLOAD of a set not in use frees it. That a stream image which cannot be
built ends the request REJECTED is log 12's choice. -/
def Obligations.SegmentsAndWeightSets : Prop :=
  ((∀ (fn : Nat) (h : Req) (body container : List Byte) (f f1 : Facet) (g : Segment) (frames : List Nat) (s : State),
     Asked fn (laySegment 0) true h body s → 24 ≤ h.respLen → ∀ b, b = segBody body container →
     facetOf s b.facet = some f → f.fn = fn → b.ladder = 0 → b.containerAddr % 64 = 0 → b.length ≤ 268435456 →
     decodeSegment (container.take b.length) = some g → segmentOk f g = true → SMap.look f.ladders 0 = none →
     f.state ≠ 4 → g.prisms.length ≤ (freePrisms s).length → takeBytes s b.facet g.size f = some (frames, f1) →
     SMap.look f.ladders f.nextLadder = none → ∀ l,
     l = ⟨g, frames, if g.coreCount = f.rung then (fitMapping g f.cores).getD [] else []⟩ →
     exec (.segmentLoad fn container) s = .next
       (answeredWith h { status := syOk, body := toLe 4 f.nextLadder ++ toLe 4 0 }
         (storeSegment b f.nextLadder { f1 with
           nextLadder := f.nextLadder + 1
           ladders := SMap.put f.ladders f.nextLadder ⟨g.weightSet, [(g.coreCount, l)]⟩ } l s))) ∧
   (∀ (fn : Nat) (h : Req) (b : List Byte) (f : Facet) (s : State), Asked fn (laySegment 1) true h b s → 24 ≤ h.respLen →
     ∀ n ladder, n = field b 0 1 → ladder = field b 4 4 →
     facetOf s n = some f → f.fn = fn → SMap.has f.ladders ladder = true →
     (ladderNamed s n ladder = false → exec (.segmentUnload fn) s = .next
       (answeredWith h { status := syOk, body := toLe 4 ladder ++ toLe 4 0 }
         (freeTrees (fun x => x.facet == n && x.ladder == ladder) (updFacet n (dropLadder ladder) s)))) ∧
     (ladderNamed s n ladder = true →
       exec (.segmentUnload fn) s = .next (answeredWith h { status := syBusy } s)))) ∧
  ((∀ (fn : Nat) (h : Req) (body container : List Byte) (tagOk unwrapOk : Bool) (f : Facet) (w : WsHeader) (s : State),
     ∀ b, b = wsBody body container tagOk unwrapOk → facetOf s b.facet = some f → f.fn = fn →
     decodeWeightSet (container.take b.length) = some w → weightBodyOk b w = true → weightKey h b w s = syOk →
     (AskedJob fn layWeightLoad true h body s → tagOk = true →
       (w.sealedKey = true → unwrapOk = true ∧ freeWeightSlot s ≤ 63) → setHeld f b.setId = false → f.state ≠ 4 →
       placeSet s b w (dropSet b.setId f) ≠ none →
       exec (.weightSetLoad fn container tagOk unwrapOk) s = .next
         (loadSet b (ticketOf h opWeightSetLoad) (taken h opWeightSetLoad [] s))) ∧
     (Asked fn layWeightLoad true h body s → 16 ≤ h.respLen → tagOk = false →
       exec (.weightSetLoad fn container tagOk unwrapOk) s = .next (answeredWith h { status := syRejected } s))) ∧
   (∀ (n set : Nat) (images : List StreamImage) (f : Facet) (w : WSet) (s t : State) (good : Bool), n < 64 →
     facetOf s n = some f → SMap.look f.sets set = some w → w.ready = false →
     makeImages n set images (List.range w.streamFrames.length) s = (good, t) →
     exec (.weightSetLoadDone n set images) s = .next (forAll (f.cores.flatMap enginesOf) (releaseHeldSet n set)
       (requestDoneOpt w.ticket (if good then syOk else syRejected)
         (updSet n set (fun y => { y with ready := true, ticket := none }) t)))) ∧
   (∀ (fn : Nat) (h : Req) (b : List Byte) (f : Facet) (w : WSet) (s : State), Asked fn layWeightUnload true h b s →
     16 ≤ h.respLen → ∀ n set, n = field b 0 1 → set = field b 4 4 →
     facetOf s n = some f → f.fn = fn → SMap.look f.sets set = some w →
     (setBusy s n f set w = false → exec (.weightSetUnload fn) s = .next
       (answeredWith h { status := syOk } (freeSetSlot f set (setFacet n (dropSet set f) s)))) ∧
     (setBusy s n f set w = true → exec (.weightSetUnload fn) s = .next (answeredWith h { status := syBusy } s))))

/-- R300, R370 to R372, R515, R516: every step of a firmware update, from its acceptance to the recorded image, and the return to
the old image after a failed self-check. Each step's conditions are on the state alone. Whether the image's signatures and
digest verify is an operand of the request (log 12). -/
def Obligations.FirmwareUpdate : Prop :=
  (∀ (fn : Nat) (h : Req) (b image : List Byte) (sigsOk : Bool) (s : State), ∀ i, i = imageOf image (field b 8 4) sigsOk →
    (AskedJob fn layFwUpdate false h b s → field b 0 8 % 4096 = 0 → field b 8 4 ≤ 16777216 → s.fw.update = none →
      exec (.fwUpdate fn image sigsOk) s = .next
        (setUpdate (some { phase := 1, img := i, ticket := ticketOf h opFwUpdate }) (taken h opFwUpdate [] s))) ∧
    (Asked fn layFwUpdate false h b s → 16 ≤ h.respLen → (field b 0 8 % 4096 ≠ 0 ∨ 16777216 < field b 8 4) →
      exec (.fwUpdate fn image sigsOk) s = .next (answeredWith h { status := syMalformed } s)) ∧
    (Asked fn layFwUpdate false h b s → 16 ≤ h.respLen → field b 0 8 % 4096 = 0 → field b 8 4 ≤ 16777216 →
      s.fw.update ≠ none → exec (.fwUpdate fn image sigsOk) s = .next (answeredWith h { status := syBusy } s))) ∧
  (∀ (u : FwUpdate) (s : State), s.fw.update = some u →
    (u.phase = 1 → imageAccepted s u.img = true →
      exec .fwImageVerified s = .next (setUpdate (some { u with phase := 2 }) s)) ∧
    (u.phase = 1 → imageAccepted s u.img = false →
      exec .fwImageVerified s = .next (requestDone u.ticket syRejected (setUpdate none s))) ∧
    (u.phase = 2 → quiet s = true → (∀ e ∈ s.facets, e.2.resize = none) → exec .fwQuietPoint s = .next
      { s with fw := { s.fw with handover := true, update := some { u with phase := 3 } } }) ∧
    (u.phase = 3 → exec .fwHandoverDone s = .next (raiseHeld { s with fw := { s.fw with
      build := u.img.build, svn := u.img.svn, header := u.img.header, prev := ⟨s.fw.build, s.fw.svn, s.fw.header⟩
      ccUpdated := [], update := some { u with phase := 4, cluster := 0 } } })) ∧
    (u.phase = 4 → u.cluster < 31 → exec (.clusterControllerUpdate true) s = .next
      { s with fw := { s.fw with
          ccUpdated := NSet.add s.fw.ccUpdated u.cluster, update := some { u with cluster := u.cluster + 1 } } }) ∧
    (u.phase = 4 → u.cluster = 31 → exec (.clusterControllerUpdate true) s = .next
      (requestDone u.ticket syOk (raiseFw [0] evFwUpdated 0 0 u.img.build none false (setUpdate none
        (recordImage u.img { s with fw := { s.fw with
          ccUpdated := [], update := some { u with cluster := 32 } } }))))) ∧
    (u.phase = 4 → exec (.clusterControllerUpdate false) s = .next
      { s with fw := { s.fw with update := some { u with phase := 5 } } }) ∧
    (u.phase = 5 → ∀ ok, exec (.clusterControllerUpdate ok) s = .next
      { s with fw := { s.fw with ccUpdated := s.fw.ccUpdated.drop 1 } }) ∧
    (u.phase = 5 → s.fw.ccUpdated = [] → quiet s = true → exec .fwQuietPoint s = .next
      { s with fw := { s.fw with handover := true, update := some { u with phase := 6 } } }) ∧
    (u.phase = 6 → exec .fwHandoverDone s = .next (requestDone u.ticket syRejected (raiseHeld { s with fw := { s.fw with
      build := s.fw.prev.build, svn := s.fw.prev.svn, header := s.fw.prev.header, update := none } })))) ∧
  (∀ (i : FwImage) (s : State), (recordImage i s).sec.recordedBank = 1 - s.sec.bootBank ∧
    (recordImage i s).fuses = { s.fuses with
      svnFloor := if i.floor then Nat.max s.fuses.svnFloor (Nat.min 64 i.svn) else s.fuses.svnFloor } ∧
    (recordImage i s).fns = s.fns ∧ (recordImage i s).facets = s.facets ∧ (recordImage i s).dram = s.dram)

/-- R492, R497, R509: limits within their ranges are in force at once, and dim is off while dim_disable is set; limits out of
range are MALFORMED; READ ignores its body and answers what is in force; a half without work is dimmed at 0.60 V once its
delay has passed, and one with work, or with dim disabled, is not. R494: above 97 % of a limit the issue level goes down by
one and never below 1; both averages below 90 % for 1 local ms raise it by one and never above 16; a settled rail raises it,
or a half's own level, by one again. The averages that a sample measures are its operands (log 34). R500: the sensors'
readings are kept and the half takes the row of the response table that its hottest sensor gives; one that exceeds 105
degrees puts the half at issue level 1 and 0.60 V; a half that is not powered is not sampled. R500, R502, R503, R504: a
thermal trip and a loss of coolant stop the fetch and end what runs, or in dusk halt at once; the halt ends with or without
the saved tables, with the core rails off, ALERT_N asserted and the state HALTED. R502, R504, R550: the filter of COOL_OK; a
dip that is shorter than the filter is counted and changes nothing else. -/
def Obligations.PowerAndHeat : Prop :=
  ((∀ (fn : Nat) (h : Req) (d : List Byte) (s : State), Asked fn (layPower 0) false h d s → 30 ≤ h.respLen →
     ∀ b, b = powerBody d →
     (powerBodyOk b = true → exec (.powerLimitsSet fn) s = .next
       (answeredWith h { status := syOk, body := limitsBody (setLimits b s.pwr) } (setPwr (setLimits b) s))) ∧
     (powerBodyOk b = false → exec (.powerLimitsSet fn) s = .next (answeredWith h { status := syMalformed } s))) ∧
   (∀ (fn : Nat) (h : Req) (d : List Byte) (s : State), fn < 64 → askedBy s fn (layPower 1) = some (h, d) →
     gate (ignoreBody h) opPowerLimits false s = none → 30 ≤ h.respLen →
     exec (.powerLimitsRead fn) s = .next (answeredWith h { status := syOk, body := limitsBody s.pwr } s)) ∧
   (∀ (half : Nat) (s : State), half < 2 →
     (s.pwr.state = 0 → s.pwr.stage = 5 → s.pwr.dimDisable = false → halfOn s (half == 1) = true →
       halfWorks s (half == 1) = false → exec (.dimDelayExpiry half) s = .next (setPwr (setDim (half == 1)) s)) ∧
     ((s.pwr.dimDisable = true ∨ halfWorks s (half == 1) = true) → exec (.dimDelayExpiry half) s = .next s))) ∧
  ((∀ (peak sust : Nat) (s : State), s.pwr.mcRunning = true → s.pwr.stage = 5 → s.pwr.state = 0 → s.pwr.halt = none →
     (s.pwr.peakW * 97 < peak * 100 ∨ s.pwr.sustW * 97 < sust * 100 →
       ∃ t, exec (.governorSample peak sust) s = .next t ∧ t.pwr.issue = Nat.max 1 (s.pwr.issue - 1) ∧
         t.pwr.peakAvg = peak ∧ t.pwr.sustAvg = sust ∧ t.facets = s.facets ∧ t.dram = s.dram) ∧
     (∀ since, peak * 100 < s.pwr.peakW * 90 → sust * 100 < s.pwr.sustW * 90 → s.pwr.calmSince = some since →
       since + 1000000 ≤ mcNow s → ∃ t, exec (.governorSample peak sust) s = .next t ∧
         t.pwr.issue = Nat.min 16 (s.pwr.issue + 1) ∧ t.pwr.peakAvg = peak ∧ t.pwr.sustAvg = sust ∧
         t.facets = s.facets ∧ t.dram = s.dram)) ∧
   (∀ (half : Nat) (s : State), half < 2 → s.pwr.settling = true →
     (s.pwr.issue < 16 → exec (.governorRailSettled half) s = .next
       (setPwr (fun p => { p with settling := false, issue := p.issue + 1 }) s)) ∧
     (16 ≤ s.pwr.issue → halfRow s.pwr (half == 1) < 2 → halfN s.pwr (half == 1) < 16 →
       exec (.governorRailSettled half) s = .next
         (setPwr (fun p => setHalfN (half == 1) (halfN p (half == 1) + 1) { p with settling := false }) s)))) ∧
  ((∀ (k : Nat) (l : List Int) (s : State), k < 32 → l.length = 8 → halfOn s (eastCluster k) = false →
     exec (.dieSensorSample k l) s = .next s) ∧
   (∀ (k : Nat) (l : List Int) (s : State), k < 32 → l.length = 8 → halfOn s (eastCluster k) = true →
     ∃ t, exec (.dieSensorSample k l) s = .next t ∧
     (∀ i x, l[i]? = some x → SMap.look t.pwr.dieTemp (k * 8 + i) = some x) ∧
     halfRow t.pwr (eastCluster k) = dieRow s.pwr.tSoft (halfRow s.pwr (eastCluster k)) (halfTemp t (eastCluster k)) ∧
     ((∃ x ∈ l, 1050 < x) →
       halfN t.pwr (eastCluster k) = 1 ∧ halfMv t.pwr (eastCluster k) = 600 ∧ halfRow t.pwr (eastCluster k) = 2))) ∧
  ((∀ (n : Nat) (temp : Int) (s : State), okTrip n = true → s.pwr.halt = none → s.pwr.state ≠ 4 →
     (s.pwr.state ≠ 2 → computeOn s = true → ∃ t, exec (.thermtrip n temp) s = .next t ∧ t.pwr.fetchStop = true ∧
       t.pwr.thermTripN = true ∧ t.pwr.halt = some ⟨true, 2, false, n, temp⟩) ∧
     (s.pwr.state = 2 → ∃ t, exec (.thermtrip n temp) s = .next t ∧ t.pwr.state = 4 ∧ t.pwr.alert = true ∧
       t.pwr.tripHalt = true ∧ t.pwr.halt = none)) ∧
   (∀ s : State, s.pwr.coolOk = false → s.pwr.coolTimer = true → s.pwr.halt = none → s.pwr.state ≠ 4 →
     (s.pwr.state ≠ 2 → computeOn s = true → ∃ t x, exec .coolLoss s = .next t ∧ t.pwr.fetchStop = true ∧
       t.pwr.coolTimer = false ∧ t.pwr.halt = some x ∧ x.trip = false ∧ x.step = 2) ∧
     (s.pwr.state = 2 → ∃ t, exec .coolLoss s = .next t ∧ t.pwr.state = 4 ∧ t.pwr.alert = true ∧ t.pwr.coolHalt = true ∧
       t.pwr.halt = none)) ∧
   (∀ (x : Machine.Halt) (s : State), s.pwr.halt = some x → s.fw.handover = false →
     ∃ t, exec .haltTablesSaved s = .next t ∧ t.pwr.state = 4 ∧ t.pwr.halt = none ∧ t.pwr.alert = true ∧
     t.pwr.tablesLost = s.pwr.tablesLost ∧ 0 ∉ t.pwr.railsOn ∧ 1 ∉ t.pwr.railsOn ∧ 2 ∉ t.pwr.railsOn) ∧
   (∀ (x : Machine.Halt) (s : State), s.pwr.halt = some x →
     ∃ t, exec .haltSaveTimeout s = .next t ∧ t.pwr.state = 4 ∧ t.pwr.halt = none ∧ t.pwr.alert = true ∧
     t.pwr.tablesLost = true ∧ 0 ∉ t.pwr.railsOn ∧ 1 ∉ t.pwr.railsOn ∧ 2 ∉ t.pwr.railsOn)) ∧
  ((∀ s : State, s.pwr.coolOk = true → exec .coolOkDeassert s = .next
     { s with pwr := { s.pwr with coolOk := false, coolTimer := true, coolStable := false } }) ∧
   (∀ s : State, s.pwr.coolOk = false → s.pwr.coolTimer = true → exec .coolOkAssert s = .next
     { s with pwr := { s.pwr with coolOk := true, coolTimer := false, coolDips := s.pwr.coolDips + 1 } }) ∧
   (∀ s : State, s.pwr.coolOk = false → s.pwr.coolTimer = false → exec .coolOkAssert s = .next
     { s with pwr := { s.pwr with coolOk := true } }) ∧
   (∀ s : State, s.pwr.coolOk = true → s.pwr.order ≠ 3 → exec .coolOkStable s = .next
     { s with pwr := { s.pwr with coolStable := true } }) ∧
   (∀ s : State, s.pwr.coolOk = true → s.pwr.order = 3 → exec .coolOkStable s = .next
     (runOrder { s with pwr := { s.pwr with coolStable := true } })))

/-- R494, R500: every set-point that a sample leaves is within its half's vmax. -/
def Obligations.SetPointsWithinVmax : Prop :=
  ∀ (peak sust : Nat) (s t : State), s.pwr.mcRunning = true → s.pwr.stage = 5 → s.pwr.state ≠ 2 → s.pwr.state ≠ 4 →
    s.pwr.halt = none → 600 ≤ s.pwr.vmaxW → 600 ≤ s.pwr.vmaxE → exec (.governorSample peak sust) s = .next t →
    t.pwr.westMv ≤ t.pwr.vmaxW ∧ t.pwr.eastMv ≤ t.pwr.vmaxE

/-- R320 to R322: a submission or a completion head within its range is taken, and the records that waited are written as the
ring has room; one out of range raises QUEUE_OVERRUN and changes no count. R323, R470: a queue that waits takes a free
resident slot, or that of a resident queue with nothing in hand. -/
def Obligations.QueuesAndSlots : Prop :=
  (∀ (f n v : Nat) (q : Machine.Queue) (s : State), f < 64 → n < 16384 → v < 65536 → SMap.look s.queues n = some q → q.fn = f →
     (q.destroying = none → cnt v q.completed ≤ 2 ^ q.subLog2 → cnt v q.tail ≤ cnt v q.completed →
       exec (.dbSubmit f n v) s = .next (setQueue n { q with tail := v } s)) ∧
     (q.destroying = none → 2 ^ q.subLog2 < cnt v q.completed → exec (.dbSubmit f n v) s = .next
       (raiseTo [f] evQueueOverrun f n v none (confFacet s q.facet) s)) ∧
     (cnt v q.compHead ≤ cnt q.completed q.compHead → exec (.dbCompHead f n v) s = .next
       (drainRecords n q.waiting (setQueue n { q with compHead := v } s))) ∧
     (cnt q.completed q.compHead < cnt v q.compHead → exec (.dbCompHead f n v) s = .next
       (raiseTo [f] evQueueOverrun f n (v + 2 ^ 63) none (confFacet s q.facet) s))) ∧
  (∀ (n : Nat) (next : List (Nat × Nat)) (s : State),
     (n ∈ slotWaiters s → (residents s).length < Config.residentSlots →
       exec (.residentSlotAssign n) s = .next (giveSlot n s)) ∧
     (∀ m, n ∈ slotWaiters s → Config.residentSlots ≤ (residents s).length → idleResident s = some m →
       exec (.residentSlotAssign n) s = .next (giveSlot n (takeSlot m s))) ∧
     (slotWaiters s = [n] → (residents s).length < Config.residentSlots →
       exec (.slotReview next) s = .next (giveSlot n s)) ∧
     (slotWaiters s = [] → exec (.slotReview next) s = .next s))

/-- R329, R335, R341, R348: a fetched command takes the next number and its place in its queue, and waits for its fences or ends
with the status of the first check that fails; its deadline ends it, or marks it late once it runs. R330, R357, R437, R468,
R469: at a command boundary the placement chooses a ready command; the chosen one starts on its cores, or begins a weight
switch and starts when the last load has ended. R324, R329, R334: an ended command leaves the commands, its queue has nothing
in hand, and its 32-byte record is written or kept. -/
def Obligations.CommandsInOrder : Prop :=
  ((∀ (n : Nat) (b : List Byte) (d : Desc) (q : Machine.Queue) (f : Facet) (s : State), d = descOf b → SMap.look s.queues n = some q → q.resident = true →
     q.marked = false → q.destroying = none → q.current = none → 0 < unfetched q → computeUp s = true →
     s.pwr.fetchStop = false → s.pwr.westParked = false → facetOf s q.facet = some f → ∀ c t,
     c = { queue := n, index := q.fetched, fn := q.fn, facet := q.facet, report := q.report, desc := d, clk := f.master,
           acceptedAt := ltcOf s f.master } →
     t = setCmd s.nextCmd c (setQueue n { q with fetched := (q.fetched + 1) % 65536, current := some s.nextCmd }
       (undimFacet q.facet { s with nextCmd := s.nextCmd + 1 })) →
     (fetchStatus s q d = none → exec (.commandFetch n b) s = .next (checkWaits s.nextCmd t)) ∧
     (∀ st x, fetchStatus s q d = some (st, x) → exec (.commandFetch n b) s = .next (endUnstarted s.nextCmd st x t))) ∧
   (∀ (id n : Nat) (c : Cmd) (q : Machine.Queue) (s t : State), cmdOf s id = some c → c.phase = .waiting → c.ready = false →
     SMap.look s.queues c.queue = some q → c.desc.payload = .nop → c.desc.waitEn = true →
     readFence q c.desc.waitFence s = (.inl n, t) →
     (c.desc.waitValue ≤ n → exec (.fenceReread id) s = .next (markReady id t)) ∧
     (n < c.desc.waitValue → exec (.fenceReread id) s = .next t)) ∧
   (∀ (id : Nat) (c : Cmd) (s : State), cmdOf s id = some c → c.desc.deadline ≠ 0 → c.remote = none →
     (c.phase = .waiting → exec (.commandDeadlineExpiry id) s = .next (endUnstarted id stDeadlineMissed 0 s)) ∧
     (c.phase = .running → exec (.commandDeadlineExpiry id) s = .next (setCmd id { c with late := true } s)))) ∧
  ((∀ (n c : Nat) (f : Facet) (s : State), n < 64 → facetOf s n = some f → placementHeld s n f = false →
     rejectRuns n s = s → f.chosen = none → SMap.look s.serve n = none → chooseRun s n f = some c →
     needsSwitch s f c = false → s.facets = SMap.put s.facets n f →
     exec (.placementSchedule n) s = .next (setFacet n { f with chosen := some c } s)) ∧
   (∀ (id : Nat) (c : Cmd) (f : Facet) (s : State), cmdOf s id = some c → facetOf s c.facet = some f →
     isRun c.desc.payload = true → f.chosen = some id → placementHeld s c.facet f = false → mayStartRun s id = true →
     (ladderStatus f (ladderOf c) = none → needsSwitch s f id = false →
       exec (.runSegment id) s = .next (startRun id s)) ∧
     (ladderStatus f (ladderOf c) = none → needsSwitch s f id = true →
       exec (.runSegment id) s = .next (beginSwitch c.facet id (ladderOf c) s)) ∧
     (∀ st, ladderStatus f (ladderOf c) = some st → exec (.runSegment id) s = .next
       (endUnstarted id st 0 (setFacet c.facet { f with chosen := none } s)))) ∧
   (∀ (n id set : Nat) (f : Facet) (s : State), n < 64 → facetOf s n = some f → f.switching = some (id, set) →
     f.loads = [] → f.eclipse = none → f.resize = none → id < 2 ^ 32 → exec (.weightSwitchDone n) s = .next
       (runSegmentEff id (setFacet n (addLoads [] { f with switching := none, planesSet := some set }) s)))) ∧
  ((∀ (id : Nat) (c : Cmd) (s : State), cmdOf s id = some c → c.phase = .ended → c.remote = none →
     exec (.commandComplete id) s = .next (completeCmd id s) ∧ cmdOf (completeCmd id s) id = none) ∧
   (∀ (n : Nat) (r : List Byte) (q : Machine.Queue) (s : State), SMap.look s.queues n = some q → q.source = 0 →
     (compRoom q = true → q.waiting = [] → (putRecord n r s).out = s.out ++
       [.hostWrite q.fn (q.compBase + 32 * (q.completed % 2 ^ q.compLog2)) (withPhase (queuePhase q) r)] ∧
       SMap.look (putRecord n r s).queues n = some { q with completed := (q.completed + 1) % 65536 }) ∧
     (compRoom q = false → (putRecord n r s).out = s.out ∧
       SMap.look (putRecord n r s).queues n = some { q with waiting := q.waiting ++ [r] })) ∧
   (∀ c : Cmd, (recordOf c).length = 32))

/-- R328, R332, R340, R342: a ready NOP or FENCE_WAIT has run and ended with OK; FENCE_SIGNAL signals its list in order; a signal
raises a fence to the larger value and is a regression where it is not larger. R331, R333: a COPY reads its source and writes
it to its target, a FILL writes its 8-byte pattern over and over, and SHADOW_INVALIDATE of a context of its own function
takes an invalidation. -/
def Obligations.QueueCommands : Prop :=
  ((∀ (id : Nat) (c : Cmd) (s : State), cmdOf s id = some c → mayStart s id = true → c.met = [] → c.late = false → ∃ t d,
     cmdOf t id = some d ∧ d.phase = .ended ∧ d.ran = true ∧ d.status = stOk ∧ d.startedAt = ltcOf s c.clk ∧
     t.dram = s.dram ∧ t.facets = s.facets ∧ t.queues = s.queues ∧ t.ctxs = s.ctxs ∧ t.lost = s.lost ∧
     (c.desc.payload = .nop → exec (.nop id) s = .next t) ∧
     (isFenceWait c.desc.payload = true → exec (.fenceWait id) s = .next t)) ∧
   (∀ (id : Nat) (c : Cmd) (q : Machine.Queue) (l : List (Nat × Nat)) (s : State), cmdOf s id = some c →
     mayStart s id = true → c.desc.payload = .fenceSignal l → SMap.look s.queues c.queue = some q →
     exec (.fenceSignal id) s = .next (finishCmd id (signalList id q l (startCmd id s)))) ∧
   (∀ (q : Machine.Queue) (i v n : Nat) (s t : State), readFence q i s = (.inl n, t) →
     (n < v → signalFence q i v s =
       (.inl false, recheckWaits q.facet (fenceAddr q i) (faWrite (facetVia s q.facet) q.facet 0 (fenceAddr q i) (toLe 8 v) t).2)) ∧
     (v ≤ n → signalFence q i v s = (.inl true, recheckWaits q.facet (fenceAddr q i)
       (raiseTo [q.fn] evFenceRegress q.fn i v none (confFacet t q.facet) (countRegress t)))))) ∧
  ((∀ (id : Nat) (host : List Byte) (c : Cmd) (s u t : State), cmdOf s id = some c → mayStart s id = true →
     u = startCmd id (dmaWorks (cmdMover s id c).cluster c.facet s) →
     (isCopy c.desc.payload = true → copyMove id host c u = (none, t) →
       exec (.copy id host) s = .next (finishCmd id t)) ∧
     (isFill c.desc.payload = true → fillMove id c u = (none, t) →
       exec (.fill id) s = .next (finishCmd id t)) ∧
     (∀ st d, isFill c.desc.payload = true → fillMove id c u = (some (.fail st d), t) →
       exec (.fill id) s = .next (finishCmd id (takeStop id (.fail st d) t))) ∧
     (∀ target all va pages x, c.desc.payload = .shadowInvalidate target all va pages → SMap.look s.ctxs target = some x →
       (x.fn = c.fn → all = true ∨ 0 < pages → exec (.shadowInvalidate id) s = .next
         (takeInval ⟨0, some id, c.fn, [target], false, va, pages * 65536, all, 0, []⟩ (startCmd id s))) ∧
       (x.fn ≠ c.fn → exec (.shadowInvalidate id) s = .next (endUnstarted id stBadHandle 0 s)))) ∧
   (∀ (p n k : Nat), k < n → (fillBytes p n)[k]? = (toLe 8 p)[k % 8]? ∧ (fillBytes p n).length = n))

/-- R418, R420, R431, R433: SEQ_CONFIGURE of an empty table, SEQ_ADMIT of a record that passes every check into the lowest free
slot, and SEQ_CANCEL of a sequence of its own context. R426, R434, R435, R437, R439, R450: a build begins when the last step
is over; its copies, the end of its target run and the deadlines of its sequences. -/
def Obligations.Serving : Prop :=
  (∀ (id : Nat) (c : Cmd) (f : Facet) (v : Machine.Serve) (s : State), cmdOf s id = some c → mayStart s id = true →
     facetOf s c.facet = some f → SMap.look s.serve c.facet = some v →
     (∀ a : CfgArgs, c.desc.payload = .configure a → configureOk f v a = true →
       exec (.seqConfigure id) s = .next (finishCmd id (setServe c.facet { v with
         configured := true, ladder := a.ladder, draftLadder := a.draftLadder, budget := a.budget, draftLen := a.draftLen
         kvLow := a.kvLow, kvArmed := v.kvArmed || v.kvLow != a.kvLow } (startCmd id s)))) ∧
     (∀ a : CfgArgs, c.desc.payload = .configure a → configureOk f v a = false →
       exec (.seqConfigure id) s = .next (endUnstarted id stBadHandle 0 s)) ∧
     (∀ (a : AdmitArgs) (image : List Byte) (slot : Nat) (d : List Byte × List Byte) (t : State), c.desc.payload = .seqAdmit a →
       v.configured = true → a.ladder = v.ladder → freeSlot s c.facet v = some slot →
       moverRead (cmdMover (startCmd id s) id c) 0 0 a.record 256 image (startCmd id s) = (.inl d, t) →
       admitStatus t c.facet f v a d.1 = none →
       exec (.seqAdmit id image) s = .next (finishCmd id (synced c.facet (setServe c.facet
         (enterSeq slot c (recordOfBytes d.1) f v a)) t))) ∧
     (∀ (x k : Nat) (q : Machine.Seq), c.desc.payload = .seqCancel x → slotOfSeq v x = some k → SMap.look v.seqs k = some q →
       (q.context = c.desc.context →
         exec (.seqCancel id) s = .next (finishCmd id (synced c.facet (cancelSeq c.facet k q) (startCmd id s)))) ∧
       (q.context ≠ c.desc.context → exec (.seqCancel id) s = .next (endUnstarted id stBadHandle 0 s)))) ∧
  ((∀ (n : Nat) (rings : List RingRead) (s : State), n < 64 →
     (mayBuild s n = true → exec (.stepBuild n rings) s = .next (synced n (buildStep n rings) s)) ∧
     (mayBuild s n = false → exec (.stepBuild n rings) s = .next s)) ∧
   (∀ (n : Nat) (v : Machine.Serve) (p : Machine.Step) (s : State), n < 64 → SMap.look s.serve n = some v →
     v.step = some p → p.copiesDone = false →
     exec (.stepCopiesDone n) s = .next (tryStartStep n (updStep n (fun q => { q with copiesDone := true })
       (p.copies.foldl (fun t x => copyBlock n x t) s)))) ∧
   (∀ (n : Nat) (f : Facet) (v : Machine.Serve) (p : Machine.Step) (s t : State), n < 64 → facetOf s n = some f →
     SMap.look s.serve n = some v → v.step = some p → p.started = true → p.done = false → p.run = 0 → p.due = 0 →
     f.switching = none → f.eclipse = none → coresEnded s (stepRun n) f.cores f.stepMet = true →
     t = freeCores (stepRun n) f.cores (checkCores f.cores s) → (∃ g, facetOf t n = some g ∧ g.stepMet = []) →
     exec (.stepRunComplete n) s = .next (updServe n (fun w => { w with
       steps := w.steps + 1, step := some { p with done := true, started := false } })
       (divideAcct n v p (countRun n f v p true t)))) ∧
   (∀ (n x k : Nat) (v : Machine.Serve) (q : Machine.Seq) (s : State), n < 64 → SMap.look s.serve n = some v →
     slotOfSeq v x = some k → SMap.look v.seqs k = some q → q.leave = none → q.state = 1 ∨ q.state = 2 →
     (q.firstDeadline ≠ 0 → exec (.seqDeadlineExpiry n x false) s = .next (missDeadline n k q false s)) ∧
     (q.firstDeadline = 0 → exec (.seqDeadlineExpiry n x false) s = .next s)))

/-- R443: a step emits one token more than the drafts it accepts, and accepts no more than the limit; the accepted path starts at
the root. -/
def Obligations.EmittedTokens : Prop :=
  ∀ (res nodes : List (Nat × Nat)) (limit fuel : Nat),
    (walkTree res nodes limit fuel 0 [] []).1.length = (walkTree res nodes limit fuel 0 [] []).2.length + 1 ∧
    (walkTree res nodes limit fuel 0 [] []).2.length ≤ limit ∧
    (∀ i k, (walkTree res nodes limit fuel 0 [] []).2[i]? = some k → 1 ≤ k ∧ k ≤ nodes.length ∧
      (nodes.getD (k - 1) (0, 0)).2 = (if i = 0 then 0 else (walkTree res nodes limit fuel 0 [] []).2.getD (i - 1) 0) ∧
      (walkTree res nodes limit fuel 0 [] []).1[i]?.map (·.1) = some (nodes.getD (k - 1) (0, 0)).1)

/-- R454, R455, R458, R459: the steps of an export, from the command to the answer of the offer, of a poll and of a reclaim.
R456, R457: the steps of an import, from the command to the answer of the release. -/
def Obligations.Handoffs : Prop :=
  ((∀ (id k : Nat) (c : Cmd) (f : Facet) (a : ExportArgs) (v : Machine.Serve) (q : Machine.Seq) (s : State),
     cmdOf s id = some c → mayStart s id = true → c.desc.payload = .stateExport a → facetOf s c.facet = some f →
     f.tier.kind ≠ 0 → SMap.look s.serve c.facet = some v → slotOfSeq v a.seqId = some k → SMap.look v.seqs k = some q →
     exportOk q c a = true → q.state = 2 →
     exec (.stateExport id) s = .next (updSeq c.facet k
       (fun y => { y with exp := some ⟨1, some id, a.device, a.facet, 0, none, false⟩ }) (startCmd id s))) ∧
   (∀ (n x k : Nat) (v : Machine.Serve) (q : Machine.Seq) (e : Machine.Export) (s : State), n < 64 →
     SMap.look s.serve n = some v → slotOfSeq v x = some k → SMap.look v.seqs k = some q → q.exp = some e →
     (e.step = 1 → q.state = 3 → exec (.exportLastPassDone n x) s = .next (synced n (readWord n k x q.rec_.tier 2) s)) ∧
     (∀ w, e.step = 2 → acceptWord (globalOf s n) w = true →
       exec (.exportWordRead n x (.word w)) s = .next (synced n (exportWrites n k q e w) s)) ∧
     (∀ w, e.step = 2 → acceptWord (globalOf s n) w = false →
       exec (.exportWordRead n x (.word w)) s = .next (synced n (exportLost n k q e false) s)) ∧
     (e.step = 2 → exec (.exportWordRead n x .failed) s = .next (synced n (exportLost n k q e false) s)) ∧
     (e.step = 3 → exec (.exportWritesAcked n x true) s = .next (synced n (sendOffer n k q e e.word) s)) ∧
     (e.step = 3 → exec (.exportWritesAcked n x false) s = .next (synced n (exportLost n k q e false) s)) ∧
     (e.step = 4 → e.evict = false →
       exec (.exportCasAnswer n x .won) s = .next (synced n (offerStands n k e q.rec_.offeredEpoch) s)) ∧
     (e.step = 4 → exec (.exportCasAnswer n x .failed) s = .next (synced n (exportLost n k q e true) s)) ∧
     (∀ w, e.step = 5 → w = ownWord (q.rec_.offeredEpoch + 1) e.device e.facet 2 →
       exec (.exportPoll n x (.word w)) s = .next
         (synced n (fun t => handedOff n k q e (tierRead n x q.rec_.tier 8 t)) s)) ∧
     (e.step = 5 → e.deadline ≠ none → e.word = ownWord q.rec_.offeredEpoch e.device e.facet 1 →
       exec (.exportOfferDeadline n x) s = .next (synced n (beginReclaim n k) s)) ∧
     (e.step = 8 → exec (.exportReclaimAnswer n x .won) s = .next (synced n (fun t =>
       raiseServe evSeqHandoff n (q.rec_.seqId + 2 ^ 32) (leaveNow n k 8 stHandoffLost true t)) s)))) ∧
  ((∀ (id : Nat) (c : Cmd) (f : Facet) (a : ImportArgs) (v : Machine.Serve) (s : State), cmdOf s id = some c →
     c.desc.payload = .stateImport a → facetOf s c.facet = some f → SMap.look s.serve c.facet = some v →
     (mayStart s id = true → f.tier.kind ≠ 0 → v.configured = true → idTaken s c.facet v a.seqId = false →
       exec (.stateImport id) s = .next (updCmd id (fun x => { x with stage := 1 }) (startCmd id s))) ∧
     (∀ k, c.phase = .running → c.stage = 1 → freeSlot s c.facet v = some k →
       exec (.importSlotReserved id) s = .next (tierRead c.facet a.seqId (a.tier + 0x100) 256
         (tierRead c.facet a.seqId a.tier 8 (updCmd id (fun x => { x with stage := 2, slot := k }) s)))) ∧
     (∀ (b : List Byte) (r : SeqRecord) (w : Nat) (me : Nat × Nat), r = recordOfBytes b → c.phase = .running → c.stage = 2 → a.resolve = false →
       importFits f v r = true → me = globalOf s c.facet →
       (w = ownWord (w / 2 ^ 32) me.1 me.2 1 → exec (.importWordRead id (.word w) b) s = .next
         (tierCas c.facet a.seqId a.tier w (ownWord (w / 2 ^ 32 + 1) me.1 me.2 2)
           (updCmd id (fun x => { x with stage := 3, word := w, image := some r }) s))) ∧
       (w ≠ ownWord (w / 2 ^ 32) me.1 me.2 1 → exec (.importWordRead id (.word w) b) s = .next
         (importFails id stHandoffLost s)) ∧
       exec (.importWordRead id .failed b) s = .next (importFails id stStateLost s)) ∧
     (∀ r, c.phase = .running → c.stage = 3 → c.image = some r →
       exec (.importCasAnswer id .won) s = .next (enterImport id c a v r (c.word / 2 ^ 32 + 1) s)) ∧
     (c.phase = .running → c.stage = 3 →
       exec (.importCasAnswer id .compareFailed) s = .next (importFails id stHandoffLost s))) ∧
   (∀ (n x k : Nat) (v : Machine.Serve) (q : Machine.Seq) (d : List Byte) (s : State), n < 64 →
     SMap.look s.serve n = some v → slotOfSeq v x = some k → SMap.look v.seqs k = some q → q.reading = true →
     (exec (.importBlockReadsDone n x true d) s = .next
       (tierCas n x q.rec_.tier (ownWord q.importEpoch (globalOf s n).1 (globalOf s n).2 2)
         (ownWord q.importEpoch (globalOf s n).1 (globalOf s n).2 3)
         (updServe n (fun w => { w with imports := w.imports + 1, releases := w.releases ++ [x] })
           (updSeq n k (fun y => { y with reading := false, ready := true }) (importBlocks n v q.blocks d s))))) ∧
     (exec (.importBlockReadsDone n x false d) s = .next (synced n (leaveNow n k 5 stStateLost false) s))) ∧
   (∀ (n x : Nat) (v : Machine.Serve) (s : State), n < 64 → SMap.look s.serve n = some v → x ∈ v.releases →
     exec (.importReleaseAnswer n x .won) s = .next (setServe n { v with releases := v.releases.erase x } s) ∧
     exec (.importReleaseAnswer n x .failed) s = .next
       (raiseServe evTierReleaseFail n x (setServe n { v with releases := v.releases.erase x } s))))

/-- R112, R337, R481, R482, R484, R490: COMPUTE_RESET and a time limit of work on cores start an eclipse or join the one in
progress; any other command that runs past its limit is abandoned with TIME_LIMIT. That the limit of a command which a
calibration holds ends it unstarted is log 39's reading of R112 beside R337. R483, R485, R486: the phases of an eclipse:
fenced, the end of the penumbra, cleared, calibrated with no engine lost, and its end with ECLIPSE once the planes are
loaded. What the calibrations measure is an operand (log 8). -/
def Obligations.Eclipses : Prop :=
  ((∀ (fn : Nat) (h : Req) (b : List Byte) (s : State), ∀ n, n = field b 0 1 →
     (∀ f, AskedJob fn layReset true h b s → facetOf s n = some f →
       (f.state ≠ 4 → exec (.computeReset fn) s = .next
         (startEclipse n 2 [ticketOf h opComputeReset] [] (taken h opComputeReset [] s))) ∧
       (f.state = 4 → exec (.computeReset fn) s = .next
         (requestDone (ticketOf h opComputeReset) syOk (taken h opComputeReset [] s)))) ∧
     (Asked fn layReset true h b s → 16 ≤ h.respLen → facetOf s n = none →
       exec (.computeReset fn) s = .next (answeredWith h { status := syNotFound } s))) ∧
   (∀ (id : Nat) (c : Cmd) (s : State), id < 2 ^ 32 → cmdOf s id = some c →
     (c.phase = .running → isRun c.desc.payload = true →
       exec (.commandTimeLimit id) s = .next (startEclipse c.facet 1 [] [id] s)) ∧
     (c.phase = .running → countsStarted c = true → isRun c.desc.payload = false → exec (.commandTimeLimit id) s = .next
       (finishCmd id (meetStatus id stTimeLimit 0 (dropWaiters (fun w => w == id) s)))) ∧
     (calWaits s c = true → exec (.commandTimeLimit id) s = .next (endUnstarted id stTimeLimit 0 s))) ∧
   (∀ (n cause : Nat) (tk : List Ticket) (l : List Nat) (f : Facet) (s : State), facetOf s n = some f →
     (f.eclipse = none → facetOf (startEclipse n cause tk l s) n = some { f with
       eclipse := some { phase := 1, cause := cause, tickets := tk, cores := f.cores, startedAt := mcNow s,
                         limited := NSet.ofList l } }) ∧
     (∀ x, f.eclipse = some x → facetOf (startEclipse n cause tk l s) n = some { f with
       eclipse := some { x with tickets := x.tickets ++ tk, limited := NSet.union x.limited l } }))) ∧
  (∀ (n : Nat) (f : Facet) (x : Machine.Eclipse) (s : State), n < 64 → s.pwr.state ≠ 4 → facetOf s n = some f →
     f.eclipse = some x →
     (x.phase = 1 → exec (.eclipseFenced n) s = .next (updEclipse n (fun y => { y with phase := 2 }) s)) ∧
     (x.phase = 2 → exec (.eclipsePenumbraEnd n) s = .next (penumbraEnd n f x s)) ∧
     (x.phase = 3 → s.fw.handover = false → exec (.eclipseCleared n []) s = .next
       (forAll (NSet.diff x.cores []) (fun c => updCore c fun y => { y with cleared := true })
         (updEclipse n (fun y => { y with phase := 4 }) (loseCores n [] s)))) ∧
     (x.phase = 3 → s.fw.handover = true → ∀ l, exec (.eclipseCleared n l) s = .next s) ∧
     (x.phase = 4 → ∀ errors es t, es = (NSet.diff x.cores x.failed).flatMap enginesOf → t = forAll es (checkEngine errors) s →
       (∀ e ∈ es, (engineOf s e).status ≠ 3 → (engineOf t e).status ≠ 3) →
       exec (.eclipseCalibrated n errors) s = .next
         (updEclipse n (fun y => { y with phase := 5 }) (reloadAll n (loseCores n [] t)))) ∧
     (∀ us, x.phase = 5 → f.loads = [] → exec (.eclipse n us) s = .next (endEclipse n us f x s)) ∧
     (∀ us, x.phase = 5 → f.loads ≠ [] → exec (.eclipse n us) s = .next s))

/-- R367: the replacement of a failed core ends when the spare is cleared, in service and loaded: and its facet is at a command
boundary: the segments run on it, and FACET_CORE_REPLACED is raised. R471, R474, R506: a publication shows each context of
its kind as it stands; a reconciliation adds each context's part of the measured energy and starts a new window. R475, R477:
the windows of the slowdown and of the overload monitor: the counts start again, and an event is raised once until the
measure has come back. R478, R479: a snapshot records what each core of a cluster waits on; a cycle of such waits raises
HANG, and an eclipse starts where it is enabled. -/
def Obligations.FacetWatch : Prop :=
  (∀ (n c : Nat) (f : Facet) (r : Replace) (s : State), n < 64 → c < 544 → facetOf s n = some f → f.replace = some r →
     r.failed = c → (coreOf s r.spare).cleared = true → coreInService s r.spare = true →
     (∀ e ∈ f.loads, coreOfEngine (e.1 / 2) ≠ r.spare) → f.running = none → stepRunning s n = false →
     exec (.coreReplacementDone n c) s = .next (nextFailure n
       (raiseFw [0, f.fn] evFacetCoreReplaced f.fn n (c + r.spare * 2 ^ 16) none f.confidential
         (rebuildTrees n (setFacet n { substLadders c r.spare f with replace := none } s))))) ∧
  ((∀ (conf : Bool) (s : State), s.pwr.dusk = false → ∃ t, exec (.accountingPublish conf) s = .next t ∧
     (∀ n c, SMap.look s.ctxs n = some c → SMap.look t.ctxs n =
       some (if confFacet s c.facet = conf then { c with published := some (c.acct, mcNow s) } else c)) ∧
     (∀ f, f < 64 → (fnOf t f).published = some (fnTotals t f, mcNow s)) ∧ t.facets = s.facets ∧ t.cmds = s.cmds) ∧
   (∀ s : State, s.pwr.dusk = true → ∀ conf, exec (.accountingPublish conf) s = .next s) ∧
   (∀ (m : Nat) (s : State), ∃ t, exec (.energyReconcile m) s = .next t ∧ ∀ total,
     total = s.ctxs.foldl (fun a e => a + e.2.acct.modelled) (s.fns.foldl (fun a e => a + e.2.modelled) 0) →
     (∀ n c, SMap.look s.ctxs n = some c → SMap.look t.ctxs n = some { c with acct := { c.acct with
         energy := c.acct.energy + attributed m total c.acct.modelled, modelled := 0 } }) ∧
     (total = 0 → t.pwr.unattr = s.pwr.unattr + m) ∧ (0 < total → m ≤ total * 20 → t.pwr.unattr = s.pwr.unattr))) ∧
  ((∀ (n : Nat) (f : Facet) (s : State), n < 64 → facetOf s n = some f → ∀ g,
     g = { f with slowDur := 0, slowEst := 0, slowN := 0 } →
     (f.slowN < 4 → exec (.slowdownWindow n) s = .next (setFacet n g s)) ∧
     (4 ≤ f.slowN → f.slowDur * 256 ≤ s.reg.slowThr * f.slowEst →
       exec (.slowdownWindow n) s = .next (setFacet n { g with slowArmed := true } s)) ∧
     (4 ≤ f.slowN → s.reg.slowThr * f.slowEst < f.slowDur * 256 → s.reg.slowEn = true → f.slowArmed = true →
       exec (.slowdownWindow n) s = .next (raiseTo [0, f.fn] evSlowdown f.fn n
         (Nat.min 65535 (f.slowDur * 256 / Nat.max 1 f.slowEst) + Nat.min 65535 f.slowN * 2 ^ 16) none f.confidential
         (setFacet n { g with slowArmed := false } s))) ∧
     (4 ≤ f.slowN → s.reg.slowThr * f.slowEst < f.slowDur * 256 → f.slowArmed = false →
       exec (.slowdownWindow n) s = .next (setFacet n g s))) ∧
   (∀ (n : Nat) (f : Facet) (s : State), n < 64 → facetOf s n = some f → ∀ g, g = { f with checked := 0, missed := 0 } →
     (f.missed * 1000 ≤ s.reg.overThr * f.checked →
       exec (.overloadWindow n) s = .next (setFacet n { g with overRun := 0, overArmed := true } s)) ∧
     (s.reg.overThr * f.checked < f.missed * 1000 → f.overRun < 9 →
       exec (.overloadWindow n) s = .next (setFacet n { g with overRun := f.overRun + 1 } s)) ∧
     (s.reg.overThr * f.checked < f.missed * 1000 → 9 ≤ f.overRun → s.reg.overEn = true → f.overArmed = true →
       exec (.overloadWindow n) s = .next (raiseTo [0, f.fn] evOverload f.fn n
         (f.missed * 1000 / Nat.max 1 f.checked % 65536) none f.confidential
         (setFacet n { g with overRun := f.overRun + 1, overArmed := false } s))))) ∧
  ((∀ (k c : Nat) (s : State), k < 32 → ∃ t, exec (.waitForSnapshot k) s = .next t ∧
     (c / 17 = k → coreOf t c = { coreOf s c with snap := (coreOf s c).waitFor.map fun w => (w, waitsOn s c w) }) ∧
     (c / 17 ≠ k → coreOf t c = coreOf s c) ∧ t.facets = s.facets ∧ t.cmds = s.cmds) ∧
   (∀ (n : Nat) (l : List Nat) (f : Facet) (s : State), n < 64 → facetOf s n = some f → s.reg.detectEn = true →
     f.eclipse = none → hangCycle s f l = true →
     exec (.hangDetect n l) s = .next (if s.reg.hangEclipse then startEclipse n 0 [] []
         (raiseTo [0, f.fn] evHang f.fn n (l.headD 0 + l.length * 2 ^ 16) none f.confidential s)
       else raiseTo [0, f.fn] evHang f.fn n (l.headD 0 + l.length * 2 ^ 16) none f.confidential s)) ∧
   (∀ (n : Nat) (l : List Nat) (f : Facet) (s : State), n < 64 → facetOf s n = some f → hangCycle s f l = false →
     exec (.hangDetect n l) s = .next s))

/-- R506: the attributed parts of a window are never more than its measured energy. -/
def Obligations.AttributionBounded : Prop :=
  ∀ (m : Nat) (l : List Nat), (l.map (attributed m l.sum)).sum ≤ m

/-- R394 to R397, R409: enable starts training, disable takes the link down, and the training, the retraining and the lanes that
fail; a lane fails above 1,600 corrected symbols in a local ms. -/
def Obligations.VoxlinkTraining : Prop :=
  ∀ (p : Nat) (s : State), p < 6 → ∀ x, x = portOf s p →
    (x.enable = false → portPowered s p = true →
      exec (.vxlPortEnable p) s = .next (startTraining p (setPort p { x with enable := true } s))) ∧
    (x.enable = true → x.state ≠ 5 → exec (.vxlPortDisable p) s = .next
      (linkDown p (idleState x) 2 (setPort p { x with enable := false } s))) ∧
    (x.state = 3 → exec (.vxlRetrain p) s = .next (setPort p { x with state := 4 } s)) ∧
    (x.enable = true → x.state = 5 → portPowered s p = true → exec (.vxlTrainRetry p) s = .next (startTraining p s)) ∧
    (∀ l id role valid, x.state = 1 → anyWidth (portWidths (failLanes l x)) = true →
      exec (.vxlTrainingDone p true l id role valid) s = .next (linkUp p id role valid (setPort p (failLanes l x) s))) ∧
    (∀ l id role valid, x.state = 1 → exec (.vxlTrainingDone p false l id role valid) s = .next
      (linkDown p 5 0 (setPort p (failLanes l x) s))) ∧
    (∀ l a b, a < 4096 → b < 4096 → x.state = 4 → anyWidth (portWidths (failLanes l x)) = true →
      exec (.vxlRetrainDone p true l a b) s = .next (retrained p a b (failLanes l x) s)) ∧
    (∀ l a b, a < 4096 → b < 4096 → x.state = 4 → anyWidth (portWidths (failLanes l x)) = false →
      exec (.vxlRetrainDone p true l a b) s = .next (linkDown p 5 1 (setPort p (failLanes l x) s))) ∧
    (∀ k n, k < 16 → x.state = 3 →
      exec (.vxlLaneLockLoss p k) s = .next (setPort p { failLanes [k] x with state := 4 } (setPort p (failLanes [k] x) s)) ∧
      (1600 < n → exec (.vxlLaneErrorWindow p k n) s = .next
        (setPort p { failLanes [k] x with state := 4 } (setPort p (failLanes [k] x) s))) ∧
      (n ≤ 1600 → exec (.vxlLaneErrorWindow p k n) s = .next s))

/-- R390 to R393, R404, R410, R412: a good flit in its order is accepted, a bad one asks for a replay; naks, the replay limit,
the idle flit, credits, identities and the two registers of the ports. The error counts of the PRBS checker are free numbers
(log 7). -/
def Obligations.VoxlinkEcho : Prop :=
  ∀ (p half : Nat) (s : State), p < 6 → half < 2 → ∀ x, x = portOf s p →
    (∀ f : Flit, f.link < 2 → rxHalf s p f = half → x.state = 3 → linkWidth x half ≠ 3 →
      (f.good = false → exec (.vxlFlitReceive p f) s = .next
        (sendNak p half (setPort p { x with corr := satAdd 32 x.corr f.corrected } s))) ∧
      (f.good = true → f.kind = 0 → exec (.vxlFlitReceive p f) s = .next
        (takeAck p f (setPort p { x with corr := satAdd 32 x.corr f.corrected } s))) ∧
      (f.good = true → f.kind ≠ 0 → exec (.vxlFlitReceive p f) s = .next
        (takeSequenced p f (takeAck p f (setPort p { x with corr := satAdd 32 x.corr f.corrected } s))))) ∧
    (∀ a, a < 4096 → x.state = 3 → exec (.vxlNakReceive p half a) s = .next (drainPort p (resendAll p half
      (setPort p { setLink half { ackBuf a (linkOf x half) with
          buf := (ackBuf a (linkOf x half)).buf.map fun f => { f with replays := f.replays + 1 } } x with
        echo := satAdd 32 x.echo 1 } s)))) ∧
    (x.state = 3 → limitReached (linkOf x half) = true →
      exec (.vxlReplayLimit p half) s = .next (setPort p { x with state := 4 } s)) ∧
    (x.state = 3 → linkWidth x half ≠ 3 → exec (.vxlIdleTimer p half) s = .next
      (sendWire p half 0 0 (ackOf (linkOf x half)) false 0 0 0 none s)) ∧
    (∀ a b c, exec (.vxlCredit p half a b c) s = .next (drainPort p (setPort p (setLink half { linkOf x half with
      credReq := (linkOf x half).credReq + a, credRsp := (linkOf x half).credRsp + b
      credMsg := (linkOf x half).credMsg + c } x) s))) ∧
    (∀ id role valid, useHigh x half = false → exec (.vxlIdent p half id role valid) s = .next
      (setPort p { x with peerId := id, peerRole := role, peerValid := valid } s)) ∧
    (∀ v, v < 2 ^ 32 → (∀ e ∈ s.facets, e.2.halfPorts = []) → exec (.vxlDeviceIdWrite v) s = .next
      { s with vxl := { s.vxl with idValid := bit v 31 == 1, id := v % 65536 } }) ∧
    (∀ v, v < 2 ^ 32 → x.enable = true → x.check = true → exec (.vxlPrbsCtrlWrite p v) s = .next
      (setPort p { x with gen := bit v 31 == 1, check := bit v 30 == 1, pattern := bits v 29 28 } s)) ∧
    (∀ v, v < 2 ^ 32 → x.enable = false → x.check = false → bit v 30 = 1 → exec (.vxlPrbsCtrlWrite p v) s = .next
      (setPort p { x with gen := bit v 31 == 1, check := true, pattern := bits v 29 28, prbsFrom := some s.freeCtr, state := 6 }
        { s with freeCtr := s.freeCtr + 16 }))

/-- R405: a nonce that has been accepted under a key position is not accepted again, whatever was accepted since. -/
def Obligations.NonceOnce : Prop :=
  ∀ (q : LinkPos) (n : Nat) (l : List Nat), nonceOk q n = true →
    nonceOk (l.foldl (fun r k => if nonceOk r k then takeNonce k r else r) (takeNonce n q)) n = false

/-- R399 to R401: READ, WRITE, PRISM_WRITE, CAS and FETCHADD of a facet and context that are there are carried out at their
address and answered; one that is not admitted is answered ERROR with its code. -/
def Obligations.VoxlinkMemoryRequests : Prop :=
  ∀ (p src n : Nat) (t : Txn) (s : State), p < 6 → src < 65536 →
    (∀ e, admitReq t s = .inr e → ∀ r, r = answerError (facetByGlobal s t.masterDevice t.masterFacet) src t e s →
      exec (.vxlRead p src t) s = .next r ∧ exec (.vxlWrite p src t) s = .next r ∧
      exec (.vxlPrismWrite p src t) s = .next r ∧ exec (.vxlCas p src t) s = .next r ∧
      exec (.vxlFetchadd p src t) s = .next r) ∧
    (admitReq t s = .inl n → ∀ m u, m = remoteMover p src n t s → u = chargeTxn (some n) none t s →
      (t.context ≠ 0 → SMap.look s.vxl.failed m.cmd = none) →
      (∀ v, t.data.length ≤ (if t.encrypted then 200 else 224) → moverWrite m 0 0 t.addr t.data u = (none, v) →
        exec (.vxlWrite p src t) s = .next (answer (some n) src t 0x04 0 [] false v) ∧
        exec (.vxlPrismWrite p src t) s = .next (answer (some n) src t 0x04 0 [] false v)) ∧
      (∀ d v, 2 ≤ t.data.length → 1 ≤ readLen t → readLen t ≤ 4096 →
        moverRead m 0 0 t.addr (readLen t) (drawBytes (readLen t) u).1 (drawBytes (readLen t) u).2 = (.inl d, v) →
        exec (.vxlRead p src t) s = .next
          (sendData n src t (flitData v n) (ceilDiv (readLen t) (flitData v n)) t.addr d.1 v)) ∧
      (∀ fa v old w, t.addr % 8 = 0 → translate m.cluster m.via.cls m.ctx t.addr true m.cmd u = (.device fa, v) →
        (16 ≤ t.data.length → atomicAt m n fa (casOf t.data) v = (.inl old, w) →
          exec (.vxlCas p src t) s = .next (answer (some n) src t 0x07 0 (toLe 8 old) false w)) ∧
        (8 ≤ t.data.length → atomicAt m n fa (fun a => (a + ofLe (t.data.take 8)) % 2 ^ 64) v = (.inl old, w) →
          exec (.vxlFetchadd p src t) s = .next (answer (some n) src t 0x07 0 (toLe 8 old) false w))))

/-- R374, R400: a DISPATCH to a facet that holds the weight set becomes a command of the member; SIGNAL raises event counter 1 of
the named cores; responses end what they answer; ERROR and silence give it their status. R181, R373, R402: a contribution
starts a slot or is reduced into the one it matches, and a full slot ends; a slot that times out is freed and its work ends
with PEER_TIMEOUT; JOIN adds the member. -/
def Obligations.VoxlinkMessages : Prop :=
  (∀ (p src : Nat) (t : Txn) (s : State), p < 6 → src < 65536 →
     (∀ n f l, facetByGlobal s t.masterDevice t.masterFacet = some n → inEclipse s n = false → dispatchError s t = none →
       facetOf s n = some f → ladderOfSet f (t.addr % 2 ^ 32) = some l → ∀ u, u = chargeTxn (some n) none t s →
       exec (.vxlDispatch p src t) s = .next (markReady s.nextCmd { u with
         cmds := SMap.put u.cmds s.nextCmd (dispatchCmd s p src n l f t), nextCmd := s.nextCmd + 1 })) ∧
     (∀ n f, admitReq t s = .inl n → facetOf s n = some f → f.eclipse = none → exec (.vxlSignal p src t) s = .next
       (forAll ((bitsOfBytes (t.data.take 64)).filterMap fun i => SMap.look (placementMap s f) i)
         (fun c u => bumpEvent c 1 u) (chargeTxn (some n) none t s))) ∧
     (∀ o, SMap.look s.vxl.outst t.tag = some o → o.dest = src → ∀ u, u = chargeTxn (some o.facet) (some o) t s →
       (o.op = 0x01 → t.last = true → exec (.vxlReadData p src t) s = .next (dropOut t.tag u)) ∧
       (o.op = 0x01 → t.last = false → exec (.vxlReadData p src t) s = .next u) ∧
       (o.op = 0x03 ∨ o.op = 0x18 → o.left ≤ 1 → exec (.vxlWriteAck p src t) s = .next (dropOut t.tag u)) ∧
       (o.op = 0x05 ∨ o.op = 0x06 → exec (.vxlAtomicData p src t) s = .next (dropOut t.tag u)) ∧
       (o.op = 0x10 → exec (.vxlDispatchDone p src t) s = .next (memberEnded o (t.addr % 256) 0 (dropOut t.tag u))) ∧
       (o.op = 0x30 → exec (.vxlJoinAck p src t) s = .next (finishCreate o.facet (dropOut t.tag u))) ∧
       (o.op ∈ [0x01, 0x03, 0x05, 0x06, 0x10, 0x18, 0x30] → exec (.vxlError p src t) s = .next (outFails o (statusOfError (t.addr % 256)) (dropOut t.tag u)))) ∧
     (∀ tag o, tag < 65536 → SMap.look s.vxl.outst tag = some o →
       exec (.peerTimeoutExpiry tag) s = .next (outFails o stPeerTimeout (dropOut tag s))) ∧
     (SMap.look s.vxl.outst t.tag = none → exec (.vxlReadData p src t) s = .next s ∧
       exec (.vxlWriteAck p src t) s = .next s ∧ exec (.vxlAtomicData p src t) s = .next s ∧
       exec (.vxlDispatchDone p src t) s = .next s ∧ exec (.vxlJoinAck p src t) s = .next s ∧
       exec (.vxlError p src t) s = .next s)) ∧
  (∀ (p src n : Nat) (t : Txn) (s : State), p < 6 → src < 65536 →
     (∀ y u, facetByGlobal s t.masterDevice t.masterFacet = some n → inEclipse s n = false → t.rsv = false →
       y = { collSlot n t with cores := collCores s src t } → y.expected ≠ 0 → y.hop ≠ 7 → u = chargeTxn (some n) none t s →
       (SMap.look s.vxl.slots (p * 256 + t.addr % 256) = none →
         exec (.vxlCollective p src t) s = .next (joinColl (p * 256 + t.addr % 256) y u)) ∧
       (∀ x, SMap.look s.vxl.slots (p * 256 + t.addr % 256) = some x → collMatches x y = true →
         exec (.vxlCollective p src t) s = .next (joinColl (p * 256 + t.addr % 256) { x with
           got := x.got + 1, elems := List.zipWith (collReduce x.op) x.elems y.elems, cores := NSet.union x.cores y.cores } u))) ∧
     (∀ slot x id, SMap.look s.vxl.slots (p * 256 + slot) = some x → runningWork s x.facet = some id →
       exec (.collectiveSlotTimeout p slot) s = .next (meetStatus id stPeerTimeout 0
         { s with vxl := { s.vxl with slots := SMap.del s.vxl.slots (p * 256 + slot) } })) ∧
     (∀ f, s.vxl.idValid = true → t.masterDevice = s.vxl.id → t.rsv = false → facetOf s t.masterFacet = some f →
       f.member = false → f.memberCount ≠ 0 → f.state ≠ 4 → f.memberDevs.length < f.memberCount →
       exec (.vxlJoin p src t) s = .next (takeJoin t.masterFacet src f t s)))

/-- R211, R286, R289: BAR2 reads, writes and atomics of the facet that the window shows are carried out at the line's home; a
window that shows none aborts reads and discards writes. A range with a line that a transaction blocks waits at its home
(R248): the row then changes nothing. A poisoned line is answered with poisoned data. R13, R14, R291: a write of a register
of a function's own region has its field's effect, and one that a function may not make, or of an unassigned offset, has
none. -/
def Obligations.HostWindow : Prop :=
  (∀ (a : Nat) (s : State), hostUp s = true →
     (windowFacet s = none →
       (∀ n, a + n ≤ 2 ^ 39 → exec (.bar2Read a n) s = .next (abortRead s)) ∧
       (∀ d, a + d.length ≤ 2 ^ 39 → exec (.bar2Write a d) s = .next (discardWrite s)) ∧
       (∀ k n x y, a + n ≤ 2 ^ 39 → exec (.bar2Atomic a k n x y) s = .next (abortRead s))) ∧
     (∀ f, windowFacet s = some f →
       ∀ v, v = fnVia s (ownerOf s f) →
       (∀ n, a + n ≤ 2 ^ 39 → rangeWaits v f a n false s = true → exec (.bar2Read a n) s = .next s) ∧
       (∀ n d t, a + n ≤ 2 ^ 39 → rangeWaits v f a n false s = false → faRead v f 1 a n s = (.inl d, t) →
         exec (.bar2Read a n) s = .next (emit (.completion (some d) false) t)) ∧
       (∀ n l t, a + n ≤ 2 ^ 39 → rangeWaits v f a n false s = false → faRead v f 1 a n s = (.inr (stDataPoisoned, l), t) →
         exec (.bar2Read a n) s = .next (poisonRead n t)) ∧
       (∀ d t, a + d.length ≤ 2 ^ 39 → rangeWaits v f a d.length true s = false → faWrite v f 1 a d s = (none, t) →
         exec (.bar2Write a d) s = .next t) ∧
       (∀ d e t, a + d.length ≤ 2 ^ 39 → rangeWaits v f a d.length true s = false → faWrite v f 1 a d s = (some e, t) →
         exec (.bar2Write a d) s = .next (discardWrite t)) ∧
       (∀ k n x y d t, (n = 4 ∨ n = 8) → a + n ≤ 2 ^ 39 → a % n = 0 → k ≤ 2 → rangeWaits v f a n true s = false →
         faRead v f 1 a n s = (.inl d, t) →
         exec (.bar2Atomic a k n x y) s = .next (emit (.completion (some d) false)
           (faWrite v f 1 a (toLe n (atomicNew k n x y (ofLe d))) t).2)) ∧
       (∀ k n x y, a + n ≤ 2 ^ 39 → rangeWaits v f a n true s = false → atomicOk a k n = false →
         exec (.bar2Atomic a k n x y) s = .next (abortRead s)))) ∧
  (∀ (f v : Nat) (s : State), f < 64 → v < 2 ^ 32 → hostUp s = true → fnExists s f = true → ∀ r, r = fnOf s f →
     exec (.registerWrite f 0x1004 v false) s = .next (setFn f { r with reqAddr := setHigh r.reqAddr v } s) ∧
     exec (.registerWrite f 0x1010 v false) s = .next (setFn f { r with
       done := keepBit r.done v 31, overrun := keepBit r.overrun v 29 } s) ∧
     (evcOff r = true → exec (.registerWrite f 0x2010 v false) s = .next
       (setFn f { r with ringSize := clampNat 6 16 (v % 32) } s)) ∧
     (evcOff r = false → exec (.registerWrite f 0x2010 v false) s = .next (setFn f r s)) ∧
     (∀ k, k < 8 → exec (.registerWrite f (0x2020 + 4 * k) v false) s = .next
       (setFn f { r with disabled := writeEnable k v r.disabled } s)) ∧
     exec (.registerWrite f 0x10000 v false) s = .next (dbSubmitEff f (bits v 29 16) (v % 65536) s) ∧
     (∀ o, 0x100000 ≤ o → o < 2 ^ 26 → f ≠ 0 → exec (.registerWrite f o v false) s = .next s) ∧
     (∀ o, o < 2 ^ 26 → o % 4 ≠ 0 → exec (.registerWrite f o v false) s = .next s) ∧
     (f = 0 → exec (.registerWrite f 0x106400 v false) s = .next { s with reg := errCtrlWrite v s.reg }) ∧
     (f = 0 → exec (.registerWrite f 0x102000 v false) s = .next { s with reg := sharingWrite 0x102000 v s.reg }))

/-- R286, R311, R378 to R380, R536: configuration accesses, a function reset, the removal of functions, and the states of a TDISP
interface. -/
def Obligations.FunctionControl : Prop :=
  ∀ (f : Nat) (s : State), f < 64 → hostUp s = true →
    (∀ w o v, o < 4096 → o % 4 = 0 → v < 2 ^ 32 → configReady s = false →
      exec (.configSpaceAccess f w o v) s = .next (emit (.configRetry f) s)) ∧
    (∀ o v, o < 4096 → o % 4 = 0 → v < 2 ^ 32 → configReady s = true → fnExists s f = true →
      exec (.configSpaceAccess f false o v) s = .next
        (emit (.completion (some (toLe 4 (configRead s f o))) false) s) ∧
      exec (.configSpaceAccess f true o v) s = .next (configWrite f o v s)) ∧
    (fnExists s f = true → ∃ t, exec (.functionLevelReset f) s = .next t ∧ (fnOf t f).outstanding = false ∧
      (fnOf t f).accepted = [] ∧ (fnOf t f).evcMode = 0 ∧ (fnOf t f).pendBits = [] ∧ (fnOf t f).logCount = 0 ∧
      (fnOf t f).tdi = 0 ∧ t.fuses = s.fuses) ∧
    (s.reg.numVFs ≤ f → exec (.numvfsLower f) s = .next s) ∧
    (f < s.reg.numVFs → ∃ t, exec (.numvfsLower f) s = .next t ∧ t.reg.numVFs = f) ∧
    (fnExists s f = true → mayLock s f = true → exec (.tdispLockInterface f) s = .next
      (tdispSend f tdLocked (setFn f { fnOf s f with tdi := 1 } s))) ∧
    (fnExists s f = true → mayLock s f = false →
      exec (.tdispLockInterface f) s = .next (tdispSend f tdError s)) ∧
    (fnExists s f = true → (fnOf s f).tdi = 1 → exec (.tdispStartInterface f) s = .next
      (tdispSend f tdStarted (setFn f { fnOf s f with tdi := 2 } s))) ∧
    (fnExists s f = true → (fnOf s f).tdi ≠ 1 → exec (.tdispStartInterface f) s = .next (tdispSend f tdError s))

/-- R302, R305 to R307: the modes of the event controller, its ring head, its pending words and its status bits. R303: an event
kind whose EVC_ENABLE bit is 0 is neither delivered nor logged, and no other function hears of it. -/
def Obligations.EventControl : Prop :=
  (∀ (f v : Nat) (s : State), f < 64 → hostUp s = true → fnExists s f = true → ∀ r, r = fnOf s f →
     (v < 2 ^ 32 → r.evcMode = 1 → v % 4 = 2 →
       exec (.evcModeWrite f v) s = .next (setFn f { r with modeError := true } s)) ∧
     (v < 2 ^ 32 → r.evcMode = 2 → v % 4 = 1 →
       exec (.evcModeWrite f v) s = .next (setFn f { r with modeError := true } s)) ∧
     (∀ m, v < 2 ^ 32 → evcOff r = false → (m = 0 ∨ m = 3) → v % 4 = m → exec (.evcModeWrite f v) s = .next
       (setFn f (enterOff m { r with ringVector := bits v 14 8 }) (setFn f { r with ringVector := bits v 14 8 } s))) ∧
     (v < 2 ^ 32 → evcOff r = true → v % 4 = 2 → exec (.evcModeWrite f v) s = .next
       (enterQueue f (setFn f { r with ringVector := bits v 14 8 } s))) ∧
     (v < 2 ^ 32 → evcOff r = true → v % 4 = 1 → exec (.evcModeWrite f v) s = .next
       (enterPending f (setFn f { r with ringVector := bits v 14 8 } s))) ∧
     (v < 65536 → r.evcMode = 2 → headValid r v = false →
       exec (.evcRingHeadWrite f v) s = .next (setFn f { r with headError := true } s)) ∧
     (v < 65536 → r.evcMode = 2 → headValid r v = true → v = r.tail →
       exec (.evcRingHeadWrite f v) s = .next (flushRing f (setFn f { r with head := v } s))) ∧
     (v < 65536 → r.evcMode = 2 → headValid r v = true → v ≠ r.tail → exec (.evcRingHeadWrite f v) s = .next
       (flushRing f (sendVector f r.ringVector (setFn f { r with head := v } s)))) ∧
     (∀ w m, w < 128 → m < 2 ^ 64 → r.evcMode ≠ 1 → exec (.evcPendingAck f w m) s = .next (setFn f { r with
       pendBits := r.pendBits.filter (fun n => !(n / 64 == w && bit m (n % 64) == 1))
       inService := NSet.del r.inService w } s)) ∧
     (v < 2 ^ 32 → exec (.evcStatusWrite f v) s = .next (setFn f { r with
       modeError := keepBit r.modeError v 31, lost := keepBit r.lost v 29
       lostCount := if bit v 29 = 1 then 0 else r.lostCount
       restored := keepBit r.restored v 28, headError := keepBit r.headError v 27 } s))) ∧
  (∀ (g : Glint) (f : Nat) (s : State), (g.kind ∈ (fnOf s f).disabled → deliver g f s = s) ∧
     (∀ k, k ≠ f → fnOf (deliver g f s) k = fnOf s k) ∧
     (g.kind ∉ (fnOf s f).disabled → (fnOf s f).evcMode ≠ 2 →
       (fnOf (deliver g f s) f).logCount = (fnOf s f).logCount + glintSize g ∧ g.kind ∈ (fnOf (deliver g f s) f).pendBits))

/-- R306: the holding buffer of a function never holds more than 64 glints beside its GLINT_LOST markers. -/
def Obligations.HoldingBuffer : Prop :=
  ∀ (g : Glint) (f k : Nat) (s : State), heldCount (fnOf s k).holding ≤ 64 →
    heldCount (fnOf (deliver g f s) k).holding ≤ 64 ∧ heldCount (fnOf (flushRing f s) k).holding ≤ 64

/-- R518 to R520: the SPDM exchange of a function: version, capabilities, algorithms, then what needs them and the identity keys;
a request out of its order is an error and changes nothing. The message codes, the digest and chain contents and the verdict
on the offered algorithms are the model's (log 12). R519, R521: the requests of a session, and the vendor-defined ops
GET_PQ_CHAIN, PQ_SIGN and GET_NONCE. The verdict on a MAC is an operand, and the chain's and a signature's bytes, the nonce's
value and the message codes are the model's (log 12); a row of a session that does not exist is an error (log 12). -/
def Obligations.SpdmAndSessions : Prop :=
  (∀ (f : Nat) (s : State), f < 64 → hostUp s = true → fnExists s f = true →
     exec (.spdmGetVersion f) s = .next (doeSend f dmVersion [0x12, 0x13] (setSpdm f { version := true } s)) ∧
     ((spdmOf s f).version = true → exec (.spdmGetCapabilities f) s = .next
       (doeSend f dmCapabilities [] (setSpdm f { spdmOf s f with caps := true } s))) ∧
     ((spdmOf s f).version = false → exec (.spdmGetCapabilities f) s = .next (doeError f deUnexpected s)) ∧
     ((spdmOf s f).caps = true → exec (.spdmNegotiateAlgorithms f true) s = .next
       (doeSend f dmAlgorithms [] (setSpdm f { spdmOf s f with algs := true } s)) ∧
       exec (.spdmNegotiateAlgorithms f false) s = .next (doeError f deInvalid s)) ∧
     ((spdmOf s f).caps = false → ∀ b, exec (.spdmNegotiateAlgorithms f b) s = .next (doeError f deUnexpected s)) ∧
     ((spdmOf s f).algs = true → s.fuses.identityKeys = true →
       exec (.spdmGetDigests f) s = .next (doeSend f dmDigests [0x01] s) ∧
       (∀ o l, exec (.spdmGetCertificate f 0 o l) s = .next
         (doeSend f dmCertificate (toLe 1 0 ++ (Config.rsaChain.drop o).take l) s)) ∧
       (∀ k o l, k ≠ 0 → exec (.spdmGetCertificate f k o l) s = .next (doeError f deInvalid s)) ∧
       exec (.spdmChallenge f 0) s = .next
         (doeSend f dmChallengeAuth (toLe 1 0) (setSpdm f { spdmOf s f with challenged := true } s)) ∧
       ((sessionsOf s f).length < 2 → exec (.spdmKeyExchange f) s = .next (openSession f s)) ∧
       (2 ≤ (sessionsOf s f).length → exec (.spdmKeyExchange f) s = .next (doeError f deSessionLimit s))) ∧
     ((spdmOf s f).algs = true → s.fuses.identityKeys = false → ∀ k o l, ∀ r, r = doeError f deUnspecified s →
       exec (.spdmGetDigests f) s = .next r ∧ exec (.spdmGetCertificate f k o l) s = .next r ∧
       exec (.spdmChallenge f k) s = .next r ∧ exec (.spdmKeyExchange f) s = .next r) ∧
     ((spdmOf s f).algs = true → ∀ i signed, i ≤ 6 ∨ i = 0xFF → signed = false ∨ s.fuses.identityKeys = true →
       exec (.spdmGetMeasurements f i signed) s = .next
         (doeSend f dmMeasurements (measureBlocks s f i) (setSpdm f { spdmOf s f with measured := signed } s)))) ∧
  (∀ (f id : Nat) (s : State), f < 64 → hostUp s = true → fnExists s f = true →
     (∀ x, sessionOf s f id = some x → x.established = false →
       exec (.spdmFinish f id true) s = .next
         (doeSend f dmFinish [] (updSession f id (fun x => { x with established := true }) s)) ∧
       exec (.spdmFinish f id false) s = .next
         (doeError f deDecrypt (dropSessions (fun x => x.fn == f && x.id == id) s))) ∧
     (inSession s f id = true → exec (.spdmHeartbeat f id) s = .next (doeSend f dmHeartbeat [] s) ∧
       exec (.spdmKeyUpdate f id) s = .next (doeSend f dmKeyUpdate [] s) ∧
       exec (.spdmEndSession f id) s = .next
         (doeSend f dmEndSession [] (dropSessions (fun x => x.fn == f && x.id == id) s))) ∧
     (inSession s f id = false → ∀ r, r = doeError f deUnexpected s → exec (.spdmHeartbeat f id) s = .next r ∧
       exec (.spdmKeyUpdate f id) s = .next r ∧ exec (.spdmEndSession f id) s = .next r) ∧
     (s.fuses.identityKeys = true → exec (.getPqChain f) s = .next (vendorSend f syOk Config.pqChain s)) ∧
     (s.fuses.identityKeys = true → inSession s f id = true → exec (.pqSign f (some id) 2) s = .next
       (vendorSend f syOk (Config.pqSignature (Config.freeNat s.freeCtr))
         (updSession f id (fun x => { x with pq := true }) { s with freeCtr := s.freeCtr + 1 }))) ∧
     (s.fuses.identityKeys = true → ∀ k w, (k = 0 ∧ (spdmOf s f).challenged = true) ∨ (k = 1 ∧ (spdmOf s f).measured = true) →
       exec (.pqSign f w k) s = .next
         (vendorSend f syOk (Config.pqSignature (Config.freeNat s.freeCtr)) { s with freeCtr := s.freeCtr + 1 })) ∧
     (s.fuses.identityKeys = false → exec (.getPqChain f) s = .next (vendorSend f syNotFound [] s) ∧
       ∀ w k, k ≤ 2 → exec (.pqSign f w k) s = .next (vendorSend f syNotFound [] s)) ∧
     (f = 0 → exec (.getNonce f) s = .next (vendorSend 0 syOk (toLe 32 (Config.freeNat s.freeCtr))
       { s with freeCtr := s.freeCtr + 1, sec := { s.sec with nonce := some (Config.freeNat s.freeCtr % 2 ^ 256) } })) ∧
     (f ≠ 0 → exec (.getNonce f) s = .next (vendorSend f syDenied [] s)) ∧
     exec .nonceExpiry s = .next { s with sec := { s.sec with nonce := none } })

/-- R522 to R528, R534: the key ops of a session that takes them: the bytes of the body name the kind, the facet or the peer, the
salt and the key; DENIED for a session that does not take them, MALFORMED for a reserved field. A load without flags replaces
the sending key (log 35). -/
def Obligations.KeyOps : Prop :=
  ∀ (f id : Nat) (b : List Byte) (s : State), f < 64 → hostUp s = true → fnExists s f = true → ∀ k, k = field b 1 1 →
    (keyOpsOpen s f id = false → ∀ r, r = vendorSend f syDenied [] s →
      (field b 0 1 = 0x10 → k = 0 → exec (.keySetMemory f id b) s = .next r) ∧
      (field b 0 1 = 0x10 → k = 1 → exec (.keySetLink f id b) s = .next r) ∧
      (field b 0 1 = 0x10 → k = 2 → exec (.keySetWeight f id b) s = .next r) ∧
      (field b 0 1 = 0x11 → exec (.keyClear f id b) s = .next r)) ∧
    (keyOpsOpen s f id = true → field b 0 1 = 0x10 → ∀ r, r = vendorSend f syMalformed [] s →
      (k = 0 → keySetBad 0 b = true → exec (.keySetMemory f id b) s = .next r) ∧
      (k = 1 → keySetBad 1 b = true → exec (.keySetLink f id b) s = .next r) ∧
      (k = 2 → keySetBad 2 b = true → exec (.keySetWeight f id b) s = .next r)) ∧
    (keyOpsOpen s f id = true → field b 0 1 = 0x10 →
      (∀ n g m, k = 0 → keySetBad 0 b = false → n = field b 3 1 → facetOf s n = some g → g.fn = f → g.confidential = true →
        g.rekey = none → g.state ≠ 4 → m = freeMemSlot s → m ≤ 255 →
        exec (.keySetMemory f id b) s = .next (vendorSend f syOk (toLe 1 m)
          (setFacet n { g with memSlot := m, rekey := some ⟨g.memSlot, g.channels⟩ }
            { s with sec := { s.sec with memSlots := SMap.put s.sec.memSlots m (slice b 0x10 64) } }))) ∧
      (∀ p, k = 1 → keySetBad 1 b = false → p = bodyPeer b → SMap.look s.sec.linkKeys p = none →
        s.sec.linkKeys.length < 4096 → keyFlag b 0 = false → keyFlag b 1 = false →
        exec (.keySetLink f id b) s = .next (vendorSend f syOk (toLe 1 0)
          (setLinkKey p { fn := f, salt := field b 8 4, pos0 := freshPos (slice b 0x10 32) } s))) ∧
      (∀ n, k = 2 → keySetBad 2 b = false → n = lowestFrom (s.sec.weightSlots.map (·.1)) 0 → n < 64 →
        exec (.keySetWeight f id b) s = .next (vendorSend f syOk (toLe 1 n)
          { s with sec := { s.sec with weightSlots := SMap.put s.sec.weightSlots n ⟨f, slice b 0x10 32⟩ } }))) ∧
    (keyOpsOpen s f id = true → field b 0 1 = 0x11 →
      (keyClearBad b = true → exec (.keyClear f id b) s = .next (vendorSend f syMalformed [] s)) ∧
      (∀ n x, keyClearBad b = false → k = 2 → n = field b 4 2 → SMap.look s.sec.weightSlots n = some x → x.owner = f →
        (slotInUse s n = true → exec (.keyClear f id b) s = .next (vendorSend f syBusy [] s)) ∧
        (slotInUse s n = false → exec (.keyClear f id b) s = .next (vendorSend f syOk (toLe 1 0)
          { s with sec := { s.sec with weightSlots := SMap.del s.sec.weightSlots n } }))) ∧
      (∀ x, keyClearBad b = false → k = 1 → keyFlag b 0 = false → SMap.look s.sec.linkKeys (bodyPeer b) = some x → x.fn = f →
        exec (.keyClear f id b) s = .next (vendorSend f syOk (toLe 1 0)
          { s with sec := { s.sec with linkKeys := SMap.del s.sec.linkKeys (bodyPeer b) } }))) ∧
    (keyOpsOpen s f id = true → f = 0 → field b 0 1 = 0x12 → bindingBad b = false →
      s.fuses.identityTag ∈ bindingTags b → s.sec.bindings.length < 16 →
      exec (.bindingSet id b) s = .next (vendorSend 0 syOk [] { s with sec := { s.sec with
        bindings := SMap.put s.sec.bindings (field b 4 4)
          ⟨slice b 8 32, Config.sha384 (slice b 48 (16 * bindingCount b))⟩ } })) ∧
    (∀ n g r, n < 64 → facetOf s n = some g → g.rekey = some r → retiring s n = false →
      exec (.keyRotated n) s = .next (raiseTo [0, g.fn] evKeyRotated g.fn n g.memSlot none g.confidential
        (dropRekey n (retagAll g.channels r.oldSlot g.memSlot s))))

/-- R538, R539: a life-cycle transition that R538 does not list is DENIED, one without its authorisation or the nonce in force is
REJECTED, and one that is carried out halts the module, wipes its keys and burns the state, and on the claim the owner's key
hash. The verdicts on signatures are operands (log 12). R540, R541: tamper wipes every key, halts the module until PERST#,
and records itself; in BLANK it has no effect. -/
def Obligations.LifeCycleAndTamper : Prop :=
  (∀ (w : Option Nat) (b : List Byte) (c d : Bool) (s : State), hostUp s = true → field b 0 1 = 0x21 → ∀ t, t = lcTarget b →
     (∀ f, f < 64 → f ≠ 0 → fnExists s f = true →
       exec (.lcTransition f w b c d) s = .next (vendorSend f syDenied [] s)) ∧
     (lcAuthority s.fuses.lcState t = none →
       exec (.lcTransition 0 w b c d) s = .next (vendorSend 0 syDenied [] s)) ∧
     (∀ need, lcAuthority s.fuses.lcState t = some need →
       (s.sec.nonce ≠ some (lcNonce b) ∨ lcAuthorised s need w c d = false →
         exec (.lcTransition 0 w b c d) s = .next (vendorSend 0 syRejected [] s)) ∧
       (s.sec.nonce = some (lcNonce b) → lcAuthorised s need w c d = true →
         ∃ u, exec (.lcTransition 0 w b c d) s = .next u ∧ u.fuses.lcState = t ∧ u.sec.lcDone = true ∧
           (s.fuses.lcState = 2 → t = 3 → u.fuses.ownerKey = claimHash b) ∧
           (s.fuses.lcState ≠ 2 ∨ t ≠ 3 → u.fuses.ownerKey = s.fuses.ownerKey) ∧
           u.sec.memSlots = [] ∧ u.sec.memKey0 = [] ∧ u.sec.linkKeys = [] ∧ u.sec.weightSlots = [] ∧ u.sec.bindings = [] ∧
           u.pwr.state = 4 ∧ u.pwr.lockedUntilPerst = true))) ∧
  (∀ (k : Nat) (s : State), k < 4 → s.pwr.aonGood = true →
     (s.fuses.lcState = 0 → exec (.tamper k) s = .next s) ∧
     (s.fuses.lcState ≠ 0 → ∃ u, exec (.tamper k) s = .next u ∧ u.sec.tampered = true ∧ u.sec.memSlots = [] ∧
       u.sec.memKey0 = [] ∧ u.sec.linkKeys = [] ∧ u.sec.weightSlots = [] ∧ u.sec.bindings = [] ∧ u.sec.sessions = [] ∧
       u.pwr.state = 4 ∧ u.pwr.alert = true ∧ u.pwr.lockedUntilPerst = true ∧ u.fw.update = none ∧ u.fuses = s.fuses))

/-- R548, R550, R551: AON good starts the order of the rails, a rail that was commanded and is in range goes on with it, and the
failure of one takes every rail down and asserts ALERT_N. A rail that was not commanded, or one that comes after a failure,
changes nothing. The fields of the failure's flight record are free (log 7). R513, R517, R547, R552, R554: what PERST# and
the loss of VDD_AON leave: fuses, Lantern's store and its flight record, and nothing of the facets, the functions and the
memory; the choice of the boot bank when PERST# goes, and the start of the MC. The verdicts on the banks' signatures are
operands (log 12). -/
def Obligations.RailsAndReset : Prop :=
  ((∀ (k : Nat) (s : State), k < 8 → s.pwr.aonGood = false → exec (.aonGood k) s = .next
     (runOrder { s with side := {}, pwr := { s.pwr with aonGood := true, slotId := k, order := 2 } })) ∧
   (∀ (r : Nat) (s : State), r < 7 → railCommanded s.pwr r = true → s.pwr.stage ≠ 6 →
     exec (.railRaiseDone r) s = .next
       (runOrder (coreRailUp r (setPwr (fun p => { p with railsOn := NSet.add p.railsOn r }) s)))) ∧
   (∀ (k : Nat) (s : State), k < 8 → s.pwr.aonGood = true → exec (.aonGood k) s = .next s) ∧
   (∀ (r : Nat) (s : State), r < 7 → railCommanded s.pwr r = false ∨ s.pwr.stage = 6 → exec (.railRaiseDone r) s = .next s) ∧
   (∀ (r : Nat) (s : State), r < 7 → s.pwr.aonGood = true → r ∈ s.pwr.railsOn ∨ railCommanded s.pwr r = true → ∃ t, exec (.railFailure r) s = .next t ∧
     t.pwr.railsOn = [] ∧ r ∈ t.pwr.railFail ∧ t.pwr.stage = 6 ∧ t.pwr.alert = true ∧ t.pwr.fetchStop = true ∧
     t.msc = [] ∧ t.fuses = s.fuses)) ∧
  ((∀ s : State, ∃ t, exec .vddAonLoss s = .next t ∧ t.fuses = s.fuses ∧ t.sec = keepSec s.sec ∧ t.facets = [] ∧ t.fns = [] ∧
     t.ctxs = [] ∧ t.queues = [] ∧ t.cmds = [] ∧ t.dram = [] ∧ t.serve = [] ∧ t.pwr = {} ∧ t.vxl = {} ∧ t.side = {}) ∧
   (∀ s : State, s.pwr.perst = false → ∃ t, exec .perstAssert s = .next t ∧ t.fuses = s.fuses ∧ t.sec = keepSec s.sec ∧
     t.facets = [] ∧ t.fns = [] ∧ t.ctxs = [] ∧ t.queues = [] ∧ t.cmds = [] ∧ t.dram = [] ∧ t.serve = [] ∧ t.vxl = {} ∧
     t.side = s.side ∧ t.pwr.perst = true ∧ t.pwr.railsOn = s.pwr.railsOn ∧ t.pwr.mcRunning = false) ∧
   (∀ (a b : Bool) (s : State), s.pwr.perst = true → s.pwr.aonGood = true → s.pwr.stage ≠ 6 → s.pwr.order ≠ 7 →
     exec (.perstDeassert a b) s = .next (firstPowerUp (setSec (chooseBank a b s.fuses.svnFloor)
       (setPwr (fun p => { p with perst := false, pcie := s.time.refclkOk }) s)))) ∧
   (∀ (a b : Bool) (s : State), s.pwr.perst = true → s.pwr.aonGood = true → s.pwr.stage ≠ 6 → s.pwr.order = 7 → ∀ u,
     u = firstPowerUp (setSec (chooseBank a b s.fuses.svnFloor)
       (setPwr (fun p => { p with perst := false, pcie := s.time.refclkOk }) s)) →
     exec (.perstDeassert a b) s = .next (if railsMissing s.pwr then runOrder (setPwr (fun p => { p with order := 2 }) u)
       else startMilestones u)) ∧
   (∀ (a b : Bool) (s : State), (chooseBank a b s.fuses.svnFloor s.sec).imageOk = true → ∃ k : Machine.Bank,
     k = (if (chooseBank a b s.fuses.svnFloor s.sec).bootBank = 0 then s.sec.bank0 else s.sec.bank1) ∧
     s.fuses.svnFloor ≤ k.svn) ∧
   (∀ s : State, s.pwr.stage = 2 → s.pwr.perst = false → s.sec.imageOk = true → s.fuses.lcState ≠ 5 →
     ∃ t, exec .mcStart s = .next t ∧ t.pwr.mcRunning = true ∧ t.pwr.mbxReady = true ∧ t.pwr.stage = 4 ∧
       t.fw.build = (bootedBank s).build))

/-- R559 to R561: the sideband: one dynamic address, endpoint and terminus identities, discovery, the FRU record, the sensors,
the event receiver, and the refresh. The rules name the protocols; the codes and the layout of the responses are the model's
(log 12), and the version that GetPLDMVersion answers is free (log 7). With VDD_AON out of range nothing answers. R156, R162,
R537, R558: the test access port reads and writes the data region of a powered core in BLANK and TEST; the secure part and a
confidential core are refused with zeros and SECURE_ACCESS; in the other states it does not answer. An access that runs over
the end of the data region is refused whole (the model's choice, log 39). -/
def Obligations.Sideband : Prop :=
  (∀ s : State, s.pwr.aonGood = true →
     (∀ a, a < 128 → s.side.dynAddr = none →
       exec (.i3cSetdasa a) s = .next (emit (.sideband sbAddress (toLe 1 a)) (setSide (fun x => { x with dynAddr := some a }) s)) ∧
       exec (.i3cEntdaa a) s = .next (emit (.sideband sbAddress (toLe 1 a)) (setSide (fun x => { x with dynAddr := some a }) s))) ∧
     (∀ a, a < 128 → s.side.dynAddr ≠ none → exec (.i3cSetdasa a) s = .next s ∧ exec (.i3cEntdaa a) s = .next s) ∧
     (∀ e, 0 < e → e < 255 → exec (.mctpControl 1 e) s = .next
       (sideSend sbControl [1, 0, 0, e, 0] (setSide (fun x => { x with eid := e }) s))) ∧
     (∀ e, 0 < e → e < 255 → exec (.pldmDiscovery 1 e) s = .next (pldmSend 0 1 0 [] (setSide (fun x => { x with tid := e }) s))) ∧
     exec (.mctpControl 2 0) s = .next (sideSend sbControl [2, 0, s.side.eid, 0, 0] s) ∧
     exec (.mctpControl 5 0) s = .next (sideSend sbControl [5, 0, 2, 0, 1] s) ∧
     exec (.pldmDiscovery 2 0) s = .next (pldmSend 0 2 0 (toLe 1 s.side.tid) s) ∧
     (∀ t, t = 0 ∨ t = 2 ∨ t = 4 → exec (.pldmDiscovery 5 t) s = .next (pldmSend 0 5 0 (bitmap32 (pldmCommands t)) s) ∧
       exec (.pldmDiscovery 3 t) s =
         .next (pldmSend 0 3 0 (toLe 4 (Config.freeNat s.freeCtr)) { s with freeCtr := s.freeCtr + 1 })) ∧
     exec (.pldmDiscovery 4 0) s = .next (pldmSend 0 4 0 (toLe 8 0x15) s) ∧
     (∀ k, 1 ≤ k → k ≤ 25 → exec (.pldmGetSensorReading k) s = .next (pldmSend 2 0x11 0 (sensorBytes s k) s)) ∧
     (∀ k, 25 < k → exec (.pldmGetSensorReading k) s = .next (pldmSend 2 0x11 0x80 [] s)) ∧
     (∀ k, 26 ≤ k → k ≤ 29 → exec (.pldmGetStateSensorReadings k) s = .next (pldmSend 2 0x21 0 (sensorBytes s k) s)) ∧
     (∀ k, k < 26 ∨ 29 < k → exec (.pldmGetStateSensorReadings k) s = .next (pldmSend 2 0x21 0x80 [] s)) ∧
     (∀ e, e < 256 → exec (.pldmSetEventReceiver e) s = .next
       (pldmSend 2 4 0 [] (setSide (fun x => { x with receiver := some e }) s))) ∧
     exec .pldmFruRead s = .next
       (pldmSend 4 2 0 (orderingCode ++ stepping ++ toLe 16 s.fuses.identityTag ++ toLe 8 s.fw.build) s) ∧
     (∀ m, s.fw.handover = true → exec (.sensorRefresh m) s = .next s) ∧
     (∀ m, s.fw.handover = false → ∃ t, exec (.sensorRefresh m) s = .next t ∧ t.pwr = s.pwr ∧ t.fuses = s.fuses ∧
       (∀ k, 1 ≤ k → k ≤ 29 → SMap.look t.side.sensors k = sensorValue m s k))) ∧
  (∀ (c o : Nat) (w : Bool) (d : List Byte) (s : State), c < 544 → o + d.length ≤ 2 ^ 21 →
     (1 < s.fuses.lcState → exec (.testAccessPortAccess c o w d) s = .next s) ∧
     (s.fuses.lcState ≤ 1 → 6 ∈ s.pwr.railsOn → (coreOf s c).powered = true →
       (confCore s c = false → o + d.length ≤ Config.dataRegion → w = true →
         exec (.testAccessPortAccess c o w d) s = .next (scratchWrite c o d s)) ∧
       (confCore s c = false → o + d.length ≤ Config.dataRegion → w = false →
         exec (.testAccessPortAccess c o w d) s = .next
           (emit (.testPort (Mem.readN (coreOf s c).scratch o d.length)) s)) ∧
       (confCore s c = true ∨ Config.dataRegion < o + d.length →
         exec (.testAccessPortAccess c o w d) s = .next (refuseAccess c o w d.length s) ∧
         (refuseAccess c o w d.length s).dram = s.dram ∧
         (coreOf (refuseAccess c o w d.length s) c).scratch = (coreOf s c).scratch)))

/-- R370 to R372, R492, R497, R500, R502 to R504, R518 to R521, R537, R550 to R554, R559 to R561: each command of a firmware
update, of power and heat, of SPDM, of the rails and resets, and of the sideband and the test port completes where its rule
has it act: for every state and operands that meet the conditions, exec answers a next state with the named effect. Operands
carry verdicts on signatures and MACs, and response codes are the model's (log 12); measured averages are operands (log 34). -/
def Obligations.ServicesComplete : Prop :=
  (∀ (fn : Nat) (h : Req) (b image : List Byte) (ok : Bool) (s : State), AskedJob fn layFwUpdate false h b s →
    field b 0 8 % 4096 = 0 → field b 8 4 ≤ 16777216 → s.fw.update = none →
    ∃ t u, exec (.fwUpdate fn image ok) s = .next t ∧ t.fw.update = some u ∧ u.phase = 1) ∧
  (∀ (u : FwUpdate) (s : State), s.fw.update = some u →
    (u.phase = 1 → imageAccepted s u.img = true →
      ∃ t, exec .fwImageVerified s = .next t ∧ t.fw.update = some { u with phase := 2 }) ∧
    (u.phase = 2 → quiet s = true → (∀ e ∈ s.facets, e.2.resize = none) →
      ∃ t, exec .fwQuietPoint s = .next t ∧ t.fw.handover = true) ∧
    (u.phase = 3 → ∃ t, exec .fwHandoverDone s = .next t ∧ t.fw.build = u.img.build ∧ t.fw.handover = false)) ∧
  (∀ (fn : Nat) (h : Req) (d : List Byte) (s : State), Asked fn (layPower 0) false h d s → 30 ≤ h.respLen →
    powerBodyOk (powerBody d) = true → ∃ t, exec (.powerLimitsSet fn) s = .next t ∧ t.pwr.sustW = (setLimits (powerBody d) s.pwr).sustW ∧
      t.pwr.peakW = (setLimits (powerBody d) s.pwr).peakW) ∧
  (∀ (fn : Nat) (h : Req) (d : List Byte) (s : State), Asked fn (layPower 1) false h d s → 30 ≤ h.respLen →
    ∃ t, exec (.powerLimitsRead fn) s = .next t ∧ t.pwr = s.pwr ∧ t.facets = s.facets) ∧
  (∀ s : State, s.pwr.mcRunning = true → s.pwr.stage = 5 → s.pwr.state = 0 → s.pwr.halt = none →
    (∀ half, half < 2 → s.pwr.dimDisable = false → halfOn s (half == 1) = true → halfWorks s (half == 1) = false →
      ∃ t, exec (.dimDelayExpiry half) s = .next t ∧ halfMv t.pwr (half == 1) = 600) ∧
    (∀ p w, s.pwr.peakW * 97 < p * 100 → ∃ t, exec (.governorSample p w) s = .next t ∧
      t.pwr.issue = Nat.max 1 (s.pwr.issue - 1) ∧ t.pwr.peakAvg = p) ∧
    (∀ half, half < 2 → s.pwr.settling = true → s.pwr.issue < 16 →
      ∃ t, exec (.governorRailSettled half) s = .next t ∧ t.pwr.issue = s.pwr.issue + 1) ∧
    (∀ k l, k < 32 → l.length = 8 → halfOn s (eastCluster k) = true → ∃ t, exec (.dieSensorSample k l) s = .next t ∧
      ∀ i x, l[i]? = some x → SMap.look t.pwr.dieTemp (k * 8 + i) = some x) ∧
    (∀ n x, okTrip n = true → computeOn s = true →
      ∃ t, exec (.thermtrip n x) s = .next t ∧ t.pwr.fetchStop = true ∧ t.pwr.thermTripN = true) ∧
    (s.pwr.coolOk = false → s.pwr.coolTimer = true → computeOn s = true →
      ∃ t, exec .coolLoss s = .next t ∧ t.pwr.fetchStop = true ∧ t.pwr.coolTimer = false)) ∧
  (∀ (x : Machine.Halt) (s : State), s.pwr.halt = some x → s.fw.handover = false →
    (∃ t, exec .haltTablesSaved s = .next t ∧ t.pwr.state = 4 ∧ t.pwr.alert = true) ∧
    ∃ t, exec .haltSaveTimeout s = .next t ∧ t.pwr.state = 4 ∧ t.pwr.alert = true ∧ t.pwr.tablesLost = true) ∧
  (∀ s : State, s.pwr.coolOk = true →
    (∃ t, exec .coolOkDeassert s = .next t ∧ t.pwr.coolOk = false ∧ t.pwr.coolTimer = true) ∧
    (s.pwr.order ≠ 3 → ∃ t, exec .coolOkStable s = .next t ∧ t.pwr.coolStable = true)) ∧
  (∀ s : State, s.pwr.coolOk = false → ∃ t, exec .coolOkAssert s = .next t ∧ t.pwr.coolOk = true ∧ t.pwr.coolTimer = false) ∧
  (∀ (f : Nat) (s : State), f < 64 → hostUp s = true → fnExists s f = true →
    (∃ t, exec (.spdmGetVersion f) s = .next t ∧ spdmOf t f = { version := true }) ∧
    ((spdmOf s f).version = true → ∃ t, exec (.spdmGetCapabilities f) s = .next t ∧ (spdmOf t f).caps = true) ∧
    ((spdmOf s f).caps = true → ∃ t, exec (.spdmNegotiateAlgorithms f true) s = .next t ∧ (spdmOf t f).algs = true) ∧
    ((spdmOf s f).algs = true → s.fuses.identityKeys = true →
      (exec (.spdmGetDigests f) s = .next (doeSend f dmDigests [0x01] s)) ∧
      (∀ o l, exec (.spdmGetCertificate f 0 o l) s = .next (doeSend f dmCertificate (toLe 1 0 ++ (Config.rsaChain.drop o).take l) s)) ∧
      (∃ t, exec (.spdmChallenge f 0) s = .next t ∧ (spdmOf t f).challenged = true) ∧
      (∀ i g, i ≤ 6 ∨ i = 0xFF → ∃ t, exec (.spdmGetMeasurements f i g) s = .next t ∧ (spdmOf t f).measured = g) ∧
      ((sessionsOf s f).length < 2 →
        ∃ t, exec (.spdmKeyExchange f) s = .next t ∧ (sessionsOf t f).length = (sessionsOf s f).length + 1)) ∧
    (∀ i x, sessionOf s f i = some x → x.established = false →
      ∃ t, exec (.spdmFinish f i true) s = .next t ∧ inSession t f i = true) ∧
    (∀ i, inSession s f i = true → (∃ t, exec (.spdmHeartbeat f i) s = .next t ∧ t.sec = s.sec) ∧
      (∃ t, exec (.spdmKeyUpdate f i) s = .next t ∧ t.sec = s.sec) ∧
      (∃ t, exec (.spdmEndSession f i) s = .next t ∧ sessionOf t f i = none) ∧
      (s.fuses.identityKeys = true → ∃ t x, exec (.pqSign f (some i) 2) s = .next t ∧ sessionOf t f i = some x ∧ x.pq = true)) ∧
    (s.fuses.identityKeys = true → exec (.getPqChain f) s = .next (vendorSend f syOk Config.pqChain s)) ∧
    (f = 0 → ∃ t n, exec (.getNonce f) s = .next t ∧ t.sec.nonce = some n)) ∧
  (∀ s : State, ∃ t, exec .nonceExpiry s = .next t ∧ t.sec.nonce = none) ∧
  (∀ (k : Nat) (s : State), k < 8 → s.pwr.aonGood = false →
    ∃ t, exec (.aonGood k) s = .next t ∧ t.pwr.aonGood = true ∧ t.pwr.slotId = k) ∧
  (∀ (r : Nat) (s : State), r < 7 →
    (railCommanded s.pwr r = true → s.pwr.stage ≠ 6 → ∃ t, exec (.railRaiseDone r) s = .next t ∧ r ∈ t.pwr.railsOn) ∧
    (s.pwr.aonGood = true → r ∈ s.pwr.railsOn →
      ∃ t, exec (.railFailure r) s = .next t ∧ t.pwr.railsOn = [] ∧ t.pwr.alert = true)) ∧
  (∀ s : State, ∃ t, exec .vddAonLoss s = .next t ∧ t.fuses = s.fuses ∧ t.facets = [] ∧ t.cmds = []) ∧
  (∀ s : State, s.pwr.perst = false → ∃ t, exec .perstAssert s = .next t ∧ t.pwr.perst = true ∧ t.facets = []) ∧
  (∀ (a b : Bool) (s : State), s.pwr.perst = true → s.pwr.aonGood = true → s.pwr.stage ≠ 6 → s.pwr.order ≠ 7 →
    ∃ t, exec (.perstDeassert a b) s = .next t ∧ t.pwr.perst = false ∧ t.sec = chooseBank a b s.fuses.svnFloor s.sec) ∧
  (∀ s : State, s.pwr.stage = 2 → s.pwr.perst = false → s.sec.imageOk = true → s.fuses.lcState ≠ 5 →
    ∃ t, exec .mcStart s = .next t ∧ t.pwr.mbxReady = true ∧ t.fw.build = (bootedBank s).build) ∧
  (∀ s : State, s.pwr.aonGood = true →
    (∀ a, a < 128 → s.side.dynAddr = none → (∃ t, exec (.i3cSetdasa a) s = .next t ∧ t.side.dynAddr = some a) ∧
      ∃ t, exec (.i3cEntdaa a) s = .next t ∧ t.side.dynAddr = some a) ∧
    (∀ e, 0 < e → e < 255 → (∃ t, exec (.mctpControl 1 e) s = .next t ∧ t.side.eid = e) ∧
      ∃ t, exec (.pldmDiscovery 1 e) s = .next t ∧ t.side.tid = e) ∧
    (∀ k, 1 ≤ k → k ≤ 25 →
      exec (.pldmGetSensorReading k) s = .next (pldmSend 2 0x11 0 (sensorBytes s k) s)) ∧
    (∀ k, 26 ≤ k → k ≤ 29 →
      exec (.pldmGetStateSensorReadings k) s = .next (pldmSend 2 0x21 0 (sensorBytes s k) s)) ∧
    (∀ e, e < 256 → ∃ t, exec (.pldmSetEventReceiver e) s = .next t ∧ t.side.receiver = some e) ∧
    (∃ t, exec .pldmFruRead s = .next t ∧ t.side = s.side ∧ t.pwr = s.pwr) ∧
    (∀ m, s.fw.handover = false → ∃ t, exec (.sensorRefresh m) s = .next t ∧ t.pwr = s.pwr ∧
      ∀ k, 1 ≤ k → k ≤ 29 → SMap.look t.side.sensors k = sensorValue m s k)) ∧
  (∀ (c o : Nat) (d : List Byte) (s : State), c < 544 → o + d.length ≤ Config.dataRegion → s.fuses.lcState ≤ 1 →
    6 ∈ s.pwr.railsOn → (coreOf s c).powered = true → confCore s c = false →
    exec (.testAccessPortAccess c o true d) s = .next (scratchWrite c o d s))
end

