-- ==== Sys2Proof/Laws/Map.lean ====
section
/-! SUPPORT. Laws of sparse maps and sparse memories: a read after a write, and that every memory operation keeps the
canonical form. -/

namespace Sys2Proof

variable {α : Type}

@[simp] theorem SMap.look_put_self (m : SMap α) (n : Nat) (x : α) : SMap.look (SMap.put m n x) n = some x := by
  induction m with
  | nil => simp [SMap.put, SMap.look]
  | cons e r ih =>
    obtain ⟨k, v⟩ := e
    by_cases h : n = k
    · simp [SMap.put, SMap.look, h]
    · by_cases hl : n < k <;> simp [SMap.put, SMap.look, h, hl, ih]

theorem SMap.look_put_ne (m : SMap α) (n j : Nat) (x : α) (hj : j ≠ n) : SMap.look (SMap.put m n x) j = SMap.look m j := by
  induction m with
  | nil => by_cases h : j < n <;> simp [SMap.put, SMap.look, hj, h]
  | cons e r ih =>
    obtain ⟨k, v⟩ := e
    by_cases h : n = k
    · subst h; simp [SMap.put, SMap.look, hj]
    · by_cases hl : n < k
      · by_cases hjn : j < n
        · have h1 : j ≠ k := by omega
          have h2 : j < k := by omega
          simp [SMap.put, SMap.look, h, hl, hj, hjn, h1, h2]
        · simp [SMap.put, SMap.look, h, hl, hj, hjn]
      · simp [SMap.put, SMap.look, h, hl, ih]

@[simp] theorem SMap.put_put_self (m : SMap α) (n : Nat) (x y : α) : SMap.put (SMap.put m n x) n y = SMap.put m n y := by
  induction m with
  | nil => simp [SMap.put]
  | cons e r ih =>
    obtain ⟨k, v⟩ := e
    by_cases h : n = k
    · simp [SMap.put, h]
    · by_cases hl : n < k <;> simp [SMap.put, h, hl, ih]

@[simp] theorem SMap.getD_put_self (m : SMap α) (n : Nat) (x d : α) : SMap.getD (SMap.put m n x) n d = x := by
  simp [SMap.getD]

theorem SMap.getD_put_ne (m : SMap α) (n j : Nat) (x d : α) (hj : j ≠ n) :
    SMap.getD (SMap.put m n x) j d = SMap.getD m j d := by
  simp [SMap.getD, SMap.look_put_ne m n j x hj]

@[simp] theorem SMap.look_nil (n : Nat) : SMap.look ([] : SMap α) n = none := rfl

@[simp] theorem SMap.getD_nil (n : Nat) (d : α) : SMap.getD ([] : SMap α) n d = d := rfl

/-- Every key of a map is above a bound. -/
def SMap.above (b : Nat) (m : SMap α) : Prop := ∀ e ∈ m, b < e.1

theorem SMap.sorted_cons (e : Nat × α) (r : SMap α) : SMap.sorted (e :: r) = true ↔ SMap.above e.1 r ∧ SMap.sorted r = true := by
  induction r generalizing e with
  | nil => simp [SMap.sorted, SMap.above]
  | cons a r ih =>
    simp only [SMap.sorted, Bool.and_eq_true, decide_eq_true_eq]
    constructor
    · rintro ⟨h1, h2⟩
      refine ⟨?_, h2⟩
      intro x hx
      rcases List.mem_cons.1 hx with rfl | hx
      · exact h1
      · exact Nat.lt_trans h1 ((ih a).1 h2 |>.1 x hx)
    · rintro ⟨h1, h2⟩
      exact ⟨h1 a (List.mem_cons_self ..), h2⟩

theorem SMap.above_put {b n : Nat} {m : SMap α} {x : α} (h : SMap.above b m) (hn : b < n) : SMap.above b (SMap.put m n x) := by
  induction m with
  | nil => intro e he; simp [SMap.put] at he; subst he; exact hn
  | cons a r ih =>
    obtain ⟨k, v⟩ := a
    have hr : SMap.above b r := fun e he => h e (List.mem_cons_of_mem _ he)
    have hk : b < k := h (k, v) (List.mem_cons_self ..)
    unfold SMap.put
    split
    · intro e he
      rcases List.mem_cons.1 he with rfl | he
      · exact hk
      · exact hr e he
    · split
      · intro e he
        rcases List.mem_cons.1 he with rfl | he
        · exact hn
        · exact h e he
      · intro e he
        rcases List.mem_cons.1 he with rfl | he
        · exact hk
        · exact ih hr e he

theorem SMap.sorted_put (m : SMap α) (n : Nat) (x : α) (h : SMap.sorted m = true) : SMap.sorted (SMap.put m n x) = true := by
  induction m with
  | nil => rfl
  | cons e r ih =>
    obtain ⟨k, v⟩ := e
    obtain ⟨h1, h2⟩ := (SMap.sorted_cons (k, v) r).1 h
    unfold SMap.put
    split
    · exact (SMap.sorted_cons _ _).2 ⟨h1, h2⟩
    · split
      · refine (SMap.sorted_cons _ _).2 ⟨?_, h⟩
        intro e he
        rcases List.mem_cons.1 he with rfl | he
        · assumption
        · exact Nat.lt_trans (by assumption) (h1 e he)
      · refine (SMap.sorted_cons _ _).2 ⟨SMap.above_put h1 ?_, ih h2⟩
        show k < n
        omega

theorem SMap.sorted_filter (m : SMap α) (p : Nat × α → Bool) (h : SMap.sorted m = true) : SMap.sorted (m.filter p) = true := by
  induction m with
  | nil => rfl
  | cons e r ih =>
    obtain ⟨h1, h2⟩ := (SMap.sorted_cons e r).1 h
    by_cases hp : p e = true
    · rw [List.filter_cons_of_pos hp]
      exact (SMap.sorted_cons _ _).2 ⟨fun x hx => h1 x ((List.mem_filter.1 hx).1), ih h2⟩
    · rw [List.filter_cons_of_neg hp]
      exact ih h2

theorem SMap.mem_put {m : SMap α} {n : Nat} {x : α} {e : Nat × α} (h : e ∈ SMap.put m n x) : e = (n, x) ∨ e ∈ m := by
  induction m with
  | nil => simp [SMap.put] at h; exact Or.inl h
  | cons a r ih =>
    obtain ⟨k, v⟩ := a
    unfold SMap.put at h
    split at h
    · rename_i hk
      rcases List.mem_cons.1 h with h | h
      · left; rw [h, hk]
      · exact Or.inr (List.mem_cons_of_mem _ h)
    · split at h
      · rcases List.mem_cons.1 h with h | h
        · exact Or.inl h
        · exact Or.inr h
      · rcases List.mem_cons.1 h with h | h
        · right; rw [h]; exact List.mem_cons_self ..
        · rcases ih h with h | h
          · exact Or.inl h
          · exact Or.inr (List.mem_cons_of_mem _ h)

theorem Mem.wf_iff (m : Mem) : Mem.wf m = true ↔ SMap.sorted m = true ∧ ∀ e ∈ m, e.2 ≠ 0 := by
  simp [Mem.wf]

theorem Mem.wf_filter (m : Mem) (p : Nat × Byte → Bool) (h : Mem.wf m = true) : Mem.wf (m.filter p) = true := by
  obtain ⟨h1, h2⟩ := (Mem.wf_iff m).1 h
  exact (Mem.wf_iff _).2 ⟨SMap.sorted_filter m p h1, fun e he => h2 e ((List.mem_filter.1 he).1)⟩

/-- Writing one byte keeps the canonical form. -/
theorem Mem.wf_write (m : Mem) (a : Nat) (b : Byte) (h : Mem.wf m = true) : Mem.wf (Mem.write m a b) = true := by
  unfold Mem.write
  split
  · exact Mem.wf_filter m _ h
  · obtain ⟨h1, h2⟩ := (Mem.wf_iff m).1 h
    refine (Mem.wf_iff _).2 ⟨SMap.sorted_put m a b h1, ?_⟩
    intro e he
    rcases SMap.mem_put he with rfl | he
    · assumption
    · exact h2 e he

/-- Writing a list of bytes keeps the canonical form. -/
theorem Mem.wf_writeN (l : List Byte) (m : Mem) (a : Nat) (h : Mem.wf m = true) : Mem.wf (Mem.writeN m a l) = true := by
  induction l generalizing m a with
  | nil => exact h
  | cons b r ih => exact ih _ _ (Mem.wf_write m a b h)

/-- Zeroing a range keeps the canonical form. -/
theorem Mem.wf_zero (m : Mem) (a n : Nat) (h : Mem.wf m = true) : Mem.wf (Mem.zero m a n) = true := Mem.wf_filter m _ h

/-- A memory built from bytes is in canonical form. -/
theorem Mem.wf_ofBytes (l : List Byte) (a : Nat) : Mem.wf (Mem.ofBytes a l) = true ∧ ∀ e ∈ Mem.ofBytes a l, a ≤ e.1 := by
  induction l generalizing a with
  | nil => exact ⟨rfl, by simp [Mem.ofBytes]⟩
  | cons b r ih =>
    obtain ⟨h1, h2⟩ := ih (a + 1)
    unfold Mem.ofBytes
    split
    · exact ⟨h1, fun e he => by have := h2 e he; omega⟩
    · obtain ⟨h3, h4⟩ := (Mem.wf_iff _).1 h1
      refine ⟨(Mem.wf_iff _).2 ⟨(SMap.sorted_cons _ _).2 ⟨fun e he => h2 e he, h3⟩, ?_⟩, ?_⟩
      · intro e he
        rcases List.mem_cons.1 he with rfl | he
        · assumption
        · exact h4 e he
      · intro e he
        rcases List.mem_cons.1 he with rfl | he
        · exact Nat.le_refl _
        · have := h2 e he; omega

theorem SMap.look_above {b : Nat} {m : SMap α} (h : SMap.above b m) {n : Nat} (hn : n ≤ b) : SMap.look m n = none := by
  cases m with
  | nil => rfl
  | cons e r =>
    obtain ⟨k, v⟩ := e
    have hk : b < k := h (k, v) (List.mem_cons_self ..)
    have h1 : n ≠ k := by omega
    have h2 : n < k := by omega
    simp [SMap.look, h1, h2]

theorem SMap.look_filter (m : SMap α) (p : Nat → Bool) (n : Nat) (h : SMap.sorted m = true) :
    SMap.look (m.filter fun e => p e.1) n = if p n then SMap.look m n else none := by
  induction m with
  | nil => simp
  | cons e r ih =>
    obtain ⟨k, v⟩ := e
    obtain ⟨h1, h2⟩ := (SMap.sorted_cons (k, v) r).1 h
    by_cases hp : p k = true
    · rw [List.filter_cons_of_pos (by simpa using hp)]
      by_cases hk : n = k
      · subst hk; simp [SMap.look, hp]
      · by_cases hl : n < k
        · simp [SMap.look, hk, hl]
        · simp [SMap.look, hk, hl, ih h2]
    · rw [List.filter_cons_of_neg (by simpa using hp), ih h2]
      by_cases hk : n = k
      · subst hk; simp [hp]
      · by_cases hl : n < k
        · have : SMap.look r n = none := SMap.look_above h1 (by show n ≤ k; omega)
          simp [SMap.look, hk, hl, this]
        · simp [SMap.look, hk, hl]

/-- A byte reads as it was last written. -/
theorem Mem.read_write (m : Mem) (a j : Nat) (b : Byte) (h : Mem.wf m = true) :
    Mem.read (Mem.write m a b) j = if j = a then b else Mem.read m j := by
  obtain ⟨h1, _⟩ := (Mem.wf_iff m).1 h
  unfold Mem.write Mem.read SMap.getD
  split
  · rename_i hb
    unfold SMap.del
    rw [SMap.look_filter m (fun k => k != a) j h1]
    by_cases hj : j = a <;> simp [hj, hb]
  · by_cases hj : j = a
    · subst hj; simp
    · simp [SMap.look_put_ne m a j b hj, hj]

/-- Every byte of a written list reads as it was written; every other byte as before. -/
theorem Mem.read_writeN (l : List Byte) (m : Mem) (a j : Nat) (h : Mem.wf m = true) :
    Mem.read (Mem.writeN m a l) j = if a ≤ j ∧ j < a + l.length then l.getD (j - a) 0 else Mem.read m j := by
  induction l generalizing m a with
  | nil => simp [Mem.writeN] <;> (intros; omega)
  | cons b r ih =>
    unfold Mem.writeN
    rw [ih _ _ (Mem.wf_write m a b h), Mem.read_write m a j b h]
    by_cases h1 : j = a
    · subst h1
      have : ¬ (j + 1 ≤ j ∧ j < j + 1 + r.length) := by omega
      rw [if_neg this]
      simp
    · by_cases h2 : a + 1 ≤ j ∧ j < a + 1 + r.length
      · have h3 : a ≤ j ∧ j < a + (b :: r).length := by simp; omega
        have h4 : j - a = (j - (a + 1)) + 1 := by omega
        rw [if_pos h2, if_pos h3, h4, List.getD_cons_succ]
      · have h3 : ¬ (a ≤ j ∧ j < a + (b :: r).length) := by simp; omega
        rw [if_neg h2, if_neg h3, if_neg h1]

/-- Zeroed bytes read 0; every other byte as before. -/
theorem Mem.read_zero (m : Mem) (a n j : Nat) (h : Mem.wf m = true) :
    Mem.read (Mem.zero m a n) j = if a ≤ j ∧ j < a + n then 0 else Mem.read m j := by
  obtain ⟨h1, _⟩ := (Mem.wf_iff m).1 h
  unfold Mem.zero Mem.read SMap.getD
  rw [SMap.look_filter m (fun k => decide (k < a) || decide (a + n ≤ k)) j h1]
  by_cases h2 : a ≤ j ∧ j < a + n
  · have : ¬ (j < a) := by omega
    have : ¬ (a + n ≤ j) := by omega
    simp [*]
  · have : j < a ∨ a + n ≤ j := by omega
    rw [if_neg h2, if_pos (by simpa using this)]

end Sys2Proof
end

