-- ==== Sys2Proof/Laws/State.lean ====
section
/-! SUPPORT. What each update of one unit record leaves alone, one lemma per field, and what it writes. -/

namespace Sys2Proof.Machine

variable (s : State)

/-! ## setFn -/

@[simp] theorem setFn_pending (n : Nat) (r : Fn) : (setFn n r s).pending = s.pending := rfl
@[simp] theorem setFn_out (n : Nat) (r : Fn) : (setFn n r s).out = s.out := rfl
@[simp] theorem setFn_freeCtr (n : Nat) (r : Fn) : (setFn n r s).freeCtr = s.freeCtr := rfl
@[simp] theorem setFn_nextCmd (n : Nat) (r : Fn) : (setFn n r s).nextCmd = s.nextCmd := rfl
@[simp] theorem setFn_time (n : Nat) (r : Fn) : (setFn n r s).time = s.time := rfl
@[simp] theorem setFn_reg (n : Nat) (r : Fn) : (setFn n r s).reg = s.reg := rfl
@[simp] theorem setFn_ctxs (n : Nat) (r : Fn) : (setFn n r s).ctxs = s.ctxs := rfl
@[simp] theorem setFn_lost (n : Nat) (r : Fn) : (setFn n r s).lost = s.lost := rfl
@[simp] theorem setFn_queues (n : Nat) (r : Fn) : (setFn n r s).queues = s.queues := rfl
@[simp] theorem setFn_cmds (n : Nat) (r : Fn) : (setFn n r s).cmds = s.cmds := rfl
@[simp] theorem setFn_facets (n : Nat) (r : Fn) : (setFn n r s).facets = s.facets := rfl
@[simp] theorem setFn_clusters (n : Nat) (r : Fn) : (setFn n r s).clusters = s.clusters := rfl
@[simp] theorem setFn_cores (n : Nat) (r : Fn) : (setFn n r s).cores = s.cores := rfl
@[simp] theorem setFn_engines (n : Nat) (r : Fn) : (setFn n r s).engines = s.engines := rfl
@[simp] theorem setFn_chans (n : Nat) (r : Fn) : (setFn n r s).chans = s.chans := rfl
@[simp] theorem setFn_dram (n : Nat) (r : Fn) : (setFn n r s).dram = s.dram := rfl
@[simp] theorem setFn_lineMeta (n : Nat) (r : Fn) : (setFn n r s).lineMeta = s.lineMeta := rfl
@[simp] theorem setFn_msc (n : Nat) (r : Fn) : (setFn n r s).msc = s.msc := rfl
@[simp] theorem setFn_stackTemp (n : Nat) (r : Fn) : (setFn n r s).stackTemp = s.stackTemp := rfl
@[simp] theorem setFn_coh (n : Nat) (r : Fn) : (setFn n r s).coh = s.coh := rfl
@[simp] theorem setFn_xl (n : Nat) (r : Fn) : (setFn n r s).xl = s.xl := rfl
@[simp] theorem setFn_pwr (n : Nat) (r : Fn) : (setFn n r s).pwr = s.pwr := rfl
@[simp] theorem setFn_fw (n : Nat) (r : Fn) : (setFn n r s).fw = s.fw := rfl
@[simp] theorem setFn_fuses (n : Nat) (r : Fn) : (setFn n r s).fuses = s.fuses := rfl
@[simp] theorem setFn_sec (n : Nat) (r : Fn) : (setFn n r s).sec = s.sec := rfl
@[simp] theorem setFn_side (n : Nat) (r : Fn) : (setFn n r s).side = s.side := rfl
@[simp] theorem setFn_vxl (n : Nat) (r : Fn) : (setFn n r s).vxl = s.vxl := rfl
@[simp] theorem setFn_serve (n : Nat) (r : Fn) : (setFn n r s).serve = s.serve := rfl
@[simp] theorem setFn_prisms (n : Nat) (r : Fn) : (setFn n r s).prisms = s.prisms := rfl

/-! ## setCore -/

@[simp] theorem setCore_pending (n : Nat) (r : Core) : (setCore n r s).pending = s.pending := rfl
@[simp] theorem setCore_out (n : Nat) (r : Core) : (setCore n r s).out = s.out := rfl
@[simp] theorem setCore_freeCtr (n : Nat) (r : Core) : (setCore n r s).freeCtr = s.freeCtr := rfl
@[simp] theorem setCore_nextCmd (n : Nat) (r : Core) : (setCore n r s).nextCmd = s.nextCmd := rfl
@[simp] theorem setCore_time (n : Nat) (r : Core) : (setCore n r s).time = s.time := rfl
@[simp] theorem setCore_reg (n : Nat) (r : Core) : (setCore n r s).reg = s.reg := rfl
@[simp] theorem setCore_fns (n : Nat) (r : Core) : (setCore n r s).fns = s.fns := rfl
@[simp] theorem setCore_ctxs (n : Nat) (r : Core) : (setCore n r s).ctxs = s.ctxs := rfl
@[simp] theorem setCore_lost (n : Nat) (r : Core) : (setCore n r s).lost = s.lost := rfl
@[simp] theorem setCore_queues (n : Nat) (r : Core) : (setCore n r s).queues = s.queues := rfl
@[simp] theorem setCore_cmds (n : Nat) (r : Core) : (setCore n r s).cmds = s.cmds := rfl
@[simp] theorem setCore_facets (n : Nat) (r : Core) : (setCore n r s).facets = s.facets := rfl
@[simp] theorem setCore_clusters (n : Nat) (r : Core) : (setCore n r s).clusters = s.clusters := rfl
@[simp] theorem setCore_engines (n : Nat) (r : Core) : (setCore n r s).engines = s.engines := rfl
@[simp] theorem setCore_chans (n : Nat) (r : Core) : (setCore n r s).chans = s.chans := rfl
@[simp] theorem setCore_dram (n : Nat) (r : Core) : (setCore n r s).dram = s.dram := rfl
@[simp] theorem setCore_lineMeta (n : Nat) (r : Core) : (setCore n r s).lineMeta = s.lineMeta := rfl
@[simp] theorem setCore_msc (n : Nat) (r : Core) : (setCore n r s).msc = s.msc := rfl
@[simp] theorem setCore_stackTemp (n : Nat) (r : Core) : (setCore n r s).stackTemp = s.stackTemp := rfl
@[simp] theorem setCore_coh (n : Nat) (r : Core) : (setCore n r s).coh = s.coh := rfl
@[simp] theorem setCore_xl (n : Nat) (r : Core) : (setCore n r s).xl = s.xl := rfl
@[simp] theorem setCore_pwr (n : Nat) (r : Core) : (setCore n r s).pwr = s.pwr := rfl
@[simp] theorem setCore_fw (n : Nat) (r : Core) : (setCore n r s).fw = s.fw := rfl
@[simp] theorem setCore_fuses (n : Nat) (r : Core) : (setCore n r s).fuses = s.fuses := rfl
@[simp] theorem setCore_sec (n : Nat) (r : Core) : (setCore n r s).sec = s.sec := rfl
@[simp] theorem setCore_side (n : Nat) (r : Core) : (setCore n r s).side = s.side := rfl
@[simp] theorem setCore_vxl (n : Nat) (r : Core) : (setCore n r s).vxl = s.vxl := rfl
@[simp] theorem setCore_serve (n : Nat) (r : Core) : (setCore n r s).serve = s.serve := rfl
@[simp] theorem setCore_prisms (n : Nat) (r : Core) : (setCore n r s).prisms = s.prisms := rfl

/-! ## setEngine -/

@[simp] theorem setEngine_pending (n : Nat) (r : Engine) : (setEngine n r s).pending = s.pending := rfl
@[simp] theorem setEngine_out (n : Nat) (r : Engine) : (setEngine n r s).out = s.out := rfl
@[simp] theorem setEngine_freeCtr (n : Nat) (r : Engine) : (setEngine n r s).freeCtr = s.freeCtr := rfl
@[simp] theorem setEngine_nextCmd (n : Nat) (r : Engine) : (setEngine n r s).nextCmd = s.nextCmd := rfl
@[simp] theorem setEngine_time (n : Nat) (r : Engine) : (setEngine n r s).time = s.time := rfl
@[simp] theorem setEngine_reg (n : Nat) (r : Engine) : (setEngine n r s).reg = s.reg := rfl
@[simp] theorem setEngine_fns (n : Nat) (r : Engine) : (setEngine n r s).fns = s.fns := rfl
@[simp] theorem setEngine_ctxs (n : Nat) (r : Engine) : (setEngine n r s).ctxs = s.ctxs := rfl
@[simp] theorem setEngine_lost (n : Nat) (r : Engine) : (setEngine n r s).lost = s.lost := rfl
@[simp] theorem setEngine_queues (n : Nat) (r : Engine) : (setEngine n r s).queues = s.queues := rfl
@[simp] theorem setEngine_cmds (n : Nat) (r : Engine) : (setEngine n r s).cmds = s.cmds := rfl
@[simp] theorem setEngine_facets (n : Nat) (r : Engine) : (setEngine n r s).facets = s.facets := rfl
@[simp] theorem setEngine_clusters (n : Nat) (r : Engine) : (setEngine n r s).clusters = s.clusters := rfl
@[simp] theorem setEngine_cores (n : Nat) (r : Engine) : (setEngine n r s).cores = s.cores := rfl
@[simp] theorem setEngine_chans (n : Nat) (r : Engine) : (setEngine n r s).chans = s.chans := rfl
@[simp] theorem setEngine_dram (n : Nat) (r : Engine) : (setEngine n r s).dram = s.dram := rfl
@[simp] theorem setEngine_lineMeta (n : Nat) (r : Engine) : (setEngine n r s).lineMeta = s.lineMeta := rfl
@[simp] theorem setEngine_msc (n : Nat) (r : Engine) : (setEngine n r s).msc = s.msc := rfl
@[simp] theorem setEngine_stackTemp (n : Nat) (r : Engine) : (setEngine n r s).stackTemp = s.stackTemp := rfl
@[simp] theorem setEngine_coh (n : Nat) (r : Engine) : (setEngine n r s).coh = s.coh := rfl
@[simp] theorem setEngine_xl (n : Nat) (r : Engine) : (setEngine n r s).xl = s.xl := rfl
@[simp] theorem setEngine_pwr (n : Nat) (r : Engine) : (setEngine n r s).pwr = s.pwr := rfl
@[simp] theorem setEngine_fw (n : Nat) (r : Engine) : (setEngine n r s).fw = s.fw := rfl
@[simp] theorem setEngine_fuses (n : Nat) (r : Engine) : (setEngine n r s).fuses = s.fuses := rfl
@[simp] theorem setEngine_sec (n : Nat) (r : Engine) : (setEngine n r s).sec = s.sec := rfl
@[simp] theorem setEngine_side (n : Nat) (r : Engine) : (setEngine n r s).side = s.side := rfl
@[simp] theorem setEngine_vxl (n : Nat) (r : Engine) : (setEngine n r s).vxl = s.vxl := rfl
@[simp] theorem setEngine_serve (n : Nat) (r : Engine) : (setEngine n r s).serve = s.serve := rfl
@[simp] theorem setEngine_prisms (n : Nat) (r : Engine) : (setEngine n r s).prisms = s.prisms := rfl

/-! ## setChan -/

@[simp] theorem setChan_pending (n : Nat) (r : Chan) : (setChan n r s).pending = s.pending := rfl
@[simp] theorem setChan_out (n : Nat) (r : Chan) : (setChan n r s).out = s.out := rfl
@[simp] theorem setChan_freeCtr (n : Nat) (r : Chan) : (setChan n r s).freeCtr = s.freeCtr := rfl
@[simp] theorem setChan_nextCmd (n : Nat) (r : Chan) : (setChan n r s).nextCmd = s.nextCmd := rfl
@[simp] theorem setChan_time (n : Nat) (r : Chan) : (setChan n r s).time = s.time := rfl
@[simp] theorem setChan_reg (n : Nat) (r : Chan) : (setChan n r s).reg = s.reg := rfl
@[simp] theorem setChan_fns (n : Nat) (r : Chan) : (setChan n r s).fns = s.fns := rfl
@[simp] theorem setChan_ctxs (n : Nat) (r : Chan) : (setChan n r s).ctxs = s.ctxs := rfl
@[simp] theorem setChan_lost (n : Nat) (r : Chan) : (setChan n r s).lost = s.lost := rfl
@[simp] theorem setChan_queues (n : Nat) (r : Chan) : (setChan n r s).queues = s.queues := rfl
@[simp] theorem setChan_cmds (n : Nat) (r : Chan) : (setChan n r s).cmds = s.cmds := rfl
@[simp] theorem setChan_facets (n : Nat) (r : Chan) : (setChan n r s).facets = s.facets := rfl
@[simp] theorem setChan_clusters (n : Nat) (r : Chan) : (setChan n r s).clusters = s.clusters := rfl
@[simp] theorem setChan_cores (n : Nat) (r : Chan) : (setChan n r s).cores = s.cores := rfl
@[simp] theorem setChan_engines (n : Nat) (r : Chan) : (setChan n r s).engines = s.engines := rfl
@[simp] theorem setChan_dram (n : Nat) (r : Chan) : (setChan n r s).dram = s.dram := rfl
@[simp] theorem setChan_lineMeta (n : Nat) (r : Chan) : (setChan n r s).lineMeta = s.lineMeta := rfl
@[simp] theorem setChan_msc (n : Nat) (r : Chan) : (setChan n r s).msc = s.msc := rfl
@[simp] theorem setChan_stackTemp (n : Nat) (r : Chan) : (setChan n r s).stackTemp = s.stackTemp := rfl
@[simp] theorem setChan_coh (n : Nat) (r : Chan) : (setChan n r s).coh = s.coh := rfl
@[simp] theorem setChan_xl (n : Nat) (r : Chan) : (setChan n r s).xl = s.xl := rfl
@[simp] theorem setChan_pwr (n : Nat) (r : Chan) : (setChan n r s).pwr = s.pwr := rfl
@[simp] theorem setChan_fw (n : Nat) (r : Chan) : (setChan n r s).fw = s.fw := rfl
@[simp] theorem setChan_fuses (n : Nat) (r : Chan) : (setChan n r s).fuses = s.fuses := rfl
@[simp] theorem setChan_sec (n : Nat) (r : Chan) : (setChan n r s).sec = s.sec := rfl
@[simp] theorem setChan_side (n : Nat) (r : Chan) : (setChan n r s).side = s.side := rfl
@[simp] theorem setChan_vxl (n : Nat) (r : Chan) : (setChan n r s).vxl = s.vxl := rfl
@[simp] theorem setChan_serve (n : Nat) (r : Chan) : (setChan n r s).serve = s.serve := rfl
@[simp] theorem setChan_prisms (n : Nat) (r : Chan) : (setChan n r s).prisms = s.prisms := rfl

/-! ## setCluster -/

@[simp] theorem setCluster_pending (n : Nat) (r : Cluster) : (setCluster n r s).pending = s.pending := rfl
@[simp] theorem setCluster_out (n : Nat) (r : Cluster) : (setCluster n r s).out = s.out := rfl
@[simp] theorem setCluster_freeCtr (n : Nat) (r : Cluster) : (setCluster n r s).freeCtr = s.freeCtr := rfl
@[simp] theorem setCluster_nextCmd (n : Nat) (r : Cluster) : (setCluster n r s).nextCmd = s.nextCmd := rfl
@[simp] theorem setCluster_time (n : Nat) (r : Cluster) : (setCluster n r s).time = s.time := rfl
@[simp] theorem setCluster_reg (n : Nat) (r : Cluster) : (setCluster n r s).reg = s.reg := rfl
@[simp] theorem setCluster_fns (n : Nat) (r : Cluster) : (setCluster n r s).fns = s.fns := rfl
@[simp] theorem setCluster_ctxs (n : Nat) (r : Cluster) : (setCluster n r s).ctxs = s.ctxs := rfl
@[simp] theorem setCluster_lost (n : Nat) (r : Cluster) : (setCluster n r s).lost = s.lost := rfl
@[simp] theorem setCluster_queues (n : Nat) (r : Cluster) : (setCluster n r s).queues = s.queues := rfl
@[simp] theorem setCluster_cmds (n : Nat) (r : Cluster) : (setCluster n r s).cmds = s.cmds := rfl
@[simp] theorem setCluster_facets (n : Nat) (r : Cluster) : (setCluster n r s).facets = s.facets := rfl
@[simp] theorem setCluster_cores (n : Nat) (r : Cluster) : (setCluster n r s).cores = s.cores := rfl
@[simp] theorem setCluster_engines (n : Nat) (r : Cluster) : (setCluster n r s).engines = s.engines := rfl
@[simp] theorem setCluster_chans (n : Nat) (r : Cluster) : (setCluster n r s).chans = s.chans := rfl
@[simp] theorem setCluster_dram (n : Nat) (r : Cluster) : (setCluster n r s).dram = s.dram := rfl
@[simp] theorem setCluster_lineMeta (n : Nat) (r : Cluster) : (setCluster n r s).lineMeta = s.lineMeta := rfl
@[simp] theorem setCluster_msc (n : Nat) (r : Cluster) : (setCluster n r s).msc = s.msc := rfl
@[simp] theorem setCluster_stackTemp (n : Nat) (r : Cluster) : (setCluster n r s).stackTemp = s.stackTemp := rfl
@[simp] theorem setCluster_coh (n : Nat) (r : Cluster) : (setCluster n r s).coh = s.coh := rfl
@[simp] theorem setCluster_xl (n : Nat) (r : Cluster) : (setCluster n r s).xl = s.xl := rfl
@[simp] theorem setCluster_pwr (n : Nat) (r : Cluster) : (setCluster n r s).pwr = s.pwr := rfl
@[simp] theorem setCluster_fw (n : Nat) (r : Cluster) : (setCluster n r s).fw = s.fw := rfl
@[simp] theorem setCluster_fuses (n : Nat) (r : Cluster) : (setCluster n r s).fuses = s.fuses := rfl
@[simp] theorem setCluster_sec (n : Nat) (r : Cluster) : (setCluster n r s).sec = s.sec := rfl
@[simp] theorem setCluster_side (n : Nat) (r : Cluster) : (setCluster n r s).side = s.side := rfl
@[simp] theorem setCluster_vxl (n : Nat) (r : Cluster) : (setCluster n r s).vxl = s.vxl := rfl
@[simp] theorem setCluster_serve (n : Nat) (r : Cluster) : (setCluster n r s).serve = s.serve := rfl
@[simp] theorem setCluster_prisms (n : Nat) (r : Cluster) : (setCluster n r s).prisms = s.prisms := rfl

/-! ## setFacet -/

@[simp] theorem setFacet_pending (n : Nat) (r : Facet) : (setFacet n r s).pending = s.pending := rfl
@[simp] theorem setFacet_out (n : Nat) (r : Facet) : (setFacet n r s).out = s.out := rfl
@[simp] theorem setFacet_freeCtr (n : Nat) (r : Facet) : (setFacet n r s).freeCtr = s.freeCtr := rfl
@[simp] theorem setFacet_nextCmd (n : Nat) (r : Facet) : (setFacet n r s).nextCmd = s.nextCmd := rfl
@[simp] theorem setFacet_time (n : Nat) (r : Facet) : (setFacet n r s).time = s.time := rfl
@[simp] theorem setFacet_reg (n : Nat) (r : Facet) : (setFacet n r s).reg = s.reg := rfl
@[simp] theorem setFacet_fns (n : Nat) (r : Facet) : (setFacet n r s).fns = s.fns := rfl
@[simp] theorem setFacet_ctxs (n : Nat) (r : Facet) : (setFacet n r s).ctxs = s.ctxs := rfl
@[simp] theorem setFacet_lost (n : Nat) (r : Facet) : (setFacet n r s).lost = s.lost := rfl
@[simp] theorem setFacet_queues (n : Nat) (r : Facet) : (setFacet n r s).queues = s.queues := rfl
@[simp] theorem setFacet_cmds (n : Nat) (r : Facet) : (setFacet n r s).cmds = s.cmds := rfl
@[simp] theorem setFacet_clusters (n : Nat) (r : Facet) : (setFacet n r s).clusters = s.clusters := rfl
@[simp] theorem setFacet_cores (n : Nat) (r : Facet) : (setFacet n r s).cores = s.cores := rfl
@[simp] theorem setFacet_engines (n : Nat) (r : Facet) : (setFacet n r s).engines = s.engines := rfl
@[simp] theorem setFacet_chans (n : Nat) (r : Facet) : (setFacet n r s).chans = s.chans := rfl
@[simp] theorem setFacet_dram (n : Nat) (r : Facet) : (setFacet n r s).dram = s.dram := rfl
@[simp] theorem setFacet_lineMeta (n : Nat) (r : Facet) : (setFacet n r s).lineMeta = s.lineMeta := rfl
@[simp] theorem setFacet_msc (n : Nat) (r : Facet) : (setFacet n r s).msc = s.msc := rfl
@[simp] theorem setFacet_stackTemp (n : Nat) (r : Facet) : (setFacet n r s).stackTemp = s.stackTemp := rfl
@[simp] theorem setFacet_coh (n : Nat) (r : Facet) : (setFacet n r s).coh = s.coh := rfl
@[simp] theorem setFacet_xl (n : Nat) (r : Facet) : (setFacet n r s).xl = s.xl := rfl
@[simp] theorem setFacet_pwr (n : Nat) (r : Facet) : (setFacet n r s).pwr = s.pwr := rfl
@[simp] theorem setFacet_fw (n : Nat) (r : Facet) : (setFacet n r s).fw = s.fw := rfl
@[simp] theorem setFacet_fuses (n : Nat) (r : Facet) : (setFacet n r s).fuses = s.fuses := rfl
@[simp] theorem setFacet_sec (n : Nat) (r : Facet) : (setFacet n r s).sec = s.sec := rfl
@[simp] theorem setFacet_side (n : Nat) (r : Facet) : (setFacet n r s).side = s.side := rfl
@[simp] theorem setFacet_vxl (n : Nat) (r : Facet) : (setFacet n r s).vxl = s.vxl := rfl
@[simp] theorem setFacet_serve (n : Nat) (r : Facet) : (setFacet n r s).serve = s.serve := rfl
@[simp] theorem setFacet_prisms (n : Nat) (r : Facet) : (setFacet n r s).prisms = s.prisms := rfl

/-! ## setQueue -/

@[simp] theorem setQueue_pending (n : Nat) (r : Queue) : (setQueue n r s).pending = s.pending := rfl
@[simp] theorem setQueue_out (n : Nat) (r : Queue) : (setQueue n r s).out = s.out := rfl
@[simp] theorem setQueue_freeCtr (n : Nat) (r : Queue) : (setQueue n r s).freeCtr = s.freeCtr := rfl
@[simp] theorem setQueue_nextCmd (n : Nat) (r : Queue) : (setQueue n r s).nextCmd = s.nextCmd := rfl
@[simp] theorem setQueue_time (n : Nat) (r : Queue) : (setQueue n r s).time = s.time := rfl
@[simp] theorem setQueue_reg (n : Nat) (r : Queue) : (setQueue n r s).reg = s.reg := rfl
@[simp] theorem setQueue_fns (n : Nat) (r : Queue) : (setQueue n r s).fns = s.fns := rfl
@[simp] theorem setQueue_ctxs (n : Nat) (r : Queue) : (setQueue n r s).ctxs = s.ctxs := rfl
@[simp] theorem setQueue_lost (n : Nat) (r : Queue) : (setQueue n r s).lost = s.lost := rfl
@[simp] theorem setQueue_cmds (n : Nat) (r : Queue) : (setQueue n r s).cmds = s.cmds := rfl
@[simp] theorem setQueue_facets (n : Nat) (r : Queue) : (setQueue n r s).facets = s.facets := rfl
@[simp] theorem setQueue_clusters (n : Nat) (r : Queue) : (setQueue n r s).clusters = s.clusters := rfl
@[simp] theorem setQueue_cores (n : Nat) (r : Queue) : (setQueue n r s).cores = s.cores := rfl
@[simp] theorem setQueue_engines (n : Nat) (r : Queue) : (setQueue n r s).engines = s.engines := rfl
@[simp] theorem setQueue_chans (n : Nat) (r : Queue) : (setQueue n r s).chans = s.chans := rfl
@[simp] theorem setQueue_dram (n : Nat) (r : Queue) : (setQueue n r s).dram = s.dram := rfl
@[simp] theorem setQueue_lineMeta (n : Nat) (r : Queue) : (setQueue n r s).lineMeta = s.lineMeta := rfl
@[simp] theorem setQueue_msc (n : Nat) (r : Queue) : (setQueue n r s).msc = s.msc := rfl
@[simp] theorem setQueue_stackTemp (n : Nat) (r : Queue) : (setQueue n r s).stackTemp = s.stackTemp := rfl
@[simp] theorem setQueue_coh (n : Nat) (r : Queue) : (setQueue n r s).coh = s.coh := rfl
@[simp] theorem setQueue_xl (n : Nat) (r : Queue) : (setQueue n r s).xl = s.xl := rfl
@[simp] theorem setQueue_pwr (n : Nat) (r : Queue) : (setQueue n r s).pwr = s.pwr := rfl
@[simp] theorem setQueue_fw (n : Nat) (r : Queue) : (setQueue n r s).fw = s.fw := rfl
@[simp] theorem setQueue_fuses (n : Nat) (r : Queue) : (setQueue n r s).fuses = s.fuses := rfl
@[simp] theorem setQueue_sec (n : Nat) (r : Queue) : (setQueue n r s).sec = s.sec := rfl
@[simp] theorem setQueue_side (n : Nat) (r : Queue) : (setQueue n r s).side = s.side := rfl
@[simp] theorem setQueue_vxl (n : Nat) (r : Queue) : (setQueue n r s).vxl = s.vxl := rfl
@[simp] theorem setQueue_serve (n : Nat) (r : Queue) : (setQueue n r s).serve = s.serve := rfl
@[simp] theorem setQueue_prisms (n : Nat) (r : Queue) : (setQueue n r s).prisms = s.prisms := rfl

/-! ## setCmd -/

@[simp] theorem setCmd_pending (n : Nat) (r : Cmd) : (setCmd n r s).pending = s.pending := rfl
@[simp] theorem setCmd_out (n : Nat) (r : Cmd) : (setCmd n r s).out = s.out := rfl
@[simp] theorem setCmd_freeCtr (n : Nat) (r : Cmd) : (setCmd n r s).freeCtr = s.freeCtr := rfl
@[simp] theorem setCmd_nextCmd (n : Nat) (r : Cmd) : (setCmd n r s).nextCmd = s.nextCmd := rfl
@[simp] theorem setCmd_time (n : Nat) (r : Cmd) : (setCmd n r s).time = s.time := rfl
@[simp] theorem setCmd_reg (n : Nat) (r : Cmd) : (setCmd n r s).reg = s.reg := rfl
@[simp] theorem setCmd_fns (n : Nat) (r : Cmd) : (setCmd n r s).fns = s.fns := rfl
@[simp] theorem setCmd_ctxs (n : Nat) (r : Cmd) : (setCmd n r s).ctxs = s.ctxs := rfl
@[simp] theorem setCmd_lost (n : Nat) (r : Cmd) : (setCmd n r s).lost = s.lost := rfl
@[simp] theorem setCmd_queues (n : Nat) (r : Cmd) : (setCmd n r s).queues = s.queues := rfl
@[simp] theorem setCmd_facets (n : Nat) (r : Cmd) : (setCmd n r s).facets = s.facets := rfl
@[simp] theorem setCmd_clusters (n : Nat) (r : Cmd) : (setCmd n r s).clusters = s.clusters := rfl
@[simp] theorem setCmd_cores (n : Nat) (r : Cmd) : (setCmd n r s).cores = s.cores := rfl
@[simp] theorem setCmd_engines (n : Nat) (r : Cmd) : (setCmd n r s).engines = s.engines := rfl
@[simp] theorem setCmd_chans (n : Nat) (r : Cmd) : (setCmd n r s).chans = s.chans := rfl
@[simp] theorem setCmd_dram (n : Nat) (r : Cmd) : (setCmd n r s).dram = s.dram := rfl
@[simp] theorem setCmd_lineMeta (n : Nat) (r : Cmd) : (setCmd n r s).lineMeta = s.lineMeta := rfl
@[simp] theorem setCmd_msc (n : Nat) (r : Cmd) : (setCmd n r s).msc = s.msc := rfl
@[simp] theorem setCmd_stackTemp (n : Nat) (r : Cmd) : (setCmd n r s).stackTemp = s.stackTemp := rfl
@[simp] theorem setCmd_coh (n : Nat) (r : Cmd) : (setCmd n r s).coh = s.coh := rfl
@[simp] theorem setCmd_xl (n : Nat) (r : Cmd) : (setCmd n r s).xl = s.xl := rfl
@[simp] theorem setCmd_pwr (n : Nat) (r : Cmd) : (setCmd n r s).pwr = s.pwr := rfl
@[simp] theorem setCmd_fw (n : Nat) (r : Cmd) : (setCmd n r s).fw = s.fw := rfl
@[simp] theorem setCmd_fuses (n : Nat) (r : Cmd) : (setCmd n r s).fuses = s.fuses := rfl
@[simp] theorem setCmd_sec (n : Nat) (r : Cmd) : (setCmd n r s).sec = s.sec := rfl
@[simp] theorem setCmd_side (n : Nat) (r : Cmd) : (setCmd n r s).side = s.side := rfl
@[simp] theorem setCmd_vxl (n : Nat) (r : Cmd) : (setCmd n r s).vxl = s.vxl := rfl
@[simp] theorem setCmd_serve (n : Nat) (r : Cmd) : (setCmd n r s).serve = s.serve := rfl
@[simp] theorem setCmd_prisms (n : Nat) (r : Cmd) : (setCmd n r s).prisms = s.prisms := rfl

/-! ## setCtx -/

@[simp] theorem setCtx_pending (n : Nat) (r : Ctx) : (setCtx n r s).pending = s.pending := rfl
@[simp] theorem setCtx_out (n : Nat) (r : Ctx) : (setCtx n r s).out = s.out := rfl
@[simp] theorem setCtx_freeCtr (n : Nat) (r : Ctx) : (setCtx n r s).freeCtr = s.freeCtr := rfl
@[simp] theorem setCtx_nextCmd (n : Nat) (r : Ctx) : (setCtx n r s).nextCmd = s.nextCmd := rfl
@[simp] theorem setCtx_time (n : Nat) (r : Ctx) : (setCtx n r s).time = s.time := rfl
@[simp] theorem setCtx_reg (n : Nat) (r : Ctx) : (setCtx n r s).reg = s.reg := rfl
@[simp] theorem setCtx_fns (n : Nat) (r : Ctx) : (setCtx n r s).fns = s.fns := rfl
@[simp] theorem setCtx_lost (n : Nat) (r : Ctx) : (setCtx n r s).lost = s.lost := rfl
@[simp] theorem setCtx_queues (n : Nat) (r : Ctx) : (setCtx n r s).queues = s.queues := rfl
@[simp] theorem setCtx_cmds (n : Nat) (r : Ctx) : (setCtx n r s).cmds = s.cmds := rfl
@[simp] theorem setCtx_facets (n : Nat) (r : Ctx) : (setCtx n r s).facets = s.facets := rfl
@[simp] theorem setCtx_clusters (n : Nat) (r : Ctx) : (setCtx n r s).clusters = s.clusters := rfl
@[simp] theorem setCtx_cores (n : Nat) (r : Ctx) : (setCtx n r s).cores = s.cores := rfl
@[simp] theorem setCtx_engines (n : Nat) (r : Ctx) : (setCtx n r s).engines = s.engines := rfl
@[simp] theorem setCtx_chans (n : Nat) (r : Ctx) : (setCtx n r s).chans = s.chans := rfl
@[simp] theorem setCtx_dram (n : Nat) (r : Ctx) : (setCtx n r s).dram = s.dram := rfl
@[simp] theorem setCtx_lineMeta (n : Nat) (r : Ctx) : (setCtx n r s).lineMeta = s.lineMeta := rfl
@[simp] theorem setCtx_msc (n : Nat) (r : Ctx) : (setCtx n r s).msc = s.msc := rfl
@[simp] theorem setCtx_stackTemp (n : Nat) (r : Ctx) : (setCtx n r s).stackTemp = s.stackTemp := rfl
@[simp] theorem setCtx_coh (n : Nat) (r : Ctx) : (setCtx n r s).coh = s.coh := rfl
@[simp] theorem setCtx_xl (n : Nat) (r : Ctx) : (setCtx n r s).xl = s.xl := rfl
@[simp] theorem setCtx_pwr (n : Nat) (r : Ctx) : (setCtx n r s).pwr = s.pwr := rfl
@[simp] theorem setCtx_fw (n : Nat) (r : Ctx) : (setCtx n r s).fw = s.fw := rfl
@[simp] theorem setCtx_fuses (n : Nat) (r : Ctx) : (setCtx n r s).fuses = s.fuses := rfl
@[simp] theorem setCtx_sec (n : Nat) (r : Ctx) : (setCtx n r s).sec = s.sec := rfl
@[simp] theorem setCtx_side (n : Nat) (r : Ctx) : (setCtx n r s).side = s.side := rfl
@[simp] theorem setCtx_vxl (n : Nat) (r : Ctx) : (setCtx n r s).vxl = s.vxl := rfl
@[simp] theorem setCtx_serve (n : Nat) (r : Ctx) : (setCtx n r s).serve = s.serve := rfl
@[simp] theorem setCtx_prisms (n : Nat) (r : Ctx) : (setCtx n r s).prisms = s.prisms := rfl

/-! ## emit -/

@[simp] theorem emit_pending (e : Emit) : (emit e s).pending = s.pending := rfl
@[simp] theorem emit_freeCtr (e : Emit) : (emit e s).freeCtr = s.freeCtr := rfl
@[simp] theorem emit_nextCmd (e : Emit) : (emit e s).nextCmd = s.nextCmd := rfl
@[simp] theorem emit_time (e : Emit) : (emit e s).time = s.time := rfl
@[simp] theorem emit_reg (e : Emit) : (emit e s).reg = s.reg := rfl
@[simp] theorem emit_fns (e : Emit) : (emit e s).fns = s.fns := rfl
@[simp] theorem emit_ctxs (e : Emit) : (emit e s).ctxs = s.ctxs := rfl
@[simp] theorem emit_lost (e : Emit) : (emit e s).lost = s.lost := rfl
@[simp] theorem emit_queues (e : Emit) : (emit e s).queues = s.queues := rfl
@[simp] theorem emit_cmds (e : Emit) : (emit e s).cmds = s.cmds := rfl
@[simp] theorem emit_facets (e : Emit) : (emit e s).facets = s.facets := rfl
@[simp] theorem emit_clusters (e : Emit) : (emit e s).clusters = s.clusters := rfl
@[simp] theorem emit_cores (e : Emit) : (emit e s).cores = s.cores := rfl
@[simp] theorem emit_engines (e : Emit) : (emit e s).engines = s.engines := rfl
@[simp] theorem emit_chans (e : Emit) : (emit e s).chans = s.chans := rfl
@[simp] theorem emit_dram (e : Emit) : (emit e s).dram = s.dram := rfl
@[simp] theorem emit_lineMeta (e : Emit) : (emit e s).lineMeta = s.lineMeta := rfl
@[simp] theorem emit_msc (e : Emit) : (emit e s).msc = s.msc := rfl
@[simp] theorem emit_stackTemp (e : Emit) : (emit e s).stackTemp = s.stackTemp := rfl
@[simp] theorem emit_coh (e : Emit) : (emit e s).coh = s.coh := rfl
@[simp] theorem emit_xl (e : Emit) : (emit e s).xl = s.xl := rfl
@[simp] theorem emit_pwr (e : Emit) : (emit e s).pwr = s.pwr := rfl
@[simp] theorem emit_fw (e : Emit) : (emit e s).fw = s.fw := rfl
@[simp] theorem emit_fuses (e : Emit) : (emit e s).fuses = s.fuses := rfl
@[simp] theorem emit_sec (e : Emit) : (emit e s).sec = s.sec := rfl
@[simp] theorem emit_side (e : Emit) : (emit e s).side = s.side := rfl
@[simp] theorem emit_vxl (e : Emit) : (emit e s).vxl = s.vxl := rfl
@[simp] theorem emit_serve (e : Emit) : (emit e s).serve = s.serve := rfl
@[simp] theorem emit_prisms (e : Emit) : (emit e s).prisms = s.prisms := rfl

/-! ## setMeta -/

@[simp] theorem setMeta_pending (gl : Nat) (m : LineMeta) : (setMeta gl m s).pending = s.pending := rfl
@[simp] theorem setMeta_out (gl : Nat) (m : LineMeta) : (setMeta gl m s).out = s.out := rfl
@[simp] theorem setMeta_freeCtr (gl : Nat) (m : LineMeta) : (setMeta gl m s).freeCtr = s.freeCtr := rfl
@[simp] theorem setMeta_nextCmd (gl : Nat) (m : LineMeta) : (setMeta gl m s).nextCmd = s.nextCmd := rfl
@[simp] theorem setMeta_time (gl : Nat) (m : LineMeta) : (setMeta gl m s).time = s.time := rfl
@[simp] theorem setMeta_reg (gl : Nat) (m : LineMeta) : (setMeta gl m s).reg = s.reg := rfl
@[simp] theorem setMeta_fns (gl : Nat) (m : LineMeta) : (setMeta gl m s).fns = s.fns := rfl
@[simp] theorem setMeta_ctxs (gl : Nat) (m : LineMeta) : (setMeta gl m s).ctxs = s.ctxs := rfl
@[simp] theorem setMeta_lost (gl : Nat) (m : LineMeta) : (setMeta gl m s).lost = s.lost := rfl
@[simp] theorem setMeta_queues (gl : Nat) (m : LineMeta) : (setMeta gl m s).queues = s.queues := rfl
@[simp] theorem setMeta_cmds (gl : Nat) (m : LineMeta) : (setMeta gl m s).cmds = s.cmds := rfl
@[simp] theorem setMeta_facets (gl : Nat) (m : LineMeta) : (setMeta gl m s).facets = s.facets := rfl
@[simp] theorem setMeta_clusters (gl : Nat) (m : LineMeta) : (setMeta gl m s).clusters = s.clusters := rfl
@[simp] theorem setMeta_cores (gl : Nat) (m : LineMeta) : (setMeta gl m s).cores = s.cores := rfl
@[simp] theorem setMeta_engines (gl : Nat) (m : LineMeta) : (setMeta gl m s).engines = s.engines := rfl
@[simp] theorem setMeta_chans (gl : Nat) (m : LineMeta) : (setMeta gl m s).chans = s.chans := rfl
@[simp] theorem setMeta_dram (gl : Nat) (m : LineMeta) : (setMeta gl m s).dram = s.dram := rfl
@[simp] theorem setMeta_msc (gl : Nat) (m : LineMeta) : (setMeta gl m s).msc = s.msc := rfl
@[simp] theorem setMeta_stackTemp (gl : Nat) (m : LineMeta) : (setMeta gl m s).stackTemp = s.stackTemp := rfl
@[simp] theorem setMeta_coh (gl : Nat) (m : LineMeta) : (setMeta gl m s).coh = s.coh := rfl
@[simp] theorem setMeta_xl (gl : Nat) (m : LineMeta) : (setMeta gl m s).xl = s.xl := rfl
@[simp] theorem setMeta_pwr (gl : Nat) (m : LineMeta) : (setMeta gl m s).pwr = s.pwr := rfl
@[simp] theorem setMeta_fw (gl : Nat) (m : LineMeta) : (setMeta gl m s).fw = s.fw := rfl
@[simp] theorem setMeta_fuses (gl : Nat) (m : LineMeta) : (setMeta gl m s).fuses = s.fuses := rfl
@[simp] theorem setMeta_sec (gl : Nat) (m : LineMeta) : (setMeta gl m s).sec = s.sec := rfl
@[simp] theorem setMeta_side (gl : Nat) (m : LineMeta) : (setMeta gl m s).side = s.side := rfl
@[simp] theorem setMeta_vxl (gl : Nat) (m : LineMeta) : (setMeta gl m s).vxl = s.vxl := rfl
@[simp] theorem setMeta_serve (gl : Nat) (m : LineMeta) : (setMeta gl m s).serve = s.serve := rfl
@[simp] theorem setMeta_prisms (gl : Nat) (m : LineMeta) : (setMeta gl m s).prisms = s.prisms := rfl

/-! ## dramWrite -/

@[simp] theorem dramWrite_pending (gl : Nat) (d : List Byte) : (dramWrite gl d s).pending = s.pending := rfl
@[simp] theorem dramWrite_out (gl : Nat) (d : List Byte) : (dramWrite gl d s).out = s.out := rfl
@[simp] theorem dramWrite_freeCtr (gl : Nat) (d : List Byte) : (dramWrite gl d s).freeCtr = s.freeCtr := rfl
@[simp] theorem dramWrite_nextCmd (gl : Nat) (d : List Byte) : (dramWrite gl d s).nextCmd = s.nextCmd := rfl
@[simp] theorem dramWrite_time (gl : Nat) (d : List Byte) : (dramWrite gl d s).time = s.time := rfl
@[simp] theorem dramWrite_reg (gl : Nat) (d : List Byte) : (dramWrite gl d s).reg = s.reg := rfl
@[simp] theorem dramWrite_fns (gl : Nat) (d : List Byte) : (dramWrite gl d s).fns = s.fns := rfl
@[simp] theorem dramWrite_ctxs (gl : Nat) (d : List Byte) : (dramWrite gl d s).ctxs = s.ctxs := rfl
@[simp] theorem dramWrite_lost (gl : Nat) (d : List Byte) : (dramWrite gl d s).lost = s.lost := rfl
@[simp] theorem dramWrite_queues (gl : Nat) (d : List Byte) : (dramWrite gl d s).queues = s.queues := rfl
@[simp] theorem dramWrite_cmds (gl : Nat) (d : List Byte) : (dramWrite gl d s).cmds = s.cmds := rfl
@[simp] theorem dramWrite_facets (gl : Nat) (d : List Byte) : (dramWrite gl d s).facets = s.facets := rfl
@[simp] theorem dramWrite_clusters (gl : Nat) (d : List Byte) : (dramWrite gl d s).clusters = s.clusters := rfl
@[simp] theorem dramWrite_cores (gl : Nat) (d : List Byte) : (dramWrite gl d s).cores = s.cores := rfl
@[simp] theorem dramWrite_engines (gl : Nat) (d : List Byte) : (dramWrite gl d s).engines = s.engines := rfl
@[simp] theorem dramWrite_chans (gl : Nat) (d : List Byte) : (dramWrite gl d s).chans = s.chans := rfl
@[simp] theorem dramWrite_lineMeta (gl : Nat) (d : List Byte) : (dramWrite gl d s).lineMeta = s.lineMeta := rfl
@[simp] theorem dramWrite_msc (gl : Nat) (d : List Byte) : (dramWrite gl d s).msc = s.msc := rfl
@[simp] theorem dramWrite_stackTemp (gl : Nat) (d : List Byte) : (dramWrite gl d s).stackTemp = s.stackTemp := rfl
@[simp] theorem dramWrite_coh (gl : Nat) (d : List Byte) : (dramWrite gl d s).coh = s.coh := rfl
@[simp] theorem dramWrite_xl (gl : Nat) (d : List Byte) : (dramWrite gl d s).xl = s.xl := rfl
@[simp] theorem dramWrite_pwr (gl : Nat) (d : List Byte) : (dramWrite gl d s).pwr = s.pwr := rfl
@[simp] theorem dramWrite_fw (gl : Nat) (d : List Byte) : (dramWrite gl d s).fw = s.fw := rfl
@[simp] theorem dramWrite_fuses (gl : Nat) (d : List Byte) : (dramWrite gl d s).fuses = s.fuses := rfl
@[simp] theorem dramWrite_sec (gl : Nat) (d : List Byte) : (dramWrite gl d s).sec = s.sec := rfl
@[simp] theorem dramWrite_side (gl : Nat) (d : List Byte) : (dramWrite gl d s).side = s.side := rfl
@[simp] theorem dramWrite_vxl (gl : Nat) (d : List Byte) : (dramWrite gl d s).vxl = s.vxl := rfl
@[simp] theorem dramWrite_serve (gl : Nat) (d : List Byte) : (dramWrite gl d s).serve = s.serve := rfl
@[simp] theorem dramWrite_prisms (gl : Nat) (d : List Byte) : (dramWrite gl d s).prisms = s.prisms := rfl

/-! ## setMscSet -/

@[simp] theorem setMscSet_pending (q : Nat) (l : List MscLine) : (setMscSet q l s).pending = s.pending := rfl
@[simp] theorem setMscSet_out (q : Nat) (l : List MscLine) : (setMscSet q l s).out = s.out := rfl
@[simp] theorem setMscSet_freeCtr (q : Nat) (l : List MscLine) : (setMscSet q l s).freeCtr = s.freeCtr := rfl
@[simp] theorem setMscSet_nextCmd (q : Nat) (l : List MscLine) : (setMscSet q l s).nextCmd = s.nextCmd := rfl
@[simp] theorem setMscSet_time (q : Nat) (l : List MscLine) : (setMscSet q l s).time = s.time := rfl
@[simp] theorem setMscSet_reg (q : Nat) (l : List MscLine) : (setMscSet q l s).reg = s.reg := rfl
@[simp] theorem setMscSet_fns (q : Nat) (l : List MscLine) : (setMscSet q l s).fns = s.fns := rfl
@[simp] theorem setMscSet_ctxs (q : Nat) (l : List MscLine) : (setMscSet q l s).ctxs = s.ctxs := rfl
@[simp] theorem setMscSet_lost (q : Nat) (l : List MscLine) : (setMscSet q l s).lost = s.lost := rfl
@[simp] theorem setMscSet_queues (q : Nat) (l : List MscLine) : (setMscSet q l s).queues = s.queues := rfl
@[simp] theorem setMscSet_cmds (q : Nat) (l : List MscLine) : (setMscSet q l s).cmds = s.cmds := rfl
@[simp] theorem setMscSet_facets (q : Nat) (l : List MscLine) : (setMscSet q l s).facets = s.facets := rfl
@[simp] theorem setMscSet_clusters (q : Nat) (l : List MscLine) : (setMscSet q l s).clusters = s.clusters := rfl
@[simp] theorem setMscSet_cores (q : Nat) (l : List MscLine) : (setMscSet q l s).cores = s.cores := rfl
@[simp] theorem setMscSet_engines (q : Nat) (l : List MscLine) : (setMscSet q l s).engines = s.engines := rfl
@[simp] theorem setMscSet_chans (q : Nat) (l : List MscLine) : (setMscSet q l s).chans = s.chans := rfl
@[simp] theorem setMscSet_dram (q : Nat) (l : List MscLine) : (setMscSet q l s).dram = s.dram := rfl
@[simp] theorem setMscSet_lineMeta (q : Nat) (l : List MscLine) : (setMscSet q l s).lineMeta = s.lineMeta := rfl
@[simp] theorem setMscSet_stackTemp (q : Nat) (l : List MscLine) : (setMscSet q l s).stackTemp = s.stackTemp := rfl
@[simp] theorem setMscSet_coh (q : Nat) (l : List MscLine) : (setMscSet q l s).coh = s.coh := rfl
@[simp] theorem setMscSet_xl (q : Nat) (l : List MscLine) : (setMscSet q l s).xl = s.xl := rfl
@[simp] theorem setMscSet_pwr (q : Nat) (l : List MscLine) : (setMscSet q l s).pwr = s.pwr := rfl
@[simp] theorem setMscSet_fw (q : Nat) (l : List MscLine) : (setMscSet q l s).fw = s.fw := rfl
@[simp] theorem setMscSet_fuses (q : Nat) (l : List MscLine) : (setMscSet q l s).fuses = s.fuses := rfl
@[simp] theorem setMscSet_sec (q : Nat) (l : List MscLine) : (setMscSet q l s).sec = s.sec := rfl
@[simp] theorem setMscSet_side (q : Nat) (l : List MscLine) : (setMscSet q l s).side = s.side := rfl
@[simp] theorem setMscSet_vxl (q : Nat) (l : List MscLine) : (setMscSet q l s).vxl = s.vxl := rfl
@[simp] theorem setMscSet_serve (q : Nat) (l : List MscLine) : (setMscSet q l s).serve = s.serve := rfl
@[simp] theorem setMscSet_prisms (q : Nat) (l : List MscLine) : (setMscSet q l s).prisms = s.prisms := rfl

/-! ## Reading back -/

@[simp] theorem fnOf_setFn_self (n : Nat) (r : Fn) : fnOf (setFn n r s) n = r := by
  simp [fnOf, setFn]
theorem fnOf_setFn_ne (n j : Nat) (r : Fn) (h : j ≠ n) : fnOf (setFn n r s) j = fnOf s j := by
  simp [fnOf, setFn, SMap.getD_put_ne _ _ _ _ _ h]
@[simp] theorem setFn_setFn_self (n : Nat) (r q : Fn) : setFn n q (setFn n r s) = setFn n q s := by
  simp [setFn]
@[simp] theorem coreOf_setCore_self (n : Nat) (r : Core) : coreOf (setCore n r s) n = r := by
  simp [coreOf, setCore]
theorem coreOf_setCore_ne (n j : Nat) (r : Core) (h : j ≠ n) : coreOf (setCore n r s) j = coreOf s j := by
  exact SMap.getD_put_ne _ _ _ _ _ h
@[simp] theorem setCore_setCore_self (n : Nat) (r q : Core) : setCore n q (setCore n r s) = setCore n q s := by
  simp [setCore]
@[simp] theorem engineOf_setEngine_self (n : Nat) (r : Engine) : engineOf (setEngine n r s) n = r := by
  simp [engineOf, setEngine]
theorem engineOf_setEngine_ne (n j : Nat) (r : Engine) (h : j ≠ n) : engineOf (setEngine n r s) j = engineOf s j := by
  exact SMap.getD_put_ne _ _ _ _ _ h
@[simp] theorem setEngine_setEngine_self (n : Nat) (r q : Engine) : setEngine n q (setEngine n r s) = setEngine n q s := by
  simp [setEngine]
@[simp] theorem chanOf_setChan_self (n : Nat) (r : Chan) : chanOf (setChan n r s) n = r := by
  simp [chanOf, setChan]
theorem chanOf_setChan_ne (n j : Nat) (r : Chan) (h : j ≠ n) : chanOf (setChan n r s) j = chanOf s j := by
  simp [chanOf, setChan, SMap.getD_put_ne _ _ _ _ _ h]
@[simp] theorem setChan_setChan_self (n : Nat) (r q : Chan) : setChan n q (setChan n r s) = setChan n q s := by
  simp [setChan]
@[simp] theorem clusterOf_setCluster_self (n : Nat) (r : Cluster) : clusterOf (setCluster n r s) n = r := by
  simp [clusterOf, setCluster]
theorem clusterOf_setCluster_ne (n j : Nat) (r : Cluster) (h : j ≠ n) : clusterOf (setCluster n r s) j = clusterOf s j := by
  simp [clusterOf, setCluster, SMap.getD_put_ne _ _ _ _ _ h]
@[simp] theorem setCluster_setCluster_self (n : Nat) (r q : Cluster) : setCluster n q (setCluster n r s) = setCluster n q s := by
  simp [setCluster]
@[simp] theorem look_setFacet_self (n : Nat) (r : Facet) : SMap.look (setFacet n r s).facets n = some r := by
  simp [setFacet]
theorem look_setFacet_ne (n j : Nat) (r : Facet) (h : j ≠ n) : SMap.look (setFacet n r s).facets j = SMap.look s.facets j := by
  simp [setFacet, SMap.look_put_ne _ _ _ _ h]
@[simp] theorem setFacet_setFacet_self (n : Nat) (r q : Facet) : setFacet n q (setFacet n r s) = setFacet n q s := by
  simp [setFacet]
@[simp] theorem look_setQueue_self (n : Nat) (r : Queue) : SMap.look (setQueue n r s).queues n = some r := by
  simp [setQueue]
theorem look_setQueue_ne (n j : Nat) (r : Queue) (h : j ≠ n) : SMap.look (setQueue n r s).queues j = SMap.look s.queues j := by
  simp [setQueue, SMap.look_put_ne _ _ _ _ h]
@[simp] theorem setQueue_setQueue_self (n : Nat) (r q : Queue) : setQueue n q (setQueue n r s) = setQueue n q s := by
  simp [setQueue]
@[simp] theorem look_setCmd_self (n : Nat) (r : Cmd) : SMap.look (setCmd n r s).cmds n = some r := by
  simp [setCmd]
theorem look_setCmd_ne (n j : Nat) (r : Cmd) (h : j ≠ n) : SMap.look (setCmd n r s).cmds j = SMap.look s.cmds j := by
  simp [setCmd, SMap.look_put_ne _ _ _ _ h]
@[simp] theorem setCmd_setCmd_self (n : Nat) (r q : Cmd) : setCmd n q (setCmd n r s) = setCmd n q s := by
  simp [setCmd]
@[simp] theorem look_setCtx_self (n : Nat) (r : Ctx) : SMap.look (setCtx n r s).ctxs n = some r := by
  simp [setCtx]
theorem look_setCtx_ne (n j : Nat) (r : Ctx) (h : j ≠ n) : SMap.look (setCtx n r s).ctxs j = SMap.look s.ctxs j := by
  simp [setCtx, SMap.look_put_ne _ _ _ _ h]
@[simp] theorem setCtx_setCtx_self (n : Nat) (r q : Ctx) : setCtx n q (setCtx n r s) = setCtx n q s := by
  simp [setCtx]

/-! ## Units that an update does not concern -/

@[simp] theorem coreOf_setFn (n : Nat) (r : Fn) (k : Nat) : coreOf (setFn n r s) k = coreOf s k := rfl
@[simp] theorem engineOf_setFn (n : Nat) (r : Fn) (k : Nat) : engineOf (setFn n r s) k = engineOf s k := rfl
@[simp] theorem chanOf_setFn (n : Nat) (r : Fn) (k : Nat) : chanOf (setFn n r s) k = chanOf s k := rfl
@[simp] theorem clusterOf_setFn (n : Nat) (r : Fn) (k : Nat) : clusterOf (setFn n r s) k = clusterOf s k := rfl
@[simp] theorem facetOf_setFn (n : Nat) (r : Fn) (k : Nat) : facetOf (setFn n r s) k = facetOf s k := rfl
@[simp] theorem mcNow_setFn (n : Nat) (r : Fn) : mcNow (setFn n r s) = mcNow s := rfl
@[simp] theorem metaOf_setFn (n : Nat) (r : Fn) (k : Nat) : metaOf (setFn n r s) k = metaOf s k := rfl
@[simp] theorem mscSet_setFn (n : Nat) (r : Fn) (k : Nat) : mscSet (setFn n r s) k = mscSet s k := rfl
@[simp] theorem ltcOf_setFn (n : Nat) (r : Fn) (k : Nat) : ltcOf (setFn n r s) k = ltcOf s k := rfl
@[simp] theorem epochOf_setFn (n : Nat) (r : Fn) (k : Nat) : epochOf (setFn n r s) k = epochOf s k := rfl
@[simp] theorem fnOf_setCore (n : Nat) (r : Core) (k : Nat) : fnOf (setCore n r s) k = fnOf s k := rfl
@[simp] theorem engineOf_setCore (n : Nat) (r : Core) (k : Nat) : engineOf (setCore n r s) k = engineOf s k := rfl
@[simp] theorem chanOf_setCore (n : Nat) (r : Core) (k : Nat) : chanOf (setCore n r s) k = chanOf s k := rfl
@[simp] theorem clusterOf_setCore (n : Nat) (r : Core) (k : Nat) : clusterOf (setCore n r s) k = clusterOf s k := rfl
@[simp] theorem facetOf_setCore (n : Nat) (r : Core) (k : Nat) : facetOf (setCore n r s) k = facetOf s k := rfl
@[simp] theorem mcNow_setCore (n : Nat) (r : Core) : mcNow (setCore n r s) = mcNow s := rfl
@[simp] theorem metaOf_setCore (n : Nat) (r : Core) (k : Nat) : metaOf (setCore n r s) k = metaOf s k := rfl
@[simp] theorem mscSet_setCore (n : Nat) (r : Core) (k : Nat) : mscSet (setCore n r s) k = mscSet s k := rfl
@[simp] theorem ltcOf_setCore (n : Nat) (r : Core) (k : Nat) : ltcOf (setCore n r s) k = ltcOf s k := rfl
@[simp] theorem epochOf_setCore (n : Nat) (r : Core) (k : Nat) : epochOf (setCore n r s) k = epochOf s k := rfl
@[simp] theorem fnOf_setEngine (n : Nat) (r : Engine) (k : Nat) : fnOf (setEngine n r s) k = fnOf s k := rfl
@[simp] theorem coreOf_setEngine (n : Nat) (r : Engine) (k : Nat) : coreOf (setEngine n r s) k = coreOf s k := rfl
@[simp] theorem chanOf_setEngine (n : Nat) (r : Engine) (k : Nat) : chanOf (setEngine n r s) k = chanOf s k := rfl
@[simp] theorem clusterOf_setEngine (n : Nat) (r : Engine) (k : Nat) : clusterOf (setEngine n r s) k = clusterOf s k := rfl
@[simp] theorem facetOf_setEngine (n : Nat) (r : Engine) (k : Nat) : facetOf (setEngine n r s) k = facetOf s k := rfl
@[simp] theorem mcNow_setEngine (n : Nat) (r : Engine) : mcNow (setEngine n r s) = mcNow s := rfl
@[simp] theorem metaOf_setEngine (n : Nat) (r : Engine) (k : Nat) : metaOf (setEngine n r s) k = metaOf s k := rfl
@[simp] theorem mscSet_setEngine (n : Nat) (r : Engine) (k : Nat) : mscSet (setEngine n r s) k = mscSet s k := rfl
@[simp] theorem ltcOf_setEngine (n : Nat) (r : Engine) (k : Nat) : ltcOf (setEngine n r s) k = ltcOf s k := rfl
@[simp] theorem epochOf_setEngine (n : Nat) (r : Engine) (k : Nat) : epochOf (setEngine n r s) k = epochOf s k := rfl
@[simp] theorem fnOf_setChan (n : Nat) (r : Chan) (k : Nat) : fnOf (setChan n r s) k = fnOf s k := rfl
@[simp] theorem coreOf_setChan (n : Nat) (r : Chan) (k : Nat) : coreOf (setChan n r s) k = coreOf s k := rfl
@[simp] theorem engineOf_setChan (n : Nat) (r : Chan) (k : Nat) : engineOf (setChan n r s) k = engineOf s k := rfl
@[simp] theorem clusterOf_setChan (n : Nat) (r : Chan) (k : Nat) : clusterOf (setChan n r s) k = clusterOf s k := rfl
@[simp] theorem facetOf_setChan (n : Nat) (r : Chan) (k : Nat) : facetOf (setChan n r s) k = facetOf s k := rfl
@[simp] theorem mcNow_setChan (n : Nat) (r : Chan) : mcNow (setChan n r s) = mcNow s := rfl
@[simp] theorem metaOf_setChan (n : Nat) (r : Chan) (k : Nat) : metaOf (setChan n r s) k = metaOf s k := rfl
@[simp] theorem mscSet_setChan (n : Nat) (r : Chan) (k : Nat) : mscSet (setChan n r s) k = mscSet s k := rfl
@[simp] theorem ltcOf_setChan (n : Nat) (r : Chan) (k : Nat) : ltcOf (setChan n r s) k = ltcOf s k := rfl
@[simp] theorem epochOf_setChan (n : Nat) (r : Chan) (k : Nat) : epochOf (setChan n r s) k = epochOf s k := rfl
@[simp] theorem fnOf_setCluster (n : Nat) (r : Cluster) (k : Nat) : fnOf (setCluster n r s) k = fnOf s k := rfl
@[simp] theorem coreOf_setCluster (n : Nat) (r : Cluster) (k : Nat) : coreOf (setCluster n r s) k = coreOf s k := rfl
@[simp] theorem engineOf_setCluster (n : Nat) (r : Cluster) (k : Nat) : engineOf (setCluster n r s) k = engineOf s k := rfl
@[simp] theorem chanOf_setCluster (n : Nat) (r : Cluster) (k : Nat) : chanOf (setCluster n r s) k = chanOf s k := rfl
@[simp] theorem facetOf_setCluster (n : Nat) (r : Cluster) (k : Nat) : facetOf (setCluster n r s) k = facetOf s k := rfl
@[simp] theorem mcNow_setCluster (n : Nat) (r : Cluster) : mcNow (setCluster n r s) = mcNow s := rfl
@[simp] theorem metaOf_setCluster (n : Nat) (r : Cluster) (k : Nat) : metaOf (setCluster n r s) k = metaOf s k := rfl
@[simp] theorem mscSet_setCluster (n : Nat) (r : Cluster) (k : Nat) : mscSet (setCluster n r s) k = mscSet s k := rfl
@[simp] theorem ltcOf_setCluster (n : Nat) (r : Cluster) (k : Nat) : ltcOf (setCluster n r s) k = ltcOf s k := rfl
@[simp] theorem epochOf_setCluster (n : Nat) (r : Cluster) (k : Nat) : epochOf (setCluster n r s) k = epochOf s k := rfl
@[simp] theorem fnOf_setFacet (n : Nat) (r : Facet) (k : Nat) : fnOf (setFacet n r s) k = fnOf s k := rfl
@[simp] theorem coreOf_setFacet (n : Nat) (r : Facet) (k : Nat) : coreOf (setFacet n r s) k = coreOf s k := rfl
@[simp] theorem engineOf_setFacet (n : Nat) (r : Facet) (k : Nat) : engineOf (setFacet n r s) k = engineOf s k := rfl
@[simp] theorem chanOf_setFacet (n : Nat) (r : Facet) (k : Nat) : chanOf (setFacet n r s) k = chanOf s k := rfl
@[simp] theorem clusterOf_setFacet (n : Nat) (r : Facet) (k : Nat) : clusterOf (setFacet n r s) k = clusterOf s k := rfl
@[simp] theorem mcNow_setFacet (n : Nat) (r : Facet) : mcNow (setFacet n r s) = mcNow s := rfl
@[simp] theorem metaOf_setFacet (n : Nat) (r : Facet) (k : Nat) : metaOf (setFacet n r s) k = metaOf s k := rfl
@[simp] theorem mscSet_setFacet (n : Nat) (r : Facet) (k : Nat) : mscSet (setFacet n r s) k = mscSet s k := rfl
@[simp] theorem ltcOf_setFacet (n : Nat) (r : Facet) (k : Nat) : ltcOf (setFacet n r s) k = ltcOf s k := rfl
@[simp] theorem epochOf_setFacet (n : Nat) (r : Facet) (k : Nat) : epochOf (setFacet n r s) k = epochOf s k := rfl
@[simp] theorem fnOf_setQueue (n : Nat) (r : Queue) (k : Nat) : fnOf (setQueue n r s) k = fnOf s k := rfl
@[simp] theorem coreOf_setQueue (n : Nat) (r : Queue) (k : Nat) : coreOf (setQueue n r s) k = coreOf s k := rfl
@[simp] theorem engineOf_setQueue (n : Nat) (r : Queue) (k : Nat) : engineOf (setQueue n r s) k = engineOf s k := rfl
@[simp] theorem chanOf_setQueue (n : Nat) (r : Queue) (k : Nat) : chanOf (setQueue n r s) k = chanOf s k := rfl
@[simp] theorem clusterOf_setQueue (n : Nat) (r : Queue) (k : Nat) : clusterOf (setQueue n r s) k = clusterOf s k := rfl
@[simp] theorem facetOf_setQueue (n : Nat) (r : Queue) (k : Nat) : facetOf (setQueue n r s) k = facetOf s k := rfl
@[simp] theorem mcNow_setQueue (n : Nat) (r : Queue) : mcNow (setQueue n r s) = mcNow s := rfl
@[simp] theorem metaOf_setQueue (n : Nat) (r : Queue) (k : Nat) : metaOf (setQueue n r s) k = metaOf s k := rfl
@[simp] theorem mscSet_setQueue (n : Nat) (r : Queue) (k : Nat) : mscSet (setQueue n r s) k = mscSet s k := rfl
@[simp] theorem ltcOf_setQueue (n : Nat) (r : Queue) (k : Nat) : ltcOf (setQueue n r s) k = ltcOf s k := rfl
@[simp] theorem epochOf_setQueue (n : Nat) (r : Queue) (k : Nat) : epochOf (setQueue n r s) k = epochOf s k := rfl
@[simp] theorem fnOf_setCmd (n : Nat) (r : Cmd) (k : Nat) : fnOf (setCmd n r s) k = fnOf s k := rfl
@[simp] theorem coreOf_setCmd (n : Nat) (r : Cmd) (k : Nat) : coreOf (setCmd n r s) k = coreOf s k := rfl
@[simp] theorem engineOf_setCmd (n : Nat) (r : Cmd) (k : Nat) : engineOf (setCmd n r s) k = engineOf s k := rfl
@[simp] theorem chanOf_setCmd (n : Nat) (r : Cmd) (k : Nat) : chanOf (setCmd n r s) k = chanOf s k := rfl
@[simp] theorem clusterOf_setCmd (n : Nat) (r : Cmd) (k : Nat) : clusterOf (setCmd n r s) k = clusterOf s k := rfl
@[simp] theorem facetOf_setCmd (n : Nat) (r : Cmd) (k : Nat) : facetOf (setCmd n r s) k = facetOf s k := rfl
@[simp] theorem mcNow_setCmd (n : Nat) (r : Cmd) : mcNow (setCmd n r s) = mcNow s := rfl
@[simp] theorem metaOf_setCmd (n : Nat) (r : Cmd) (k : Nat) : metaOf (setCmd n r s) k = metaOf s k := rfl
@[simp] theorem mscSet_setCmd (n : Nat) (r : Cmd) (k : Nat) : mscSet (setCmd n r s) k = mscSet s k := rfl
@[simp] theorem ltcOf_setCmd (n : Nat) (r : Cmd) (k : Nat) : ltcOf (setCmd n r s) k = ltcOf s k := rfl
@[simp] theorem epochOf_setCmd (n : Nat) (r : Cmd) (k : Nat) : epochOf (setCmd n r s) k = epochOf s k := rfl
@[simp] theorem fnOf_setCtx (n : Nat) (r : Ctx) (k : Nat) : fnOf (setCtx n r s) k = fnOf s k := rfl
@[simp] theorem coreOf_setCtx (n : Nat) (r : Ctx) (k : Nat) : coreOf (setCtx n r s) k = coreOf s k := rfl
@[simp] theorem engineOf_setCtx (n : Nat) (r : Ctx) (k : Nat) : engineOf (setCtx n r s) k = engineOf s k := rfl
@[simp] theorem chanOf_setCtx (n : Nat) (r : Ctx) (k : Nat) : chanOf (setCtx n r s) k = chanOf s k := rfl
@[simp] theorem clusterOf_setCtx (n : Nat) (r : Ctx) (k : Nat) : clusterOf (setCtx n r s) k = clusterOf s k := rfl
@[simp] theorem facetOf_setCtx (n : Nat) (r : Ctx) (k : Nat) : facetOf (setCtx n r s) k = facetOf s k := rfl
@[simp] theorem mcNow_setCtx (n : Nat) (r : Ctx) : mcNow (setCtx n r s) = mcNow s := rfl
@[simp] theorem metaOf_setCtx (n : Nat) (r : Ctx) (k : Nat) : metaOf (setCtx n r s) k = metaOf s k := rfl
@[simp] theorem mscSet_setCtx (n : Nat) (r : Ctx) (k : Nat) : mscSet (setCtx n r s) k = mscSet s k := rfl
@[simp] theorem ltcOf_setCtx (n : Nat) (r : Ctx) (k : Nat) : ltcOf (setCtx n r s) k = ltcOf s k := rfl
@[simp] theorem epochOf_setCtx (n : Nat) (r : Ctx) (k : Nat) : epochOf (setCtx n r s) k = epochOf s k := rfl
@[simp] theorem fnOf_emit (e : Emit) (k : Nat) : fnOf (emit e s) k = fnOf s k := rfl
@[simp] theorem coreOf_emit (e : Emit) (k : Nat) : coreOf (emit e s) k = coreOf s k := rfl
@[simp] theorem engineOf_emit (e : Emit) (k : Nat) : engineOf (emit e s) k = engineOf s k := rfl
@[simp] theorem chanOf_emit (e : Emit) (k : Nat) : chanOf (emit e s) k = chanOf s k := rfl
@[simp] theorem clusterOf_emit (e : Emit) (k : Nat) : clusterOf (emit e s) k = clusterOf s k := rfl
@[simp] theorem facetOf_emit (e : Emit) (k : Nat) : facetOf (emit e s) k = facetOf s k := rfl
@[simp] theorem mcNow_emit (e : Emit) : mcNow (emit e s) = mcNow s := rfl
@[simp] theorem metaOf_emit (e : Emit) (k : Nat) : metaOf (emit e s) k = metaOf s k := rfl
@[simp] theorem mscSet_emit (e : Emit) (k : Nat) : mscSet (emit e s) k = mscSet s k := rfl
@[simp] theorem ltcOf_emit (e : Emit) (k : Nat) : ltcOf (emit e s) k = ltcOf s k := rfl
@[simp] theorem epochOf_emit (e : Emit) (k : Nat) : epochOf (emit e s) k = epochOf s k := rfl
@[simp] theorem fnOf_setMeta (gl : Nat) (m : LineMeta) (k : Nat) : fnOf (setMeta gl m s) k = fnOf s k := rfl
@[simp] theorem coreOf_setMeta (gl : Nat) (m : LineMeta) (k : Nat) : coreOf (setMeta gl m s) k = coreOf s k := rfl
@[simp] theorem engineOf_setMeta (gl : Nat) (m : LineMeta) (k : Nat) : engineOf (setMeta gl m s) k = engineOf s k := rfl
@[simp] theorem chanOf_setMeta (gl : Nat) (m : LineMeta) (k : Nat) : chanOf (setMeta gl m s) k = chanOf s k := rfl
@[simp] theorem clusterOf_setMeta (gl : Nat) (m : LineMeta) (k : Nat) : clusterOf (setMeta gl m s) k = clusterOf s k := rfl
@[simp] theorem facetOf_setMeta (gl : Nat) (m : LineMeta) (k : Nat) : facetOf (setMeta gl m s) k = facetOf s k := rfl
@[simp] theorem mcNow_setMeta (gl : Nat) (m : LineMeta) : mcNow (setMeta gl m s) = mcNow s := rfl
@[simp] theorem mscSet_setMeta (gl : Nat) (m : LineMeta) (k : Nat) : mscSet (setMeta gl m s) k = mscSet s k := rfl
@[simp] theorem ltcOf_setMeta (gl : Nat) (m : LineMeta) (k : Nat) : ltcOf (setMeta gl m s) k = ltcOf s k := rfl
@[simp] theorem epochOf_setMeta (gl : Nat) (m : LineMeta) (k : Nat) : epochOf (setMeta gl m s) k = epochOf s k := rfl
@[simp] theorem fnOf_dramWrite (gl : Nat) (d : List Byte) (k : Nat) : fnOf (dramWrite gl d s) k = fnOf s k := rfl
@[simp] theorem coreOf_dramWrite (gl : Nat) (d : List Byte) (k : Nat) : coreOf (dramWrite gl d s) k = coreOf s k := rfl
@[simp] theorem engineOf_dramWrite (gl : Nat) (d : List Byte) (k : Nat) : engineOf (dramWrite gl d s) k = engineOf s k := rfl
@[simp] theorem chanOf_dramWrite (gl : Nat) (d : List Byte) (k : Nat) : chanOf (dramWrite gl d s) k = chanOf s k := rfl
@[simp] theorem clusterOf_dramWrite (gl : Nat) (d : List Byte) (k : Nat) : clusterOf (dramWrite gl d s) k = clusterOf s k := rfl
@[simp] theorem facetOf_dramWrite (gl : Nat) (d : List Byte) (k : Nat) : facetOf (dramWrite gl d s) k = facetOf s k := rfl
@[simp] theorem mcNow_dramWrite (gl : Nat) (d : List Byte) : mcNow (dramWrite gl d s) = mcNow s := rfl
@[simp] theorem metaOf_dramWrite (gl : Nat) (d : List Byte) (k : Nat) : metaOf (dramWrite gl d s) k = metaOf s k := rfl
@[simp] theorem mscSet_dramWrite (gl : Nat) (d : List Byte) (k : Nat) : mscSet (dramWrite gl d s) k = mscSet s k := rfl
@[simp] theorem ltcOf_dramWrite (gl : Nat) (d : List Byte) (k : Nat) : ltcOf (dramWrite gl d s) k = ltcOf s k := rfl
@[simp] theorem epochOf_dramWrite (gl : Nat) (d : List Byte) (k : Nat) : epochOf (dramWrite gl d s) k = epochOf s k := rfl
@[simp] theorem fnOf_setMscSet (q : Nat) (l : List MscLine) (k : Nat) : fnOf (setMscSet q l s) k = fnOf s k := rfl
@[simp] theorem coreOf_setMscSet (q : Nat) (l : List MscLine) (k : Nat) : coreOf (setMscSet q l s) k = coreOf s k := rfl
@[simp] theorem engineOf_setMscSet (q : Nat) (l : List MscLine) (k : Nat) : engineOf (setMscSet q l s) k = engineOf s k := rfl
@[simp] theorem chanOf_setMscSet (q : Nat) (l : List MscLine) (k : Nat) : chanOf (setMscSet q l s) k = chanOf s k := rfl
@[simp] theorem clusterOf_setMscSet (q : Nat) (l : List MscLine) (k : Nat) : clusterOf (setMscSet q l s) k = clusterOf s k := rfl
@[simp] theorem facetOf_setMscSet (q : Nat) (l : List MscLine) (k : Nat) : facetOf (setMscSet q l s) k = facetOf s k := rfl
@[simp] theorem mcNow_setMscSet (q : Nat) (l : List MscLine) : mcNow (setMscSet q l s) = mcNow s := rfl
@[simp] theorem metaOf_setMscSet (q : Nat) (l : List MscLine) (k : Nat) : metaOf (setMscSet q l s) k = metaOf s k := rfl
@[simp] theorem ltcOf_setMscSet (q : Nat) (l : List MscLine) (k : Nat) : ltcOf (setMscSet q l s) k = ltcOf s k := rfl
@[simp] theorem epochOf_setMscSet (q : Nat) (l : List MscLine) (k : Nat) : epochOf (setMscSet q l s) k = epochOf s k := rfl

end Sys2Proof.Machine
end

