-- ==== Sys2Proof/Laws/Events.lean ====
section
/-! SUPPORT. What raising an event, answering a request and ending an accepted request may change: the records of functions,
what leaves the module, the flight record, and the events held during a handover. -/

namespace Sys2Proof.Machine

/-- Only the records of functions and the list of what left the module differ. -/
def eventsOnly (s t : State) : Prop := ∃ fns out, t = { s with fns := fns, out := out }

theorem eventsOnly_refl (s : State) : eventsOnly s s := ⟨s.fns, s.out, rfl⟩

theorem eventsOnly_trans {a b c : State} (h : eventsOnly a b) (g : eventsOnly b c) : eventsOnly a c := by
  obtain ⟨f1, o1, rfl⟩ := h
  obtain ⟨f2, o2, rfl⟩ := g
  exact ⟨f2, o2, rfl⟩

theorem eventsOnly_setFn (f : Nat) (r : Fn) (s : State) : eventsOnly s (setFn f r s) := ⟨_, s.out, rfl⟩

theorem eventsOnly_emit (e : Emit) (s : State) : eventsOnly s (emit e s) := ⟨s.fns, _, rfl⟩

theorem eventsOnly_ringRecord (f : Nat) (b : List Byte) (s : State) : eventsOnly s (ringRecord f b s) := ⟨_, _, rfl⟩

theorem eventsOnly_foldl {α : Type} (g : State → α → State) (h : ∀ a s, eventsOnly s (g s a)) (l : List α) (s : State) :
    eventsOnly s (l.foldl g s) := by
  induction l generalizing s with
  | nil => exact eventsOnly_refl s
  | cons a r ih => exact eventsOnly_trans (h a s) (ih _)

theorem eventsOnly_ringWrite (f : Nat) (g : Glint) (s : State) : eventsOnly s (ringWrite f g s) := by
  unfold ringWrite
  have h := eventsOnly_foldl (fun t b => ringRecord f b t) (fun b t => eventsOnly_ringRecord f b t)
    (glintRecords g (fnOf s f).phase (if ((fnOf s f).tail + 1) % 2 ^ (fnOf s f).ringSize == 0 then !(fnOf s f).phase
      else (fnOf s f).phase)) s
  dsimp only
  split
  · exact eventsOnly_trans h (eventsOnly_emit _ _)
  · exact h

theorem eventsOnly_noteDrops (f : Nat) (s : State) : eventsOnly s (noteDrops f s) := eventsOnly_setFn _ _ _

theorem eventsOnly_ringPush (f : Nat) (g : Glint) (s : State) : eventsOnly s (ringPush f g s) := by
  unfold ringPush
  dsimp only
  split
  · exact eventsOnly_ringWrite f g s
  · split
    · split
      · exact eventsOnly_setFn _ _ _
      · split
        · exact eventsOnly_trans (eventsOnly_noteDrops f s) (eventsOnly_setFn _ _ _)
        · exact eventsOnly_trans (eventsOnly_noteDrops f s) (eventsOnly_setFn _ _ _)
    · exact eventsOnly_setFn _ _ _

theorem eventsOnly_drainHeld (f : Nat) (l : List Glint) (s : State) : eventsOnly s (drainHeld f l s) := by
  induction l generalizing s with
  | nil => exact eventsOnly_setFn _ _ _
  | cons g r ih =>
    unfold drainHeld
    split
    · exact eventsOnly_trans (eventsOnly_ringWrite f g s) (ih _)
    · exact eventsOnly_setFn _ _ _

theorem eventsOnly_flushRing (f : Nat) (s : State) : eventsOnly s (flushRing f s) := by
  unfold flushRing
  have h := eventsOnly_drainHeld f (fnOf s f).holding s
  dsimp only
  split
  · split
    · exact eventsOnly_trans h (eventsOnly_noteDrops f _)
    · exact eventsOnly_trans h (eventsOnly_trans (eventsOnly_noteDrops f _) (eventsOnly_ringWrite f _ _))
  · exact h

theorem eventsOnly_firePending (f src : Nat) (s : State) : eventsOnly s (firePending f src s) := by
  unfold firePending
  dsimp only
  split
  · exact eventsOnly_trans (eventsOnly_setFn _ _ s) (eventsOnly_emit _ _)
  · exact eventsOnly_setFn _ _ _

theorem eventsOnly_deliver (g : Glint) (f : Nat) (s : State) : eventsOnly s (deliver g f s) := by
  unfold deliver fireSource
  dsimp only
  split
  · exact eventsOnly_refl s
  · split
    · exact eventsOnly_trans (eventsOnly_setFn _ _ s) (eventsOnly_ringPush _ _ _)
    · exact eventsOnly_trans (eventsOnly_setFn _ _ s) (eventsOnly_firePending _ _ _)

theorem eventsOnly_deliverAll (g : Glint) (tos : List Nat) (s : State) : eventsOnly s (deliverAll g tos s) :=
  eventsOnly_foldl _ (fun f t => eventsOnly_deliver g f t) _ s

/-- Only the records of functions, what left the module, the flight record and the held events differ. -/
def noticeOnly (s t : State) : Prop := ∃ fns out fl n held,
  t = { s with
    fns := fns, out := out
    sec := { s.sec with flight := fl, flightSeq := n }
    fw := { s.fw with held := held } }

theorem noticeOnly_refl (s : State) : noticeOnly s s := ⟨_, _, s.sec.flight, s.sec.flightSeq, s.fw.held, rfl⟩

theorem noticeOnly_trans {a b c : State} (h : noticeOnly a b) (g : noticeOnly b c) : noticeOnly a c := by
  obtain ⟨f1, o1, l1, n1, h1, rfl⟩ := h
  obtain ⟨f2, o2, l2, n2, h2, rfl⟩ := g
  exact ⟨f2, o2, l2, n2, h2, rfl⟩

theorem noticeOnly_of_events {s t : State} (h : eventsOnly s t) : noticeOnly s t := by
  obtain ⟨f, o, rfl⟩ := h
  exact ⟨f, o, s.sec.flight, s.sec.flightSeq, s.fw.held, rfl⟩

theorem noticeOnly_flightAdd (g : Glint) (s : State) : noticeOnly s (flightAdd g s) := by
  unfold flightAdd
  split
  · exact ⟨s.fns, s.out, _, _, s.fw.held, rfl⟩
  · exact noticeOnly_refl s

theorem noticeOnly_raiseTo (tos : List Nat) (k c su d : Nat) (x : Option (Nat × Nat)) (b : Bool) (s : State) :
    noticeOnly s (raiseTo tos k c su d x b s) :=
  noticeOnly_trans (noticeOnly_flightAdd _ s) (noticeOnly_of_events (eventsOnly_deliverAll _ _ _))

theorem noticeOnly_raiseFw (tos : List Nat) (k c su d : Nat) (x : Option (Nat × Nat)) (b : Bool) (s : State) :
    noticeOnly s (raiseFw tos k c su d x b s) := by
  unfold raiseFw
  dsimp only
  split
  · refine noticeOnly_trans (noticeOnly_flightAdd (shapeGlint k c su d x b) s)
      ⟨(flightAdd (shapeGlint k c su d x b) s).fns, (flightAdd (shapeGlint k c su d x b) s).out,
        (flightAdd (shapeGlint k c su d x b) s).sec.flight, (flightAdd (shapeGlint k c su d x b) s).sec.flightSeq,
        s.fw.held ++ [(tos, shapeGlint k c su d x b)], ?_⟩
    rw [show (flightAdd (shapeGlint k c su d x b) s).fw = s.fw by unfold flightAdd; split <;> rfl]
  · exact noticeOnly_trans (noticeOnly_flightAdd _ s) (noticeOnly_of_events (eventsOnly_deliverAll _ _ _))

theorem noticeOnly_raisePf0 (k su d : Nat) (b : Bool) (s : State) : noticeOnly s (raisePf0 k su d b s) :=
  noticeOnly_raiseTo _ _ _ _ _ _ _ s

theorem noticeOnly_mbxDone (fn seq st : Nat) (s : State) : noticeOnly s (mbxDone fn seq st s) :=
  noticeOnly_trans (noticeOnly_of_events (eventsOnly_setFn _ _ s)) (noticeOnly_raiseTo _ _ _ _ _ _ _ _)

theorem noticeOnly_respond (fn seq addr : Nat) (r : Reply) (s : State) : noticeOnly s (respond fn seq addr r s) := by
  unfold respond
  dsimp only
  split
  · exact noticeOnly_trans (noticeOnly_of_events (eventsOnly_emit _ _)) (noticeOnly_mbxDone _ _ _ _)
  · exact noticeOnly_trans (noticeOnly_of_events (eventsOnly_trans (eventsOnly_emit _ _) (eventsOnly_emit _ _)))
      (noticeOnly_mbxDone _ _ _ _)

theorem noticeOnly_requestDone (t : Ticket) (st : Nat) (s : State) : noticeOnly s (requestDone t st s) := by
  unfold requestDone
  split
  · exact noticeOnly_trans (noticeOnly_of_events (eventsOnly_setFn _ _ s)) (noticeOnly_raiseFw _ _ _ _ _ _ _ _)
  · exact noticeOnly_refl s

theorem noticeOnly_requestDoneOpt (t : Option Ticket) (st : Nat) (s : State) : noticeOnly s (requestDoneOpt t st s) := by
  cases t with
  | none => exact noticeOnly_refl s
  | some t => exact noticeOnly_requestDone t st s

/-! ## raiseTo -/

@[simp] theorem raiseTo_pending (tos : List Nat) (k c su d : Nat) (x : Option (Nat × Nat)) (b : Bool) (s : State) : (raiseTo tos k c su d x b s).pending = s.pending := by
  obtain ⟨_, _, _, _, _, h⟩ := noticeOnly_raiseTo tos k c su d x b s
  rw [h]
@[simp] theorem raiseTo_freeCtr (tos : List Nat) (k c su d : Nat) (x : Option (Nat × Nat)) (b : Bool) (s : State) : (raiseTo tos k c su d x b s).freeCtr = s.freeCtr := by
  obtain ⟨_, _, _, _, _, h⟩ := noticeOnly_raiseTo tos k c su d x b s
  rw [h]
@[simp] theorem raiseTo_nextCmd (tos : List Nat) (k c su d : Nat) (x : Option (Nat × Nat)) (b : Bool) (s : State) : (raiseTo tos k c su d x b s).nextCmd = s.nextCmd := by
  obtain ⟨_, _, _, _, _, h⟩ := noticeOnly_raiseTo tos k c su d x b s
  rw [h]
@[simp] theorem raiseTo_time (tos : List Nat) (k c su d : Nat) (x : Option (Nat × Nat)) (b : Bool) (s : State) : (raiseTo tos k c su d x b s).time = s.time := by
  obtain ⟨_, _, _, _, _, h⟩ := noticeOnly_raiseTo tos k c su d x b s
  rw [h]
@[simp] theorem raiseTo_reg (tos : List Nat) (k c su d : Nat) (x : Option (Nat × Nat)) (b : Bool) (s : State) : (raiseTo tos k c su d x b s).reg = s.reg := by
  obtain ⟨_, _, _, _, _, h⟩ := noticeOnly_raiseTo tos k c su d x b s
  rw [h]
@[simp] theorem raiseTo_ctxs (tos : List Nat) (k c su d : Nat) (x : Option (Nat × Nat)) (b : Bool) (s : State) : (raiseTo tos k c su d x b s).ctxs = s.ctxs := by
  obtain ⟨_, _, _, _, _, h⟩ := noticeOnly_raiseTo tos k c su d x b s
  rw [h]
@[simp] theorem raiseTo_lost (tos : List Nat) (k c su d : Nat) (x : Option (Nat × Nat)) (b : Bool) (s : State) : (raiseTo tos k c su d x b s).lost = s.lost := by
  obtain ⟨_, _, _, _, _, h⟩ := noticeOnly_raiseTo tos k c su d x b s
  rw [h]
@[simp] theorem raiseTo_queues (tos : List Nat) (k c su d : Nat) (x : Option (Nat × Nat)) (b : Bool) (s : State) : (raiseTo tos k c su d x b s).queues = s.queues := by
  obtain ⟨_, _, _, _, _, h⟩ := noticeOnly_raiseTo tos k c su d x b s
  rw [h]
@[simp] theorem raiseTo_cmds (tos : List Nat) (k c su d : Nat) (x : Option (Nat × Nat)) (b : Bool) (s : State) : (raiseTo tos k c su d x b s).cmds = s.cmds := by
  obtain ⟨_, _, _, _, _, h⟩ := noticeOnly_raiseTo tos k c su d x b s
  rw [h]
@[simp] theorem raiseTo_facets (tos : List Nat) (k c su d : Nat) (x : Option (Nat × Nat)) (b : Bool) (s : State) : (raiseTo tos k c su d x b s).facets = s.facets := by
  obtain ⟨_, _, _, _, _, h⟩ := noticeOnly_raiseTo tos k c su d x b s
  rw [h]
@[simp] theorem raiseTo_clusters (tos : List Nat) (k c su d : Nat) (x : Option (Nat × Nat)) (b : Bool) (s : State) : (raiseTo tos k c su d x b s).clusters = s.clusters := by
  obtain ⟨_, _, _, _, _, h⟩ := noticeOnly_raiseTo tos k c su d x b s
  rw [h]
@[simp] theorem raiseTo_cores (tos : List Nat) (k c su d : Nat) (x : Option (Nat × Nat)) (b : Bool) (s : State) : (raiseTo tos k c su d x b s).cores = s.cores := by
  obtain ⟨_, _, _, _, _, h⟩ := noticeOnly_raiseTo tos k c su d x b s
  rw [h]
@[simp] theorem raiseTo_engines (tos : List Nat) (k c su d : Nat) (x : Option (Nat × Nat)) (b : Bool) (s : State) : (raiseTo tos k c su d x b s).engines = s.engines := by
  obtain ⟨_, _, _, _, _, h⟩ := noticeOnly_raiseTo tos k c su d x b s
  rw [h]
@[simp] theorem raiseTo_chans (tos : List Nat) (k c su d : Nat) (x : Option (Nat × Nat)) (b : Bool) (s : State) : (raiseTo tos k c su d x b s).chans = s.chans := by
  obtain ⟨_, _, _, _, _, h⟩ := noticeOnly_raiseTo tos k c su d x b s
  rw [h]
@[simp] theorem raiseTo_dram (tos : List Nat) (k c su d : Nat) (x : Option (Nat × Nat)) (b : Bool) (s : State) : (raiseTo tos k c su d x b s).dram = s.dram := by
  obtain ⟨_, _, _, _, _, h⟩ := noticeOnly_raiseTo tos k c su d x b s
  rw [h]
@[simp] theorem raiseTo_lineMeta (tos : List Nat) (k c su d : Nat) (x : Option (Nat × Nat)) (b : Bool) (s : State) : (raiseTo tos k c su d x b s).lineMeta = s.lineMeta := by
  obtain ⟨_, _, _, _, _, h⟩ := noticeOnly_raiseTo tos k c su d x b s
  rw [h]
@[simp] theorem raiseTo_msc (tos : List Nat) (k c su d : Nat) (x : Option (Nat × Nat)) (b : Bool) (s : State) : (raiseTo tos k c su d x b s).msc = s.msc := by
  obtain ⟨_, _, _, _, _, h⟩ := noticeOnly_raiseTo tos k c su d x b s
  rw [h]
@[simp] theorem raiseTo_stackTemp (tos : List Nat) (k c su d : Nat) (x : Option (Nat × Nat)) (b : Bool) (s : State) : (raiseTo tos k c su d x b s).stackTemp = s.stackTemp := by
  obtain ⟨_, _, _, _, _, h⟩ := noticeOnly_raiseTo tos k c su d x b s
  rw [h]
@[simp] theorem raiseTo_coh (tos : List Nat) (k c su d : Nat) (x : Option (Nat × Nat)) (b : Bool) (s : State) : (raiseTo tos k c su d x b s).coh = s.coh := by
  obtain ⟨_, _, _, _, _, h⟩ := noticeOnly_raiseTo tos k c su d x b s
  rw [h]
@[simp] theorem raiseTo_xl (tos : List Nat) (k c su d : Nat) (x : Option (Nat × Nat)) (b : Bool) (s : State) : (raiseTo tos k c su d x b s).xl = s.xl := by
  obtain ⟨_, _, _, _, _, h⟩ := noticeOnly_raiseTo tos k c su d x b s
  rw [h]
@[simp] theorem raiseTo_pwr (tos : List Nat) (k c su d : Nat) (x : Option (Nat × Nat)) (b : Bool) (s : State) : (raiseTo tos k c su d x b s).pwr = s.pwr := by
  obtain ⟨_, _, _, _, _, h⟩ := noticeOnly_raiseTo tos k c su d x b s
  rw [h]
@[simp] theorem raiseTo_fuses (tos : List Nat) (k c su d : Nat) (x : Option (Nat × Nat)) (b : Bool) (s : State) : (raiseTo tos k c su d x b s).fuses = s.fuses := by
  obtain ⟨_, _, _, _, _, h⟩ := noticeOnly_raiseTo tos k c su d x b s
  rw [h]
@[simp] theorem raiseTo_side (tos : List Nat) (k c su d : Nat) (x : Option (Nat × Nat)) (b : Bool) (s : State) : (raiseTo tos k c su d x b s).side = s.side := by
  obtain ⟨_, _, _, _, _, h⟩ := noticeOnly_raiseTo tos k c su d x b s
  rw [h]
@[simp] theorem raiseTo_vxl (tos : List Nat) (k c su d : Nat) (x : Option (Nat × Nat)) (b : Bool) (s : State) : (raiseTo tos k c su d x b s).vxl = s.vxl := by
  obtain ⟨_, _, _, _, _, h⟩ := noticeOnly_raiseTo tos k c su d x b s
  rw [h]
@[simp] theorem raiseTo_serve (tos : List Nat) (k c su d : Nat) (x : Option (Nat × Nat)) (b : Bool) (s : State) : (raiseTo tos k c su d x b s).serve = s.serve := by
  obtain ⟨_, _, _, _, _, h⟩ := noticeOnly_raiseTo tos k c su d x b s
  rw [h]
@[simp] theorem raiseTo_prisms (tos : List Nat) (k c su d : Nat) (x : Option (Nat × Nat)) (b : Bool) (s : State) : (raiseTo tos k c su d x b s).prisms = s.prisms := by
  obtain ⟨_, _, _, _, _, h⟩ := noticeOnly_raiseTo tos k c su d x b s
  rw [h]
@[simp] theorem coreOf_raiseTo (tos : List Nat) (k c su d : Nat) (x : Option (Nat × Nat)) (b : Bool) (s : State) (m : Nat) : coreOf (raiseTo tos k c su d x b s) m = coreOf s m := by
  simp [coreOf, coreInit, isReserve, reserveSlot]
@[simp] theorem engineOf_raiseTo (tos : List Nat) (k c su d : Nat) (x : Option (Nat × Nat)) (b : Bool) (s : State) (m : Nat) : engineOf (raiseTo tos k c su d x b s) m = engineOf s m := by
  simp [engineOf, engineInit, isReserve, reserveSlot]
@[simp] theorem chanOf_raiseTo (tos : List Nat) (k c su d : Nat) (x : Option (Nat × Nat)) (b : Bool) (s : State) (m : Nat) : chanOf (raiseTo tos k c su d x b s) m = chanOf s m := by
  simp [chanOf]
@[simp] theorem clusterOf_raiseTo (tos : List Nat) (k c su d : Nat) (x : Option (Nat × Nat)) (b : Bool) (s : State) (m : Nat) : clusterOf (raiseTo tos k c su d x b s) m = clusterOf s m := by
  simp [clusterOf]
@[simp] theorem facetOf_raiseTo (tos : List Nat) (k c su d : Nat) (x : Option (Nat × Nat)) (b : Bool) (s : State) (m : Nat) : facetOf (raiseTo tos k c su d x b s) m = facetOf s m := by
  simp [facetOf]
@[simp] theorem ltcOf_raiseTo (tos : List Nat) (k c su d : Nat) (x : Option (Nat × Nat)) (b : Bool) (s : State) (m : Nat) : ltcOf (raiseTo tos k c su d x b s) m = ltcOf s m := by
  simp [ltcOf]

/-! ## raiseFw -/

@[simp] theorem raiseFw_pending (tos : List Nat) (k c su d : Nat) (x : Option (Nat × Nat)) (b : Bool) (s : State) : (raiseFw tos k c su d x b s).pending = s.pending := by
  obtain ⟨_, _, _, _, _, h⟩ := noticeOnly_raiseFw tos k c su d x b s
  rw [h]
@[simp] theorem raiseFw_freeCtr (tos : List Nat) (k c su d : Nat) (x : Option (Nat × Nat)) (b : Bool) (s : State) : (raiseFw tos k c su d x b s).freeCtr = s.freeCtr := by
  obtain ⟨_, _, _, _, _, h⟩ := noticeOnly_raiseFw tos k c su d x b s
  rw [h]
@[simp] theorem raiseFw_nextCmd (tos : List Nat) (k c su d : Nat) (x : Option (Nat × Nat)) (b : Bool) (s : State) : (raiseFw tos k c su d x b s).nextCmd = s.nextCmd := by
  obtain ⟨_, _, _, _, _, h⟩ := noticeOnly_raiseFw tos k c su d x b s
  rw [h]
@[simp] theorem raiseFw_time (tos : List Nat) (k c su d : Nat) (x : Option (Nat × Nat)) (b : Bool) (s : State) : (raiseFw tos k c su d x b s).time = s.time := by
  obtain ⟨_, _, _, _, _, h⟩ := noticeOnly_raiseFw tos k c su d x b s
  rw [h]
@[simp] theorem raiseFw_reg (tos : List Nat) (k c su d : Nat) (x : Option (Nat × Nat)) (b : Bool) (s : State) : (raiseFw tos k c su d x b s).reg = s.reg := by
  obtain ⟨_, _, _, _, _, h⟩ := noticeOnly_raiseFw tos k c su d x b s
  rw [h]
@[simp] theorem raiseFw_ctxs (tos : List Nat) (k c su d : Nat) (x : Option (Nat × Nat)) (b : Bool) (s : State) : (raiseFw tos k c su d x b s).ctxs = s.ctxs := by
  obtain ⟨_, _, _, _, _, h⟩ := noticeOnly_raiseFw tos k c su d x b s
  rw [h]
@[simp] theorem raiseFw_lost (tos : List Nat) (k c su d : Nat) (x : Option (Nat × Nat)) (b : Bool) (s : State) : (raiseFw tos k c su d x b s).lost = s.lost := by
  obtain ⟨_, _, _, _, _, h⟩ := noticeOnly_raiseFw tos k c su d x b s
  rw [h]
@[simp] theorem raiseFw_queues (tos : List Nat) (k c su d : Nat) (x : Option (Nat × Nat)) (b : Bool) (s : State) : (raiseFw tos k c su d x b s).queues = s.queues := by
  obtain ⟨_, _, _, _, _, h⟩ := noticeOnly_raiseFw tos k c su d x b s
  rw [h]
@[simp] theorem raiseFw_cmds (tos : List Nat) (k c su d : Nat) (x : Option (Nat × Nat)) (b : Bool) (s : State) : (raiseFw tos k c su d x b s).cmds = s.cmds := by
  obtain ⟨_, _, _, _, _, h⟩ := noticeOnly_raiseFw tos k c su d x b s
  rw [h]
@[simp] theorem raiseFw_facets (tos : List Nat) (k c su d : Nat) (x : Option (Nat × Nat)) (b : Bool) (s : State) : (raiseFw tos k c su d x b s).facets = s.facets := by
  obtain ⟨_, _, _, _, _, h⟩ := noticeOnly_raiseFw tos k c su d x b s
  rw [h]
@[simp] theorem raiseFw_clusters (tos : List Nat) (k c su d : Nat) (x : Option (Nat × Nat)) (b : Bool) (s : State) : (raiseFw tos k c su d x b s).clusters = s.clusters := by
  obtain ⟨_, _, _, _, _, h⟩ := noticeOnly_raiseFw tos k c su d x b s
  rw [h]
@[simp] theorem raiseFw_cores (tos : List Nat) (k c su d : Nat) (x : Option (Nat × Nat)) (b : Bool) (s : State) : (raiseFw tos k c su d x b s).cores = s.cores := by
  obtain ⟨_, _, _, _, _, h⟩ := noticeOnly_raiseFw tos k c su d x b s
  rw [h]
@[simp] theorem raiseFw_engines (tos : List Nat) (k c su d : Nat) (x : Option (Nat × Nat)) (b : Bool) (s : State) : (raiseFw tos k c su d x b s).engines = s.engines := by
  obtain ⟨_, _, _, _, _, h⟩ := noticeOnly_raiseFw tos k c su d x b s
  rw [h]
@[simp] theorem raiseFw_chans (tos : List Nat) (k c su d : Nat) (x : Option (Nat × Nat)) (b : Bool) (s : State) : (raiseFw tos k c su d x b s).chans = s.chans := by
  obtain ⟨_, _, _, _, _, h⟩ := noticeOnly_raiseFw tos k c su d x b s
  rw [h]
@[simp] theorem raiseFw_dram (tos : List Nat) (k c su d : Nat) (x : Option (Nat × Nat)) (b : Bool) (s : State) : (raiseFw tos k c su d x b s).dram = s.dram := by
  obtain ⟨_, _, _, _, _, h⟩ := noticeOnly_raiseFw tos k c su d x b s
  rw [h]
@[simp] theorem raiseFw_lineMeta (tos : List Nat) (k c su d : Nat) (x : Option (Nat × Nat)) (b : Bool) (s : State) : (raiseFw tos k c su d x b s).lineMeta = s.lineMeta := by
  obtain ⟨_, _, _, _, _, h⟩ := noticeOnly_raiseFw tos k c su d x b s
  rw [h]
@[simp] theorem raiseFw_msc (tos : List Nat) (k c su d : Nat) (x : Option (Nat × Nat)) (b : Bool) (s : State) : (raiseFw tos k c su d x b s).msc = s.msc := by
  obtain ⟨_, _, _, _, _, h⟩ := noticeOnly_raiseFw tos k c su d x b s
  rw [h]
@[simp] theorem raiseFw_stackTemp (tos : List Nat) (k c su d : Nat) (x : Option (Nat × Nat)) (b : Bool) (s : State) : (raiseFw tos k c su d x b s).stackTemp = s.stackTemp := by
  obtain ⟨_, _, _, _, _, h⟩ := noticeOnly_raiseFw tos k c su d x b s
  rw [h]
@[simp] theorem raiseFw_coh (tos : List Nat) (k c su d : Nat) (x : Option (Nat × Nat)) (b : Bool) (s : State) : (raiseFw tos k c su d x b s).coh = s.coh := by
  obtain ⟨_, _, _, _, _, h⟩ := noticeOnly_raiseFw tos k c su d x b s
  rw [h]
@[simp] theorem raiseFw_xl (tos : List Nat) (k c su d : Nat) (x : Option (Nat × Nat)) (b : Bool) (s : State) : (raiseFw tos k c su d x b s).xl = s.xl := by
  obtain ⟨_, _, _, _, _, h⟩ := noticeOnly_raiseFw tos k c su d x b s
  rw [h]
@[simp] theorem raiseFw_pwr (tos : List Nat) (k c su d : Nat) (x : Option (Nat × Nat)) (b : Bool) (s : State) : (raiseFw tos k c su d x b s).pwr = s.pwr := by
  obtain ⟨_, _, _, _, _, h⟩ := noticeOnly_raiseFw tos k c su d x b s
  rw [h]
@[simp] theorem raiseFw_fuses (tos : List Nat) (k c su d : Nat) (x : Option (Nat × Nat)) (b : Bool) (s : State) : (raiseFw tos k c su d x b s).fuses = s.fuses := by
  obtain ⟨_, _, _, _, _, h⟩ := noticeOnly_raiseFw tos k c su d x b s
  rw [h]
@[simp] theorem raiseFw_side (tos : List Nat) (k c su d : Nat) (x : Option (Nat × Nat)) (b : Bool) (s : State) : (raiseFw tos k c su d x b s).side = s.side := by
  obtain ⟨_, _, _, _, _, h⟩ := noticeOnly_raiseFw tos k c su d x b s
  rw [h]
@[simp] theorem raiseFw_vxl (tos : List Nat) (k c su d : Nat) (x : Option (Nat × Nat)) (b : Bool) (s : State) : (raiseFw tos k c su d x b s).vxl = s.vxl := by
  obtain ⟨_, _, _, _, _, h⟩ := noticeOnly_raiseFw tos k c su d x b s
  rw [h]
@[simp] theorem raiseFw_serve (tos : List Nat) (k c su d : Nat) (x : Option (Nat × Nat)) (b : Bool) (s : State) : (raiseFw tos k c su d x b s).serve = s.serve := by
  obtain ⟨_, _, _, _, _, h⟩ := noticeOnly_raiseFw tos k c su d x b s
  rw [h]
@[simp] theorem raiseFw_prisms (tos : List Nat) (k c su d : Nat) (x : Option (Nat × Nat)) (b : Bool) (s : State) : (raiseFw tos k c su d x b s).prisms = s.prisms := by
  obtain ⟨_, _, _, _, _, h⟩ := noticeOnly_raiseFw tos k c su d x b s
  rw [h]
@[simp] theorem coreOf_raiseFw (tos : List Nat) (k c su d : Nat) (x : Option (Nat × Nat)) (b : Bool) (s : State) (m : Nat) : coreOf (raiseFw tos k c su d x b s) m = coreOf s m := by
  simp [coreOf, coreInit, isReserve, reserveSlot]
@[simp] theorem engineOf_raiseFw (tos : List Nat) (k c su d : Nat) (x : Option (Nat × Nat)) (b : Bool) (s : State) (m : Nat) : engineOf (raiseFw tos k c su d x b s) m = engineOf s m := by
  simp [engineOf, engineInit, isReserve, reserveSlot]
@[simp] theorem chanOf_raiseFw (tos : List Nat) (k c su d : Nat) (x : Option (Nat × Nat)) (b : Bool) (s : State) (m : Nat) : chanOf (raiseFw tos k c su d x b s) m = chanOf s m := by
  simp [chanOf]
@[simp] theorem clusterOf_raiseFw (tos : List Nat) (k c su d : Nat) (x : Option (Nat × Nat)) (b : Bool) (s : State) (m : Nat) : clusterOf (raiseFw tos k c su d x b s) m = clusterOf s m := by
  simp [clusterOf]
@[simp] theorem facetOf_raiseFw (tos : List Nat) (k c su d : Nat) (x : Option (Nat × Nat)) (b : Bool) (s : State) (m : Nat) : facetOf (raiseFw tos k c su d x b s) m = facetOf s m := by
  simp [facetOf]
@[simp] theorem ltcOf_raiseFw (tos : List Nat) (k c su d : Nat) (x : Option (Nat × Nat)) (b : Bool) (s : State) (m : Nat) : ltcOf (raiseFw tos k c su d x b s) m = ltcOf s m := by
  simp [ltcOf]

/-! ## raisePf0 -/

@[simp] theorem raisePf0_pending (k su d : Nat) (b : Bool) (s : State) : (raisePf0 k su d b s).pending = s.pending := by
  obtain ⟨_, _, _, _, _, h⟩ := noticeOnly_raisePf0 k su d b s
  rw [h]
@[simp] theorem raisePf0_freeCtr (k su d : Nat) (b : Bool) (s : State) : (raisePf0 k su d b s).freeCtr = s.freeCtr := by
  obtain ⟨_, _, _, _, _, h⟩ := noticeOnly_raisePf0 k su d b s
  rw [h]
@[simp] theorem raisePf0_nextCmd (k su d : Nat) (b : Bool) (s : State) : (raisePf0 k su d b s).nextCmd = s.nextCmd := by
  obtain ⟨_, _, _, _, _, h⟩ := noticeOnly_raisePf0 k su d b s
  rw [h]
@[simp] theorem raisePf0_time (k su d : Nat) (b : Bool) (s : State) : (raisePf0 k su d b s).time = s.time := by
  obtain ⟨_, _, _, _, _, h⟩ := noticeOnly_raisePf0 k su d b s
  rw [h]
@[simp] theorem raisePf0_reg (k su d : Nat) (b : Bool) (s : State) : (raisePf0 k su d b s).reg = s.reg := by
  obtain ⟨_, _, _, _, _, h⟩ := noticeOnly_raisePf0 k su d b s
  rw [h]
@[simp] theorem raisePf0_ctxs (k su d : Nat) (b : Bool) (s : State) : (raisePf0 k su d b s).ctxs = s.ctxs := by
  obtain ⟨_, _, _, _, _, h⟩ := noticeOnly_raisePf0 k su d b s
  rw [h]
@[simp] theorem raisePf0_lost (k su d : Nat) (b : Bool) (s : State) : (raisePf0 k su d b s).lost = s.lost := by
  obtain ⟨_, _, _, _, _, h⟩ := noticeOnly_raisePf0 k su d b s
  rw [h]
@[simp] theorem raisePf0_queues (k su d : Nat) (b : Bool) (s : State) : (raisePf0 k su d b s).queues = s.queues := by
  obtain ⟨_, _, _, _, _, h⟩ := noticeOnly_raisePf0 k su d b s
  rw [h]
@[simp] theorem raisePf0_cmds (k su d : Nat) (b : Bool) (s : State) : (raisePf0 k su d b s).cmds = s.cmds := by
  obtain ⟨_, _, _, _, _, h⟩ := noticeOnly_raisePf0 k su d b s
  rw [h]
@[simp] theorem raisePf0_facets (k su d : Nat) (b : Bool) (s : State) : (raisePf0 k su d b s).facets = s.facets := by
  obtain ⟨_, _, _, _, _, h⟩ := noticeOnly_raisePf0 k su d b s
  rw [h]
@[simp] theorem raisePf0_clusters (k su d : Nat) (b : Bool) (s : State) : (raisePf0 k su d b s).clusters = s.clusters := by
  obtain ⟨_, _, _, _, _, h⟩ := noticeOnly_raisePf0 k su d b s
  rw [h]
@[simp] theorem raisePf0_cores (k su d : Nat) (b : Bool) (s : State) : (raisePf0 k su d b s).cores = s.cores := by
  obtain ⟨_, _, _, _, _, h⟩ := noticeOnly_raisePf0 k su d b s
  rw [h]
@[simp] theorem raisePf0_engines (k su d : Nat) (b : Bool) (s : State) : (raisePf0 k su d b s).engines = s.engines := by
  obtain ⟨_, _, _, _, _, h⟩ := noticeOnly_raisePf0 k su d b s
  rw [h]
@[simp] theorem raisePf0_chans (k su d : Nat) (b : Bool) (s : State) : (raisePf0 k su d b s).chans = s.chans := by
  obtain ⟨_, _, _, _, _, h⟩ := noticeOnly_raisePf0 k su d b s
  rw [h]
@[simp] theorem raisePf0_dram (k su d : Nat) (b : Bool) (s : State) : (raisePf0 k su d b s).dram = s.dram := by
  obtain ⟨_, _, _, _, _, h⟩ := noticeOnly_raisePf0 k su d b s
  rw [h]
@[simp] theorem raisePf0_lineMeta (k su d : Nat) (b : Bool) (s : State) : (raisePf0 k su d b s).lineMeta = s.lineMeta := by
  obtain ⟨_, _, _, _, _, h⟩ := noticeOnly_raisePf0 k su d b s
  rw [h]
@[simp] theorem raisePf0_msc (k su d : Nat) (b : Bool) (s : State) : (raisePf0 k su d b s).msc = s.msc := by
  obtain ⟨_, _, _, _, _, h⟩ := noticeOnly_raisePf0 k su d b s
  rw [h]
@[simp] theorem raisePf0_stackTemp (k su d : Nat) (b : Bool) (s : State) : (raisePf0 k su d b s).stackTemp = s.stackTemp := by
  obtain ⟨_, _, _, _, _, h⟩ := noticeOnly_raisePf0 k su d b s
  rw [h]
@[simp] theorem raisePf0_coh (k su d : Nat) (b : Bool) (s : State) : (raisePf0 k su d b s).coh = s.coh := by
  obtain ⟨_, _, _, _, _, h⟩ := noticeOnly_raisePf0 k su d b s
  rw [h]
@[simp] theorem raisePf0_xl (k su d : Nat) (b : Bool) (s : State) : (raisePf0 k su d b s).xl = s.xl := by
  obtain ⟨_, _, _, _, _, h⟩ := noticeOnly_raisePf0 k su d b s
  rw [h]
@[simp] theorem raisePf0_pwr (k su d : Nat) (b : Bool) (s : State) : (raisePf0 k su d b s).pwr = s.pwr := by
  obtain ⟨_, _, _, _, _, h⟩ := noticeOnly_raisePf0 k su d b s
  rw [h]
@[simp] theorem raisePf0_fuses (k su d : Nat) (b : Bool) (s : State) : (raisePf0 k su d b s).fuses = s.fuses := by
  obtain ⟨_, _, _, _, _, h⟩ := noticeOnly_raisePf0 k su d b s
  rw [h]
@[simp] theorem raisePf0_side (k su d : Nat) (b : Bool) (s : State) : (raisePf0 k su d b s).side = s.side := by
  obtain ⟨_, _, _, _, _, h⟩ := noticeOnly_raisePf0 k su d b s
  rw [h]
@[simp] theorem raisePf0_vxl (k su d : Nat) (b : Bool) (s : State) : (raisePf0 k su d b s).vxl = s.vxl := by
  obtain ⟨_, _, _, _, _, h⟩ := noticeOnly_raisePf0 k su d b s
  rw [h]
@[simp] theorem raisePf0_serve (k su d : Nat) (b : Bool) (s : State) : (raisePf0 k su d b s).serve = s.serve := by
  obtain ⟨_, _, _, _, _, h⟩ := noticeOnly_raisePf0 k su d b s
  rw [h]
@[simp] theorem raisePf0_prisms (k su d : Nat) (b : Bool) (s : State) : (raisePf0 k su d b s).prisms = s.prisms := by
  obtain ⟨_, _, _, _, _, h⟩ := noticeOnly_raisePf0 k su d b s
  rw [h]
@[simp] theorem coreOf_raisePf0 (k su d : Nat) (b : Bool) (s : State) (m : Nat) : coreOf (raisePf0 k su d b s) m = coreOf s m := by
  simp [coreOf, coreInit, isReserve, reserveSlot]
@[simp] theorem engineOf_raisePf0 (k su d : Nat) (b : Bool) (s : State) (m : Nat) : engineOf (raisePf0 k su d b s) m = engineOf s m := by
  simp [engineOf, engineInit, isReserve, reserveSlot]
@[simp] theorem chanOf_raisePf0 (k su d : Nat) (b : Bool) (s : State) (m : Nat) : chanOf (raisePf0 k su d b s) m = chanOf s m := by
  simp [chanOf]
@[simp] theorem clusterOf_raisePf0 (k su d : Nat) (b : Bool) (s : State) (m : Nat) : clusterOf (raisePf0 k su d b s) m = clusterOf s m := by
  simp [clusterOf]
@[simp] theorem facetOf_raisePf0 (k su d : Nat) (b : Bool) (s : State) (m : Nat) : facetOf (raisePf0 k su d b s) m = facetOf s m := by
  simp [facetOf]
@[simp] theorem ltcOf_raisePf0 (k su d : Nat) (b : Bool) (s : State) (m : Nat) : ltcOf (raisePf0 k su d b s) m = ltcOf s m := by
  simp [ltcOf]

/-! ## respond -/

@[simp] theorem respond_pending (fn seq addr : Nat) (r : Reply) (s : State) : (respond fn seq addr r s).pending = s.pending := by
  obtain ⟨_, _, _, _, _, h⟩ := noticeOnly_respond fn seq addr r s
  rw [h]
@[simp] theorem respond_freeCtr (fn seq addr : Nat) (r : Reply) (s : State) : (respond fn seq addr r s).freeCtr = s.freeCtr := by
  obtain ⟨_, _, _, _, _, h⟩ := noticeOnly_respond fn seq addr r s
  rw [h]
@[simp] theorem respond_nextCmd (fn seq addr : Nat) (r : Reply) (s : State) : (respond fn seq addr r s).nextCmd = s.nextCmd := by
  obtain ⟨_, _, _, _, _, h⟩ := noticeOnly_respond fn seq addr r s
  rw [h]
@[simp] theorem respond_time (fn seq addr : Nat) (r : Reply) (s : State) : (respond fn seq addr r s).time = s.time := by
  obtain ⟨_, _, _, _, _, h⟩ := noticeOnly_respond fn seq addr r s
  rw [h]
@[simp] theorem respond_reg (fn seq addr : Nat) (r : Reply) (s : State) : (respond fn seq addr r s).reg = s.reg := by
  obtain ⟨_, _, _, _, _, h⟩ := noticeOnly_respond fn seq addr r s
  rw [h]
@[simp] theorem respond_ctxs (fn seq addr : Nat) (r : Reply) (s : State) : (respond fn seq addr r s).ctxs = s.ctxs := by
  obtain ⟨_, _, _, _, _, h⟩ := noticeOnly_respond fn seq addr r s
  rw [h]
@[simp] theorem respond_lost (fn seq addr : Nat) (r : Reply) (s : State) : (respond fn seq addr r s).lost = s.lost := by
  obtain ⟨_, _, _, _, _, h⟩ := noticeOnly_respond fn seq addr r s
  rw [h]
@[simp] theorem respond_queues (fn seq addr : Nat) (r : Reply) (s : State) : (respond fn seq addr r s).queues = s.queues := by
  obtain ⟨_, _, _, _, _, h⟩ := noticeOnly_respond fn seq addr r s
  rw [h]
@[simp] theorem respond_cmds (fn seq addr : Nat) (r : Reply) (s : State) : (respond fn seq addr r s).cmds = s.cmds := by
  obtain ⟨_, _, _, _, _, h⟩ := noticeOnly_respond fn seq addr r s
  rw [h]
@[simp] theorem respond_facets (fn seq addr : Nat) (r : Reply) (s : State) : (respond fn seq addr r s).facets = s.facets := by
  obtain ⟨_, _, _, _, _, h⟩ := noticeOnly_respond fn seq addr r s
  rw [h]
@[simp] theorem respond_clusters (fn seq addr : Nat) (r : Reply) (s : State) : (respond fn seq addr r s).clusters = s.clusters := by
  obtain ⟨_, _, _, _, _, h⟩ := noticeOnly_respond fn seq addr r s
  rw [h]
@[simp] theorem respond_cores (fn seq addr : Nat) (r : Reply) (s : State) : (respond fn seq addr r s).cores = s.cores := by
  obtain ⟨_, _, _, _, _, h⟩ := noticeOnly_respond fn seq addr r s
  rw [h]
@[simp] theorem respond_engines (fn seq addr : Nat) (r : Reply) (s : State) : (respond fn seq addr r s).engines = s.engines := by
  obtain ⟨_, _, _, _, _, h⟩ := noticeOnly_respond fn seq addr r s
  rw [h]
@[simp] theorem respond_chans (fn seq addr : Nat) (r : Reply) (s : State) : (respond fn seq addr r s).chans = s.chans := by
  obtain ⟨_, _, _, _, _, h⟩ := noticeOnly_respond fn seq addr r s
  rw [h]
@[simp] theorem respond_dram (fn seq addr : Nat) (r : Reply) (s : State) : (respond fn seq addr r s).dram = s.dram := by
  obtain ⟨_, _, _, _, _, h⟩ := noticeOnly_respond fn seq addr r s
  rw [h]
@[simp] theorem respond_lineMeta (fn seq addr : Nat) (r : Reply) (s : State) : (respond fn seq addr r s).lineMeta = s.lineMeta := by
  obtain ⟨_, _, _, _, _, h⟩ := noticeOnly_respond fn seq addr r s
  rw [h]
@[simp] theorem respond_msc (fn seq addr : Nat) (r : Reply) (s : State) : (respond fn seq addr r s).msc = s.msc := by
  obtain ⟨_, _, _, _, _, h⟩ := noticeOnly_respond fn seq addr r s
  rw [h]
@[simp] theorem respond_stackTemp (fn seq addr : Nat) (r : Reply) (s : State) : (respond fn seq addr r s).stackTemp = s.stackTemp := by
  obtain ⟨_, _, _, _, _, h⟩ := noticeOnly_respond fn seq addr r s
  rw [h]
@[simp] theorem respond_coh (fn seq addr : Nat) (r : Reply) (s : State) : (respond fn seq addr r s).coh = s.coh := by
  obtain ⟨_, _, _, _, _, h⟩ := noticeOnly_respond fn seq addr r s
  rw [h]
@[simp] theorem respond_xl (fn seq addr : Nat) (r : Reply) (s : State) : (respond fn seq addr r s).xl = s.xl := by
  obtain ⟨_, _, _, _, _, h⟩ := noticeOnly_respond fn seq addr r s
  rw [h]
@[simp] theorem respond_pwr (fn seq addr : Nat) (r : Reply) (s : State) : (respond fn seq addr r s).pwr = s.pwr := by
  obtain ⟨_, _, _, _, _, h⟩ := noticeOnly_respond fn seq addr r s
  rw [h]
@[simp] theorem respond_fuses (fn seq addr : Nat) (r : Reply) (s : State) : (respond fn seq addr r s).fuses = s.fuses := by
  obtain ⟨_, _, _, _, _, h⟩ := noticeOnly_respond fn seq addr r s
  rw [h]
@[simp] theorem respond_side (fn seq addr : Nat) (r : Reply) (s : State) : (respond fn seq addr r s).side = s.side := by
  obtain ⟨_, _, _, _, _, h⟩ := noticeOnly_respond fn seq addr r s
  rw [h]
@[simp] theorem respond_vxl (fn seq addr : Nat) (r : Reply) (s : State) : (respond fn seq addr r s).vxl = s.vxl := by
  obtain ⟨_, _, _, _, _, h⟩ := noticeOnly_respond fn seq addr r s
  rw [h]
@[simp] theorem respond_serve (fn seq addr : Nat) (r : Reply) (s : State) : (respond fn seq addr r s).serve = s.serve := by
  obtain ⟨_, _, _, _, _, h⟩ := noticeOnly_respond fn seq addr r s
  rw [h]
@[simp] theorem respond_prisms (fn seq addr : Nat) (r : Reply) (s : State) : (respond fn seq addr r s).prisms = s.prisms := by
  obtain ⟨_, _, _, _, _, h⟩ := noticeOnly_respond fn seq addr r s
  rw [h]
@[simp] theorem coreOf_respond (fn seq addr : Nat) (r : Reply) (s : State) (m : Nat) : coreOf (respond fn seq addr r s) m = coreOf s m := by
  simp [coreOf, coreInit, isReserve, reserveSlot]
@[simp] theorem engineOf_respond (fn seq addr : Nat) (r : Reply) (s : State) (m : Nat) : engineOf (respond fn seq addr r s) m = engineOf s m := by
  simp [engineOf, engineInit, isReserve, reserveSlot]
@[simp] theorem chanOf_respond (fn seq addr : Nat) (r : Reply) (s : State) (m : Nat) : chanOf (respond fn seq addr r s) m = chanOf s m := by
  simp [chanOf]
@[simp] theorem clusterOf_respond (fn seq addr : Nat) (r : Reply) (s : State) (m : Nat) : clusterOf (respond fn seq addr r s) m = clusterOf s m := by
  simp [clusterOf]
@[simp] theorem facetOf_respond (fn seq addr : Nat) (r : Reply) (s : State) (m : Nat) : facetOf (respond fn seq addr r s) m = facetOf s m := by
  simp [facetOf]
@[simp] theorem ltcOf_respond (fn seq addr : Nat) (r : Reply) (s : State) (m : Nat) : ltcOf (respond fn seq addr r s) m = ltcOf s m := by
  simp [ltcOf]

/-! ## requestDoneOpt -/

@[simp] theorem requestDoneOpt_pending (t : Option Ticket) (st : Nat) (s : State) : (requestDoneOpt t st s).pending = s.pending := by
  obtain ⟨_, _, _, _, _, h⟩ := noticeOnly_requestDoneOpt t st s
  rw [h]
@[simp] theorem requestDoneOpt_freeCtr (t : Option Ticket) (st : Nat) (s : State) : (requestDoneOpt t st s).freeCtr = s.freeCtr := by
  obtain ⟨_, _, _, _, _, h⟩ := noticeOnly_requestDoneOpt t st s
  rw [h]
@[simp] theorem requestDoneOpt_nextCmd (t : Option Ticket) (st : Nat) (s : State) : (requestDoneOpt t st s).nextCmd = s.nextCmd := by
  obtain ⟨_, _, _, _, _, h⟩ := noticeOnly_requestDoneOpt t st s
  rw [h]
@[simp] theorem requestDoneOpt_time (t : Option Ticket) (st : Nat) (s : State) : (requestDoneOpt t st s).time = s.time := by
  obtain ⟨_, _, _, _, _, h⟩ := noticeOnly_requestDoneOpt t st s
  rw [h]
@[simp] theorem requestDoneOpt_reg (t : Option Ticket) (st : Nat) (s : State) : (requestDoneOpt t st s).reg = s.reg := by
  obtain ⟨_, _, _, _, _, h⟩ := noticeOnly_requestDoneOpt t st s
  rw [h]
@[simp] theorem requestDoneOpt_ctxs (t : Option Ticket) (st : Nat) (s : State) : (requestDoneOpt t st s).ctxs = s.ctxs := by
  obtain ⟨_, _, _, _, _, h⟩ := noticeOnly_requestDoneOpt t st s
  rw [h]
@[simp] theorem requestDoneOpt_lost (t : Option Ticket) (st : Nat) (s : State) : (requestDoneOpt t st s).lost = s.lost := by
  obtain ⟨_, _, _, _, _, h⟩ := noticeOnly_requestDoneOpt t st s
  rw [h]
@[simp] theorem requestDoneOpt_queues (t : Option Ticket) (st : Nat) (s : State) : (requestDoneOpt t st s).queues = s.queues := by
  obtain ⟨_, _, _, _, _, h⟩ := noticeOnly_requestDoneOpt t st s
  rw [h]
@[simp] theorem requestDoneOpt_cmds (t : Option Ticket) (st : Nat) (s : State) : (requestDoneOpt t st s).cmds = s.cmds := by
  obtain ⟨_, _, _, _, _, h⟩ := noticeOnly_requestDoneOpt t st s
  rw [h]
@[simp] theorem requestDoneOpt_facets (t : Option Ticket) (st : Nat) (s : State) : (requestDoneOpt t st s).facets = s.facets := by
  obtain ⟨_, _, _, _, _, h⟩ := noticeOnly_requestDoneOpt t st s
  rw [h]
@[simp] theorem requestDoneOpt_clusters (t : Option Ticket) (st : Nat) (s : State) : (requestDoneOpt t st s).clusters = s.clusters := by
  obtain ⟨_, _, _, _, _, h⟩ := noticeOnly_requestDoneOpt t st s
  rw [h]
@[simp] theorem requestDoneOpt_cores (t : Option Ticket) (st : Nat) (s : State) : (requestDoneOpt t st s).cores = s.cores := by
  obtain ⟨_, _, _, _, _, h⟩ := noticeOnly_requestDoneOpt t st s
  rw [h]
@[simp] theorem requestDoneOpt_engines (t : Option Ticket) (st : Nat) (s : State) : (requestDoneOpt t st s).engines = s.engines := by
  obtain ⟨_, _, _, _, _, h⟩ := noticeOnly_requestDoneOpt t st s
  rw [h]
@[simp] theorem requestDoneOpt_chans (t : Option Ticket) (st : Nat) (s : State) : (requestDoneOpt t st s).chans = s.chans := by
  obtain ⟨_, _, _, _, _, h⟩ := noticeOnly_requestDoneOpt t st s
  rw [h]
@[simp] theorem requestDoneOpt_dram (t : Option Ticket) (st : Nat) (s : State) : (requestDoneOpt t st s).dram = s.dram := by
  obtain ⟨_, _, _, _, _, h⟩ := noticeOnly_requestDoneOpt t st s
  rw [h]
@[simp] theorem requestDoneOpt_lineMeta (t : Option Ticket) (st : Nat) (s : State) : (requestDoneOpt t st s).lineMeta = s.lineMeta := by
  obtain ⟨_, _, _, _, _, h⟩ := noticeOnly_requestDoneOpt t st s
  rw [h]
@[simp] theorem requestDoneOpt_msc (t : Option Ticket) (st : Nat) (s : State) : (requestDoneOpt t st s).msc = s.msc := by
  obtain ⟨_, _, _, _, _, h⟩ := noticeOnly_requestDoneOpt t st s
  rw [h]
@[simp] theorem requestDoneOpt_stackTemp (t : Option Ticket) (st : Nat) (s : State) : (requestDoneOpt t st s).stackTemp = s.stackTemp := by
  obtain ⟨_, _, _, _, _, h⟩ := noticeOnly_requestDoneOpt t st s
  rw [h]
@[simp] theorem requestDoneOpt_coh (t : Option Ticket) (st : Nat) (s : State) : (requestDoneOpt t st s).coh = s.coh := by
  obtain ⟨_, _, _, _, _, h⟩ := noticeOnly_requestDoneOpt t st s
  rw [h]
@[simp] theorem requestDoneOpt_xl (t : Option Ticket) (st : Nat) (s : State) : (requestDoneOpt t st s).xl = s.xl := by
  obtain ⟨_, _, _, _, _, h⟩ := noticeOnly_requestDoneOpt t st s
  rw [h]
@[simp] theorem requestDoneOpt_pwr (t : Option Ticket) (st : Nat) (s : State) : (requestDoneOpt t st s).pwr = s.pwr := by
  obtain ⟨_, _, _, _, _, h⟩ := noticeOnly_requestDoneOpt t st s
  rw [h]
@[simp] theorem requestDoneOpt_fuses (t : Option Ticket) (st : Nat) (s : State) : (requestDoneOpt t st s).fuses = s.fuses := by
  obtain ⟨_, _, _, _, _, h⟩ := noticeOnly_requestDoneOpt t st s
  rw [h]
@[simp] theorem requestDoneOpt_side (t : Option Ticket) (st : Nat) (s : State) : (requestDoneOpt t st s).side = s.side := by
  obtain ⟨_, _, _, _, _, h⟩ := noticeOnly_requestDoneOpt t st s
  rw [h]
@[simp] theorem requestDoneOpt_vxl (t : Option Ticket) (st : Nat) (s : State) : (requestDoneOpt t st s).vxl = s.vxl := by
  obtain ⟨_, _, _, _, _, h⟩ := noticeOnly_requestDoneOpt t st s
  rw [h]
@[simp] theorem requestDoneOpt_serve (t : Option Ticket) (st : Nat) (s : State) : (requestDoneOpt t st s).serve = s.serve := by
  obtain ⟨_, _, _, _, _, h⟩ := noticeOnly_requestDoneOpt t st s
  rw [h]
@[simp] theorem requestDoneOpt_prisms (t : Option Ticket) (st : Nat) (s : State) : (requestDoneOpt t st s).prisms = s.prisms := by
  obtain ⟨_, _, _, _, _, h⟩ := noticeOnly_requestDoneOpt t st s
  rw [h]
@[simp] theorem coreOf_requestDoneOpt (t : Option Ticket) (st : Nat) (s : State) (m : Nat) : coreOf (requestDoneOpt t st s) m = coreOf s m := by
  simp [coreOf, coreInit, isReserve, reserveSlot]
@[simp] theorem engineOf_requestDoneOpt (t : Option Ticket) (st : Nat) (s : State) (m : Nat) : engineOf (requestDoneOpt t st s) m = engineOf s m := by
  simp [engineOf, engineInit, isReserve, reserveSlot]
@[simp] theorem chanOf_requestDoneOpt (t : Option Ticket) (st : Nat) (s : State) (m : Nat) : chanOf (requestDoneOpt t st s) m = chanOf s m := by
  simp [chanOf]
@[simp] theorem clusterOf_requestDoneOpt (t : Option Ticket) (st : Nat) (s : State) (m : Nat) : clusterOf (requestDoneOpt t st s) m = clusterOf s m := by
  simp [clusterOf]
@[simp] theorem facetOf_requestDoneOpt (t : Option Ticket) (st : Nat) (s : State) (m : Nat) : facetOf (requestDoneOpt t st s) m = facetOf s m := by
  simp [facetOf]
@[simp] theorem ltcOf_requestDoneOpt (t : Option Ticket) (st : Nat) (s : State) (m : Nat) : ltcOf (requestDoneOpt t st s) m = ltcOf s m := by
  simp [ltcOf]


end Sys2Proof.Machine
end

