-- ==== Sys2Proof/Laws/Requests.lean ====
section
/-! SUPPORT. What the request rows answer: `serve` and `serveJob` once, under the conditions on the request that the statements
name, and what `checked` answers. -/

namespace Sys2Proof.Machine

theorem checked_ok {ok : Bool} (h : ok = true) (s : State) (f : State → State) : checked ok s f = .next (f s) := by
  simp [checked, h]

theorem checked_next {ok : Bool} {s t : State} {f : State → State} (h : checked ok s f = .next t) : t = f s := by
  unfold checked at h
  split at h
  · injection h with h; exact h.symm
  · cases h

/-- A row whose request stands in the mailbox of its function acts on that request. -/
theorem onRequest_of_asked {fn : Nat} {lay : Layout} {act : Req → List Byte → State → State} {s : State} {h : Req}
    {b : List Byte} (ha : askedBy s fn lay = some (h, b)) : onRequest fn lay act s = act h b s := by
  simp [onRequest, ha]

/-- With any other request in the mailbox, or none, the row does nothing. -/
theorem onRequest_of_not_asked {fn : Nat} {lay : Layout} {act : Req → List Byte → State → State} {s : State}
    (ha : askedBy s fn lay = none) : onRequest fn lay act s = s := by
  simp [onRequest, ha]

/-- The request that a row finds is its function's own. -/
theorem fn_of_asked {fn : Nat} {lay : Layout} {s : State} {h : Req} {b : List Byte} (ha : askedBy s fn lay = some (h, b)) :
    h.fn = fn := by
  simp only [askedBy] at ha
  split at ha
  · injection ha with ha
    injection ha with ha
    rw [← ha]
  · cases ha

theorem inHand_of_asked {fn : Nat} {lay : Layout} {s : State} {h : Req} {b : List Byte}
    (ha : askedBy s fn lay = some (h, b)) : inHand h s = true := by
  simp only [askedBy] at ha
  split at ha
  · rename_i hc
    injection ha with ha
    injection ha with ha
    rw [← ha]
    simp only [Bool.and_eq_true] at hc
    simp [inHand, hc.1.1]
  · cases ha

/-- What the row finds may be served, and the row acts on it. -/
theorem served_of_asked {fn : Nat} {lay : Layout} {c : Bool} {h : Req} {b : List Byte} {s : State}
    (ha : Asked fn lay c h b s) : Served h lay.op c s := by
  obtain ⟨h1, h2, h3⟩ := ha
  exact ⟨by rw [fn_of_asked h2]; exact h1, inHand_of_asked h2, h3⟩

theorem mayAccept_of_asked {fn : Nat} {lay : Layout} {c : Bool} {h : Req} {b : List Byte} {s : State}
    (ha : AskedJob fn lay c h b s) : MayAccept h lay.op c s := by
  obtain ⟨h1, h2, h3⟩ := ha
  exact ⟨served_of_asked h1, h2, by rw [fn_of_asked h1.2.1]; exact h3⟩

theorem okFn_of_served {h : Req} {op : Nat} {c : Bool} {s : State} (hs : Served h op c s) : okFn h.fn = true := by
  simp [okFn, hs.1]

/-- A request that passes the common checks and fits its response buffer is answered with what its own work says. -/
theorem serve_next {h : Req} {op : Nat} {c : Bool} {s : State} {act : State → Reply × State} (hs : Served h op c s)
    (hl : 16 + (act s).1.body.length ≤ h.respLen) :
    serve h op c act s = answeredWith h (act s).1 (act s).2 := by
  obtain ⟨-, h2, h3⟩ := hs
  have : ¬ h.respLen < 16 + (act s).1.body.length := by omega
  simp [serve, h2, h3, this, answeredWith]

/-- A common check that ends a request gives its status and nothing else. -/
theorem serve_gate {h : Req} {op st : Nat} {c : Bool} {s : State} {act : State → Reply × State}
    (h2 : inHand h s = true) (h3 : gate h op c s = some st) :
    serve h op c act s = answeredWith h { status := st } s := by
  simp [serve, h2, h3, answeredWith]

/-- A request that the firmware accepts is answered ACCEPTED, stands among the accepted ones, and its work begins. -/
theorem serveJob_next {h : Req} {op : Nat} {c : Bool} {s : State} {check : State → Reply} {act : State → State}
    {body : List Byte} (hs : MayAccept h op c s) (hc : check s = { status := syAccepted, body := body })
    (hl : 16 + body.length ≤ h.respLen) :
    serveJob h op c check act s = act (taken h op body s) := by
  obtain ⟨⟨-, h2, h3⟩, -, h5⟩ := hs
  have h6 : ¬ h.respLen < 16 + body.length := by omega
  have h7 : ¬ 16 ≤ (fnOf s h.fn).accepted.length := by omega
  simp [serveJob, h2, h3, hc, h6, h7, taken, answeredWith]

/-- One that its own check ends is answered with that. -/
theorem serveJob_turned {h : Req} {op : Nat} {c : Bool} {s : State} {check : State → Reply} {act : State → State}
    (hs : Served h op c s) (hc : (check s).status ≠ syAccepted) :
    serveJob h op c check act s = answeredWith h (check s) s := by
  obtain ⟨-, h2, h3⟩ := hs
  simp [serveJob, h2, h3, hc, answeredWith]

end Sys2Proof.Machine
end

