-- ==== Sys2Proof/Tests/Slice0.lean ====
section
/-! SUPPORT. The package's own tests: commands that name what does not exist are refused, and a witness for the hypotheses of each
statement. -/

namespace Sys2Proof.Tests

open Sys2Proof.Machine

theorem test_wf_functions : (Instr.getInfoDevice 64).wf = false ∧ (Instr.getInfoDevice 63).wf = true ∧
    (Instr.functionLevelReset 64).wf = false ∧ (Instr.mbxDoorbell 0 65536 []).wf = false := by decide

theorem test_wf_units : (Instr.endOp 544).wf = false ∧ (Instr.endOp 543).wf = true ∧ (Instr.anDroopReplay 4352).wf = false ∧
    (Instr.waitForSnapshot 32).wf = false ∧ (Instr.channelRetire 256).wf = false ∧
    (Instr.stackTemperatureSample 8 300).wf = false ∧ (Instr.overloadWindow 64).wf = false ∧
    (Instr.vxlRetrain 6).wf = false ∧ (Instr.railRaiseDone 7).wf = false ∧ (Instr.aonGood 8).wf = false ∧
    (Instr.tamper 4).wf = false ∧ (Instr.startUpCalibration 2).wf = false := by decide

theorem test_wf_addresses : (Instr.nonAllocatingRead (2 ^ 33) 0).wf = false ∧
    (Instr.channelRequest 0 0 (2 ^ 25) 0 false 0 [] .clean 0).wf = false ∧
    (Instr.channelRequest 0x720 0 0 0 false 0 [] .clean 0).wf = false ∧
    (Instr.nonAllocatingWrite 0 0 63 [1, 2]).wf = false ∧ (Instr.nonAllocatingWrite 0 0 62 [1, 2]).wf = true ∧
    (Instr.bar2Read (2 ^ 39) 1).wf = false ∧ (Instr.testAccessPortAccess 0 (2 ^ 21) false [0]).wf = false ∧
    (Instr.configSpaceAccess 0 false 2 0).wf = false ∧ (Instr.configSpaceAccess 0 false 4096 0).wf = false := by decide

theorem test_wf_fields : (Instr.dbSubmit 0 16384 0).wf = false ∧ (Instr.dbCompHead 0 0 65536).wf = false ∧
    (Instr.ltcCaptureGo (2 ^ 32)).wf = false ∧ (Instr.evcPendingAck 0 128 0).wf = false ∧
    (Instr.registerWrite 0 (2 ^ 26) 0 false).wf = false ∧ (Instr.planeScrubVisit 0 2 0 []).wf = false ∧
    (Instr.planeScrubVisit 0 0 256 []).wf = false ∧ (Instr.sealedChunkStart 0 0 0 0 0 0 4 false).wf = false ∧
    (Instr.atsInvalidateRequest 0 none 0 0 32).wf = false ∧ (Instr.prgResponse 0 512 0).wf = false ∧
    (Instr.vxlNakReceive 0 0 4096).wf = false ∧ (Instr.vxlLaneLockLoss 0 16).wf = false ∧
    (Instr.vxlRead 0 65536 ⟨1, false, false, true, 0, 0, 0, 0, 0, 0, [], false⟩).wf = false ∧
    (Instr.peerTimeoutExpiry 65536).wf = false ∧ (Instr.dieSensorSample 0 [1]).wf = false ∧
    (Instr.thermtrip 0x108 0).wf = false ∧ (Instr.i3cSetdasa 128).wf = false ∧ (Instr.mctpControl 1 256).wf = false := by decide

theorem test_ill_formed_stops : exec (.endOp 544) State.reset = .fault .noSuchUnit := by rfl

set_option Elab.async false
set_option maxRecDepth 8000

/-! ## Witnesses: states and operands that meet the hypotheses of each statement, clause by clause -/

/-- The module in service: PERST# released, every rail in range, the management core running. -/
def up : State :=
  { State.reset with
    pwr := { aonGood := true, perst := false, pcie := true, railsOn := [0, 1, 2, 3, 4, 5, 6], order := 7, stage := 5
             coolOk := true, coolStable := true, trained := true, mcRunning := true, mbxReady := true, westCal := 3, eastCal := 3 } }

/-- A facet of one core and one channel. -/
def fac : Facet :=
  { state := 2, fn := 0, mode := 0, confidential := false, member := false, cls := 0, master := 0, rung := 1, cores := [0]
    channels := [0], halfPorts := [], minRate := 10, timeLimit := 2000, peerTimeout := 100, rungs := [1], kvFormat := 0
    kvBlocks := 0, tier := ⟨0, 0, 0⟩, memberCount := 0, masterDevice := 0xFFFF, masterFacet := 0, map := [(0, { channel := 0 })] }

/-- A queue of PF0 with two free places. -/
def que : Machine.Queue :=
  { fn := 0, facet := 0, privileged := false, report := false, source := 0, subLog2 := 4, compLog2 := 4, subBase := 0x10000
    compBase := 0x20000, fenceBase := 0x1000, fenceCount := 4, frame := 0, resident := true }

def ctx0 : Ctx := { facet := 0, fn := 0, pasid := 5, root := 0, weight := 1 }

/-- A header of PF0's requests. -/
def rq : Req := ⟨0, 1, 0x10000, 4096, false⟩

/-- A request buffer, and a state with it in a function's mailbox. -/
def mbxOf (op : Nat) (b : List Byte) (n : Nat := 4096) : List Byte :=
  toLe 2 op ++ toLe 2 0 ++ toLe 4 b.length ++ toLe 8 0x10000 ++ toLe 4 n ++ toLe 2 1 ++ toLe 10 0 ++ b

def ask (op : Nat) (b : List Byte) (s : State) (fn : Nat := 0) (n : Nat := 4096) : State :=
  updFn fn (fun f => { f with outstanding := true, curSeq := 1, request := mbxOf op b n }) s

def askedHdr (s : State) (fn : Nat) (l : Layout) : Req :=
  match askedBy s fn l with
  | some r => r.1
  | none => rq

def askedBytes (s : State) (fn : Nat) (l : Layout) : List Byte :=
  match askedBy s fn l with
  | some r => r.2
  | none => []

/-- Fields of 1, 2 and 4 bytes, and of 8. -/
def f1 (n : Nat) : List Byte := toLe 1 n
def f2 (n : Nat) : List Byte := toLe 2 n
def f4 (n : Nat) : List Byte := toLe 4 n
def f8 (n : Nat) : List Byte := toLe 8 n
def z (n : Nat) : List Byte := List.replicate n 0

def core0 : Core := { status := 2, powered := true, cleared := true, facet := 0 }

/-- `up` with one facet in service. -/
def on : State :=
  { up with
    facets := [(0, fac)], ctxs := [(1, ctx0)], queues := [(0, que)], cores := [(0, core0)]
    chans := [(0, { state := 2, facet := 0 })] }

/-- The doorbell of a request in hand. -/
def inHandOf (h : Req) (s : State) : State := updFn h.fn (fun f => { f with outstanding := true, curSeq := h.seq }) s

def onRq : State := inHandOf rq on
def upRq : State := inHandOf rq up

def dNop : Desc :=
  { context := 1, waitEn := false, signalEn := false, signalOnError := false, deadline := 0, waitFence := 0, signalFence := 0
    waitValue := 0, signalValue := 0, tag := 77, rsv := none, payload := .nop }

/-- A command of queue 0 that runs. -/
def run1 : Cmd := { queue := 0, index := 0, fn := 0, facet := 0, report := false, desc := dNop, clk := 0, acceptedAt := 0, phase := .running, ready := true, ran := true }

/-- A shadow table of context 1 whose level 1 entry for address 0 maps a DEVICE page of 1 GiB at frame 0 (R259). -/
def walkable : State :=
  { on with dram := [(0, 1), (1, 16), (4096, 2)], xl := { on.xl with walks := [{ ctx := 1, vpage := 0, va := 0, waiters := [] }] } }

def dRun : Desc := { dNop with payload := .runSegment 1 [] }

def seg2 : Segment :=
  { streamed := false, twoPlane := false, coreCount := 2, weightSet := 3, soloEstimate := 100, size := 256
    programs := [⟨128, 0, 0, [1], [.fin 0]⟩, ⟨144, 1, 0, [0], [.fin 0]⟩], prisms := [⟨0, 1, [1]⟩] }

def wsh3 : WsHeader := { sealedKey := false, headerSet := 3, chunkCount := 2, chunkOffset := 256, bindingSet := 0, rungs := [] }

def ws3 : WSet := { keySlot := 0, sealedSet := false, replicated := false, ready := true, hdr := wsh3, frames := [0, 1, 2] }

/-- A facet of two cores with a ladder and a weight set. -/
def fac2 : Facet :=
  { fac with cores := [0, 1], rung := 2, rungs := [2], ladders := [(1, ⟨3, [(2, { seg := seg2, frames := [5], mapping := [(0, 0), (1, 1)] })]⟩)], sets := [(3, ws3)]
             planesSet := some 3, nextLadder := 2, joined := true }

def eng : Engine := { status := 1 }

/-- Command 9 runs a segment on cores 0 and 1. -/
def work : State :=
  { on with
    facets := [(0, { fac2 with running := some 9 })], cmds := [(9, { run1 with desc := dRun, cores := [0, 1] })]
    cores := [(0, { core0 with cmd := some 9 }), (1, { core0 with cmd := some 9 })]
    engines := [(0, eng), (1, eng), (8, eng)]
    prisms := [(5, { facet := 0, ladder := 1, rung := 2, entry := 0, source := some 0, leaves := [1], queue := 1 })] }

/-- `work` with operations in the fetch buffer of core 0. -/
def working (b : List Byte) (s : State := work) : State := updCore 0 (fun x => { x with fbuf := b }) s

def withEngine (e : Engine) : State := { on with engines := [(0, e)] }

/-- Engine 0 with a chunk load due. -/
def loading : State :=
  { withEngine eng with facets := [(0, { fac2 with loads := [(1, (3, 1))] })] }

def jobbed (w : WSet) : State :=
  { withEngine eng with facets := [(0, { fac2 with sets := [(3, w)] })], clusters := [(0, { job := some { engine := 0, plane1 := true, facet := 0, set := 3, chunk := 1, buffer := 2, scrub := false } })] }

/-- `work` with the first 64 KiB of context 1 in cluster 0's mirror. -/
def mapped : State := { work with xl := { work.xl with clus := [(0, [⟨1, 0, 16, false, 0, true, true⟩])] } }

/-- A body for a facet of core 17 and channel 255. -/
def newFac : List Byte :=
  z 4 ++ f2 7 ++ f2 500 ++ f2 1000 ++ f1 1 ++ z 5 ++ f2 1 ++ z 46 ++ toLe 68 (2 ^ 17) ++ z 4 ++ toLe 32 (2 ^ 255)

def resize0 : Resize := { ticket := some ⟨0, 1, opFacetResize⟩, cores := [17], channels := [255], halfPorts := [], master := 1, rung := 1, moves := [] }

/-- A segment of one core. -/
def segHead (crc : Nat) : List Byte :=
  [0x56, 0x58, 0x53, 0x47] ++ f2 0x100 ++ f2 128 ++ z 2 ++ f2 1 ++ f4 9 ++ f4 128 ++ z 8 ++ f4 176 ++ f4 100 ++ f4 crc ++ z 88
def segTail : List Byte := z 4 ++ f4 160 ++ f4 1 ++ z 4 ++ List.replicate 16 0xFF ++ f1 0x7F ++ z 15
def seg1 : List Byte := segHead 398331034 ++ segTail
def seg1G : Segment :=
  { streamed := false, twoPlane := false, coreCount := 1, weightSet := 9, soloEstimate := 100, size := 176
    programs := [⟨160, 0, 0, List.replicate 8 65535, [.fin 0]⟩], prisms := [] }


def rec0 : SeqRecord :=
  { seqId := 7, weightSet := 3, hold := false, hostDrafts := false, tree := false, maxDrafts := 0, share := 1, promptLen := 4
    prompt := 4096, outRing := 8192, outLog2 := 8, kvFormat := 0, outSource := 0, maxTokens := 5, firstTokenNs := 0
    interTokenNs := 0, temperature := 0, topP := 0x3F800000, topK := 1, seed := 0, endTokens := [], stops := [], position := 4
    generated := 1, prefilled := 4, lastToken := 9, tier := 2 ^ 20, modules := 1, blockUnits := 1, offerUnknown := false
    offeredEpoch := 6, rsv := false }

def seq0 : Seq := { rec_ := rec0, context := 1, report := false, state := 2, age := 0 }

def serve0 : Serve :=
  { table := false, units := 1, kvFormat := 0, blocks := 4, poolSlots := [0], configured := true, ladder := 1, budget := 64 }

/-- Facet 0 serves, and command 9 of queue 0 waits with a payload. -/
def serving (v : Serve) (p : Payload) : State :=
  { on with
    facets := [(0, { fac2 with tier := ⟨1, 5, 0⟩ })], serve := [(0, v)]
    cmds := [(9, { run1 with phase := .waiting, ran := false, desc := { dNop with payload := p } })] }

/-- A facet with a sequence in slot 0. -/
def withSeq (q : Seq) (p : Payload := .nop) : State := serving { serve0 with seqs := [(0, q)] } p

/-- A sequence whose export stands at a step. -/
def exporting (k : Nat) : State := withSeq { seq0 with exp := some ⟨k, some 9, 3, 2, 0, some 5, false⟩, state := 3 }

def imp0 : ImportArgs := ⟨2 ^ 20, 7, false, 8, 0, 8192, 1, 0⟩

/-- Command 9 is an import that stands at a stage. -/
def importing (k : Nat) : State :=
  { serving serve0 .nop with
    cmds := [(9, { run1 with desc := { dNop with payload := .stateImport imp0 }, stage := k, word := 5, image := some rec0 })] }

def eclipsed (k : Nat) (l : SMap (Nat × Nat) := []) : State :=
  { on with facets := [(0, { fac with eclipse := some { phase := k, cause := 1, cores := [0] }, loads := l })] }

/-- Every resident slot taken by an idle queue, and queue 16383 waits. -/
def manyQueues : State :=
  { on with queues := ((List.range Config.residentSlots).map fun n => (n, que)) ++ [(16383, { que with resident := false, tail := 1 })] }

/-- Cores 0 and 1 of facet 0 wait on each other since long. -/
def hung : State :=
  { on with
    time := { on.time with ltc := [(42, 200000)] }, reg := { on.reg with detectEn := true }, facets := [(0, fac2)]
    cores := [(0, { core0 with snap := some (⟨1, 8, 0, 1⟩, [1]) }), (1, { core0 with snap := some (⟨1, 0, 0, 1⟩, [0]) })] }

/-- The engines of core 16 in service. -/
def coreEngines : SMap Engine := (List.range 8).map fun i => (128 + i, eng)

/-- A record as the host submits it. -/
def newRec : SeqRecord :=
  { rec0 with position := 0, generated := 0, prefilled := 0, lastToken := 0, modules := 0, blockUnits := 0, offeredEpoch := 0 }

/-- Every port in a state. -/
def ports (x : Port) : State := { on with vxl := { on.vxl with ports := (List.range 6).map fun p => (p, x) } }

def active : Port := { enable := true, state := 3, widthLo := 0, widthHi := 0 }
def flit0 : Flit := ⟨0, [], some 0, false, []⟩

/-- A transaction for context 1 of facet 0 of module 3. -/
def txn0 : Txn := ⟨1, false, false, true, 0, 3, 0, 1, 7, 64, [], false⟩

/-- Module 3 with a window of context 1 in port 5's cluster. -/
def linked : State :=
  { on with
    vxl := { on.vxl with idValid := true, id := 3 }, facets := [(0, fac2)]
    xl := { on.xl with clus := [(clusKey (portCluster 5) 16 64, [⟨1, 0, 16, false, 0, true, true⟩])] } }

/-- `linked` with tag 7 outstanding to module 2. -/
def asked (op n : Nat) : State :=
  { linked with vxl := { linked.vxl with outst := [(7, ⟨5, op, 0, 9, 2, false, 0, n⟩)] }, cmds := [(9, { run1 with desc := dRun, members := 1 })] }

def coll0 : Txn := { txn0 with op := 0x20, addr := 2 * 1024 + 255 }

/-- BAR2 shows facet 0. -/
def window : State := { on with reg := { on.reg with bar2Valid := true } }

/-- PF0 and 63 VFs. -/
def vfs : State := { on with reg := { on.reg with numVFs := 63 } }

/-- Session 1 of function 63, established and signed, on a DEPLOYED module with its identity keys. -/
def secure (f : Nat) : State :=
  { vfs with
    fuses := { vfs.fuses with lcState := 3, identityKeys := true, identityTag := 77 }
    sec := { vfs.sec with
      spdm := [(f, ⟨true, true, true, true, true⟩)], sessions := [⟨f, 1, true, true⟩] } }

/-- A new session of function 63. -/
def opening : State := { vfs with sec := { vfs.sec with sessions := [⟨63, 1, false, false⟩] } }

/-- A map that lists one record under each of `n` keys from `k` on. -/
theorem look_range {α : Type} (v : α) : ∀ (n k e : Nat), k ≤ e → e < k + n →
    SMap.look ((List.range' k n).map fun x => (x, v)) e = some v
  | 0, k, e, _, _ => by omega
  | n + 1, k, e, h1, h2 => by
    rw [List.range'_succ, List.map_cons, SMap.look]
    by_cases hx : e = k
    · simp [hx]
    · rw [if_neg hx, if_neg (by omega)]
      exact look_range v n (k + 1) e (by omega) (by omega)

/-- Every engine in service. -/
def allEngines : SMap Engine := (List.range' 0 4352).map fun e => (e, { status := 1 })

theorem allEngines_status (s : State) (e : Nat) (h : e < 4352) :
    (engineOf { s with engines := allEngines } e).status ≠ 0 := by
  have hl : SMap.look allEngines e = some { status := 1 } := look_range _ 4352 0 e (by omega) (by omega)
  simp [engineOf, SMap.getD, hl]

/-- Every core off. -/
def coresOff : SMap Core := (List.range' 0 544).map fun c => (c, { status := 0 })

theorem coresOff_cleared (s : State) (east : Bool) : halfCleared { s with cores := coresOff } east = true := by
  simp only [halfCleared, List.all_eq_true]
  intro c hc
  have h : c < 544 := by
    simp only [coresOfHalf, List.mem_filter, List.mem_range] at hc
    omega
  have hl : SMap.look coresOff c = some { status := 0 } := look_range _ 544 0 c (by omega) (by omega)
  simp [coreOf, SMap.getD, hl]

/-- What a successful read answers. -/
def leftPart {β : Type} (x : Sum (List Byte) β) : List Byte :=
  match x with
  | .inl d => d
  | .inr _ => []

theorem left_spec {β : Type} (x : Sum (List Byte) β) (h : x.isLeft = true) : x = .inl (leftPart x) := by
  cases x with
  | inl d => rfl
  | inr e => simp at h

theorem read_spec {β : Type} (x : Sum (List Byte) β × State) (h : x.1.isLeft = true) : x = (.inl (leftPart x.1), x.2) :=
  Prod.ext (left_spec x.1 h) rfl

/-- What a successful read of a mover answers. -/
def pairPart {β : Type} (x : Sum (List Byte × List Byte) β) : List Byte × List Byte :=
  match x with
  | .inl d => d
  | .inr _ => ([], [])

theorem read2_spec {β : Type} (x : Sum (List Byte × List Byte) β × State) (h : x.1.isLeft = true) :
    x = (.inl ((pairPart x.1).1, (pairPart x.1).2), x.2) := by
  obtain ⟨a, u⟩ := x
  cases a with
  | inl d => rfl
  | inr e => simp at h

/-- A weight set of one chunk, set 9, for one core: header, index and data. -/
def wsHead : List Byte :=
  [0x56, 0x58, 0x57, 0x53] ++ f2 0x100 ++ f1 0 ++ z 1 ++ f4 9 ++ f4 1 ++ z 4 ++ f2 1 ++ z 50 ++ f4 272 ++ z 4 ++ f2 1 ++ z 2 ++ f4 1 ++
    f4 256 ++ z 4 ++ z 160 ++ f4 0 ++ f2 4095 ++ f1 1 ++ z 9
def wsCont : List Byte := wsHead ++ List.replicate 65552 0
def wsh9 : WsHeader :=
  { sealedKey := false, headerSet := 9, chunkCount := 1, chunkOffset := 272, bindingSet := 0, rungs := [⟨1, false, [⟨0, 4095, 1⟩]⟩] }

/-- A container that begins as `wsHead` and is long enough spells `wsh9`. -/
theorem ws_decode (c : List Byte) (hf : ∀ a n, a + n ≤ 272 → slice c a n = slice wsHead a n)
    (hw : ∀ a n, a + n ≤ 65824 → within c a n = true) : decodeWeightSet c = some wsh9 := by
  have fe : ∀ a n v, a + n ≤ 272 → field wsHead a n = v → field c a n = v := by
    intro a n v h hv
    rw [← hv, field, field, hf a n h]
  have ze : ∀ a n, a + n ≤ 272 → zeroBytes wsHead a n = true → zeroBytes c a n = true := by
    intro a n h hv
    rw [← hv, zeroBytes, zeroBytes, hf a n h]
  have e0 : slice c 0 4 = [0x56, 0x58, 0x57, 0x53] := by
    rw [hf 0 4 (by omega)]
    decide +kernel
  have r0 : wsRungAt c 0 = some ⟨1, false, [⟨0, 4095, 1⟩]⟩ := by
    simp [wsRungAt, wsEntryAt, allSome, List.range, List.range.loop, fe 82 1 0 (by omega) (by decide +kernel),
      fe 84 4 1 (by omega) (by decide +kernel), fe 88 4 256 (by omega) (by decide +kernel),
      fe 80 2 1 (by omega) (by decide +kernel), fe 256 4 0 (by omega) (by decide +kernel),
      fe 260 2 4095 (by omega) (by decide +kernel), fe 262 1 1 (by omega) (by decide +kernel),
      ze 83 1 (by omega) (by decide +kernel), ze 92 4 (by omega) (by decide +kernel),
      ze 263 1 (by omega) (by decide +kernel), hw 256 8 (by omega)]
  simp [decodeWeightSet, wsh9, e0, r0, allSome, List.range, List.range.loop, fe 6 1 0 (by omega) (by decide +kernel),
    fe 20 2 1 (by omega) (by decide +kernel), fe 4 2 256 (by omega) (by decide +kernel),
    fe 12 4 1 (by omega) (by decide +kernel), fe 8 4 9 (by omega) (by decide +kernel),
    fe 72 4 272 (by omega) (by decide +kernel), fe 24 4 0 (by omega) (by decide +kernel),
    ze 7 1 (by omega) (by decide +kernel), ze 22 2 (by omega) (by decide +kernel), ze 28 4 (by omega) (by decide +kernel),
    ze 76 4 (by omega) (by decide +kernel), ze 208 32 (by omega) (by decide +kernel),
    ze 96 112 (by omega) (by decide +kernel), ze 32 40 (by omega) (by decide +kernel), hw 0 256 (by omega),
    hw 272 65552 (by omega)]

theorem wsCont_decode (n : Nat) (h : 65824 ≤ n) : decodeWeightSet (wsCont.take n) = some wsh9 := by
  have h1 : wsHead.length = 272 := by decide +kernel
  have hl : wsCont.length = 65824 := by rw [wsCont, List.length_append, List.length_replicate, h1]
  rw [List.take_of_length_le (by omega)]
  refine ws_decode _ (fun a n ha => ?_) (fun a n ha => by simpa [within, hl] using ha)
  rw [wsCont, slice, slice, List.drop_append_of_le_length (by omega),
    List.take_append_of_le_length (by rw [List.length_drop]; omega)]

theorem fst_eq {α β : Type} (x : α × β) (a : α) (h : x.1 = a) : x = (a, x.2) := Prod.ext h rfl

/-- A flit of a half-port 1 on a joined port, its CRC right. -/
def flitOf (kind seq : Nat) : Flit := ⟨0, flitBytes (flitWord kind seq 0 false 1 0 0 0) [], some 0, false, []⟩

/-- The hypotheses of StepTakesFront hold together. -/
theorem witness_StepTakesFront :
    (∃ (c : Instr) (rest : List Instr) (s : State), s.pending = c :: rest) ∧
    (∃ (s : State), s.pending = []) :=
  ⟨⟨(.nop 0), ([]), ({ on with pending := [.nop 0] }), by decide +kernel⟩,
    ⟨(on), by decide +kernel⟩⟩

/-- The hypotheses of WellFormedCompletes hold together. -/
theorem witness_WellFormedCompletes :
    (∃ (c : Instr), c.wf = true) ∧
    (∃ (c : Instr), c.wf = false) :=
  ⟨⟨(.nop 0), by decide +kernel⟩,
    ⟨(.endOp 544), by decide +kernel⟩⟩

/-- The hypotheses of FusesNeverSetBack hold together. -/
theorem witness_FusesNeverSetBack :
    (∃ (s : State) (t : State), Machine.step s = .next t ∧ s.fuses.svnFloor ≤ 64 ∧ lcLegal s) ∧
    (∃ (u : FwUpdate) (s : State), s.fw.update = some u ∧ u.phase = 4 ∧ u.cluster = 31 ∧ u.img.floor = true ∧
      s.fuses.svnFloor ≤ u.img.svn ∧ u.img.svn ≤ 64) :=
  ⟨⟨(on), (tick on), rfl, by decide +kernel⟩,
    ⟨_,
      ({ on with fw := { on.fw with update := some { phase := 4, img := ⟨true, 0, true, 7, 2, true, 64, z 256⟩, ticket := ⟨0, 0, 0⟩, cluster := 31 } } }),
      rfl, by decide +kernel⟩⟩

/-- The hypotheses of ResetState hold together. -/
theorem witness_ResetState :
    (∃ (f : Nat), f < 64) ∧
    (∃ (e : Nat), e < 4352) ∧
    (∃ (c : Nat), c < 544) ∧
    (∃ (p : Nat), p < 6) :=
  ⟨⟨(63), by decide +kernel⟩,
    ⟨(4351), by decide +kernel⟩,
    ⟨(543), by decide +kernel⟩,
    ⟨(5), by decide +kernel⟩⟩

/-- The hypotheses of LineStores hold together. -/
theorem witness_LineStores :
    (∃ (d : List Byte), d.length = 64) ∧
    (∃ (gl : Nat) (d : List Byte) (k : Nat), d.length = 64 ∧ k ≠ gl) ∧
    (∃ (d : List Byte) (s : State), d.length = 64 ∧ dramOk s) ∧
    (∃ (gl : Nat) (d : List Byte) (a : Nat), d.length = 64 ∧ (a < gl * 64 ∨ gl * 64 + 64 ≤ a)) :=
  ⟨⟨(List.replicate 64 7), by decide +kernel⟩,
    ⟨(0), (List.replicate 64 7), (1), by decide +kernel⟩,
    ⟨(List.replicate 64 7), (on), by decide +kernel⟩,
    ⟨(1), (List.replicate 64 7), (63), by decide +kernel⟩⟩

/-- The hypotheses of GuaranteeMissCounters hold together. -/
theorem witness_GuaranteeMissCounters :
    (∃ (n : Nat), n < 8) ∧
    (∃ (n : Nat) (v : Nat), n < 8 ∧ v < 2 ^ 32) ∧
    (∃ (m : Nat) (target : Nat) (held : Nat) (entries : Nat) (s : State), okMaster m = true ∧ okTarget target = true ∧ m ∉
      s.reg.spoiled ∧ 5000 ≤ held ∧ entries < classReserved s target (masterClass s m)) :=
  ⟨⟨(7), by decide +kernel⟩,
    ⟨(7), (2 ^ 32 - 1), by decide +kernel⟩,
    ⟨(0), (0), (5000), (0), ({ on with reg := { on.reg with inForce := [(0, { queueMin := 50 })] } }), by decide +kernel⟩⟩

/-- The hypotheses of ReplayLimit hold together. -/
theorem witness_ReplayLimit :
    (∃ (p : Nat) (half : Nat) (s : State), p < 6 ∧ half < 2 ∧ (portOf s p).state = 3 ∧ (∃ f ∈ (linkOf (portOf s p)
      half).buf, 8 ≤ f.replays)) ∧
    (∃ (p : Nat) (half : Nat) (s : State), p < 6 ∧ half < 2 ∧ (portOf s p).state = 3 ∧ (∀ f ∈ (linkOf (portOf s p)
      half).buf, f.replays < 8)) :=
  ⟨⟨(5), (1),
      ({ on with vxl := { on.vxl with ports := [(5, { state := 3, split := true, splitNow := true, hi := { buf := [{ kind := 0, seq := 0, half := 1, vnet := 0, dest := 0, txn := none, replays := 8 }] } })] } }),
      by decide +kernel⟩,
    ⟨(0), (0), ({ on with vxl := { on.vxl with ports := [(0, { state := 3 })] } }), by decide +kernel⟩⟩

/-- The hypotheses of LocalTime hold together. -/
theorem witness_LocalTime :
    (∃ (v : Nat) (s : State), v < 2 ^ 32 ∧ bit v 31 = 1 ∧ s.time.captBusy = false) ∧
    (∃ (v : Nat) (s : State), v < 2 ^ 32 ∧ (bit v 31 = 0 ∨ s.time.captBusy = true)) ∧
    (∃ (s : State), s.time.captBusy = true ∧ s.time.captSource < 42 ∧ ltcPowered s s.time.captSource = true) ∧
    (∃ (s : State), s.time.captBusy = true ∧ (42 ≤ s.time.captSource ∨ ltcPowered s s.time.captSource = false)) ∧
    (∃ (s : State), s.time.refclkOk = true ∧ s.pwr.mcRunning = true) ∧
    (∃ (s : State), s.time.refclkOk = true) ∧
    (∃ (s : State), s.time.refclkOk = false ∧ s.pwr.mcRunning = true) ∧
    (∃ (s : State), s.facets = []) ∧
    (∃ (w : Nat) (e : Nat) (n : Nat) (f : Facet) (s : State), s.facets = [(n, f)] ∧ s.pwr.westParked = false ∧
      s.pwr.eastParked = false ∧ inHalf f false = true ∧ inHalf f true = true ∧ f.seamLow = false ∧ Nat.min (w % 2 ^ 16) (e
      % 2 ^ 16) < f.minRate) ∧
    (∃ (w : Nat) (e : Nat) (n : Nat) (f : Facet) (s : State), s.facets = [(n, f)] ∧ s.pwr.westParked = false ∧
      s.pwr.eastParked = false ∧ f.seamLow = true ∧ f.minRate ≤ Nat.min (w % 2 ^ 16) (e % 2 ^ 16)) :=
  ⟨⟨(2 ^ 31 + 42), (on), by decide +kernel⟩,
    ⟨(2 ^ 31 - 1), (on), by decide +kernel⟩,
    ⟨({ on with time := { on.time with captBusy := true, captSource := 41 } }), by decide +kernel⟩,
    ⟨({ on with time := { on.time with captBusy := true, captSource := 42 } }), by decide +kernel⟩,
    ⟨(on), by decide +kernel⟩,
    ⟨(on), by decide +kernel⟩,
    ⟨({ on with time := { on.time with refclkOk := false } }), by decide +kernel⟩,
    ⟨(up), by decide +kernel⟩,
    ⟨(10), (9), (0), ({ fac with cores := [0, 70] }), ({ on with facets := [(0, { fac with cores := [0, 70] })] }),
      by decide +kernel⟩,
    ⟨(10), (11), (0), ({ fac with seamLow := true }), ({ on with facets := [(0, { fac with seamLow := true })] }),
      by decide +kernel⟩⟩

/-- The hypotheses of SharingControl hold together. -/
theorem witness_SharingControl :
    (∃ (m : Nat) (target : Nat) (s : State), okMaster m = true ∧ okTarget target = true ∧ m ∈ s.reg.spoiled) ∧
    (∃ (m : Nat) (target : Nat) (held : Nat) (entries : Nat) (s : State), okMaster m = true ∧ okTarget target = true ∧ m ∉
      s.reg.spoiled ∧ (held < 5000 ∨ classReserved s target (masterClass s m) ≤ entries)) ∧
    (∃ (m : Nat) (target : Nat) (held : Nat) (entries : Nat) (s : State) (u : State), okMaster m = true ∧ okTarget target =
      true ∧ m ∉ s.reg.spoiled ∧ 5000 ≤ held ∧ entries < classReserved s target (masterClass s m) ∧ u =
      { s with reg := { s.reg with gmiss := SMap.put s.reg.gmiss (masterClass s m) (satAdd 32 (SMap.getD s.reg.gmiss (masterClass s m) 0) 1) } }
      ∧ s.reg.monitorEn = false) ∧
    (∃ (m : Nat) (target : Nat) (held : Nat) (entries : Nat) (s : State) (u : State), okMaster m = true ∧ okTarget target =
      true ∧ m ∉ s.reg.spoiled ∧ 5000 ≤ held ∧ entries < classReserved s target (masterClass s m) ∧ u =
      { s with reg := { s.reg with gmiss := SMap.put s.reg.gmiss (masterClass s m) (satAdd 32 (SMap.getD s.reg.gmiss (masterClass s m) 0) 1) } }
      ∧ s.reg.monitorEn = true) ∧
    (∃ (v : Nat) (s : State), v < 2 ^ 32 ∧ bit v 31 = 1 ∧ s.reg.commitBusy = false ∧ classesOk s.reg.classes = true) ∧
    (∃ (v : Nat) (s : State), v < 2 ^ 32 ∧ bit v 31 = 1 ∧ s.reg.commitBusy = false ∧ classesOk s.reg.classes = false) ∧
    (∃ (v : Nat) (s : State), v < 2 ^ 32 ∧ (bit v 31 = 0 ∨ s.reg.commitBusy = true)) :=
  ⟨⟨(0), (0), ({ on with reg := { on.reg with inForce := [(0, { queueMin := 50 })], spoiled := [0] } }), by decide +kernel⟩,
    ⟨(0x71F), (0x109), (4999), (0), (on), by decide +kernel⟩,
    ⟨(0), (0), (5000), (63), ({ on with reg := { on.reg with inForce := [(0, { queueMin := 50 })], monitorEn := false } }),
      _, by decide +kernel, by decide +kernel, by decide +kernel, by decide +kernel, by decide +kernel, rfl,
      by decide +kernel⟩,
    ⟨(0), (0), (5000), (0), ({ on with reg := { on.reg with inForce := [(0, { queueMin := 50 })] } }), _, by decide +kernel,
      by decide +kernel, by decide +kernel, by decide +kernel, by decide +kernel, rfl, by decide +kernel⟩,
    ⟨(2 ^ 31 + 1), (on), by decide +kernel⟩,
    ⟨(2 ^ 31), ({ on with reg := { on.reg with classes := [(0, { queueMin := 60 }), (1, { queueMin := 60 })] } }),
      by decide +kernel⟩,
    ⟨(1), (on), by decide +kernel⟩⟩

/-- The hypotheses of CacheHints hold together. -/
theorem witness_CacheHints :
    (∃ (m : Nat) (ch : Nat) (line : Nat) (s : State) (l : MscLine) (out : LineOutcome) (u : State), okRequester m = true ∧
      ch < 256 ∧ line < 2 ^ 25 ∧ parked s (eastChan ch) = false ∧ admitted s ch (requesterClass s m) = true ∧ ((chanOf s
      ch).state = 1 ∨ (chanOf s ch).state = 2 ∨ (chanOf s ch).state = 3) ∧ mscFind s (ch * 2 ^ 25 + line) = some l ∧ ifFails
      out = false ∧ u = countParity ch out s ∧ l.poisoned = false) ∧
    (∃ (m : Nat) (ch : Nat) (line : Nat) (s : State) (l : MscLine) (out : LineOutcome) (u : State), okRequester m = true ∧
      ch < 256 ∧ line < 2 ^ 25 ∧ parked s (eastChan ch) = false ∧ admitted s ch (requesterClass s m) = true ∧ ((chanOf s
      ch).state = 1 ∨ (chanOf s ch).state = 2 ∨ (chanOf s ch).state = 3) ∧ mscFind s (ch * 2 ^ 25 + line) = some l ∧ ifFails
      out = false ∧ u = countParity ch out s ∧ l.poisoned = true) ∧
    (∃ (m : Nat) (ch : Nat) (line : Nat) (s : State), okRequester m = true ∧ ch < 256 ∧ line < 2 ^ 25 ∧ parked s (eastChan
      ch) = false ∧ admitted s ch (requesterClass s m) = true ∧ ((chanOf s ch).state = 1 ∨ (chanOf s ch).state = 2 ∨ (chanOf
      s ch).state = 3) ∧ mscFind s (ch * 2 ^ 25 + line) = none ∧ (metaOf s (ch * 2 ^ 25 + line)).poisoned = false) ∧
    (∃ (m : Nat) (ch : Nat) (line : Nat) (s : State) (l : MscLine), okRequester m = true ∧ ch < 256 ∧ line < 2 ^ 25 ∧ parked
      s (eastChan ch) = false ∧ admitted s ch (requesterClass s m) = true ∧ ((chanOf s ch).state = 1 ∨ (chanOf s ch).state =
      2 ∨ (chanOf s ch).state = 3) ∧ mscFind s (ch * 2 ^ 25 + line) = none ∧ (metaOf s (ch * 2 ^ 25 + line)).poisoned =
      false ∧ l = ⟨ch * 2 ^ 25 + line, dramLine s (ch * 2 ^ 25 + line), false, false, (metaOf s (ch * 2 ^ 25 +
      line)).keySlot, requesterClass s m⟩) ∧
    (∃ (m : Nat) (ch : Nat) (line : Nat) (s : State) (data : List Byte) (l : MscLine), okRequester m = true ∧ ch < 256 ∧
      line < 2 ^ 25 ∧ parked s (eastChan ch) = false ∧ admitted s ch (requesterClass s m) = true ∧ ((chanOf s ch).state = 1
      ∨ (chanOf s ch).state = 2 ∨ (chanOf s ch).state = 3) ∧ data.length = 64 ∧ l = ⟨ch * 2 ^ 25 + line, data, true, false,
      keySlotOf s ch, requesterClass s m⟩ ∧ mscFind s (ch * 2 ^ 25 + line) = none) :=
  ⟨⟨(0), (0), (0), ({ on with msc := [(mscKey 0, [⟨0, List.replicate 64 3, true, false, 0, none⟩])] }), _, (.clean), _,
      by decide +kernel, by decide +kernel, by decide +kernel, by decide +kernel, by decide +kernel, by decide +kernel, rfl,
      by decide +kernel, rfl, by decide +kernel⟩,
    ⟨(0), (0), (0), ({ on with msc := [(mscKey 0, [⟨0, List.replicate 64 3, true, true, 0, none⟩])] }), _, (.clean), _,
      by decide +kernel, by decide +kernel, by decide +kernel, by decide +kernel, by decide +kernel, by decide +kernel, rfl,
      by decide +kernel, rfl, by decide +kernel⟩,
    ⟨(0x808), (0), (0), (on), by decide +kernel⟩,
    ⟨(0), (0), (2 ^ 25 - 1), (on), _, by decide +kernel, by decide +kernel, by decide +kernel, by decide +kernel,
      by decide +kernel, by decide +kernel, by decide +kernel, by decide +kernel, rfl⟩,
    ⟨(0), (0), (0), (on), (List.replicate 64 9), _, by decide +kernel, by decide +kernel, by decide +kernel,
      by decide +kernel, by decide +kernel, by decide +kernel, by decide +kernel, rfl, by decide +kernel⟩⟩

/-- The hypotheses of ChannelUpkeep hold together. -/
theorem witness_ChannelUpkeep :
    (∃ (ch : Nat) (s : State), ch < 256 ∧ ((chanOf s ch).state = 1 ∨ (chanOf s ch).state = 2) ∧ (chanOf s ch).selfRefresh =
      false ∧ (chanOf s ch).patrol + 1 < 2 ^ 25) ∧
    (∃ (ch : Nat) (s : State), ch < 256 ∧ (chanOf s ch).ceCount ≤ s.reg.ceDegrade) ∧
    (∃ (ch : Nat) (s : State), ch < 256 ∧ s.reg.ceDegrade ≠ 0 ∧ s.reg.ceDegrade < (chanOf s ch).ceCount ∧ (chanOf s
      ch).ceRun = 9 ∧ (chanOf s ch).state = 1 ∧ (chanOf s ch).degraded = false) ∧
    (∃ (ch : Nat) (s : State), ch < 256 ∧ (chanOf s ch).state = 1 ∧ (chanOf s ch).degraded = true ∧ s.reg.autoRetire = true
      ∧ updateBusy s = false ∧ s.pwr.park = none) ∧
    (∃ (ch : Nat) (c : FrameCopy) (d : List Byte) (out : LineOutcome) (s : State) (r : _), ch < 256 ∧ (chanOf s ch).copy =
      some c ∧ c.draining = false ∧ c.line < 1024 ∧ c.frame < 32768 ∧ SMap.has s.coh.blocked (ch * 2 ^ 25 + c.frame * 1024 +
      c.line) = false ∧ r = baseRead none (ch * 2 ^ 25 + c.frame * 1024 + c.line) 1 out (invalidateAll (ch * 2 ^ 25 +
      c.frame * 1024 + c.line) s) ∧ r.1 = .data d) ∧
    (∃ (ch : Nat) (c : FrameCopy) (out : LineOutcome) (s : State) (r : _) (st : _), ch < 256 ∧ (chanOf s ch).copy = some c ∧
      c.draining = false ∧ c.line < 1024 ∧ c.frame < 32768 ∧ SMap.has s.coh.blocked (ch * 2 ^ 25 + c.frame * 1024 + c.line)
      = false ∧ r = baseRead none (ch * 2 ^ 25 + c.frame * 1024 + c.line) 1 out (invalidateAll (ch * 2 ^ 25 + c.frame * 1024
      + c.line) s) ∧ r.1 = .fail st) ∧
    (∃ (ch : Nat) (c : FrameCopy) (s : State), ch < 256 ∧ (chanOf s ch).copy = some c ∧ c.draining = false ∧ c.line = 1024) ∧
    (∃ (ch : Nat) (c : FrameCopy) (s : State), ch < 256 ∧ (chanOf s ch).copy = some c ∧ c.draining = true ∧ c.frame + 1 <
      32768) ∧
    (∃ (ch : Nat) (s : State), ch < 256 ∧ (chanOf s ch).state = 6 ∧ (chanOf s ch).ticket = none ∧ s.facets = [] ∧
      s.pwr.stage = 5 ∧ ((∀ c, c < 256 → (chanOf s c).blocked = false ∧ (chanOf s c).retireWait = false))) ∧
    (∃ (ch : Nat) (s : State), ch < 256 ∧ (chanOf s ch).state ≠ 6) :=
  ⟨⟨(255), ({ up with chans := [(255, { state := 1, patrol := 2 ^ 25 - 2 })] }), by decide +kernel⟩,
    ⟨(255), ({ up with chans := [(255, { state := 1, ceCount := 10000 })] }), by decide +kernel⟩,
    ⟨(255), ({ up with chans := [(255, { state := 1, ceCount := 10001, ceRun := 9 })] }), by decide +kernel⟩,
    ⟨(255), ({ up with chans := [(255, { state := 1, degraded := true })] }), by decide +kernel⟩,
    ⟨(0), _, _, (.clean),
      ({ on with chans := [(0, { state := 3, facet := 0, copy := some { target := 1, line := 1023, frame := 32767 } }), (1, { state := 1 })], facets := [(0, { fac with map := [(0, { channel := 0, target := 1, copying := true })] })] }),
      _, by decide +kernel, rfl, by decide +kernel, by decide +kernel, by decide +kernel, by decide +kernel, rfl, rfl⟩,
    ⟨(0), _, (.clean),
      ({ { on with chans := [(0, { state := 3, facet := 0, copy := some { target := 1, line := 1023, frame := 32767 } }), (1, { state := 1 })], facets := [(0, { fac with map := [(0, { channel := 0, target := 1, copying := true })] })] } with lineMeta := [(32767 * 1024 + 1023, { poisoned := true })] }),
      _, (stDataPoisoned), by decide +kernel, rfl, by decide +kernel, by decide +kernel, by decide +kernel,
      by decide +kernel, rfl, by decide +kernel⟩,
    ⟨(0), _,
      ({ on with chans := [(0, { state := 3, facet := 0, copy := some { target := 1, line := 1024 } }), (1, { state := 1 })], facets := [(0, { fac with map := [(0, { channel := 0, target := 1, copying := true })] })] }),
      by decide +kernel, rfl, by decide +kernel⟩,
    ⟨(0), _,
      ({ on with chans := [(0, { state := 3, facet := 0, copy := some { target := 1, line := 1024, frame := 32766, draining := true } }), (1, { state := 1 })], facets := [(0, { fac with map := [(0, { channel := 0, target := 1, copying := true })] })] }),
      by decide +kernel, rfl, by decide +kernel⟩,
    ⟨(255), ({ up with chans := [(255, { state := 6 })] }), by decide +kernel⟩,
    ⟨(255), ({ up with chans := [(255, { state := 1 })] }), by decide +kernel⟩⟩

/-- The hypotheses of ChannelTests hold together. -/
theorem witness_ChannelTests :
    (∃ (fn : Nat) (h : Req) (b : List Byte) (ch : Nat) (s : State), ch = memtestChan b ∧ ch < 256 ∧ 80 ≤ h.respLen ∧ parked
      s (eastChan ch) = false ∧ Asked fn (layMemtest 0) true h b s ∧ ((chanOf s ch).state = 1 ∨ (chanOf s ch).state = 4)) ∧
    (∃ (fn : Nat) (h : Req) (b : List Byte) (ch : Nat) (s : State), ch = memtestChan b ∧ ch < 256 ∧ 80 ≤ h.respLen ∧ parked
      s (eastChan ch) = false ∧ Asked fn (layMemtest 0) true h b s ∧ (chanOf s ch).state ≠ 1 ∧ (chanOf s ch).state ≠ 4) ∧
    (∃ (fn : Nat) (h : Req) (b : List Byte) (ch : Nat) (s : State), ch = memtestChan b ∧ ch < 256 ∧ 80 ≤ h.respLen ∧ parked
      s (eastChan ch) = false ∧ Asked fn (layMemtest 1) true h b s ∧ (chanOf s ch).state = 5 ∧ tgCfgOk (tgCfgOf b) = true) ∧
    (∃ (fn : Nat) (h : Req) (b : List Byte) (ch : Nat) (s : State), ch = memtestChan b ∧ ch < 256 ∧ 80 ≤ h.respLen ∧ parked
      s (eastChan ch) = false ∧ Asked fn (layMemtest 1) true h b s ∧ tgCfgOk (tgCfgOf b) = false) ∧
    (∃ (fn : Nat) (h : Req) (b : List Byte) (ch : Nat) (s : State), ch = memtestChan b ∧ ch < 256 ∧ 80 ≤ h.respLen ∧ parked
      s (eastChan ch) = false ∧ Asked fn (layMemtest 2) true h b s ∧ (chanOf s ch).state = 5 ∧ (chanOf s ch).tg.running =
      false) ∧
    (∃ (fn : Nat) (h : Req) (b : List Byte) (ch : Nat) (s : State), ch = memtestChan b ∧ ch < 256 ∧ 80 ≤ h.respLen ∧ parked
      s (eastChan ch) = false ∧ Asked fn (layMemtest 2) true h b s ∧ (chanOf s ch).state = 5 ∧ (chanOf s ch).tg.running =
      true) ∧
    (∃ (fn : Nat) (h : Req) (b : List Byte) (ch : Nat) (s : State) (steps : Nat) (reads : List TgRead) (t : State), ch =
      memtestChan b ∧ ch < 256 ∧ 80 ≤ h.respLen ∧ parked s (eastChan ch) = false ∧ Asked fn (layMemtest 3) true h b s ∧
      (chanOf s ch).state = 5 ∧ t = (if (chanOf s ch).tg.running then (tgRun ch reads steps 0 s).2 else s)) ∧
    (∃ (fn : Nat) (h : Req) (b : List Byte) (ch : Nat) (s : State), ch = memtestChan b ∧ ch < 256 ∧ 80 ≤ h.respLen ∧ parked
      s (eastChan ch) = false ∧ Asked fn (layMemtest 4) true h b s) ∧
    (∃ (fn : Nat) (h : Req) (b : List Byte) (ch : Nat) (s : State) (u : State) (back : Bool), ch = memtestChan b ∧ ch < 256
      ∧ 80 ≤ h.respLen ∧ parked s (eastChan ch) = false ∧ u = taken h opMemtest (tgBlock (chanOf s ch).tg) s ∧ AskedJob fn
      (layMemtest 5) true h b s ∧ (chanOf s ch).state = 5 ∧ back = mayReturn (chanOf s ch) (bit (field b 1 1) 0 == 1)) ∧
    (∃ (fn : Nat) (h : Req) (b : List Byte) (ch : Nat) (s : State) (u : State), ch = memtestChan b ∧ ch < 256 ∧ 80 ≤
      h.respLen ∧ parked s (eastChan ch) = false ∧ u = taken h opMemtest (tgBlock (chanOf s ch).tg) s ∧ AskedJob fn
      (layMemtest 6) true h b s ∧ mayRetire s ch = true) ∧
    (∃ (ch : Nat) (g : TgCfg) (s : State), ch < 256 ∧ (chanOf s ch).state = 5 ∧ (chanOf s ch).tg.running = true ∧ (chanOf s
      ch).tg.cfg = g ∧ g.loops ≠ 0) ∧
    (∃ (ch : Nat) (reads : List TgRead) (g : TgCfg) (r : Bool × State) (s : State), ch < 256 ∧ (chanOf s ch).state = 5 ∧
      (chanOf s ch).tg.running = true ∧ (chanOf s ch).tg.cfg = g ∧ g.loops = 0 ∧ r = tgRun ch reads (((reads.map
      (·.step)).foldl Nat.max 0 / tgPer g + 1) * tgPer g) 0 s) ∧
    (∃ (ch : Nat) (s : State), ch < 256 ∧ (chanOf s ch).tg.running = false) :=
  ⟨⟨(0), (askedHdr (ask opMemtest (f1 0 ++ f1 0 ++ f2 255 ++ z 4 ++ z 64) { up with chans := [(255, { state := 4 })] }) (0)
      (layMemtest 0)), (askedBytes (ask opMemtest (f1 0 ++ f1 0 ++ f2 255 ++ z 4 ++ z 64)
      { up with chans := [(255, { state := 4 })] }) (0) (layMemtest 0)), _, (ask opMemtest (f1 0 ++ f1 0 ++ f2 255 ++ z 4 ++
      z 64) { up with chans := [(255, { state := 4 })] }), rfl, by decide +kernel⟩,
    ⟨(0), (askedHdr (ask opMemtest (f1 0 ++ f1 0 ++ f2 255 ++ z 4 ++ z 64) { up with chans := [(255, { state := 2 })] }) (0)
      (layMemtest 0)), (askedBytes (ask opMemtest (f1 0 ++ f1 0 ++ f2 255 ++ z 4 ++ z 64)
      { up with chans := [(255, { state := 2 })] }) (0) (layMemtest 0)), _, (ask opMemtest (f1 0 ++ f1 0 ++ f2 255 ++ z 4 ++
      z 64) { up with chans := [(255, { state := 2 })] }), rfl, by decide +kernel⟩,
    ⟨(0), (askedHdr (ask opMemtest (f1 1 ++ f1 0 ++ f2 255 ++ z 4 ++ f4 0 ++ z 4 ++ f4 0 ++ f4 1 ++ z 8 ++ f4 1 ++ f4 1 ++ z
      32) { up with chans := [(255, { state := 5 })] }) (0) (layMemtest 1)), (askedBytes (ask opMemtest (f1 1 ++ f1 0 ++ f2
      255 ++ z 4 ++ f4 0 ++ z 4 ++ f4 0 ++ f4 1 ++ z 8 ++ f4 1 ++ f4 1 ++ z 32)
      { up with chans := [(255, { state := 5 })] }) (0) (layMemtest 1)), _, (ask opMemtest (f1 1 ++ f1 0 ++ f2 255 ++ z 4 ++
      f4 0 ++ z 4 ++ f4 0 ++ f4 1 ++ z 8 ++ f4 1 ++ f4 1 ++ z 32) { up with chans := [(255, { state := 5 })] }), rfl,
      by decide +kernel⟩,
    ⟨(0), (askedHdr (ask opMemtest (f1 1 ++ f1 0 ++ f2 255 ++ z 4 ++ f4 0x4F ++ z 4 ++ f4 0 ++ f4 1 ++ z 8 ++ f4 1 ++ f4 1
      ++ z 32) { up with chans := [(255, { state := 5 })] }) (0) (layMemtest 1)), (askedBytes (ask opMemtest (f1 1 ++ f1 0
      ++ f2 255 ++ z 4 ++ f4 0x4F ++ z 4 ++ f4 0 ++ f4 1 ++ z 8 ++ f4 1 ++ f4 1 ++ z 32)
      { up with chans := [(255, { state := 5 })] }) (0) (layMemtest 1)), _, (ask opMemtest (f1 1 ++ f1 0 ++ f2 255 ++ z 4 ++
      f4 0x4F ++ z 4 ++ f4 0 ++ f4 1 ++ z 8 ++ f4 1 ++ f4 1 ++ z 32) { up with chans := [(255, { state := 5 })] }), rfl,
      by decide +kernel⟩,
    ⟨(0), (askedHdr (ask opMemtest (f1 2 ++ f1 0 ++ f2 255 ++ z 4 ++ z 64) { up with chans := [(255, { state := 5 })] }) (0)
      (layMemtest 2)), (askedBytes (ask opMemtest (f1 2 ++ f1 0 ++ f2 255 ++ z 4 ++ z 64)
      { up with chans := [(255, { state := 5 })] }) (0) (layMemtest 2)), _, (ask opMemtest (f1 2 ++ f1 0 ++ f2 255 ++ z 4 ++
      z 64) { up with chans := [(255, { state := 5 })] }), rfl, by decide +kernel⟩,
    ⟨(0), (askedHdr (ask opMemtest (f1 2 ++ f1 0 ++ f2 255 ++ z 4 ++ z 64)
      { up with chans := [(255, { state := 5, tg := { running := true, cfg := ⟨false, false, false, 1, 0, 0, 1, 0, 1, 1⟩ } })] })
      (0) (layMemtest 2)), (askedBytes (ask opMemtest (f1 2 ++ f1 0 ++ f2 255 ++ z 4 ++ z 64)
      { up with chans := [(255, { state := 5, tg := { running := true, cfg := ⟨false, false, false, 1, 0, 0, 1, 0, 1, 1⟩ } })] })
      (0) (layMemtest 2)), _, (ask opMemtest (f1 2 ++ f1 0 ++ f2 255 ++ z 4 ++ z 64)
      { up with chans := [(255, { state := 5, tg := { running := true, cfg := ⟨false, false, false, 1, 0, 0, 1, 0, 1, 1⟩ } })] }),
      rfl, by decide +kernel⟩,
    ⟨(0), (askedHdr (ask opMemtest (f1 3 ++ f1 0 ++ f2 255 ++ z 4 ++ z 64)
      { up with chans := [(255, { state := 5, tg := { running := true, cfg := ⟨false, false, false, 1, 0, 0, 1, 0, 1, 1⟩ } })] })
      (0) (layMemtest 3)), (askedBytes (ask opMemtest (f1 3 ++ f1 0 ++ f2 255 ++ z 4 ++ z 64)
      { up with chans := [(255, { state := 5, tg := { running := true, cfg := ⟨false, false, false, 1, 0, 0, 1, 0, 1, 1⟩ } })] })
      (0) (layMemtest 3)), _, (ask opMemtest (f1 3 ++ f1 0 ++ f2 255 ++ z 4 ++ z 64)
      { up with chans := [(255, { state := 5, tg := { running := true, cfg := ⟨false, false, false, 1, 0, 0, 1, 0, 1, 1⟩ } })] }),
      (1), (default), _, rfl, by decide +kernel, by decide +kernel, by decide +kernel, by decide +kernel, by decide +kernel,
      rfl⟩,
    ⟨(0), (askedHdr (ask opMemtest (f1 4 ++ f1 0 ++ f2 255 ++ z 4 ++ z 64) { up with chans := [(255, { state := 5 })] }) (0)
      (layMemtest 4)), (askedBytes (ask opMemtest (f1 4 ++ f1 0 ++ f2 255 ++ z 4 ++ z 64)
      { up with chans := [(255, { state := 5 })] }) (0) (layMemtest 4)), _, (ask opMemtest (f1 4 ++ f1 0 ++ f2 255 ++ z 4 ++
      z 64) { up with chans := [(255, { state := 5 })] }), rfl, by decide +kernel⟩,
    ⟨(0), (askedHdr (ask opMemtest (f1 5 ++ f1 1 ++ f2 255 ++ z 4 ++ z 64) { up with chans := [(255, { state := 5 })] }) (0)
      (layMemtest 5)), (askedBytes (ask opMemtest (f1 5 ++ f1 1 ++ f2 255 ++ z 4 ++ z 64)
      { up with chans := [(255, { state := 5 })] }) (0) (layMemtest 5)), _, (ask opMemtest (f1 5 ++ f1 1 ++ f2 255 ++ z 4 ++
      z 64) { up with chans := [(255, { state := 5 })] }), _, _, rfl, by decide +kernel, by decide +kernel,
      by decide +kernel, rfl, by decide +kernel, by decide +kernel, rfl⟩,
    ⟨(0), (askedHdr (ask opMemtest (f1 6 ++ f1 0 ++ f2 255 ++ z 4 ++ z 64) { up with chans := [(255, { state := 1 })] }) (0)
      (layMemtest 6)), (askedBytes (ask opMemtest (f1 6 ++ f1 0 ++ f2 255 ++ z 4 ++ z 64)
      { up with chans := [(255, { state := 1 })] }) (0) (layMemtest 6)), _, (ask opMemtest (f1 6 ++ f1 0 ++ f2 255 ++ z 4 ++
      z 64) { up with chans := [(255, { state := 1 })] }), _, rfl, by decide +kernel, by decide +kernel, by decide +kernel,
      rfl, by decide +kernel⟩,
    ⟨(255), (⟨false, false, false, 1, 0, 0, 1, 0, 1, 1⟩),
      ({ up with chans := [(255, { state := 5, tg := { running := true, cfg := ⟨false, false, false, 1, 0, 0, 1, 0, 1, 1⟩ } })] }),
      by decide +kernel⟩,
    ⟨(255), (default), (⟨false, false, false, 1, 0, 0, 1, 0, 1, 0⟩), _,
      ({ up with chans := [(255, { state := 5, tg := { running := true, cfg := ⟨false, false, false, 1, 0, 0, 1, 0, 1, 0⟩ } })] }),
      by decide +kernel, by decide +kernel, by decide +kernel, by decide +kernel, by decide +kernel, rfl⟩,
    ⟨(255), ({ up with chans := [(255, { state := 5, tg := {} })] }), by decide +kernel⟩⟩

/-- The hypotheses of StacksAndTraining hold together. -/
theorem witness_StacksAndTraining :
    (∃ (k : Nat), k < 8) ∧
    (∃ (failed : List Nat) (s : State), s.pwr.stage = 4 ∧ s.pwr.trained = false ∧ s.chans = [] ∧ s.coh = {} ∧ ((∀ c, c < 256
      → c ∈ failed))) :=
  ⟨⟨(7), by decide +kernel⟩,
    ⟨(List.range 256), ({ State.reset with pwr := { up.pwr with stage := 4, trained := false } }), by decide +kernel⟩⟩

/-- The hypotheses of CoherentRequests hold together. -/
theorem witness_CoherentRequests :
    (∃ (k : Nat) (gl : Nat) (s : State) (u : State), k < 32 ∧ gl < 2 ^ 33 ∧ homeServes s gl = true ∧ mayAllocate s k
      (chOfLine gl) = true ∧ (∀ w ∈ s.coh.waiting, w.1 ≠ gl) ∧ u = countCoh k (fun c => { c with misses := c.misses + 1 }) s
      ∧ SMap.has s.coh.blocked gl = true ∧ cacheFind s k gl = none) ∧
    (∃ (k : Nat) (gl : Nat) (s : State) (u : State) (l : CLine), k < 32 ∧ gl < 2 ^ 33 ∧ homeServes s gl = true ∧ mayAllocate
      s k (chOfLine gl) = true ∧ (∀ w ∈ s.coh.waiting, w.1 ≠ gl) ∧ u = countCoh k (fun c =>
      { c with misses := c.misses + 1 }) s ∧ SMap.has s.coh.blocked gl = true ∧ cacheFind s k gl = some l ∧ l.m = false) ∧
    (∃ (k : Nat) (gl : Nat) (s : State) (u : State) (j : Nat), k < 32 ∧ gl < 2 ^ 33 ∧ homeServes s gl = true ∧ mayAllocate s
      k (chOfLine gl) = true ∧ (∀ w ∈ s.coh.waiting, w.1 ≠ gl) ∧ u = countCoh k (fun c => { c with misses := c.misses + 1 })
      s ∧ SMap.has s.coh.blocked gl = false ∧ cacheFind s k gl = none ∧ ownerOfLine u gl = some j ∧ j ≠ k) ∧
    (∃ (k : Nat) (gl : Nat) (s : State) (u : State) (j : Nat), k < 32 ∧ gl < 2 ^ 33 ∧ homeServes s gl = true ∧ mayAllocate s
      k (chOfLine gl) = true ∧ (∀ w ∈ s.coh.waiting, w.1 ≠ gl) ∧ u = countCoh k (fun c => { c with misses := c.misses + 1 })
      s ∧ SMap.has s.coh.blocked gl = false ∧ cacheFind s k gl = none ∧ ownerOfLine u gl = none ∧ sharers u gl = [j] ∧ j ≠
      k) ∧
    (∃ (k : Nat) (gl : Nat) (s : State) (u : State) (l : CLine), k < 32 ∧ gl < 2 ^ 33 ∧ homeServes s gl = true ∧ mayAllocate
      s k (chOfLine gl) = true ∧ (∀ w ∈ s.coh.waiting, w.1 ≠ gl) ∧ u = countCoh k (fun c =>
      { c with misses := c.misses + 1 }) s ∧ SMap.has s.coh.blocked gl = false ∧ cacheFind s k gl = some l ∧ l.m = false ∧
      sharers u gl = [k]) ∧
    (∃ (k : Nat) (gl : Nat) (s : State) (u : State) (e : FEntry) (d : List Byte), k < 32 ∧ gl < 2 ^ 33 ∧ homeServes s gl =
      true ∧ mayAllocate s k (chOfLine gl) = true ∧ (∀ w ∈ s.coh.waiting, w.1 ≠ gl) ∧ u = countCoh k (fun c =>
      { c with misses := c.misses + 1 }) s ∧ SMap.has s.coh.blocked gl = false ∧ cacheFind s k gl = none ∧ ownerOfLine u gl
      = none ∧ filterFind u gl = some e ∧ (baseRead (lineClass u gl) gl 0 .clean u).1 = .data d) ∧
    (∃ (k : Nat) (gl : Nat) (c : Nat) (t : HomeTxn) (l : CLine) (s : State), k < 32 ∧ gl < 2 ^ 33 ∧ SMap.look s.coh.blocked
      gl = some t ∧ t.fwd = some k ∧ cacheFind s k gl = some l ∧ l.bad ≠ 2 ∧ t.req = .readShared c) ∧
    (∃ (k : Nat) (gl : Nat) (c : Nat) (t : HomeTxn) (l : CLine) (s : State), k < 32 ∧ gl < 2 ^ 33 ∧ SMap.look s.coh.blocked
      gl = some t ∧ t.fwd = some k ∧ cacheFind s k gl = some l ∧ l.bad ≠ 2 ∧ t.req = .readOwn c) ∧
    (∃ (k : Nat) (gl : Nat) (t : HomeTxn) (s : State) (l : _), k < 32 ∧ gl < 2 ^ 33 ∧ SMap.look s.coh.blocked gl = some t ∧
      k ∈ t.acks ∧ t.fwd = none ∧ cacheFind s k gl = some l ∧ l.m = false) ∧
    (∃ (k : Nat) (gl : Nat) (t : HomeTxn) (s : State), k < 32 ∧ gl < 2 ^ 33 ∧ SMap.look s.coh.blocked gl = some t ∧ k ∈
      t.acks ∧ t.fwd = none ∧ cacheFind s k gl = none) ∧
    (∃ (k : Nat) (gl : Nat) (t : HomeTxn) (s : State) (j : Nat) (r : _), k < 32 ∧ gl < 2 ^ 33 ∧ SMap.look s.coh.blocked gl =
      some t ∧ k ∈ t.acks ∧ t.fwd = none ∧ cacheFind s k gl = none ∧ NSet.del t.acks k = j :: r) ∧
    (∃ (k : Nat) (gl : Nat) (t : HomeTxn) (s : State) (c : Nat), k < 32 ∧ gl < 2 ^ 33 ∧ SMap.look s.coh.blocked gl = some t
      ∧ k ∈ t.acks ∧ t.fwd = none ∧ cacheFind s k gl = none ∧ NSet.del t.acks k = [] ∧ t.req = .upgrade c) ∧
    (∃ (k : Nat) (gl : Nat) (t : HomeTxn) (s : State) (c : Nat) (d : _), k < 32 ∧ gl < 2 ^ 33 ∧ SMap.look s.coh.blocked gl =
      some t ∧ k ∈ t.acks ∧ t.fwd = none ∧ cacheFind s k gl = none ∧ NSet.del t.acks k = [] ∧ t.req = .readOwn c ∧ t.data =
      some d) ∧
    (∃ (k : Nat) (gl : Nat) (off : Nat) (slot : Nat) (d : List Byte) (data : List Byte) (t : HomeTxn) (s : State), k < 32 ∧
      gl < 2 ^ 33 ∧ off + data.length ≤ 64 ∧ SMap.look s.coh.blocked gl = some t ∧ t.granted = true ∧ t.data = some (d,
      slot) ∧ t.noFill = false ∧ s.coh.waiting = [] ∧ t.req = .readShared k) ∧
    (∃ (k : Nat) (gl : Nat) (off : Nat) (slot : Nat) (d : List Byte) (data : List Byte) (t : HomeTxn) (s : State), k < 32 ∧
      gl < 2 ^ 33 ∧ off + data.length ≤ 64 ∧ SMap.look s.coh.blocked gl = some t ∧ t.granted = true ∧ t.data = some (d,
      slot) ∧ t.noFill = false ∧ s.coh.waiting = [] ∧ t.req = .readOwn k) :=
  ⟨⟨(0), (0),
      ({ on with coh := { lines := [], filter := [], blocked := [(0, ⟨.readShared 1, [], none, none, true, false⟩)] } }), _,
      by decide +kernel, by decide +kernel, by decide +kernel, by decide +kernel, by decide +kernel, rfl, by decide +kernel⟩,
    ⟨(0), (0),
      ({ on with coh := { lines := [(cacheKey 0 0, [⟨0, false, List.replicate 64 5, 0, 0⟩])], filter := [], blocked := [(0, ⟨.readShared 1, [], none, none, true, false⟩)] } }),
      _, _, by decide +kernel, by decide +kernel, by decide +kernel, by decide +kernel, by decide +kernel, rfl,
      by decide +kernel, rfl, by decide +kernel⟩,
    ⟨(0), (0),
      ({ on with coh := { lines := [(cacheKey 1 0, [⟨0, true, List.replicate 64 5, 0, 0⟩])], filter := [(filterKey 0, [⟨0, true, [1]⟩])], blocked := [] } }),
      _, _, by decide +kernel, by decide +kernel, by decide +kernel, by decide +kernel, by decide +kernel, rfl,
      by decide +kernel, by decide +kernel, rfl, by decide +kernel⟩,
    ⟨(0), (0),
      ({ on with coh := { lines := [(cacheKey 1 0, [⟨0, false, List.replicate 64 5, 0, 0⟩])], filter := [(filterKey 0, [⟨0, false, [1]⟩])], blocked := [] } }),
      _, (1), by decide +kernel, by decide +kernel, by decide +kernel, by decide +kernel, by decide +kernel, rfl,
      by decide +kernel⟩,
    ⟨(0), (0),
      ({ on with coh := { lines := [(cacheKey 0 0, [⟨0, false, List.replicate 64 5, 0, 0⟩])], filter := [(filterKey 0, [⟨0, false, [0]⟩])], blocked := [] } }),
      _, _, by decide +kernel, by decide +kernel, by decide +kernel, by decide +kernel, by decide +kernel, rfl,
      by decide +kernel, rfl, by decide +kernel⟩,
    ⟨(0), (0), ({ on with coh := { lines := [], filter := [(filterKey 0, [⟨0, false, [3]⟩])], blocked := [] } }), _, _, _,
      by decide +kernel, by decide +kernel, by decide +kernel, by decide +kernel, by decide +kernel, rfl, by decide +kernel,
      by decide +kernel, by decide +kernel, rfl, rfl⟩,
    ⟨(1), (0), (0), _, _,
      ({ on with coh := { lines := [(cacheKey 1 0, [⟨0, true, List.replicate 64 5, 0, 0⟩])], filter := [(filterKey 0, [⟨0, true, [1]⟩])], blocked := [(0, ⟨.readShared 0, [1], some 1, none, false, false⟩)] } }),
      by decide +kernel, by decide +kernel, rfl, by decide +kernel, rfl, by decide +kernel⟩,
    ⟨(1), (0), (0), _, _,
      ({ on with coh := { lines := [(cacheKey 1 0, [⟨0, true, List.replicate 64 5, 0, 0⟩])], filter := [(filterKey 0, [⟨0, true, [1]⟩])], blocked := [(0, ⟨.readOwn 0, [1], some 1, none, false, false⟩)] } }),
      by decide +kernel, by decide +kernel, rfl, by decide +kernel, rfl, by decide +kernel⟩,
    ⟨(1), (0), _,
      ({ on with coh := { lines := [(cacheKey 1 0, [⟨0, false, List.replicate 64 5, 0, 0⟩])], filter := [(filterKey 0, [⟨0, false, [1]⟩])], blocked := [(0, ⟨.readOwn 0, [1], none, none, false, false⟩)] } }),
      _, by decide +kernel, by decide +kernel, rfl, by decide +kernel, by decide +kernel, rfl, by decide +kernel⟩,
    ⟨(1), (0), _,
      ({ on with coh := { lines := [], filter := [(filterKey 0, [⟨0, false, [1]⟩])], blocked := [(0, ⟨.readOwn 0, [1], none, none, false, false⟩)] } }),
      by decide +kernel, by decide +kernel, rfl, by decide +kernel⟩,
    ⟨(1), (0), _,
      ({ on with coh := { lines := [], filter := [(filterKey 0, [⟨0, false, [1]⟩])], blocked := [(0, ⟨.readOwn 0, [1, 2], none, none, false, false⟩)] } }),
      (2), ([]), by decide +kernel, by decide +kernel, rfl, by decide +kernel⟩,
    ⟨(1), (0), _,
      ({ on with coh := { lines := [], filter := [(filterKey 0, [⟨0, false, [0, 1]⟩])], blocked := [(0, ⟨.upgrade 0, [1], none, none, false, false⟩)] } }),
      (0), by decide +kernel, by decide +kernel, rfl, by decide +kernel⟩,
    ⟨(1), (0), _,
      ({ on with coh := { lines := [], filter := [(filterKey 0, [⟨0, false, [1]⟩])], blocked := [(0, ⟨.readOwn 0, [1], none, some (List.replicate 64 5, 0), false, false⟩)] } }),
      (0), _, by decide +kernel, by decide +kernel, rfl, by decide +kernel, by decide +kernel, by decide +kernel,
      by decide +kernel, by decide +kernel, rfl⟩,
    ⟨(0), (0), (64), (0), (List.replicate 64 5), ([]), _,
      ({ on with coh := { lines := [], filter := [(filterKey 0, [⟨0, false, [1]⟩])], blocked := [(0, ⟨.readShared 0, [], none, some (List.replicate 64 5, 0), true, false⟩)] } }),
      by decide +kernel, by decide +kernel, by decide +kernel, rfl, by decide +kernel⟩,
    ⟨(0), (0), (63), (0), (List.replicate 64 5), ([1]), _,
      ({ on with coh := { lines := [], filter := [(filterKey 0, [⟨0, false, [1]⟩])], blocked := [(0, ⟨.readOwn 0, [], none, some (List.replicate 64 5, 0), true, false⟩)] } }),
      by decide +kernel, by decide +kernel, by decide +kernel, rfl, by decide +kernel⟩⟩

/-- The hypotheses of EvictionsAndHomeAccesses hold together. -/
theorem witness_EvictionsAndHomeAccesses :
    (∃ (k : Nat) (gl : Nat) (l : CLine) (s : State) (u : State), k < 32 ∧ gl < 2 ^ 33 ∧ homeServes s gl = true ∧ cacheFind s
      k gl = some l ∧ SMap.has s.coh.blocked gl = false ∧ s.coh.waiting = [] ∧ s.coh.wbBuf = [] ∧ l.gl = gl ∧ u = cacheDrop
      k gl s ∧ l.m = true ∧ ownerOfLine s gl = some k) ∧
    (∃ (k : Nat) (gl : Nat) (l : CLine) (s : State) (u : State), k < 32 ∧ gl < 2 ^ 33 ∧ homeServes s gl = true ∧ cacheFind s
      k gl = some l ∧ SMap.has s.coh.blocked gl = false ∧ s.coh.waiting = [] ∧ s.coh.wbBuf = [] ∧ l.gl = gl ∧ u = cacheDrop
      k gl s ∧ l.m = true ∧ ownerOfLine s gl ≠ some k) ∧
    (∃ (k : Nat) (gl : Nat) (l : CLine) (s : State) (u : State), k < 32 ∧ gl < 2 ^ 33 ∧ homeServes s gl = true ∧ cacheFind s
      k gl = some l ∧ SMap.has s.coh.blocked gl = false ∧ s.coh.waiting = [] ∧ s.coh.wbBuf = [] ∧ l.gl = gl ∧ u = cacheDrop
      k gl s ∧ l.m = false) ∧
    (∃ (gl : Nat) (off : Nat) (data : List Byte) (s : State), gl < 2 ^ 33 ∧ off + data.length ≤ 64 ∧ homeServes s gl = true
      ∧ s.coh.waiting = [] ∧ SMap.has s.coh.blocked gl = true) ∧
    (∃ (gl : Nat) (off : Nat) (data : List Byte) (s : State), gl < 2 ^ 33 ∧ off + data.length ≤ 64 ∧ homeServes s gl = true
      ∧ s.coh.waiting = [] ∧ SMap.has s.coh.blocked gl = false) :=
  ⟨⟨(0), (0), _,
      ({ on with coh := { lines := [(cacheKey 0 0, [⟨0, true, List.replicate 64 5, 0, 0⟩])], filter := [(filterKey 0, [⟨0, true, [0]⟩])], blocked := [] } }),
      _, by decide +kernel, by decide +kernel, by decide +kernel, rfl, by decide +kernel, by decide +kernel,
      by decide +kernel, by decide +kernel, rfl, by decide +kernel⟩,
    ⟨(0), (0), _,
      ({ on with coh := { lines := [(cacheKey 0 0, [⟨0, true, List.replicate 64 5, 0, 0⟩])], filter := [(filterKey 0, [⟨0, false, [0]⟩])], blocked := [] } }),
      _, by decide +kernel, by decide +kernel, by decide +kernel, rfl, by decide +kernel, by decide +kernel,
      by decide +kernel, by decide +kernel, rfl, by decide +kernel⟩,
    ⟨(0), (0), _,
      ({ on with coh := { lines := [(cacheKey 0 0, [⟨0, false, List.replicate 64 5, 0, 0⟩])], filter := [(filterKey 0, [⟨0, false, [0]⟩])], blocked := [] } }),
      _, by decide +kernel, by decide +kernel, by decide +kernel, rfl, by decide +kernel, by decide +kernel,
      by decide +kernel, by decide +kernel, rfl, by decide +kernel⟩,
    ⟨(0), (63), ([1]),
      ({ on with coh := { lines := [], filter := [], blocked := [(0, ⟨.readShared 1, [], none, none, true, false⟩)] } }),
      by decide +kernel⟩,
    ⟨(0), (60), ([1, 2, 3, 4]), (on), by decide +kernel⟩⟩

/-- The hypotheses of MirrorsAndWalks hold together. -/
theorem witness_MirrorsAndWalks :
    (∃ (ctx : Nat) (va : Nat) (c : Ctx) (s : State) (k : Nat) (write : Bool) (e : MEnt), SMap.look s.ctxs ctx = some c ∧ va
      < 2 ^ 48 ∧ k < 32 ∧ va < Config.poolBase ∧ clusFind s k ctx va = some e ∧ placeOf e va write ≠ .wait) ∧
    (∃ (ctx : Nat) (va : Nat) (c : Ctx) (s : State) (k : Nat), SMap.look s.ctxs ctx = some c ∧ va < 2 ^ 48 ∧ k < 32 ∧ va <
      Config.poolBase ∧ clusFind s k ctx va = none ∧ dieFind s ctx va = none ∧ s.xl.walks = []) ∧
    (∃ (ctx : Nat) (va : Nat) (c : Ctx) (s : State) (x : Walk) (fa : Nat) (size : Nat) (u : State), SMap.look s.ctxs ctx =
      some c ∧ va < 2 ^ 48 ∧ s.xl.walks = [x] ∧ x.ctx = ctx ∧ x.va = va ∧ x.ats = none ∧ x.restart = false ∧ walkTables
      (x.waiters.head?.bind (·.cls)) c va s = (.device fa size, u)) :=
  ⟨⟨(1), (65535), _, ({ on with xl := { on.xl with clus := [(0, [⟨1, 0, 16, false, 3, true, true⟩])] } }), (0), (false), _,
      rfl, by decide +kernel, by decide +kernel, by decide +kernel, rfl, by decide +kernel⟩,
    ⟨(1), (2 ^ 47), _, (on), (0), rfl, by decide +kernel⟩,
    ⟨(1), (0), (ctx0), (walkable), ({ ctx := 1, vpage := 0, va := 0, waiters := [] }), (0), (30), ((walkTables none ctx0 0
      walkable).2), by decide +kernel⟩⟩

/-- The hypotheses of HostTranslation hold together. -/
theorem witness_HostTranslation :
    (∃ (x : Walk) (c : Ctx) (entry : Nat) (size : Nat) (s : State) (u : State), s.xl.walks = [x] ∧ SMap.look s.ctxs x.ctx =
      some c ∧ x.ats = some entry ∧ x.restart = false ∧ x.waiters ≠ [] ∧ 12 ≤ Nat.min size entry ∧ u =
      { s with xl := { s.xl with walks := [] } }) ∧
    (∃ (fn : Nat) (tag : Nat) (s : State), fn < 64 ∧ tag < 32 ∧ s.xl.invals = []) ∧
    (∃ (v : Inval) (s : State), s.xl.invals = [v] ∧ s.xl.invWait = [] ∧ v.cmd = none) ∧
    (∃ (v : Inval) (k : Nat) (i : Nat) (c : Cmd) (s : State) (u : State), s.xl.invals = [v] ∧ s.xl.invWait = [] ∧ v.cmd =
      none ∧ v.recorded = [i] ∧ k < 32 ∧ cmdOf s i = some c ∧ i < 2 ^ 32 ∧ c.phase = .running ∧ v.whole = true ∧ u =
      meetStatus i stInvalidationAbort v.base (countXl k (fun n => { n with aborted := n.aborted + 1 }) s)) ∧
    (∃ (fn : Nat) (idx : Nat) (s : State), fn < 64 ∧ idx < 512 ∧ s.xl.tracker = []) ∧
    (∃ (p : PageReq) (ctx : Nat) (w : Waiter) (s : State) (u : State), p.fn < 64 ∧ p.index < 512 ∧ s.xl.tracker = [p] ∧
      s.xl.trackWait = [] ∧ p.waiters = [(ctx, w)] ∧ u = { s with xl := { s.xl with tracker := [] } }) ∧
    (∃ (p : PageReq) (s : State) (u : State), p.fn < 64 ∧ p.index < 512 ∧ s.xl.tracker = [p] ∧ s.xl.trackWait = [] ∧
      p.waiters = [] ∧ u = { s with xl := { s.xl with tracker := [] } }) :=
  ⟨⟨({ ctx := 1, vpage := 0, va := 7, waiters := [⟨0, 9, false, 0, none⟩], ats := some 16 }), _, _, (12),
      ({ on with xl := { on.xl with walks := [{ ctx := 1, vpage := 0, va := 7, waiters := [⟨0, 9, false, 0, none⟩], ats := some 16 }] } }),
      _, by decide +kernel, rfl, rfl, by decide +kernel, by decide +kernel, by decide +kernel, rfl⟩,
    ⟨(63), (31), (on), by decide +kernel⟩,
    ⟨(⟨3, none, 0, [1], true, 0, 65536, false, 4, []⟩),
      ({ on with xl := { on.xl with invals := [⟨3, none, 0, [1], true, 0, 65536, false, 4, []⟩] } }), by decide +kernel⟩,
    ⟨(⟨3, none, 0, [1], true, 0, 65536, true, 4, [9]⟩), (0), (9), _,
      ({ on with xl := { on.xl with invals := [⟨3, none, 0, [1], true, 0, 65536, true, 4, [9]⟩] }, cmds := [(9, { run1 with desc := dNop })] }),
      _, by decide +kernel, by decide +kernel, by decide +kernel, by decide +kernel, by decide +kernel, rfl,
      by decide +kernel, by decide +kernel, by decide +kernel, rfl⟩,
    ⟨(63), (511), (on), by decide +kernel⟩,
    ⟨(⟨511, 0, 5, 2, [(1, ⟨0, 9, false, 0, none⟩)]⟩), (1), (⟨0, 9, false, 0, none⟩),
      ({ on with xl := { on.xl with tracker := [⟨511, 0, 5, 2, [(1, ⟨0, 9, false, 0, none⟩)]⟩] } }), _, by decide +kernel,
      by decide +kernel, by decide +kernel, by decide +kernel, by decide +kernel, rfl⟩,
    ⟨(⟨511, 0, 5, 2, []⟩), ({ on with xl := { on.xl with tracker := [⟨511, 0, 5, 2, []⟩] } }), _, by decide +kernel,
      by decide +kernel, by decide +kernel, by decide +kernel, by decide +kernel, rfl⟩⟩

/-- The hypotheses of PassesAndPlanes hold together. -/
theorem witness_PassesAndPlanes :
    (∃ (c : Nat) (id : Nat) (i : Nat) (mask : Nat) (rep : Nat) (w : Nat) (input : Nat) (es : Nat) (ts : Nat) (s : State), c
      < 544 ∧ issues s c = some id ∧ opAt (coreOf s c) [0x01, mask, rep, w, input, es, ts] = some i ∧ partOf s c i ≤ rep ∧
      ((maskEngines mask).all fun e => engineFree s (c * 8 + e)) = true ∧ partOf s c i = rep) ∧
    (∃ (c : Nat) (id : Nat) (i : Nat) (mask : Nat) (rep : Nat) (w : Nat) (input : Nat) (es : Nat) (ts : Nat) (s : State), c
      < 544 ∧ issues s c = some id ∧ opAt (coreOf s c) [0x01, mask, rep, w, input, es, ts] = some i ∧ partOf s c i ≤ rep ∧
      ((maskEngines mask).all fun e => engineFree s (c * 8 + e)) = false) ∧
    (∃ (e : Nat) (s : State) (u : _), e < 4352 ∧ runsPasses s e = true ∧ u = countEngine e (fun y =>
      { y with droops := y.droops + 1 }) (updEngine e (fun x => { x with droopRow := x.droopRow + 1 }) s)) ∧
    (∃ (e : Nat) (s : State), e < 4352 ∧ runsPasses s e = false) ∧
    (∃ (e : Nat) (s : State), e < 4352 ∧ (engineOf s e).stopped = false ∧ 16 ≤ (engineOf s e).droopRow) ∧
    (∃ (e : Nat) (s : State), e < 4352 ∧ ((engineOf s e).stopped = true ∨ (engineOf s e).droopRow < 16)) ∧
    (∃ (e : Nat) (s : State), e < 4352 ∧ (engineOf s e).stopped = true) ∧
    (∃ (e : Nat) (s : State), e < 4352 ∧ (engineOf s e).stopped = false) ∧
    (∃ (c : Nat) (id : Nat) (i : Nat) (image : Nat) (stride : Nat) (n : Nat) (set : Nat) (f : Facet) (w : WSet) (s : State),
      c < 544 ∧ issues s c = some id ∧ opAt (coreOf s c) [0x02, 1, image, stride] = some i ∧ SMap.has (coreOf s c).part i =
      false ∧ n = (coreOf s c).facet ∧ facetOf s n = some f ∧ set = setOfWork s id n ∧ SMap.look f.sets set = some w ∧
      w.quarantined = true) ∧
    (∃ (c : Nat) (id : Nat) (i : Nat) (image : Nat) (stride : Nat) (n : Nat) (set : Nat) (f : Facet) (w : WSet) (s : State),
      c < 544 ∧ issues s c = some id ∧ opAt (coreOf s c) [0x02, 1, image, stride] = some i ∧ SMap.has (coreOf s c).part i =
      false ∧ n = (coreOf s c).facet ∧ facetOf s n = some f ∧ set = setOfWork s id n ∧ SMap.look f.sets set = some w ∧
      w.quarantined = false ∧ (engineOf s (c * 8)).active1 = false ∧ (engineOf s (c * 8)).rewrites = []) ∧
    (∃ (e : Nat) (f : Nat) (set : Nat) (i : Nat) (s : State), e < 4352 ∧ (engineOf s e).active1 = false ∧ (engineOf s
      e).plane1.loading = true ∧ (engineOf s e).plane1.src = .stream f set i ∧ streamFrame s f set i = none) ∧
    (∃ (e : Nat) (f : Nat) (set : Nat) (i : Nat) (s : State) (n : _) (r : _), e < 4352 ∧ (engineOf s e).active1 = false ∧
      (engineOf s e).plane1.loading = true ∧ (engineOf s e).plane1.src = .stream f set i ∧ streamFrame s f set i = some n ∧
      r = faRead (facetVia s f) f 1 (n * 65536) 65536 s) ∧
    (∃ (c : Nat) (id : Nat) (i : Nat) (s : State), c < 544 ∧ issues s c = some id ∧ opAt (coreOf s c) [0x03, 1] = some i ∧
      SMap.has (coreOf s c).part i = false ∧ swapBlocked (engineOf s (c * 8)) = false) ∧
    (∃ (c : Nat) (id : Nat) (i : Nat) (s : State), c < 544 ∧ issues s c = some id ∧ opAt (coreOf s c) [0x03, 1] = some i ∧
      SMap.has (coreOf s c).part i = false ∧ swapBlocked (engineOf s (c * 8)) = true) :=
  ⟨⟨(0), (9), _, (3), (0), (0), (0), (0), (0), (working ([1, 0, 3, 0] ++ z 12)), by decide +kernel, by decide +kernel, rfl,
      by decide +kernel⟩,
    ⟨(0), (9), _, (4), (0), (0), (0), (0), (0), (working ([1, 0, 4, 0] ++ z 12)), by decide +kernel, by decide +kernel, rfl,
      by decide +kernel⟩,
    ⟨(0), ({ withEngine eng with facets := [(0, { fac with confidential := true })] }), _, by decide +kernel,
      by decide +kernel, rfl⟩,
    ⟨(4351), (on), by decide +kernel⟩,
    ⟨(0), (withEngine { status := 1, droopRow := 16 }), by decide +kernel⟩,
    ⟨(0), (withEngine eng), by decide +kernel⟩,
    ⟨(0), (withEngine { status := 2, stopped := true, droopRow := 16 }), by decide +kernel⟩,
    ⟨(0), (withEngine eng), by decide +kernel⟩,
    ⟨(0), (9), _, (1), (1), _, _, _, _, (working ([2, 0, 1, 0] ++ f4 1 ++ f2 1 ++ z 6)
      ({ work with facets := [(0, { fac2 with running := some 9, sets := [(3, { ws3 with quarantined := true })] })] })),
      by decide +kernel, by decide +kernel, rfl, by decide +kernel, rfl, rfl, rfl, rfl, by decide +kernel⟩,
    ⟨(0), (9), _, (1), (1), _, _, _, _, (working ([2, 0, 1, 0] ++ f4 1 ++ f2 1 ++ z 6)), by decide +kernel,
      by decide +kernel, rfl, by decide +kernel, rfl, rfl, rfl, rfl, by decide +kernel⟩,
    ⟨(0), (0), (3), (1),
      ({ withEngine { status := 1, plane1 := { loading := true, src := .stream 0 3 1 } } with facets := [(0, { fac2 with sets := [(3, ws3)] })] }),
      by decide +kernel⟩,
    ⟨(0), (0), (3), (1),
      ({ withEngine { status := 1, plane1 := { loading := true, src := .stream 0 3 1 } } with facets := [(0, { fac2 with sets := [(3, { ws3 with streamFrames := [7, 8] })] })] }),
      _, _, by decide +kernel, by decide +kernel, by decide +kernel, by decide +kernel, rfl, rfl⟩,
    ⟨(0), (9), _, (working ([3, 0, 1] ++ z 13)), by decide +kernel, by decide +kernel, rfl, by decide +kernel⟩,
    ⟨(0), (9), _, (updEngine 0 (fun x => { x with scrubWait := some (true, 0) }) (working ([3, 0, 1] ++ z 13))),
      by decide +kernel, by decide +kernel, rfl, by decide +kernel⟩⟩

/-- The hypotheses of AccumulatorSaturates hold together. -/
theorem witness_AccumulatorSaturates :
    (∃ (write : Bool) (i : Nat) (x : Core), Mem.wf x.acc = true ∧ (write = true ∨ i ∉ x.accBad)) ∧
    (∃ (write : Bool) (i : Nat) (x : Core), Mem.wf x.acc = true ∧ write = false ∧ i ∈ x.accBad) ∧
    (∃ (i : Nat) (x : Core) (j : Nat), Mem.wf x.acc = true ∧ j ≠ i) :=
  ⟨⟨(true), (16383), (core0), by decide +kernel⟩,
    ⟨(false), (5), ({ core0 with accBad := [5] }), by decide +kernel⟩,
    ⟨(0), (core0), (16383), by decide +kernel⟩⟩

/-- The hypotheses of ConversionCodes hold together. -/
theorem witness_ConversionCodes :
    (∃ (r : Nat) (sum : Int) (err : Int), 16 * (fullScale r : Nat) < 16 * sum + err) ∧
    (∃ (r : Nat) (sum : Int) (err : Int), 16 * sum + err < -(16 * (fullScale r : Nat))) ∧
    (∃ (r : Nat) (sum : Int) (err : Int), -(16 * (fullScale r : Nat)) ≤ 16 * sum + err ∧ 16 * sum + err ≤ 16 * (fullScale r
      : Nat)) :=
  ⟨⟨(3), (fullScale 3 + 1), (0), by decide +kernel⟩,
    ⟨(3), (-(fullScale 3 + 1 : Int)), (0), by decide +kernel⟩,
    ⟨(3), (fullScale 3), (0), by decide +kernel⟩⟩

/-- The hypotheses of SealedLoadsAndScrub hold together. -/
theorem witness_SealedLoadsAndScrub :
    (∃ (k : Nat) (e : Nat) (p : Nat) (set : Nat) (chunk : Nat) (b : Nat) (f : Nat) (w : WSet) (s : State) (u : State), k <
      32 ∧ e < 4352 ∧ p < 2 ∧ b < 4 ∧ f < 64 ∧ clusterOfEngine e = k ∧ (clusterOf s k).job = none ∧ (coreOf s (coreOfEngine
      e)).powered = true ∧ b ∉ (coreOf s (coreOfEngine e)).buffers ∧ (engineOf s e).status ≠ 3 ∧ (engineOf s e).status ≠ 4 ∧
      setOf s f set = some w ∧ w.ready = true ∧ w.quarantined = false ∧ chunk < w.hdr.chunkCount ∧ loadDue s e (p == 1) f
      set chunk = true ∧ rebuildDue s e (p == 1) f set chunk = none ∧ scrubTurn s k = false ∧ turnFacet s k = some f ∧ u =
      updCore (coreOfEngine e) (fun y => { y with buffers := NSet.add y.buffers b }) (updCluster k (fun y =>
      { y with job := some { engine := e, plane1 := p == 1, facet := f, set := set, chunk := chunk, buffer := b, scrub := false, rebuild := none, second := w.badFirst.contains chunk }, sinceScrub := Nat.min 4 (y.sinceScrub + 1), lastFacet := f })
      s)) ∧
    (∃ (k : Nat) (j : ChunkJob) (w : WSet) (r : Option (List Byte) × State) (s : State), k < 32 ∧ (clusterOf s k).job = some
      j ∧ setOf s j.facet j.set = some w ∧ r = readChunk j.facet w j.second j.chunk s) ∧
    (∃ (j : ChunkJob) (w : WSet) (t : State), setOf t j.facet j.set = some w ∧ w.replicated = true ∧ j.second = false ∧
      j.chunk ∉ w.badSecond) ∧
    (∃ (j : ChunkJob) (w : WSet) (t : State), setOf t j.facet j.set = some w ∧ (w.replicated = false ∨ j.second = true)) ∧
    (∃ (e : Nat) (row : Nat) (s : State), e < 4352 ∧ row < 256 ∧ (engineOf s e).plane0.loading = false ∧ (coreOf s
      (coreOfEngine e)).powered = true ∧ (engineOf s e).status ≠ 3 ∧ rowParityBad (engineOf s e).plane0 row = false ∧
      rowRefBad (engineOf s e).plane0 row = false) ∧
    (∃ (e : Nat) (row : Nat) (s : State), e < 4352 ∧ row < 256 ∧ (engineOf s e).plane0.loading = false ∧ (coreOf s
      (coreOfEngine e)).powered = true ∧ (engineOf s e).status = 1 ∧ (engineOf s e).active1 = false ∧ (engineOf s
      e).plane0.src = .empty ∧ (engineOf s e).plane0.users = [] ∧ (engineOf s e).rewrites = [] ∧ confEngine s e = false ∧
      rowParityBad (engineOf s e).plane0 row = true) ∧
    (∃ (e : Nat) (s : State), e < 4352 ∧ (engineOf s e).status = 1) ∧
    (∃ (e : Nat) (r : Rewrite) (s : State), e < 4352 ∧ nextRewrite s e = some r ∧ r.act = false) ∧
    (∃ (e : Nat) (r : Rewrite) (s : State), e < 4352 ∧ nextRewrite s e = some r ∧ r.act = true ∧ r.told = false) ∧
    (∃ (e : Nat) (r : Rewrite) (s : State), e < 4352 ∧ nextRewrite s e = some r ∧ r.act = false) :=
  ⟨⟨(0), (0), (1), (3), (1), (3), (0), _, (loading), _, by decide +kernel, by decide +kernel, by decide +kernel,
      by decide +kernel, by decide +kernel, by decide +kernel, by decide +kernel, by decide +kernel, by decide +kernel,
      by decide +kernel, by decide +kernel, rfl, by decide +kernel, by decide +kernel, by decide +kernel, by decide +kernel,
      by decide +kernel, by decide +kernel, by decide +kernel, rfl⟩,
    ⟨(0), _, _, _, (jobbed ws3), by decide +kernel, rfl, rfl, rfl⟩,
    ⟨({ engine := 0, plane1 := true, facet := 0, set := 3, chunk := 1, buffer := 2, scrub := false }), _, (jobbed
      { ws3 with replicated := true, replicaFrames := [3, 4, 5] }), rfl, by decide +kernel⟩,
    ⟨({ engine := 0, plane1 := true, facet := 0, set := 3, chunk := 1, buffer := 2, scrub := false }), _, (jobbed ws3), rfl,
      by decide +kernel⟩,
    ⟨(0), (255), (withEngine eng), by decide +kernel⟩,
    ⟨(0), (255), (withEngine { status := 1, plane0 := { parity := [(255, 1)] } }), by decide +kernel⟩,
    ⟨(0), (withEngine eng), by decide +kernel⟩,
    ⟨(0), ({ one := false, row := 255, last := (0, 0), act := false, refOnly := true }), (withEngine
      { status := 1, rewrites := [{ one := false, row := 255, last := (0, 0), act := false, refOnly := true }] }),
      by decide +kernel⟩,
    ⟨(0), ({ one := false, row := 255, last := (0, 0), act := true, refOnly := true }), (withEngine
      { status := 1, rewrites := [{ one := false, row := 255, last := (0, 0), act := true, refOnly := true }] }),
      by decide +kernel⟩,
    ⟨(0), ({ one := false, row := 255, last := (0, 0), act := false, refOnly := true }), (withEngine
      { status := 1, rewrites := [{ one := false, row := 255, last := (0, 0), act := false, refOnly := true }] }),
      by decide +kernel⟩⟩

/-- The hypotheses of Calibration hold together. -/
theorem witness_Calibration :
    (∃ (e : Nat) (s : State), e < 4352 ∧ (engineOf s e).status = 1 ∧ (engineOf s e).calCall = 0) ∧
    (∃ (e : Nat) (s : State), e < 4352 ∧ calWindow s e = true ∧ shadowFree (engineOf s e) = true ∧ (engineOf s e).active1 =
      false ∧ (engineOf s e).cal = none ∧ (engineOf s e).calCall = 1) ∧
    (∃ (e : Nat) (k : CalRun) (errors : CalErrors) (x : Engine) (y : Engine) (bad : NSet) (s : State), e < 4352 ∧ x =
      engineOf s e ∧ x.cal = some k ∧ k.paused = false ∧ bad = failingColumns x.repairs (calTable 1 errors) ∧ bad = [] ∧ y =
      restoreShadow k.prev (installCal (calTable 1 errors) k (coreNow s (coreOfEngine e)) x)) ∧
    (∃ (e : Nat) (k : CalRun) (errors : CalErrors) (x : Engine) (bad : NSet) (s : State), e < 4352 ∧ x = engineOf s e ∧
      x.cal = some k ∧ k.paused = false ∧ bad = failingColumns x.repairs (calTable 1 errors) ∧ bad ≠ [] ∧ repairable
      x.repairs bad = true) ∧
    (∃ (e : Nat) (k : CalRun) (errors : CalErrors) (x : Engine) (bad : NSet) (s : State), e < 4352 ∧ x = engineOf s e ∧
      x.cal = some k ∧ k.paused = false ∧ bad = failingColumns x.repairs (calTable 1 errors) ∧ bad ≠ [] ∧ repairable
      x.repairs bad = false) ∧
    (∃ (e : Nat) (k : CalRun) (s : State), e < 4352 ∧ (engineOf s e).cal = some k ∧ k.cause ≠ 0 ∧ k.paused = false) ∧
    (∃ (e : Nat) (s : State), e < 4352 ∧ (engineOf s e).status = 1) ∧
    (∃ (half : Nat) (s : State), half < 2 ∧ railOn s (half == 1) = true ∧ s.pwr.mcRunning = true ∧ calStage s (half == 1) =
      0) ∧
    (∃ (half : Nat) (s : State), half < 2 ∧ calStage s (half == 1) = 1) ∧
    (∃ (half : Nat) (s : State), half < 2 ∧ calStage s (half == 1) = 2) ∧
    (∃ (e : Nat) (errors : SMap (List CalErrors)) (t : SMap ColumnCal) (s : State), (engineOf s e).status = 0 ∧ t = calTable
      64 ((SMap.getD errors e []).headD []) ∧ failingColumns (engineOf s e).repairs t = []) ∧
    (∃ (c : Nat) (s : State), c < 544 ∧ (coreOf s c).powered = true ∧ s.pwr.stage = 5 ∧ s.facets = []) :=
  ⟨⟨(0), (withEngine eng), by decide +kernel⟩,
    ⟨(0), (withEngine { status := 1, calCall := 1 }), by decide +kernel⟩,
    ⟨(0), (({ cause := 1, began := 0, temp := 450, prev := .empty } : CalRun)), ([]), _, _, _, (withEngine
      { status := 1, calCall := 1, cal := some { cause := 1, began := 0, temp := 450, prev := .empty } }),
      by decide +kernel, rfl, by decide +kernel, by decide +kernel, rfl, by decide +kernel, rfl⟩,
    ⟨(0), (({ cause := 1, began := 0, temp := 450, prev := .empty } : CalRun)), ([(2047, List.replicate 768 100000)]), _, _,
      (withEngine { status := 1, calCall := 1, cal := some { cause := 1, began := 0, temp := 450, prev := .empty } }),
      by decide +kernel, rfl, by decide +kernel, by decide +kernel, rfl, by decide +kernel⟩,
    ⟨(0), (({ cause := 1, began := 0, temp := 450, prev := .empty } : CalRun)), ([(2064, List.replicate 768 100000)]), _, _,
      (withEngine { status := 1, calCall := 1, cal := some { cause := 1, began := 0, temp := 450, prev := .empty } }),
      by decide +kernel, rfl, by decide +kernel, by decide +kernel, rfl, by decide +kernel⟩,
    ⟨(0), (({ cause := 1, began := 0, temp := 450, prev := .empty } : CalRun)), (withEngine
      { status := 1, calCall := 1, cal := some { cause := 1, began := 0, temp := 450, prev := .empty } }),
      by decide +kernel⟩,
    ⟨(0), (withEngine eng), by decide +kernel⟩,
    ⟨(1), ({ up with pwr := { up.pwr with eastCal := 0 } }), by decide +kernel⟩,
    ⟨(1), ({ up with pwr := { up.pwr with eastCal := 1 } }), by decide +kernel⟩,
    ⟨(1), ({ up with pwr := { up.pwr with eastCal := 2 } }), by decide +kernel⟩,
    ⟨(0), (default), _, (up), by decide +kernel, rfl, by decide +kernel⟩,
    ⟨(543), ({ up with cores := [(543, { core0 with status := 1 })] }), by decide +kernel⟩⟩

/-- The hypotheses of VectorArithmetic hold together. -/
theorem witness_VectorArithmetic :
    (∃ (c : Nat) (id : Nat) (i : Nat) (fmt : Nat) (vd : Nat) (va : Nat) (vb : Nat) (count : Nat) (scalar : Bool) (s : State)
      (u : State), 0 < count ∧ u = chargeVec id c (elemHandshakes fmt count) s ∧ AtOp c id i [0x10, 3, fmt, vd, va, vb,
      count, b2n scalar] s) ∧
    (∃ (c : Nat) (id : Nat) (i : Nat) (fmt : Nat) (vd : Nat) (va : Nat) (vb : Nat) (count : Nat) (scalar : Bool) (s : State)
      (u : State), 0 < count ∧ u = chargeVec id c (elemHandshakes fmt count) s ∧ AtOp c id i [0x10, 4, fmt, vd, va, vb,
      count, b2n scalar] s) ∧
    (∃ (c : Nat) (id : Nat) (i : Nat) (fmt : Nat) (vd : Nat) (va : Nat) (vb : Nat) (count : Nat) (scalar : Bool) (s : State)
      (u : State), 0 < count ∧ u = chargeVec id c (elemHandshakes fmt count) s ∧ AtOp c id i [0x10, 6, fmt, vd, va, vb,
      count, b2n scalar] s) ∧
    (∃ (c : Nat) (id : Nat) (i : Nat) (fmt : Nat) (vd : Nat) (va : Nat) (vb : Nat) (count : Nat) (scalar : Bool) (s : State)
      (u : State), 0 < count ∧ u = chargeVec id c (elemHandshakes fmt count) s ∧ AtOp c id i [0x10, 3, fmt, vd, va, vb, 0,
      b2n scalar] s) ∧
    (∃ (c : Nat) (id : Nat) (i : Nat) (fmt : Nat) (vd : Nat) (va : Nat) (vb : Nat) (vc : Nat) (count : Nat) (scalar : Bool)
      (s : State) (u : State), 0 < count ∧ u = chargeVec id c (elemHandshakes fmt count) s ∧ AtOp c id i [0x10, 5, fmt, vd,
      va, vb, vc, count, b2n scalar] s) ∧
    (∃ (c : Nat) (id : Nat) (i : Nat) (fmt : Nat) (vd : Nat) (va : Nat) (vb : Nat) (vc : Nat) (count : Nat) (s : State) (u :
      State), 0 < count ∧ u = chargeVec id c (elemHandshakes fmt count) s ∧ AtOp c id i [0x10, 0x0C, fmt, vd, va, vb, vc,
      count] s) ∧
    (∃ (c : Nat) (id : Nat) (i : Nat) (fmt : Nat) (vd : Nat) (va : Nat) (count : Nat) (s : State), 0 < count ∧ AtOp c id i
      [0x10, 7, fmt, vd, va, count] s) ∧
    (∃ (c : Nat) (id : Nat) (i : Nat) (fmt : Nat) (vd : Nat) (va : Nat) (count : Nat) (s : State), 0 < count ∧ AtOp c id i
      [0x10, 8, fmt, vd, va, count] s) ∧
    (∃ (c : Nat) (id : Nat) (i : Nat) (fmt : Nat) (vd : Nat) (va : Nat) (count : Nat) (kind : Nat) (s : State), 0 < count ∧
      AtOp c id i [0x10, 9, fmt, vd, va, count, kind] s) ∧
    (∃ (c : Nat) (id : Nat) (i : Nat) (fmt : Nat) (vd : Nat) (va : Nat) (vb : Nat) (count : Nat) (s : State) (target : Nat),
      0 < count ∧ AtOp c id i [0x10, 0x0A, fmt, vd, va, vb, count, target] s) ∧
    (∃ (c : Nat) (id : Nat) (i : Nat) (vd : Nat) (va : Nat) (vb : Nat) (addr : Nat) (count : Nat) (s : State), 0 < count ∧
      AtOp c id i [0x10, 0x0B, vd, va, vb, addr, count] s ∧ (coreOf s c).accBad = []) :=
  ⟨⟨(0), (9), (0), (0), (31), (0), (1), (1), (false), (working ([0x10, 0, 3, 0, 31, 0, 1, 2] ++ f4 (0) ++ f2 1 ++ f2 0) ),
      _, by decide +kernel, rfl, by decide +kernel⟩,
    ⟨(0), (9), (0), (0), (31), (0), (1), (1), (false), (working ([0x10, 0, 4, 0, 31, 0, 1, 2] ++ f4 (0) ++ f2 1 ++ f2 0) ),
      _, by decide +kernel, rfl, by decide +kernel⟩,
    ⟨(0), (9), (0), (0), (31), (0), (1), (1), (false), (working ([0x10, 0, 6, 0, 31, 0, 1, 2] ++ f4 (0) ++ f2 1 ++ f2 0) ),
      _, by decide +kernel, rfl, by decide +kernel⟩,
    ⟨(0), (9), (0), (0), (31), (0), (1), (1), (false), (working ([0x10, 0, 3, 0, 31, 0, 1, 2] ++ f4 (0) ++ f2 0 ++ f2 0) ),
      _, by decide +kernel, rfl, by decide +kernel⟩,
    ⟨(0), (9), (0), (0), (31), (0), (1), (2), (1), (false), (working ([0x10, 0, 5, 0, 31, 0, 1, 2] ++ f4 (0) ++ f2 1 ++ f2
      0) ), _, by decide +kernel, rfl, by decide +kernel⟩,
    ⟨(0), (9), (0), (0), (31), (0), (1), (2), (1), (working ([0x10, 0, 12, 0, 31, 0, 1, 2] ++ f4 (0) ++ f2 1 ++ f2 0) ), _,
      by decide +kernel, rfl, by decide +kernel⟩,
    ⟨(0), (9), (0), (0), (31), (0), (1), (working ([0x10, 0, 7, 0, 31, 0, 1, 2] ++ f4 (0) ++ f2 1 ++ f2 0) ),
      by decide +kernel⟩,
    ⟨(0), (9), (0), (0), (31), (0), (1), (working ([0x10, 0, 8, 0, 31, 0, 1, 2] ++ f4 (0) ++ f2 1 ++ f2 0) ),
      by decide +kernel⟩,
    ⟨(0), (9), (0), (0), (31), (0), (1), (2), (working ([0x10, 0, 9, 0, 31, 0, 1, 2] ++ f4 (0) ++ f2 1 ++ f2 4) ),
      by decide +kernel⟩,
    ⟨(0), (9), (0), (0), (31), (0), (1), (1), (working ([0x10, 0, 10, 0, 31, 0, 1, 2] ++ f4 (0) ++ f2 1 ++ f2 0x30) ), (3),
      by decide +kernel⟩,
    ⟨(0), (9), (0), (31), (0), (1), (2 ^ 21), (1), (working ([0x10, 0, 11, 0, 31, 0, 1, 2] ++ f4 (2 ^ 21) ++ f2 1 ++ f2 0)
      ), by decide +kernel⟩⟩

/-- The hypotheses of VectorMemory hold together. -/
theorem witness_VectorMemory :
    (∃ (c : Nat) (id : Nat) (i : Nat) (vd : Nat) (addr : Nat) (count : Nat) (s : State), 0 < count ∧ (coreOf s c).scratchBad
      = [] ∧ (coreOf s c).accBad = [] ∧ AtOp c id i [0x10, 1, vd, addr, count] s ∧ addr < 2 ^ 21) ∧
    (∃ (c : Nat) (id : Nat) (i : Nat) (vd : Nat) (addr : Nat) (count : Nat) (s : State), 0 < count ∧ (coreOf s c).scratchBad
      = [] ∧ (coreOf s c).accBad = [] ∧ AtOp c id i [0x10, 1, vd, addr, count] s ∧ 2 ^ 21 ≤ addr) ∧
    (∃ (c : Nat) (id : Nat) (i : Nat) (va : Nat) (addr : Nat) (count : Nat) (s : State), 0 < count ∧ (coreOf s c).scratchBad
      = [] ∧ (coreOf s c).accBad = [] ∧ AtOp c id i [0x10, 2, va, addr, count] s) ∧
    (∃ (c : Nat) (id : Nat) (i : Nat) (vd : Nat) (va : Nat) (vb : Nat) (addr : Nat) (count : Nat) (hd : Nat) (heads : Nat)
      (k4 : Bool) (s : State) (p : _) (u : _), 0 < count ∧ (coreOf s c).scratchBad = [] ∧ (coreOf s c).accBad = [] ∧ AtOp c
      id i [0x10, 0x10, vd, va, vb, addr, count, b2n k4, hd, heads] s ∧ u = chargeVec id c (attnHandshakes k4 (headDim hd)
      heads) (countTile c addr k4 (headDim hd) false s) ∧ tilePart (coreOf u c) addr k4 (headDim hd) false = some p) ∧
    (∃ (c : Nat) (id : Nat) (i : Nat) (vd : Nat) (va : Nat) (addr : Nat) (count : Nat) (hd : Nat) (heads : Nat) (k4 : Bool)
      (s : State) (p : _) (u : _), 0 < count ∧ (coreOf s c).scratchBad = [] ∧ (coreOf s c).accBad = [] ∧ AtOp c id i [0x10,
      0x11, vd, va, addr, count, b2n k4, hd, heads] s ∧ u = chargeVec id c (attnHandshakes k4 (headDim hd) heads) (countTile
      c addr k4 (headDim hd) true s) ∧ tilePart (coreOf u c) addr k4 (headDim hd) true = some p) ∧
    (∃ (c : Nat) (id : Nat) (i : Nat) (vd : Nat) (va : Nat) (vc : Nat) (count : Nat) (k : Nat) (lists : Bool) (s : State), 0
      < count ∧ (coreOf s c).scratchBad = [] ∧ (coreOf s c).accBad = [] ∧ AtOp c id i [0x10, 0x18, vd, va, vc, count, k, b2n
      lists] s) ∧
    (∃ (c : Nat) (id : Nat) (i : Nat) (vd : Nat) (va : Nat) (addr : Nat) (count : Nat) (s : State) (d : _) (cs : _) (r : _),
      0 < count ∧ (coreOf s c).scratchBad = [] ∧ (coreOf s c).accBad = [] ∧ AtOp c id i [0x10, 0x19, vd, va, addr, count] s
      ∧ d = Mem.readN (coreOf s c).scratch addr 32 ∧ ofLe ((d.drop 24).take 4) ≤ 65535 ∧ ofLe ((d.drop 10).take 2) = 0 ∧
      ofLe ((d.drop 28).take 4) = 0 ∧ cs = listCands (regRead (coreOf s c) va 8) ∧ r = sample cs (fpDecode Fmt.fp32 (ofLe
      ((d.drop 0).take 4))) (fpDecode Fmt.fp32 (ofLe ((d.drop 4).take 4))) (ofLe ((d.drop 8).take 2)) (ofLe ((d.drop
      16).take 8)) (ofLe ((d.drop 12).take 4)) (ofLe ((d.drop 24).take 4))) ∧
    (∃ (c : Nat) (id : Nat) (i : Nat) (vd : Nat) (va : Nat) (addr : Nat) (count : Nat) (s : State) (d : _), 0 < count ∧
      (coreOf s c).scratchBad = [] ∧ (coreOf s c).accBad = [] ∧ AtOp c id i [0x10, 0x19, vd, va, addr, count] s ∧ d =
      Mem.readN (coreOf s c).scratch addr 32 ∧ 65535 < ofLe ((d.drop 24).take 4)) :=
  ⟨⟨(0), (9), (0), (31), (Config.dataRegion - 1024), (1), (working ([0x10, 0, 1, 0, 31, 0, 1, 2] ++ f4 (Config.dataRegion -
      1024) ++ f2 1 ++ f2 0) ), by decide +kernel⟩,
    ⟨(0), (9), (0), (31), (2 ^ 21 + 64512), (1), (working ([0x10, 0, 1, 0, 31, 0, 1, 2] ++ f4 (2 ^ 21 + 64512) ++ f2 1 ++ f2
      0) ), by decide +kernel⟩,
    ⟨(0), (9), (0), (0), (Config.dataRegion - 1024), (1), (working ([0x10, 0, 2, 0, 31, 0, 1, 2] ++ f4 (Config.dataRegion -
      1024) ++ f2 1 ++ f2 0) ), by decide +kernel⟩,
    ⟨(0), (9), (0), (31), (0), (1), (0), (1), (0), (1), (true), (working ([0x10, 0, 16, 0, 31, 0, 1, 2] ++ f4 (0) ++ f2 1 ++
      f2 16) ), _, _, by decide +kernel, by decide +kernel, by decide +kernel, by decide +kernel, rfl, rfl⟩,
    ⟨(0), (9), (0), (31), (0), (0), (1), (0), (1), (false), (working ([0x10, 0, 17, 0, 31, 0, 1, 2] ++ f4 (0) ++ f2 1 ++ f2
      0) ), _, _, by decide +kernel, by decide +kernel, by decide +kernel, by decide +kernel, rfl, rfl⟩,
    ⟨(0), (9), (0), (24), (0), (2), (1), (1024), (false), (working ([0x10, 0, 24, 0, 24, 0, 1, 2] ++ f4 (0) ++ f2 1 ++ f2 0)
      ), by decide +kernel⟩,
    ⟨(0), (9), (0), (31), (0), (0), (1), (working ([0x10, 0, 25, 0, 31, 0, 1, 2] ++ f4 (0) ++ f2 1 ++ f2 0) ), _, _, _,
      by decide +kernel, by decide +kernel, by decide +kernel, by decide +kernel, rfl, by decide +kernel, by decide +kernel,
      by decide +kernel, rfl, rfl⟩,
    ⟨(0), (9), (0), (31), (0), (0), (1), (working ([0x10, 0, 25, 0, 31, 0, 1, 2] ++ f4 (0) ++ f2 1 ++ f2 0) (updCore 0 (fun
      x => { x with scratch := [(26, 1)] }) work)), _, by decide +kernel, by decide +kernel, by decide +kernel,
      by decide +kernel, rfl, by decide +kernel⟩⟩

/-- The hypotheses of RoundingSaturates hold together. -/
theorem witness_RoundingSaturates :
    ∃ (f : Fmt) (x : Sys2Proof.Num), f ∈ [Fmt.bf16, Fmt.e4m3Fmt, Fmt.e5m2, Fmt.fp32, Fmt.fp16] ∧ x ≠ .nan :=
  ⟨(Fmt.e4m3Fmt), (.fin false 1000 0), by decide +kernel⟩

/-- The hypotheses of CoreOperations hold together. -/
theorem witness_CoreOperations :
    (∃ (c : Nat) (id : Nat) (i : Nat) (hint : Nat) (base : Nat) (va : Nat) (a : Nat) (length : Nat) (loc : Nat) (host : List
      Byte) (s : State) (d : _) (rest : _) (u : _), 0 < length ∧ (coreOf s c).scratchBad = [] ∧ SMap.has (coreOf s c).part i
      = false ∧ a = va + argPointer s c id base ∧ a % 64 + length ≤ 64 ∧ AtOp c id i [0x20, hint, 0, base, va, 0, loc,
      length] s ∧ moverRead (coreMover s c id) 0 hint a length (takePad length host) s = (.inl (d, rest), u)) ∧
    (∃ (c : Nat) (id : Nat) (i : Nat) (hint : Nat) (base : Nat) (va : Nat) (a : Nat) (length : Nat) (loc : Nat) (host : List
      Byte) (s : State) (u : State), 0 < length ∧ (coreOf s c).scratchBad = [] ∧ SMap.has (coreOf s c).part i = false ∧ a =
      va + argPointer s c id base ∧ a % 64 + length ≤ 64 ∧ AtOp c id i [0x20, hint, 0, base, va, 0, loc, length] s ∧
      moverRead (coreMover s c id) 0 hint a length (takePad length host) s = (.inr .wait, u)) ∧
    (∃ (c : Nat) (id : Nat) (i : Nat) (hint : Nat) (base : Nat) (va : Nat) (a : Nat) (length : Nat) (loc : Nat) (s : State)
      (u : _), 0 < length ∧ (coreOf s c).scratchBad = [] ∧ SMap.has (coreOf s c).part i = false ∧ a = va + argPointer s c id
      base ∧ a % 64 + length ≤ 64 ∧ AtOp c id i [0x21, hint, 0, base, va, 0, loc, length] s ∧ moverWrite (coreMover s c id)
      0 hint a (Mem.readN (coreOf s c).scratch loc length) s = (none, u)) ∧
    (∃ (c : Nat) (id : Nat) (i : Nat) (q : Nat) (n : Nat) (s : State) (dest : Nat) (d : _) (src : Nat), 0 < n ∧ (coreOf s
      c).scratchBad = [] ∧ SMap.has (coreOf s c).part i = false ∧ AtOp c id i [0x30, dest, q, n, src] s ∧ sendTarget s c id
      dest q = some d ∧ src < 2 ^ 21 ∧ routeParked s (clusterOfCore c) (clusterOfCore d) = true) ∧
    (∃ (c : Nat) (id : Nat) (i : Nat) (q : Nat) (n : Nat) (s : State) (dest : Nat) (d : _) (src : Nat) (k : _) (u : _) (v :
      _), 0 < n ∧ (coreOf s c).scratchBad = [] ∧ SMap.has (coreOf s c).part i = false ∧ AtOp c id i [0x30, dest, q, n, src]
      s ∧ sendTarget s c id dest q = some d ∧ src < 2 ^ 21 ∧ routeParked s (clusterOfCore c) (clusterOfCore d) = false ∧ k =
      Nat.min n (queueRoom s d q) ∧ u = setPart c i k (opStarted c i (countRotate c src (128 * n) s)) ∧ v = enqueue d q
      (flitsOf n 0 k (Mem.readN (coreOf s c).scratch src (128 * k)) (fun _ => false)) u) ∧
    (∃ (c : Nat) (id : Nat) (i : Nat) (q : Nat) (n : Nat) (s : State) (dst : Nat) (f : _) (rest : _), 0 < n ∧ (coreOf s
      c).scratchBad = [] ∧ SMap.has (coreOf s c).part i = false ∧ AtOp c id i [0x31, q, n, dst] s ∧ SMap.getD (coreOf s
      c).inq q [] = f :: rest ∧ f.len = n ∧ n ≤ (f :: rest).length ∧ (((f :: rest).take n).any fun (y : QFlit) => y.bad) =
      false) ∧
    (∃ (c : Nat) (id : Nat) (i : Nat) (q : Nat) (n : Nat) (s : State) (dst : Nat), 0 < n ∧ (coreOf s c).scratchBad = [] ∧
      SMap.has (coreOf s c).part i = false ∧ AtOp c id i [0x31, q, n, dst] s ∧ SMap.getD (coreOf s c).inq q [] = []) ∧
    (∃ (c : Nat) (id : Nat) (i : Nat) (n : Nat) (s : State) (p : Nat) (k : _) (tree : _) (src : Nat) (u : _), 0 < n ∧
      (coreOf s c).scratchBad = [] ∧ SMap.has (coreOf s c).part i = false ∧ AtOp c id i [0x32, p, n, src] s ∧ workTree s id
      (coreOf s c).facet p = some (k, tree) ∧ src < 2 ^ 21 ∧ ((prismLeaves s k c).all fun d => decide (n ≤ queueRoom s d
      tree.queue)) = true ∧ u = setPart c i n (opStarted c i (countRotate c src (128 * n) s))) ∧
    (∃ (c : Nat) (id : Nat) (i : Nat) (s : State) (number : Nat) (scope : _) (p : Nat) (f : _) (u : _) (m : _), AtOp c id i
      [0x40, number, b2n scope, p] s ∧ f = (coreOf s c).facet ∧ u = updCore c (fun x =>
      { x with atBarrier := some (number, scope, p) }) s ∧ m = membersArrived f scope u ∧ p ≤ (arrivedAt m.2 f id number
      scope).length + m.1) ∧
    (∃ (c : Nat) (id : Nat) (i : Nat) (s : State) (number : Nat) (scope : _) (p : Nat) (f : _) (u : _) (m : _), AtOp c id i
      [0x40, number, b2n scope, p] s ∧ f = (coreOf s c).facet ∧ u = updCore c (fun x =>
      { x with atBarrier := some (number, scope, p) }) s ∧ m = membersArrived f scope u ∧ (arrivedAt m.2 f id number
      scope).length + m.1 < p) ∧
    (∃ (c : Nat) (id : Nat) (i : Nat) (s : State) (e : Nat) (n : Nat), AtOp c id i [0x41, e, n] s ∧ n ≤ SMap.getD (coreOf s
      c).events e 0) ∧
    (∃ (c : Nat) (id : Nat) (i : Nat) (s : State) (e : Nat) (n : Nat), AtOp c id i [0x41, e, n] s ∧ SMap.getD (coreOf s
      c).events e 0 < n) ∧
    (∃ (c : Nat) (id : Nat) (i : Nat) (s : State) (u : _), AtOp c id i [0x7F] s ∧ u = updCore c (fun x =>
      { x with ended := true, inq := [] }) s ∧ ((coreOf s c).inq.any fun e => !e.2.isEmpty) = false) ∧
    (∃ (c : Nat) (id : Nat) (i : Nat) (s : State) (u : _), AtOp c id i [0x7F] s ∧ u = updCore c (fun x =>
      { x with ended := true, inq := [] }) s ∧ ((coreOf s c).inq.any fun e => !e.2.isEmpty) = true) :=
  ⟨⟨(0), (9), (0), (0), (0), (0), _, (64), (Config.dataRegion - 64), ([]), (working ([0x20, 0, 0, 0] ++ toLe 6 0 ++ toLe 3
      (Config.dataRegion - 64) ++ toLe 3 64) mapped), _, _, _, by decide +kernel, by decide +kernel, by decide +kernel, rfl,
      by decide +kernel, by decide +kernel, read2_spec _ (by decide +kernel)⟩,
    ⟨(0), (9), (0), (0), (0), (0), _, (64), (Config.dataRegion - 64), ([]), (working ([0x20, 0, 0, 0] ++ toLe 6 0 ++ toLe 3
      (Config.dataRegion - 64) ++ toLe 3 64)
      ({ work with xl := { work.xl with clus := [(0, [⟨1, 0, 16, true, 0, false, true⟩])] } })), _, by decide +kernel,
      by decide +kernel, by decide +kernel, rfl, by decide +kernel, by decide +kernel, Prod.ext (by decide +kernel) rfl⟩,
    ⟨(0), (9), (0), (0), (0), (0), _, (64), (Config.dataRegion - 64), (working ([0x21, 0, 0, 0] ++ toLe 6 0 ++ toLe 3
      (Config.dataRegion - 64) ++ toLe 3 64) mapped), _, by decide +kernel, by decide +kernel, by decide +kernel, rfl,
      by decide +kernel, by decide +kernel, rfl⟩,
    ⟨(0), (9), (0), (0), (16), (working ([0x30, 0, 1, 0, 0, 16] ++ z 10)
      { work with pwr := { work.pwr with westParked := true } }), (1), _, (0), by decide +kernel, by decide +kernel,
      by decide +kernel, by decide +kernel, rfl, by decide +kernel⟩,
    ⟨(0), (9), (0), (0), (16), (working ([0x30, 0, 1, 0, 0, 16] ++ z 10) work), (1), _, (0), _, _, _, by decide +kernel,
      by decide +kernel, by decide +kernel, by decide +kernel, rfl, by decide +kernel, by decide +kernel, rfl, rfl, rfl⟩,
    ⟨(0), (9), (0), (7), (1), (working ([0x31, 0, 0, 0, 7, 1] ++ z 10) (updCore 0 (fun x =>
      { x with inq := [(7, [⟨List.replicate 128 1, 1, false⟩])] }) work)), (0), (⟨List.replicate 128 1, 1, false⟩), ([]),
      by decide +kernel⟩,
    ⟨(0), (9), (0), (7), (1), (working ([0x31, 0, 0, 0, 7, 1] ++ z 10) work), (0), by decide +kernel⟩,
    ⟨(0), (9), (0), (1), (working ([0x32, 0, 0, 0, 0, 1] ++ z 10)), (0), _, _, (0), _, by decide +kernel, by decide +kernel,
      by decide +kernel, by decide +kernel, rfl, by decide +kernel, by decide +kernel, rfl⟩,
    ⟨(0), (9), (0), (working ([0x40, 0, 15, 0] ++ f2 1 ++ z 10)), (15), (false), (1), _, _, _, by decide +kernel, rfl, rfl,
      rfl, by decide +kernel⟩,
    ⟨(0), (9), (0), (working ([0x40, 0, 15, 1] ++ f2 2 ++ z 10)), (15), (true), (2), _, _, _, by decide +kernel, rfl, rfl,
      rfl, by decide +kernel⟩,
    ⟨(0), (9), (0), (working ([0x41, 0, 15, 0] ++ f4 4 ++ z 8) (updCore 0 (fun x => { x with events := [(15, 4)] }) work)),
      (15), (4), by decide +kernel⟩,
    ⟨(0), (9), (0), (working ([0x41, 0, 15, 0] ++ f4 1 ++ z 8)), (15), (1), by decide +kernel⟩,
    ⟨(0), (9), (0), (working ([0x7F, 0] ++ z 14)), _, by decide +kernel, rfl, by decide +kernel⟩,
    ⟨(0), (9), (0), (working ([0x7F, 0] ++ z 14) (updCore 0 (fun x => { x with inq := [(7, [⟨[], 1, false⟩])] }) work)), _,
      by decide +kernel, rfl, by decide +kernel⟩⟩

/-- The hypotheses of MailboxProtocol hold together. -/
theorem witness_MailboxProtocol :
    (∃ (f : Nat) (n : Nat) (s : State), f < 64 ∧ n < 65536 ∧ hostUp s = true ∧ fnExists s f = true ∧ (fnOf s f).outstanding
      = true) ∧
    (∃ (f : Nat) (n : Nat) (buf : List Byte) (s : State) (t : _) (op : _) (b : _) (h : Req), f < 64 ∧ n < 65536 ∧ hostUp s =
      true ∧ fnExists s f = true ∧ (fnOf s f).outstanding = false ∧ t = setFn f
      { fnOf s f with outstanding := true, noResponse := false, curSeq := n, request := buf.take (32 + bodyLen buf) } s ∧ op
      = field buf 0 2 ∧ b = bodyOf buf ∧ h = ⟨f, n, respAddrOf buf, respLenOf buf, true⟩ ∧ headerUnusable buf = true) ∧
    (∃ (f : Nat) (n : Nat) (buf : List Byte) (s : State) (t : _) (op : _) (b : _) (h : Req), f < 64 ∧ n < 65536 ∧ hostUp s =
      true ∧ fnExists s f = true ∧ (fnOf s f).outstanding = false ∧ t = setFn f
      { fnOf s f with outstanding := true, noResponse := false, curSeq := n, request := buf.take (32 + bodyLen buf) } s ∧ op
      = field buf 0 2 ∧ b = bodyOf buf ∧ h = ⟨f, n, respAddrOf buf, respLenOf buf, true⟩ ∧ headerUnusable buf = false ∧
      blockBusy s = true) ∧
    (∃ (f : Nat) (n : Nat) (buf : List Byte) (s : State) (t : _) (op : _) (b : _) (h : Req), f < 64 ∧ n < 65536 ∧ hostUp s =
      true ∧ fnExists s f = true ∧ (fnOf s f).outstanding = false ∧ t = setFn f
      { fnOf s f with outstanding := true, noResponse := false, curSeq := n, request := buf.take (32 + bodyLen buf) } s ∧ op
      = field buf 0 2 ∧ b = bodyOf buf ∧ h = ⟨f, n, respAddrOf buf, respLenOf buf, true⟩ ∧ headerUnusable buf = false ∧
      blockBusy s = false ∧ headerBad n buf = true) ∧
    (∃ (f : Nat) (n : Nat) (buf : List Byte) (s : State) (t : _) (op : _) (b : _) (h : Req), f < 64 ∧ n < 65536 ∧ hostUp s =
      true ∧ fnExists s f = true ∧ (fnOf s f).outstanding = false ∧ t = setFn f
      { fnOf s f with outstanding := true, noResponse := false, curSeq := n, request := buf.take (32 + bodyLen buf) } s ∧ op
      = field buf 0 2 ∧ b = bodyOf buf ∧ h = ⟨f, n, respAddrOf buf, respLenOf buf, true⟩ ∧ headerUnusable buf = false ∧
      blockBusy s = false ∧ headerBad n buf = false ∧ op ∉ requestCodes) ∧
    (∃ (f : Nat) (n : Nat) (buf : List Byte) (s : State) (t : _) (op : _) (b : _) (h : Req), f < 64 ∧ n < 65536 ∧ hostUp s =
      true ∧ fnExists s f = true ∧ (fnOf s f).outstanding = false ∧ t = setFn f
      { fnOf s f with outstanding := true, noResponse := false, curSeq := n, request := buf.take (32 + bodyLen buf) } s ∧ op
      = field buf 0 2 ∧ b = bodyOf buf ∧ h = ⟨f, n, respAddrOf buf, respLenOf buf, true⟩ ∧ headerUnusable buf = false ∧
      blockBusy s = false ∧ headerBad n buf = false ∧ op ∈ requestCodes ∧ reservedSub op b = true) ∧
    (∃ (f : Nat) (n : Nat) (buf : List Byte) (s : State) (t : _) (op : _) (b : _) (h : Req), f < 64 ∧ n < 65536 ∧ hostUp s =
      true ∧ fnExists s f = true ∧ (fnOf s f).outstanding = false ∧ t = setFn f
      { fnOf s f with outstanding := true, noResponse := false, curSeq := n, request := buf.take (32 + bodyLen buf) } s ∧ op
      = field buf 0 2 ∧ b = bodyOf buf ∧ h = ⟨f, n, respAddrOf buf, respLenOf buf, true⟩ ∧ headerUnusable buf = false ∧
      blockBusy s = false ∧ headerBad n buf = false ∧ op ∈ requestCodes ∧ reservedSub op b = false) ∧
    (∃ (f : Nat), f < 64) ∧
    (∃ (f : Nat) (g : Nat), f < 64 ∧ g ≠ f) :=
  ⟨⟨(63), (65535), (updFn 63 (fun x => { x with outstanding := true }) vfs), by decide +kernel⟩,
    ⟨(63), (65535), ([]), (vfs), _, _, _, _, by decide +kernel, by decide +kernel, by decide +kernel, by decide +kernel,
      by decide +kernel, rfl, rfl, rfl, rfl, by decide +kernel⟩,
    ⟨(63), (65535), ((toLe 2 (opQuiesce) ++ toLe 2 0 ++ toLe 4 (z 8).length ++ toLe 8 0x10000 ++ toLe 4 64 ++ toLe 2 65535
      ++ toLe 10 0 ++ z 8)), ({ vfs with pwr := { vfs.pwr with mbxReady := false } }), _, _, _, _, by decide +kernel,
      by decide +kernel, by decide +kernel, by decide +kernel, by decide +kernel, rfl, rfl, rfl, rfl, by decide +kernel⟩,
    ⟨(63), (65534), ((toLe 2 (opQuiesce) ++ toLe 2 0 ++ toLe 4 (z 8).length ++ toLe 8 0x10000 ++ toLe 4 64 ++ toLe 2 65535
      ++ toLe 10 0 ++ z 8)), (vfs), _, _, _, _, by decide +kernel, by decide +kernel, by decide +kernel, by decide +kernel,
      by decide +kernel, rfl, rfl, rfl, rfl, by decide +kernel⟩,
    ⟨(63), (65535), ((toLe 2 (255) ++ toLe 2 0 ++ toLe 4 (z 8).length ++ toLe 8 0x10000 ++ toLe 4 64 ++ toLe 2 65535 ++ toLe
      10 0 ++ z 8)), (vfs), _, _, _, _, by decide +kernel, by decide +kernel, by decide +kernel, by decide +kernel,
      by decide +kernel, rfl, rfl, rfl, rfl, by decide +kernel⟩,
    ⟨(63), (65535), ((toLe 2 (opGetInfo) ++ toLe 2 0 ++ toLe 4 (([3] ++ z 7)).length ++ toLe 8 0x10000 ++ toLe 4 64 ++ toLe
      2 65535 ++ toLe 10 0 ++ ([3] ++ z 7))), (vfs), _, _, _, _, by decide +kernel, by decide +kernel, by decide +kernel,
      by decide +kernel, by decide +kernel, rfl, rfl, rfl, rfl, by decide +kernel⟩,
    ⟨(63), (65535), ((toLe 2 (opQuiesce) ++ toLe 2 0 ++ toLe 4 (z 8).length ++ toLe 8 0x10000 ++ toLe 4 64 ++ toLe 2 65535
      ++ toLe 10 0 ++ z 8)), (vfs), _, _, _, _, by decide +kernel, by decide +kernel, by decide +kernel, by decide +kernel,
      by decide +kernel, rfl, rfl, rfl, rfl, by decide +kernel⟩,
    ⟨(63), by decide +kernel⟩,
    ⟨(63), (1), by decide +kernel⟩⟩

/-- The hypotheses of ReadRequests hold together. -/
theorem witness_ReadRequests :
    (∃ (fn : Nat) (h : Req) (b : List Byte) (s : State), Asked fn (layInfo 0) false h b s ∧ 80 ≤ h.respLen) ∧
    (∃ (fn : Nat) (h : Req) (b : List Byte) (s : State), Asked fn (layInfo 1) false h b s ∧ 272 ≤ h.respLen) ∧
    (∃ (fn : Nat) (h : Req) (b : List Byte) (s : State) (n : _) (f : _), Asked fn (layInfo 2) false h b s ∧ n = field b 1 1
      ∧ facetOf s n = some f ∧ f.fn = fn ∧ 2064 ≤ h.respLen) ∧
    (∃ (fn : Nat) (h : Req) (b : List Byte) (s : State) (n : _), Asked fn (layInfo 2) false h b s ∧ n = field b 1 1 ∧
      facetOf s n = none ∧ 16 ≤ h.respLen) ∧
    (∃ (h : Req) (b : List Byte) (s : State) (ty : _) (first : _) (count : _) (facet : _) (r : _), Asked 0 layTelemetry
      false h b s ∧ ty = field b 0 1 ∧ first = field b 2 2 ∧ count = field b 4 2 ∧ facet = field b 6 2 ∧ ty < 10 ∧ ((ty ≠ 7
      → facet = 0)) ∧ ((ty = 7 → SMap.has s.facets facet = true)) ∧ first + count ≤ recordUnits s ty facet ∧ r =
      ((List.range count).map (· + first)).flatMap (record s ty facet) ∧ 16 + r.length ≤ h.respLen) ∧
    (∃ (h : Req) (b : List Byte) (s : State) (kind : _) (first : _) (count : _) (r : _), Asked 0 layAccounting false h b s ∧
      kind = field b 0 1 ∧ first = field b 2 2 ∧ count = field b 4 2 ∧ 1 ≤ count ∧ kind = 0 ∧ count ≤ 1024 ∧ r =
      ((List.range count).map (· + first)).flatMap (fun n => ((SMap.look s.ctxs n).map (contextRecord s n)).getD []) ∧ 16 +
      r.length ≤ h.respLen) ∧
    (∃ (h : Req) (b : List Byte) (s : State) (kind : _) (first : _) (count : _) (r : _), Asked 0 layAccounting false h b s ∧
      kind = field b 0 1 ∧ first = field b 2 2 ∧ count = field b 4 2 ∧ 1 ≤ count ∧ kind = 1 ∧ first + count ≤ 64 ∧ r =
      ((List.range count).map (· + first)).flatMap (functionRecord s) ∧ 16 + r.length ≤ h.respLen) :=
  ⟨⟨(0), (askedHdr (ask opGetInfo (z 8) (on) 0 80) (0) (layInfo 0)), (askedBytes (ask opGetInfo (z 8) (on) 0 80) (0)
      (layInfo 0)), (ask opGetInfo (z 8) (on) 0 80), by decide +kernel⟩,
    ⟨(0), (askedHdr (ask opGetInfo (f1 1 ++ z 7) (on) 0 272) (0) (layInfo 1)), (askedBytes (ask opGetInfo (f1 1 ++ z 7) (on)
      0 272) (0) (layInfo 1)), (ask opGetInfo (f1 1 ++ z 7) (on) 0 272), by decide +kernel⟩,
    ⟨(0), (askedHdr (ask opGetInfo (f1 2 ++ z 7) (on) 0 2064) (0) (layInfo 2)), (askedBytes (ask opGetInfo (f1 2 ++ z 7)
      (on) 0 2064) (0) (layInfo 2)), (ask opGetInfo (f1 2 ++ z 7) (on) 0 2064), _, _, by decide +kernel, rfl, rfl,
      by decide +kernel⟩,
    ⟨(0), (askedHdr (ask opGetInfo (f1 2 ++ f1 63 ++ z 6) (on) 0 64) (0) (layInfo 2)), (askedBytes (ask opGetInfo (f1 2 ++
      f1 63 ++ z 6) (on) 0 64) (0) (layInfo 2)), (ask opGetInfo (f1 2 ++ f1 63 ++ z 6) (on) 0 64), _, by decide +kernel,
      rfl, by decide +kernel⟩,
    ⟨(askedHdr (ask opTelemetry (f1 0 ++ f1 0 ++ f2 543 ++ f2 1 ++ z 2) (on) 0 2400) 0 layTelemetry), (askedBytes (ask
      opTelemetry (f1 0 ++ f1 0 ++ f2 543 ++ f2 1 ++ z 2) (on) 0 2400) 0 layTelemetry), (ask opTelemetry (f1 0 ++ f1 0 ++ f2
      543 ++ f2 1 ++ z 2) (on) 0 2400), _, _, _, _, _, by decide +kernel, rfl, rfl, rfl, rfl, by decide +kernel,
      by decide +kernel, by decide +kernel, by decide +kernel, rfl, by decide +kernel⟩,
    ⟨(askedHdr (ask opAccountingRead (z 2 ++ f2 0 ++ f2 1 ++ z 2) (on) 0 4096) 0 layAccounting), (askedBytes (ask
      opAccountingRead (z 2 ++ f2 0 ++ f2 1 ++ z 2) (on) 0 4096) 0 layAccounting), (ask opAccountingRead (z 2 ++ f2 0 ++ f2
      1 ++ z 2) (on) 0 4096), _, _, _, _, by decide +kernel, rfl, rfl, rfl, by decide +kernel, by decide +kernel,
      by decide +kernel, rfl, by decide +kernel⟩,
    ⟨(askedHdr (ask opAccountingRead (f1 1 ++ z 1 ++ f2 63 ++ f2 1 ++ z 2) (on) 0 4096) 0 layAccounting), (askedBytes (ask
      opAccountingRead (f1 1 ++ z 1 ++ f2 63 ++ f2 1 ++ z 2) (on) 0 4096) 0 layAccounting), (ask opAccountingRead (f1 1 ++ z
      1 ++ f2 63 ++ f2 1 ++ z 2) (on) 0 4096), _, _, _, _, by decide +kernel, rfl, rfl, rfl, by decide +kernel,
      by decide +kernel, by decide +kernel, rfl, by decide +kernel⟩⟩

/-- The hypotheses of ObjectRequests hold together. -/
theorem witness_ObjectRequests :
    (∃ (fn : Nat) (h : Req) (b : List Byte) (f : Facet) (s : State) (d : _), Asked fn layBind false h b s ∧ 16 ≤ h.respLen ∧
      d = bindBody b ∧ facetOf s d.facet = some f ∧ f.fn = fn ∧ d.function = fn ∧ bindBodyOk f d = true ∧ SMap.has s.ctxs
      d.context = false ∧ leaving f = false) ∧
    (∃ (fn : Nat) (h : Req) (b : List Byte) (f : Facet) (s : State) (d : _), Asked fn layBind false h b s ∧ 16 ≤ h.respLen ∧
      d = bindBody b ∧ facetOf s d.facet = some f ∧ f.fn ≠ fn) ∧
    (∃ (fn : Nat) (h : Req) (b : List Byte) (c : Ctx) (s : State) (n : _), AskedJob fn layUnbind false h b s ∧ n = field b 0
      2 ∧ SMap.look s.ctxs n = some c ∧ c.fn = fn ∧ c.unbinding = none) ∧
    (∃ (n : Nat) (c : Ctx) (t : Ticket) (s : State), SMap.look s.ctxs n = some c ∧ c.unbinding = some t ∧ ((∀ e ∈ s.cmds,
      e.2.desc.context = n → e.2.ran = false)) ∧ ctxRequests s n c = false) ∧
    (∃ (fn : Nat) (h : Req) (b : List Byte) (f : Facet) (x : Nat) (s : State) (d : _), Asked fn layQueueCreate true h b s ∧
      24 ≤ h.respLen ∧ d = queueBody b ∧ facetOf s d.facet = some f ∧ f.fn = fn ∧ f.member = false ∧ queueBodyOk d = true ∧
      leaving f = false ∧ ((d.privileged = true → privQueues s fn < 2)) ∧ freeQueue s < 16384 ∧ freeFrame (poolFill s
      d.facet) f = some x) ∧
    (∃ (fn : Nat) (h : Req) (b : List Byte) (q : Queue) (s : State) (n : _), AskedJob fn layQueueDestroy true h b s ∧ n =
      field b 0 2 ∧ SMap.look s.queues n = some q ∧ q.fn = fn ∧ q.destroying = none) ∧
    (∃ (n : Nat) (q : Queue) (t : Ticket) (s : State), SMap.look s.queues n = some q ∧ q.destroying = some t ∧ (∀ e ∈
      s.cmds, e.2.queue ≠ n)) ∧
    (∃ (fn : Nat) (h : Req) (b : List Byte) (s : State) (n : _), AskedJob fn layQuiesce false h b s ∧ n = field b 0 1 ∧ 1 ≤
      n ∧ n ≤ 63 ∧ n ≤ s.reg.numVFs ∧ (fnOf s n).quiesceReq = none) ∧
    (∃ (n : Nat) (t : Ticket) (s : State), n < 64 ∧ (fnOf s n).quiesceReq = some t ∧ fnBusy s n = false) ∧
    (∃ (fn : Nat) (h : Req) (b : List Byte) (s : State) (n : _), Asked fn layResume false h b s ∧ 16 ≤ h.respLen ∧ n = field
      b 0 1 ∧ 1 ≤ n ∧ n ≤ 63 ∧ n ≤ s.reg.numVFs) :=
  ⟨⟨(0), (askedHdr (ask opContextBind (f2 65535 ++ f1 63 ++ f1 0 ++ f4 5 ++ f8 0 ++ f2 65535 ++ z 14)
      ({ on with facets := [(63, { fac with fn := 0 })], ctxs := [] }) 0 4096) (0) layBind), (askedBytes (ask opContextBind
      (f2 65535 ++ f1 63 ++ f1 0 ++ f4 5 ++ f8 0 ++ f2 65535 ++ z 14)
      ({ on with facets := [(63, { fac with fn := 0 })], ctxs := [] }) 0 4096) (0) layBind), ({ fac with fn := 0 }), (ask
      opContextBind (f2 65535 ++ f1 63 ++ f1 0 ++ f4 5 ++ f8 0 ++ f2 65535 ++ z 14)
      ({ on with facets := [(63, { fac with fn := 0 })], ctxs := [] }) 0 4096), _, by decide +kernel, by decide +kernel,
      rfl, by decide +kernel⟩,
    ⟨(63), (askedHdr (ask opContextBind (f2 65535 ++ f1 0 ++ f1 63 ++ f4 5 ++ f8 0 ++ f2 1 ++ z 14) (vfs) 63 4096) (63)
      layBind), (askedBytes (ask opContextBind (f2 65535 ++ f1 0 ++ f1 63 ++ f4 5 ++ f8 0 ++ f2 1 ++ z 14) (vfs) 63 4096)
      (63) layBind), (fac), (ask opContextBind (f2 65535 ++ f1 0 ++ f1 63 ++ f4 5 ++ f8 0 ++ f2 1 ++ z 14) (vfs) 63 4096),
      _, by decide +kernel, by decide +kernel, rfl, by decide +kernel⟩,
    ⟨(0), (askedHdr (ask opContextUnbind (f2 1 ++ z 6) (on) 0 4096) (0) layUnbind), (askedBytes (ask opContextUnbind (f2 1
      ++ z 6) (on) 0 4096) (0) layUnbind), _, (ask opContextUnbind (f2 1 ++ z 6) (on) 0 4096), _, by decide +kernel, rfl,
      rfl, by decide +kernel⟩,
    ⟨(1), _, (⟨0, 1, opContextUnbind⟩),
      ({ on with ctxs := [(1, { ctx0 with unbinding := some ⟨0, 1, opContextUnbind⟩ })] }), rfl, by decide +kernel⟩,
    ⟨(0), (askedHdr (ask opQueueCreate (f1 0 ++ f1 1 ++ f2 0x1FFF ++ f1 15 ++ f1 4 ++ z 2 ++ f8 0x10000 ++ f8 0x20000 ++ f8
      0x1000 ++ f4 8 ++ z 12) (on) 0 4096) (0) layQueueCreate), (askedBytes (ask opQueueCreate (f1 0 ++ f1 1 ++ f2 0x1FFF ++
      f1 15 ++ f1 4 ++ z 2 ++ f8 0x10000 ++ f8 0x20000 ++ f8 0x1000 ++ f4 8 ++ z 12) (on) 0 4096) (0) layQueueCreate), _,
      (0), (ask opQueueCreate (f1 0 ++ f1 1 ++ f2 0x1FFF ++ f1 15 ++ f1 4 ++ z 2 ++ f8 0x10000 ++ f8 0x20000 ++ f8 0x1000 ++
      f4 8 ++ z 12) (on) 0 4096), _, by decide +kernel, by decide +kernel, rfl, rfl, by decide +kernel⟩,
    ⟨(0), (askedHdr (ask opQueueDestroy (f2 0 ++ z 6) (on) 0 4096) (0) layQueueDestroy), (askedBytes (ask opQueueDestroy (f2
      0 ++ z 6) (on) 0 4096) (0) layQueueDestroy), _, (ask opQueueDestroy (f2 0 ++ z 6) (on) 0 4096), _, by decide +kernel,
      rfl, rfl, by decide +kernel⟩,
    ⟨(0), _, _, ({ on with queues := [(0, { que with destroying := some ⟨0, 1, opQueueDestroy⟩ })] }), rfl, rfl,
      by decide +kernel⟩,
    ⟨(0), (askedHdr (ask opQuiesce (f1 63 ++ z 7) (vfs) 0 4096) (0) layQuiesce), (askedBytes (ask opQuiesce (f1 63 ++ z 7)
      (vfs) 0 4096) (0) layQuiesce), (ask opQuiesce (f1 63 ++ z 7) (vfs) 0 4096), _, by decide +kernel, rfl,
      by decide +kernel⟩,
    ⟨(63), _, (updFn 63 (fun r => { r with quiesceReq := some ⟨0, 1, opQuiesce⟩ }) on), by decide +kernel, rfl,
      by decide +kernel⟩,
    ⟨(0), (askedHdr (ask opResume (f1 63 ++ z 7) (vfs) 0 4096) (0) layResume), (askedBytes (ask opResume (f1 63 ++ z 7)
      (vfs) 0 4096) (0) layResume), (ask opResume (f1 63 ++ z 7) (vfs) 0 4096), _, by decide +kernel, by decide +kernel,
      rfl, by decide +kernel⟩⟩

/-- The hypotheses of FacetCreation hold together. -/
theorem witness_FacetCreation :
    (∃ (fn : Nat) (h : Req) (body : List Byte) (n : Nat) (s : State) (b : _), AskedJob fn layFacetCreate true h body s ∧ 24
      ≤ h.respLen ∧ b = facetBody body ∧ ((b.confidential = true → s.fuses.lcState = 3 ∧ freeMemSlot s ≤ 255)) ∧ tdiLocked s
      b.function = false ∧ facetBodyOk b = true ∧ fnExists s b.function = true ∧ resourcesClosed s b.cores b.channels
      b.halfPorts = false ∧ updateBusy s = false ∧ n = lowestFrom (s.facets.map (·.1)) 0 ∧ n < 64 ∧ resourcesFree s b.cores
      b.channels b.halfPorts = true ∧ poolFits s b = true) ∧
    (∃ (b : FacetBody) (s : State) (n : _), b.confidential = false ∧ b.member = false ∧ b.memberCount ≠ 0 ∧ b.kvBlocks = 0 ∧
      n = lowestFrom (s.facets.map (·.1)) 0) ∧
    (∃ (b : FacetBody) (s : State) (n : _) (c : Nat), b.confidential = false ∧ b.member = false ∧ b.memberCount ≠ 0 ∧
      b.kvBlocks = 0 ∧ n = lowestFrom (s.facets.map (·.1)) 0 ∧ c ∈ b.cores) ∧
    (∃ (b : FacetBody) (s : State) (n : _) (c : Nat), b.confidential = false ∧ b.member = false ∧ b.memberCount ≠ 0 ∧
      b.kvBlocks = 0 ∧ n = lowestFrom (s.facets.map (·.1)) 0 ∧ c ∉ b.cores) ∧
    (∃ (b : FacetBody) (s : State) (n : _) (c : Nat), b.confidential = false ∧ b.member = false ∧ b.memberCount ≠ 0 ∧
      b.kvBlocks = 0 ∧ n = lowestFrom (s.facets.map (·.1)) 0 ∧ c ∈ b.channels) ∧
    (∃ (b : FacetBody) (s : State) (n : _) (c : Nat), b.confidential = false ∧ b.member = false ∧ b.memberCount ≠ 0 ∧
      b.kvBlocks = 0 ∧ n = lowestFrom (s.facets.map (·.1)) 0 ∧ c ∉ b.channels) ∧
    (∃ (n : Nat) (f : Facet) (s : State), n < 64 ∧ facetOf s n = some f ∧ f.member = true ∧ f.state = 1 ∧ f.joined = false) ∧
    (∃ (fn : Nat) (h : Req) (b : List Byte) (f : Facet) (s : State) (n : _), AskedJob fn layFacetDestroy true h b s ∧ n =
      field b 0 1 ∧ facetOf s n = some f ∧ retiring s n = false ∧ tdiLocked s f.fn = false ∧ (∀ e ∈ s.queues, e.2.facet ≠ n)
      ∧ ctxsOfFacet s n = [] ∧ f.state ≠ 4 ∧ f.destroying = none ∧ updateBusy s = false ∧ f.state ≠ 1 ∧ f.resize = none) ∧
    (∃ (fn : Nat) (h : Req) (b : List Byte) (f : Facet) (s : State) (n : _), AskedJob fn layFacetDestroy true h b s ∧ n =
      field b 0 1 ∧ facetOf s n = some f ∧ retiring s n = false ∧ tdiLocked s f.fn = false ∧ (∀ e ∈ s.queues, e.2.facet ≠ n)
      ∧ ctxsOfFacet s n = [] ∧ f.state ≠ 4 ∧ f.destroying = none ∧ updateBusy s = false ∧ (f.state = 1 ∨ f.resize ≠ none)) ∧
    (∃ (n : Nat) (f : Facet) (s : State), facetOf s n = some f ∧ f.eclipse = none ∧ f.rekey = none) ∧
    (∃ (n : Nat) (f : Facet) (s : State), facetOf s n = some f ∧ f.eclipse = none ∧ f.rekey = none) ∧
    (∃ (n : Nat) (f : Facet) (s : State), facetOf s n = some f ∧ f.eclipse = none ∧ f.rekey = none ∧ (∀ e ∈ s.coh.lines, ∀ l
      ∈ e.2, l.bad ≠ 2)) :=
  ⟨⟨(0), (askedHdr (ask opFacetCreate newFac
      { up with cores := [(17, { core0 with status := 1 })], chans := [(255, { state := 1 })] } 0 64) (0) layFacetCreate),
      (askedBytes (ask opFacetCreate newFac
      { up with cores := [(17, { core0 with status := 1 })], chans := [(255, { state := 1 })] } 0 64) (0) layFacetCreate),
      _, (ask opFacetCreate newFac { up with cores := [(17, { core0 with status := 1 })], chans := [(255, { state := 1 })] }
      0 64), _, by decide +kernel, by decide +kernel, rfl, by decide +kernel, by decide +kernel, by decide +kernel,
      by decide +kernel, by decide +kernel, by decide +kernel, rfl, by decide +kernel⟩,
    ⟨({ facetBody newFac with memberCount := 1 }), (up), _, by decide +kernel, by decide +kernel, by decide +kernel,
      by decide +kernel, rfl⟩,
    ⟨({ facetBody newFac with memberCount := 1 }), (up), _, (17), by decide +kernel, by decide +kernel, by decide +kernel,
      by decide +kernel, rfl, by decide +kernel⟩,
    ⟨({ facetBody newFac with memberCount := 1 }), (up), _, (16), by decide +kernel, by decide +kernel, by decide +kernel,
      by decide +kernel, rfl, by decide +kernel⟩,
    ⟨({ facetBody newFac with memberCount := 1 }), (up), _, (255), by decide +kernel, by decide +kernel, by decide +kernel,
      by decide +kernel, rfl, by decide +kernel⟩,
    ⟨({ facetBody newFac with memberCount := 1 }), (up), _, (254), by decide +kernel, by decide +kernel, by decide +kernel,
      by decide +kernel, rfl, by decide +kernel⟩,
    ⟨(63), _,
      ({ up with facets := [(63, { fac with member := true, state := 1, creating := some ⟨0, 1, opFacetCreate⟩ })] }),
      by decide +kernel, rfl, by decide +kernel⟩,
    ⟨(0), (askedHdr (ask opFacetDestroy (f1 63 ++ z 7)
      ({ up with facets := [(63, fac)], chans := [(0, { state := 2, facet := 63 })] }) 0 4096) (0) layFacetDestroy),
      (askedBytes (ask opFacetDestroy (f1 63 ++ z 7)
      ({ up with facets := [(63, fac)], chans := [(0, { state := 2, facet := 63 })] }) 0 4096) (0) layFacetDestroy), (fac),
      (ask opFacetDestroy (f1 63 ++ z 7) ({ up with facets := [(63, fac)], chans := [(0, { state := 2, facet := 63 })] }) 0
      4096), _, by decide +kernel, rfl, by decide +kernel⟩,
    ⟨(0), (askedHdr (ask opFacetDestroy (f1 63 ++ z 7) ({ up with facets := [(63, { fac with resize := some resize0 })] }) 0
      4096) (0) layFacetDestroy), (askedBytes (ask opFacetDestroy (f1 63 ++ z 7)
      ({ up with facets := [(63, { fac with resize := some resize0 })] }) 0 4096) (0) layFacetDestroy), _, (ask
      opFacetDestroy (f1 63 ++ z 7) ({ up with facets := [(63, { fac with resize := some resize0 })] }) 0 4096), _,
      by decide +kernel, rfl, rfl, by decide +kernel⟩,
    ⟨(63), _, ({ up with facets := [(63, fac)], chans := [(0, { state := 2, facet := 63 })] }), rfl, by decide +kernel⟩,
    ⟨(63), _, ({ up with facets := [(63, fac)], chans := [(0, { state := 2, facet := 63 })] }), rfl, by decide +kernel⟩,
    ⟨(63), _, ({ up with facets := [(63, fac)], chans := [(0, { state := 2, facet := 63 })] }), rfl, by decide +kernel⟩⟩

/-- The hypotheses of FacetResizing hold together. -/
theorem witness_FacetResizing :
    (∃ (fn : Nat) (h : Req) (body : List Byte) (f : Facet) (s : State) (b : _) (cores : _) (chans : _) (ports : _), Asked fn
      layFacetResize true h body s ∧ 16 ≤ h.respLen ∧ b = resizeBody body ∧ facetOf s b.facet = some f ∧ retiring s b.facet
      = false ∧ tdiLocked s f.fn = false ∧ resizeOk f b = true ∧ f.state = 2 ∧ f.resize = none ∧ f.destroying = none ∧
      updateBusy s = false ∧ cores = (NSet.ofList b.cores).filter (fun c => !f.cores.contains c) ∧ chans = (NSet.ofList
      b.channels).filter (fun c => !f.channels.contains c) ∧ ports = (NSet.ofList b.halfPorts).filter (fun p =>
      !f.halfPorts.contains p) ∧ resourcesClosed s cores chans ports = false ∧ settingsOnly f b = true) ∧
    (∃ (fn : Nat) (h : Req) (body : List Byte) (f : Facet) (s : State) (b : _) (cores : _) (chans : _) (ports : _), Asked fn
      layFacetResize true h body s ∧ 16 ≤ h.respLen ∧ b = resizeBody body ∧ facetOf s b.facet = some f ∧ retiring s b.facet
      = false ∧ tdiLocked s f.fn = false ∧ resizeOk f b = true ∧ f.state = 2 ∧ f.resize = none ∧ f.destroying = none ∧
      updateBusy s = false ∧ cores = (NSet.ofList b.cores).filter (fun c => !f.cores.contains c) ∧ chans = (NSet.ofList
      b.channels).filter (fun c => !f.channels.contains c) ∧ ports = (NSet.ofList b.halfPorts).filter (fun p =>
      !f.halfPorts.contains p) ∧ resourcesClosed s cores chans ports = false ∧ settingsOnly f b = false ∧ (∀ e ∈ f.ladders,
      SMap.has e.2.rungs (NSet.ofList b.cores).length = true) ∧ resourcesFree s cores chans ports = true ∧ (fnOf s
      fn).accepted.length < 16) ∧
    (∃ (n : Nat) (f : Facet) (r : Resize) (s : State), n < 64 ∧ facetOf s n = some f ∧ f.resize = some r ∧ r.switched =
      false ∧ uncleared s r.cores = false ∧ f.loads = [] ∧ f.switching = none ∧ f.running = none ∧ f.eclipse = none ∧
      stepRunning s n = false ∧ f.replace = none) ∧
    (∃ (n : Nat) (f : Facet) (r : Resize) (s : State), n < 64 ∧ facetOf s n = some f ∧ f.resize = some r ∧ r.switched = true
      ∧ r.drained = false) ∧
    (∃ (n : Nat) (source : Nat) (f : Facet) (r : Resize) (s : State), n < 64 ∧ source < 256 ∧ facetOf s n = some f ∧
      f.resize = some r ∧ (∃ m ∈ r.moves, m.1 = source) ∧ moveEnded s source = true) :=
  ⟨⟨(0), (askedHdr (ask opFacetResize ((f1 0 ++ f1 2 ++ f1 0 ++ f1 0 ++ f2 7 ++ f2 500 ++ f2 1000 ++ f2 0 ++ z 4 ++ toLe 68
      (1) ++ z 4 ++ toLe 32 (1) ++ z 32 ++ z 8)) (on) 0 64) (0) layFacetResize), (askedBytes (ask opFacetResize ((f1 0 ++ f1
      2 ++ f1 0 ++ f1 0 ++ f2 7 ++ f2 500 ++ f2 1000 ++ f2 0 ++ z 4 ++ toLe 68 (1) ++ z 4 ++ toLe 32 (1) ++ z 32 ++ z 8))
      (on) 0 64) (0) layFacetResize), (fac), (ask opFacetResize ((f1 0 ++ f1 2 ++ f1 0 ++ f1 0 ++ f2 7 ++ f2 500 ++ f2 1000
      ++ f2 0 ++ z 4 ++ toLe 68 (1) ++ z 4 ++ toLe 32 (1) ++ z 32 ++ z 8)) (on) 0 64), _, _, _, _, by decide +kernel,
      by decide +kernel, rfl, by decide +kernel, by decide +kernel, by decide +kernel, by decide +kernel, by decide +kernel,
      by decide +kernel, by decide +kernel, by decide +kernel, rfl, rfl, rfl, by decide +kernel⟩,
    ⟨(0), (askedHdr (ask opFacetResize ((f1 0 ++ f1 3 ++ f1 1 ++ f1 1 ++ f2 7 ++ f2 500 ++ f2 1000 ++ f2 0 ++ z 4 ++ toLe 68
      (2 ^ 17) ++ z 4 ++ toLe 32 (2 ^ 255) ++ (f1 0 ++ f1 255 ++ z 30) ++ z 8))
      ({ on with cores := [(0, core0), (17, { core0 with status := 1 })], chans := [(0, { state := 2 }), (255, { state := 1 })] })
      0 4096) (0) layFacetResize), (askedBytes (ask opFacetResize ((f1 0 ++ f1 3 ++ f1 1 ++ f1 1 ++ f2 7 ++ f2 500 ++ f2
      1000 ++ f2 0 ++ z 4 ++ toLe 68 (2 ^ 17) ++ z 4 ++ toLe 32 (2 ^ 255) ++ (f1 0 ++ f1 255 ++ z 30) ++ z 8))
      ({ on with cores := [(0, core0), (17, { core0 with status := 1 })], chans := [(0, { state := 2 }), (255, { state := 1 })] })
      0 4096) (0) layFacetResize), (fac), (ask opFacetResize ((f1 0 ++ f1 3 ++ f1 1 ++ f1 1 ++ f2 7 ++ f2 500 ++ f2 1000 ++
      f2 0 ++ z 4 ++ toLe 68 (2 ^ 17) ++ z 4 ++ toLe 32 (2 ^ 255) ++ (f1 0 ++ f1 255 ++ z 30) ++ z 8))
      ({ on with cores := [(0, core0), (17, { core0 with status := 1 })], chans := [(0, { state := 2 }), (255, { state := 1 })] })
      0 4096), _, _, _, _, by decide +kernel, by decide +kernel, rfl, by decide +kernel, by decide +kernel,
      by decide +kernel, by decide +kernel, by decide +kernel, by decide +kernel, by decide +kernel, by decide +kernel, rfl,
      rfl, rfl, by decide +kernel⟩,
    ⟨(0), _, _,
      ({ { on with facets := [(0, { fac with resize := some resize0 })], chans := [(0, { state := 3, copy := some { target := 255, frame := 32768 } }), (255, { state := 2 })] } with cores := [(0, core0), (17, core0)] }),
      by decide +kernel, rfl, rfl, by decide +kernel⟩,
    ⟨(0), _, _,
      ({ on with facets := [(0, { fac with resize := some { resize0 with switched := true, moves := [], oldChannels := [0] } })], chans := [(0, { state := 3, copy := some { target := 255, frame := 32768 } }), (255, { state := 2 })] }),
      by decide +kernel, rfl, rfl, by decide +kernel⟩,
    ⟨(0), (0), _, _,
      ({ on with facets := [(0, { fac with resize := some { resize0 with moves := [(0, 255)] } })], chans := [(0, { state := 3, copy := some { target := 255, frame := 32768 } }), (255, { state := 2 })] }),
      by decide +kernel, by decide +kernel, rfl, rfl, by decide +kernel⟩⟩

/-- The hypotheses of ParkingAndDusk hold together. -/
theorem witness_ParkingAndDusk :
    (∃ (fn : Nat) (h : Req) (b : List Byte) (s : State) (half : _), half = field b 0 1 ∧ half < 2 ∧ AskedJob fn (layPark 0)
      true h b s ∧ parked s (half == 1) = false ∧ parkBusy (half == 1) s = false) ∧
    (∃ (fn : Nat) (h : Req) (b : List Byte) (s : State) (half : _), half = field b 0 1 ∧ half < 2 ∧ AskedJob fn (layPark 1)
      true h b s ∧ parked s (half == 1) = true ∧ s.pwr.park = none ∧ updateBusy s = false) ∧
    (∃ (half : Nat) (p : ParkStep) (s : State), half < 2 ∧ s.pwr.park = some p ∧ p.unpark = true ∧ p.half = half ∧ calStage
      s (half == 1) = 3 ∧ halfCleared s (half == 1) = true) ∧
    (∃ (fn : Nat) (h : Req) (d : List Byte) (s : State), fn < 64 ∧ gate (ignoreBody h) opPowerLimits false s = none ∧ 30 ≤
      h.respLen ∧ askedBy s fn (layPower 2) = some (h, d) ∧ (s.pwr.state = 1 ∨ s.pwr.state = 2)) ∧
    (∃ (fn : Nat) (h : Req) (d : List Byte) (s : State), fn < 64 ∧ gate (ignoreBody h) opPowerLimits false s = none ∧ 30 ≤
      h.respLen ∧ askedBy s fn (layPower 2) = some (h, d) ∧ mayDusk s = true) ∧
    (∃ (fn : Nat) (h : Req) (d : List Byte) (s : State), fn < 64 ∧ gate (ignoreBody h) opPowerLimits false s = none ∧ 30 ≤
      h.respLen ∧ askedBy s fn (layPower 2) = some (h, d) ∧ s.pwr.state ≠ 1 ∧ s.pwr.state ≠ 2 ∧ mayDusk s = false) ∧
    (∃ (fn : Nat) (h : Req) (d : List Byte) (s : State), fn < 64 ∧ gate (ignoreBody h) opPowerLimits false s = none ∧ 30 ≤
      h.respLen ∧ askedBy s fn (layPower 3) = some (h, d) ∧ s.pwr.state = 0 ∧ s.pwr.halt = none) ∧
    (∃ (fn : Nat) (h : Req) (d : List Byte) (s : State), fn < 64 ∧ gate (ignoreBody h) opPowerLimits false s = none ∧ 30 ≤
      h.respLen ∧ askedBy s fn (layPower 3) = some (h, d) ∧ (s.pwr.state = 2 ∨ s.pwr.state = 4) ∧ wakeRefused s = false) ∧
    (∃ (fn : Nat) (h : Req) (d : List Byte) (s : State), fn < 64 ∧ gate (ignoreBody h) opPowerLimits false s = none ∧ 30 ≤
      h.respLen ∧ askedBy s fn (layPower 3) = some (h, d) ∧ (s.pwr.state = 2 ∨ s.pwr.state = 4) ∧ wakeRefused s = true) ∧
    (∃ (s : State), mayDusk s = true) ∧
    (∃ (s : State), (fnOf s 0).d3hot = true ∧ s.pwr.state = 2 ∧ wakeRefused s = false) ∧
    (∃ (s : State), s.pwr.state = 1 ∧ copying s = false ∧ s.pwr.halt = none) ∧
    (∃ (s : State), s.pwr.state = 3 ∧ halfReady s false = true ∧ halfReady s true = true ∧ (∀ e ∈ s.facets, e.2.loads = [])) :=
  ⟨⟨(0), (askedHdr (ask opFacetPark (f1 1 ++ z 7) (on) 0 4096) (0) (layPark 0)), (askedBytes (ask opFacetPark (f1 1 ++ z 7)
      (on) 0 4096) (0) (layPark 0)), (ask opFacetPark (f1 1 ++ z 7) (on) 0 4096), _, rfl, by decide +kernel⟩,
    ⟨(0), (askedHdr (ask opFacetPark (f1 1 ++ f1 1 ++ z 6) ({ on with pwr := { on.pwr with eastParked := true } }) 0 4096)
      (0) (layPark 1)), (askedBytes (ask opFacetPark (f1 1 ++ f1 1 ++ z 6)
      ({ on with pwr := { on.pwr with eastParked := true } }) 0 4096) (0) (layPark 1)), (ask opFacetPark (f1 1 ++ f1 1 ++ z
      6) ({ on with pwr := { on.pwr with eastParked := true } }) 0 4096), _, rfl, by decide +kernel⟩,
    ⟨(1), _, ({ up with pwr := { up.pwr with eastParked := true, park := some ⟨1, true, 6, none⟩ }, cores := coresOff }), by
      decide, rfl, rfl, rfl, rfl, coresOff_cleared
      { up with pwr := { up.pwr with eastParked := true, park := some ⟨1, true, 6, none⟩ } } true⟩,
    ⟨(0), (askedHdr (ask opPowerLimits (f1 2 ++ z 15) ({ up with pwr := { up.pwr with state := 2, dusk := true } }) 0 4096)
      (0) (layPower 2)), (askedBytes (ask opPowerLimits (f1 2 ++ z 15)
      ({ up with pwr := { up.pwr with state := 2, dusk := true } }) 0 4096) (0) (layPower 2)), (ask opPowerLimits (f1 2 ++ z
      15) ({ up with pwr := { up.pwr with state := 2, dusk := true } }) 0 4096), by decide +kernel⟩,
    ⟨(0), (askedHdr (ask opPowerLimits (f1 2 ++ z 15) (up) 0 4096) (0) (layPower 2)), (askedBytes (ask opPowerLimits (f1 2
      ++ z 15) (up) 0 4096) (0) (layPower 2)), (ask opPowerLimits (f1 2 ++ z 15) (up) 0 4096), by decide +kernel⟩,
    ⟨(0), (askedHdr (ask opPowerLimits (f1 2 ++ z 15) ({ on with cmds := [(9, run1)] }) 0 4096) (0) (layPower 2)),
      (askedBytes (ask opPowerLimits (f1 2 ++ z 15) ({ on with cmds := [(9, run1)] }) 0 4096) (0) (layPower 2)), (ask
      opPowerLimits (f1 2 ++ z 15) ({ on with cmds := [(9, run1)] }) 0 4096), by decide +kernel⟩,
    ⟨(0), (askedHdr (ask opPowerLimits (f1 3 ++ z 15) (up) 0 4096) (0) (layPower 3)), (askedBytes (ask opPowerLimits (f1 3
      ++ z 15) (up) 0 4096) (0) (layPower 3)), (ask opPowerLimits (f1 3 ++ z 15) (up) 0 4096), by decide +kernel⟩,
    ⟨(0), (askedHdr (ask opPowerLimits (f1 3 ++ z 15)
      ({ up with pwr := { up.pwr with state := 2, dusk := true, coolStable := true } }) 0 4096) (0) (layPower 3)),
      (askedBytes (ask opPowerLimits (f1 3 ++ z 15)
      ({ up with pwr := { up.pwr with state := 2, dusk := true, coolStable := true } }) 0 4096) (0) (layPower 3)), (ask
      opPowerLimits (f1 3 ++ z 15) ({ up with pwr := { up.pwr with state := 2, dusk := true, coolStable := true } }) 0
      4096), by decide +kernel⟩,
    ⟨(0), (askedHdr (ask opPowerLimits (f1 3 ++ z 15)
      ({ up with pwr := { up.pwr with state := 2, dusk := true, coolStable := false } }) 0 4096) (0) (layPower 3)),
      (askedBytes (ask opPowerLimits (f1 3 ++ z 15)
      ({ up with pwr := { up.pwr with state := 2, dusk := true, coolStable := false } }) 0 4096) (0) (layPower 3)), (ask
      opPowerLimits (f1 3 ++ z 15) ({ up with pwr := { up.pwr with state := 2, dusk := true, coolStable := false } }) 0
      4096), by decide +kernel⟩,
    ⟨(up), by decide +kernel⟩,
    ⟨(updFn 0 (fun r => { r with d3hot := true })
      ({ up with pwr := { up.pwr with state := 2, dusk := true, coolStable := true } })), by decide +kernel⟩,
    ⟨({ up with pwr := { up.pwr with state := 1 } }), by decide +kernel⟩,
    ⟨({ up with pwr := { up.pwr with state := 3, dusk := true, eastParked := true, westParked := true } }),
      by decide +kernel⟩⟩

/-- The hypotheses of SegmentsAndWeightSets hold together. -/
theorem witness_SegmentsAndWeightSets :
    (∃ (fn : Nat) (h : Req) (body : List Byte) (container : List Byte) (f : Facet) (f1 : Facet) (g : Segment) (frames : List
      Nat) (s : State) (b : _) (l : Loaded), Asked fn (laySegment 0) true h body s ∧ 24 ≤ h.respLen ∧ b = segBody body
      container ∧ facetOf s b.facet = some f ∧ f.fn = fn ∧ b.ladder = 0 ∧ b.containerAddr % 64 = 0 ∧ b.length ≤ 268435456 ∧
      decodeSegment (container.take b.length) = some g ∧ segmentOk f g = true ∧ SMap.look f.ladders 0 = none ∧ f.state ≠ 4 ∧
      g.prisms.length ≤ (freePrisms s).length ∧ takeBytes s b.facet g.size f = some (frames, f1) ∧ SMap.look f.ladders
      f.nextLadder = none ∧ l = ⟨g, frames, if g.coreCount = f.rung then (fitMapping g f.cores).getD [] else []⟩) ∧
    (∃ (fn : Nat) (h : Req) (b : List Byte) (f : Facet) (s : State) (n : _) (ladder : _), Asked fn (laySegment 1) true h b s
      ∧ 24 ≤ h.respLen ∧ n = field b 0 1 ∧ ladder = field b 4 4 ∧ facetOf s n = some f ∧ f.fn = fn ∧ SMap.has f.ladders
      ladder = true ∧ ladderNamed s n ladder = false) ∧
    (∃ (fn : Nat) (h : Req) (b : List Byte) (f : Facet) (s : State) (n : _) (ladder : _), Asked fn (laySegment 1) true h b s
      ∧ 24 ≤ h.respLen ∧ n = field b 0 1 ∧ ladder = field b 4 4 ∧ facetOf s n = some f ∧ f.fn = fn ∧ SMap.has f.ladders
      ladder = true ∧ ladderNamed s n ladder = true) ∧
    (∃ (fn : Nat) (h : Req) (body : List Byte) (container : List Byte) (tagOk : Bool) (unwrapOk : Bool) (f : Facet) (w :
      WsHeader) (s : State) (b : _), b = wsBody body container tagOk unwrapOk ∧ facetOf s b.facet = some f ∧ f.fn = fn ∧
      decodeWeightSet (container.take b.length) = some w ∧ weightBodyOk b w = true ∧ weightKey h b w s = syOk ∧ AskedJob fn
      layWeightLoad true h body s ∧ tagOk = true ∧ ((w.sealedKey = true → unwrapOk = true ∧ freeWeightSlot s ≤ 63)) ∧
      setHeld f b.setId = false ∧ f.state ≠ 4 ∧ placeSet s b w (dropSet b.setId f) ≠ none) ∧
    (∃ (fn : Nat) (h : Req) (body : List Byte) (container : List Byte) (tagOk : Bool) (unwrapOk : Bool) (f : Facet) (w :
      WsHeader) (s : State) (b : _), b = wsBody body container tagOk unwrapOk ∧ facetOf s b.facet = some f ∧ f.fn = fn ∧
      decodeWeightSet (container.take b.length) = some w ∧ weightBodyOk b w = true ∧ weightKey h b w s = syOk ∧ Asked fn
      layWeightLoad true h body s ∧ 16 ≤ h.respLen ∧ tagOk = false) ∧
    (∃ (n : Nat) (set : Nat) (images : List StreamImage) (f : Facet) (w : WSet) (s : State) (t : State) (good : Bool), n <
      64 ∧ facetOf s n = some f ∧ SMap.look f.sets set = some w ∧ w.ready = false ∧ makeImages n set images (List.range
      w.streamFrames.length) s = (good, t)) ∧
    (∃ (fn : Nat) (h : Req) (b : List Byte) (f : Facet) (w : WSet) (s : State) (n : _) (set : _), Asked fn layWeightUnload
      true h b s ∧ 16 ≤ h.respLen ∧ n = field b 0 1 ∧ set = field b 4 4 ∧ facetOf s n = some f ∧ f.fn = fn ∧ SMap.look
      f.sets set = some w ∧ setBusy s n f set w = false) ∧
    (∃ (fn : Nat) (h : Req) (b : List Byte) (f : Facet) (w : WSet) (s : State) (n : _) (set : _), Asked fn layWeightUnload
      true h b s ∧ 16 ≤ h.respLen ∧ n = field b 0 1 ∧ set = field b 4 4 ∧ facetOf s n = some f ∧ f.fn = fn ∧ SMap.look
      f.sets set = some w ∧ setBusy s n f set w = true) :=
  ⟨⟨(0), (askedHdr (ask opSegmentLoad (toLe 1 0 ++ toLe 1 0 ++ z 2 ++ toLe 4 0 ++ toLe 8 64 ++ toLe 4 176 ++ z 12) (on) 0
      4096) (0) (laySegment 0)), (askedBytes (ask opSegmentLoad (toLe 1 0 ++ toLe 1 0 ++ z 2 ++ toLe 4 0 ++ toLe 8 64 ++
      toLe 4 176 ++ z 12) (on) 0 4096) (0) (laySegment 0)), (seg1), (fac), (((takeBytes on 0 176 fac).getD ([], fac)).2),
      (seg1G), (((takeBytes on 0 176 fac).getD ([], fac)).1), (ask opSegmentLoad (toLe 1 0 ++ toLe 1 0 ++ z 2 ++ toLe 4 0 ++
      toLe 8 64 ++ toLe 4 176 ++ z 12) (on) 0 4096), _, _, by decide +kernel, by decide +kernel, rfl, by decide +kernel,
      by decide +kernel, by decide +kernel, by decide +kernel, by decide +kernel, by decide +kernel, by decide +kernel,
      by decide +kernel, by decide +kernel, by decide +kernel, by decide +kernel, by decide +kernel, rfl⟩,
    ⟨(0), (askedHdr (ask opSegmentLoad (toLe 1 0 ++ toLe 1 1 ++ z 2 ++ toLe 4 1 ++ toLe 8 64 ++ toLe 4 176 ++ z 12)
      ({ on with facets := [(0, fac2)] }) 0 4096) (0) (laySegment 1)), (askedBytes (ask opSegmentLoad (toLe 1 0 ++ toLe 1 1
      ++ z 2 ++ toLe 4 1 ++ toLe 8 64 ++ toLe 4 176 ++ z 12) ({ on with facets := [(0, fac2)] }) 0 4096) (0) (laySegment
      1)), _, (ask opSegmentLoad (toLe 1 0 ++ toLe 1 1 ++ z 2 ++ toLe 4 1 ++ toLe 8 64 ++ toLe 4 176 ++ z 12)
      ({ on with facets := [(0, fac2)] }) 0 4096), _, _, by decide +kernel, by decide +kernel, rfl, rfl, rfl,
      by decide +kernel⟩,
    ⟨(0), (askedHdr (ask opSegmentLoad (toLe 1 0 ++ toLe 1 1 ++ z 2 ++ toLe 4 1 ++ toLe 8 64 ++ toLe 4 176 ++ z 12)
      ({ on with facets := [(0, fac2)], cmds := [(9, { run1 with desc := dRun })] }) 0 4096) (0) (laySegment 1)),
      (askedBytes (ask opSegmentLoad (toLe 1 0 ++ toLe 1 1 ++ z 2 ++ toLe 4 1 ++ toLe 8 64 ++ toLe 4 176 ++ z 12)
      ({ on with facets := [(0, fac2)], cmds := [(9, { run1 with desc := dRun })] }) 0 4096) (0) (laySegment 1)), _, (ask
      opSegmentLoad (toLe 1 0 ++ toLe 1 1 ++ z 2 ++ toLe 4 1 ++ toLe 8 64 ++ toLe 4 176 ++ z 12)
      ({ on with facets := [(0, fac2)], cmds := [(9, { run1 with desc := dRun })] }) 0 4096), _, _, by decide +kernel,
      by decide +kernel, rfl, rfl, rfl, by decide +kernel⟩,
    ⟨(0), (askedHdr (ask opWeightSetLoad (f1 0 ++ f1 0 ++ f1 5 ++ z 1 ++ f4 9 ++ f8 4096 ++ f8 65824 ++ z 8)
      ({ on with sec := { on.sec with weightSlots := [(5, ⟨0, z 32⟩)] } }) 0 4096) (0) layWeightLoad), (askedBytes (ask
      opWeightSetLoad (f1 0 ++ f1 0 ++ f1 5 ++ z 1 ++ f4 9 ++ f8 4096 ++ f8 65824 ++ z 8)
      ({ on with sec := { on.sec with weightSlots := [(5, ⟨0, z 32⟩)] } }) 0 4096) (0) layWeightLoad), (wsCont), (true),
      (false), _, (wsh9), (ask opWeightSetLoad (f1 0 ++ f1 0 ++ f1 5 ++ z 1 ++ f4 9 ++ f8 4096 ++ f8 65824 ++ z 8)
      ({ on with sec := { on.sec with weightSlots := [(5, ⟨0, z 32⟩)] } }) 0 4096), _, rfl, rfl, by decide +kernel,
      wsCont_decode _ (by decide +kernel), by decide +kernel⟩,
    ⟨(0), (askedHdr (ask opWeightSetLoad (f1 0 ++ f1 0 ++ f1 5 ++ z 1 ++ f4 9 ++ f8 4096 ++ f8 65824 ++ z 8)
      ({ on with sec := { on.sec with weightSlots := [(5, ⟨0, z 32⟩)] } }) 0 4096) (0) layWeightLoad), (askedBytes (ask
      opWeightSetLoad (f1 0 ++ f1 0 ++ f1 5 ++ z 1 ++ f4 9 ++ f8 4096 ++ f8 65824 ++ z 8)
      ({ on with sec := { on.sec with weightSlots := [(5, ⟨0, z 32⟩)] } }) 0 4096) (0) layWeightLoad), (wsCont), (false),
      (false), _, (wsh9), (ask opWeightSetLoad (f1 0 ++ f1 0 ++ f1 5 ++ z 1 ++ f4 9 ++ f8 4096 ++ f8 65824 ++ z 8)
      ({ on with sec := { on.sec with weightSlots := [(5, ⟨0, z 32⟩)] } }) 0 4096), _, rfl, rfl, by decide +kernel,
      wsCont_decode _ (by decide +kernel), by decide +kernel⟩,
    ⟨(0), (3), (default), _, _, ({ on with facets := [(0, { fac with sets := [(3, { ws3 with ready := false })] })] }),
      ({ on with facets := [(0, { fac with sets := [(3, { ws3 with ready := false })] })] }), (true), by decide +kernel,
      rfl, rfl, by decide +kernel⟩,
    ⟨(0), (askedHdr (ask opWeightSetUnload (f1 0 ++ z 3 ++ f4 3)
      ({ on with facets := [(0, { fac with sets := [(3, ws3)] })] }) 0 4096) (0) layWeightUnload), (askedBytes (ask
      opWeightSetUnload (f1 0 ++ z 3 ++ f4 3) ({ on with facets := [(0, { fac with sets := [(3, ws3)] })] }) 0 4096) (0)
      layWeightUnload), _, _, (ask opWeightSetUnload (f1 0 ++ z 3 ++ f4 3)
      ({ on with facets := [(0, { fac with sets := [(3, ws3)] })] }) 0 4096), _, _, by decide +kernel, by decide +kernel,
      rfl, rfl, rfl, by decide +kernel, rfl, by decide +kernel⟩,
    ⟨(0), (askedHdr (ask opWeightSetUnload (f1 0 ++ z 3 ++ f4 3)
      ({ on with facets := [(0, { fac with sets := [(3, ws3)], planesSet := some 3 })] }) 0 4096) (0) layWeightUnload),
      (askedBytes (ask opWeightSetUnload (f1 0 ++ z 3 ++ f4 3)
      ({ on with facets := [(0, { fac with sets := [(3, ws3)], planesSet := some 3 })] }) 0 4096) (0) layWeightUnload), _,
      _, (ask opWeightSetUnload (f1 0 ++ z 3 ++ f4 3)
      ({ on with facets := [(0, { fac with sets := [(3, ws3)], planesSet := some 3 })] }) 0 4096), _, _, by decide +kernel,
      by decide +kernel, rfl, rfl, rfl, by decide +kernel, rfl, by decide +kernel⟩⟩

/-- The hypotheses of FirmwareUpdate hold together. -/
theorem witness_FirmwareUpdate :
    (∃ (fn : Nat) (h : Req) (b : List Byte) (image : List Byte) (sigsOk : Bool) (s : State) (i : _), i = imageOf image
      (field b 8 4) sigsOk ∧ AskedJob fn layFwUpdate false h b s ∧ field b 0 8 % 4096 = 0 ∧ field b 8 4 ≤ 16777216 ∧
      s.fw.update = none) ∧
    (∃ (fn : Nat) (h : Req) (b : List Byte) (image : List Byte) (sigsOk : Bool) (s : State) (i : _), i = imageOf image
      (field b 8 4) sigsOk ∧ Asked fn layFwUpdate false h b s ∧ 16 ≤ h.respLen ∧ ((field b 0 8 % 4096 ≠ 0 ∨ 16777216 < field
      b 8 4))) ∧
    (∃ (fn : Nat) (h : Req) (b : List Byte) (image : List Byte) (sigsOk : Bool) (s : State) (i : _), i = imageOf image
      (field b 8 4) sigsOk ∧ Asked fn layFwUpdate false h b s ∧ 16 ≤ h.respLen ∧ field b 0 8 % 4096 = 0 ∧ field b 8 4 ≤
      16777216 ∧ s.fw.update ≠ none) ∧
    (∃ (u : FwUpdate) (s : State), s.fw.update = some u ∧ u.phase = 1 ∧ imageAccepted s u.img = true) ∧
    (∃ (u : FwUpdate) (s : State), s.fw.update = some u ∧ u.phase = 1 ∧ imageAccepted s u.img = false) ∧
    (∃ (u : FwUpdate) (s : State), s.fw.update = some u ∧ u.phase = 2 ∧ quiet s = true ∧ (∀ e ∈ s.facets, e.2.resize =
      none)) ∧
    (∃ (u : FwUpdate) (s : State), s.fw.update = some u ∧ u.phase = 3) ∧
    (∃ (u : FwUpdate) (s : State), s.fw.update = some u ∧ u.phase = 4 ∧ u.cluster < 31) ∧
    (∃ (u : FwUpdate) (s : State), s.fw.update = some u ∧ u.phase = 4 ∧ u.cluster = 31) ∧
    (∃ (u : FwUpdate) (s : State), s.fw.update = some u ∧ u.phase = 4) ∧
    (∃ (u : FwUpdate) (s : State), s.fw.update = some u ∧ u.phase = 5) ∧
    (∃ (u : FwUpdate) (s : State), s.fw.update = some u ∧ u.phase = 5 ∧ s.fw.ccUpdated = [] ∧ quiet s = true) ∧
    (∃ (u : FwUpdate) (s : State), s.fw.update = some u ∧ u.phase = 6) :=
  ⟨⟨(0), (askedHdr (ask opFwUpdate (f8 4096 ++ f4 16777216 ++ z 4) (on) 0 4096) (0) layFwUpdate), (askedBytes (ask
      opFwUpdate (f8 4096 ++ f4 16777216 ++ z 4) (on) 0 4096) (0) layFwUpdate), ([]), (false), (ask opFwUpdate (f8 4096 ++
      f4 16777216 ++ z 4) (on) 0 4096), _, rfl, by decide +kernel⟩,
    ⟨(0), (askedHdr (ask opFwUpdate (f8 4095 ++ f4 16777216 ++ z 4) (on) 0 4096) (0) layFwUpdate), (askedBytes (ask
      opFwUpdate (f8 4095 ++ f4 16777216 ++ z 4) (on) 0 4096) (0) layFwUpdate), ([]), (false), (ask opFwUpdate (f8 4095 ++
      f4 16777216 ++ z 4) (on) 0 4096), _, rfl, by decide +kernel⟩,
    ⟨(0), (askedHdr (ask opFwUpdate (f8 4096 ++ f4 16777216 ++ z 4)
      ({ on with fw := { on.fw with update := some { phase := 1, img := ⟨true, 3, true, 64, 2, true, 16777216, z 256⟩, ticket := ⟨0, 1, opFwUpdate⟩ } } })
      0 4096) (0) layFwUpdate), (askedBytes (ask opFwUpdate (f8 4096 ++ f4 16777216 ++ z 4)
      ({ on with fw := { on.fw with update := some { phase := 1, img := ⟨true, 3, true, 64, 2, true, 16777216, z 256⟩, ticket := ⟨0, 1, opFwUpdate⟩ } } })
      0 4096) (0) layFwUpdate), ([]), (false), (ask opFwUpdate (f8 4096 ++ f4 16777216 ++ z 4)
      ({ on with fw := { on.fw with update := some { phase := 1, img := ⟨true, 3, true, 64, 2, true, 16777216, z 256⟩, ticket := ⟨0, 1, opFwUpdate⟩ } } })
      0 4096), _, rfl, by decide +kernel⟩,
    ⟨_,
      ({ on with fw := { on.fw with update := some { phase := 1, img := ⟨true, 3, true, 64, 2, true, 16777216, z 256⟩, ticket := ⟨0, 1, opFwUpdate⟩ } } }),
      rfl, by decide +kernel⟩,
    ⟨_,
      ({ { on with fw := { on.fw with update := some { phase := 1, img := ⟨true, 3, true, 64, 2, true, 16777216, z 256⟩, ticket := ⟨0, 1, opFwUpdate⟩ } } } with fuses := { on.fuses with revoked := [3] } }),
      rfl, by decide +kernel⟩,
    ⟨_,
      ({ on with fw := { on.fw with update := some { phase := 2, img := ⟨true, 3, true, 64, 2, true, 16777216, z 256⟩, ticket := ⟨0, 1, opFwUpdate⟩ } } }),
      rfl, by decide +kernel⟩,
    ⟨_,
      ({ on with fw := { on.fw with update := some { phase := 3, img := ⟨true, 3, true, 64, 2, true, 16777216, z 256⟩, ticket := ⟨0, 1, opFwUpdate⟩ } } }),
      rfl, by decide +kernel⟩,
    ⟨_,
      ({ on with fw := { on.fw with update := some { phase := 4, img := ⟨true, 3, true, 64, 2, true, 16777216, z 256⟩, ticket := ⟨0, 1, opFwUpdate⟩, cluster := 30 } } }),
      rfl, by decide +kernel⟩,
    ⟨_,
      ({ on with fw := { on.fw with update := some { phase := 4, img := ⟨true, 3, true, 64, 2, true, 16777216, z 256⟩, ticket := ⟨0, 1, opFwUpdate⟩, cluster := 31 } } }),
      rfl, by decide +kernel⟩,
    ⟨_,
      ({ on with fw := { on.fw with update := some { phase := 4, img := ⟨true, 3, true, 64, 2, true, 16777216, z 256⟩, ticket := ⟨0, 1, opFwUpdate⟩ } } }),
      rfl, by decide +kernel⟩,
    ⟨_,
      ({ on with fw := { on.fw with update := some { phase := 5, img := ⟨true, 3, true, 64, 2, true, 16777216, z 256⟩, ticket := ⟨0, 1, opFwUpdate⟩ } } }),
      rfl, by decide +kernel⟩,
    ⟨_,
      ({ on with fw := { on.fw with update := some { phase := 5, img := ⟨true, 3, true, 64, 2, true, 16777216, z 256⟩, ticket := ⟨0, 1, opFwUpdate⟩ } } }),
      rfl, by decide +kernel⟩,
    ⟨_,
      ({ on with fw := { on.fw with update := some { phase := 6, img := ⟨true, 3, true, 64, 2, true, 16777216, z 256⟩, ticket := ⟨0, 1, opFwUpdate⟩ } } }),
      rfl, by decide +kernel⟩⟩

/-- The hypotheses of PowerAndHeat hold together. -/
theorem witness_PowerAndHeat :
    (∃ (fn : Nat) (h : Req) (d : List Byte) (s : State) (b : _), Asked fn (layPower 0) false h d s ∧ 30 ≤ h.respLen ∧ b =
      powerBody d ∧ powerBodyOk b = true) ∧
    (∃ (fn : Nat) (h : Req) (d : List Byte) (s : State) (b : _), Asked fn (layPower 0) false h d s ∧ 30 ≤ h.respLen ∧ b =
      powerBody d ∧ powerBodyOk b = false) ∧
    (∃ (fn : Nat) (h : Req) (d : List Byte) (s : State), fn < 64 ∧ askedBy s fn (layPower 1) = some (h, d) ∧ gate
      (ignoreBody h) opPowerLimits false s = none ∧ 30 ≤ h.respLen) ∧
    (∃ (half : Nat) (s : State), half < 2 ∧ s.pwr.state = 0 ∧ s.pwr.stage = 5 ∧ s.pwr.dimDisable = false ∧ halfOn s (half ==
      1) = true ∧ halfWorks s (half == 1) = false) ∧
    (∃ (half : Nat) (s : State), half < 2 ∧ ((s.pwr.dimDisable = true ∨ halfWorks s (half == 1) = true))) ∧
    (∃ (peak : Nat) (sust : Nat) (s : State), s.pwr.mcRunning = true ∧ s.pwr.stage = 5 ∧ s.pwr.state = 0 ∧ s.pwr.halt = none
      ∧ (s.pwr.peakW * 97 < peak * 100 ∨ s.pwr.sustW * 97 < sust * 100)) ∧
    (∃ (peak : Nat) (sust : Nat) (s : State) (since : _), s.pwr.mcRunning = true ∧ s.pwr.stage = 5 ∧ s.pwr.state = 0 ∧
      s.pwr.halt = none ∧ peak * 100 < s.pwr.peakW * 90 ∧ sust * 100 < s.pwr.sustW * 90 ∧ s.pwr.calmSince = some since ∧
      since + 1000000 ≤ mcNow s) ∧
    (∃ (half : Nat) (s : State), half < 2 ∧ s.pwr.settling = true ∧ s.pwr.issue < 16) ∧
    (∃ (half : Nat) (s : State), half < 2 ∧ s.pwr.settling = true ∧ 16 ≤ s.pwr.issue ∧ halfRow s.pwr (half == 1) < 2 ∧ halfN
      s.pwr (half == 1) < 16) ∧
    (∃ (k : Nat) (l : List Int) (s : State), k < 32 ∧ l.length = 8 ∧ halfOn s (eastCluster k) = false) ∧
    (∃ (k : Nat) (l : List Int) (s : State), k < 32 ∧ l.length = 8 ∧ halfOn s (eastCluster k) = true) ∧
    (∃ (n : Nat) (s : State), okTrip n = true ∧ s.pwr.halt = none ∧ s.pwr.state ≠ 4 ∧ s.pwr.state ≠ 2 ∧ computeOn s = true) ∧
    (∃ (n : Nat) (s : State), okTrip n = true ∧ s.pwr.halt = none ∧ s.pwr.state ≠ 4 ∧ s.pwr.state = 2) ∧
    (∃ (s : State), s.pwr.coolOk = false ∧ s.pwr.coolTimer = true ∧ s.pwr.halt = none ∧ s.pwr.state ≠ 4 ∧ s.pwr.state ≠ 2 ∧
      computeOn s = true) ∧
    (∃ (s : State), s.pwr.coolOk = false ∧ s.pwr.coolTimer = true ∧ s.pwr.halt = none ∧ s.pwr.state ≠ 4 ∧ s.pwr.state = 2) ∧
    (∃ (x : Machine.Halt) (s : State), s.pwr.halt = some x ∧ s.fw.handover = false) ∧
    (∃ (x : Machine.Halt) (s : State), s.pwr.halt = some x) ∧
    (∃ (s : State), s.pwr.coolOk = true) ∧
    (∃ (s : State), s.pwr.coolOk = false ∧ s.pwr.coolTimer = true) ∧
    (∃ (s : State), s.pwr.coolOk = false ∧ s.pwr.coolTimer = false) ∧
    (∃ (s : State), s.pwr.coolOk = true ∧ s.pwr.order ≠ 3) ∧
    (∃ (s : State), s.pwr.coolOk = true ∧ s.pwr.order = 3) :=
  ⟨⟨(0), (askedHdr (ask opPowerLimits (f1 0 ++ f1 0 ++ f2 800 ++ f2 700 ++ f1 100 ++ z 1 ++ f2 850 ++ f2 600 ++ f2 85 ++ f2
      10000) (on) 0 4096) (0) (layPower 0)), (askedBytes (ask opPowerLimits (f1 0 ++ f1 0 ++ f2 800 ++ f2 700 ++ f1 100 ++ z
      1 ++ f2 850 ++ f2 600 ++ f2 85 ++ f2 10000) (on) 0 4096) (0) (layPower 0)), (ask opPowerLimits (f1 0 ++ f1 0 ++ f2 800
      ++ f2 700 ++ f1 100 ++ z 1 ++ f2 850 ++ f2 600 ++ f2 85 ++ f2 10000) (on) 0 4096), _, by decide +kernel,
      by decide +kernel, rfl, by decide +kernel⟩,
    ⟨(0), (askedHdr (ask opPowerLimits (f1 0 ++ f1 0 ++ f2 800 ++ f2 801 ++ f1 100 ++ z 1 ++ f2 850 ++ f2 600 ++ f2 85 ++ f2
      10000) (on) 0 4096) (0) (layPower 0)), (askedBytes (ask opPowerLimits (f1 0 ++ f1 0 ++ f2 800 ++ f2 801 ++ f1 100 ++ z
      1 ++ f2 850 ++ f2 600 ++ f2 85 ++ f2 10000) (on) 0 4096) (0) (layPower 0)), (ask opPowerLimits (f1 0 ++ f1 0 ++ f2 800
      ++ f2 801 ++ f1 100 ++ z 1 ++ f2 850 ++ f2 600 ++ f2 85 ++ f2 10000) (on) 0 4096), _, by decide +kernel,
      by decide +kernel, rfl, by decide +kernel⟩,
    ⟨(0), (askedHdr (ask opPowerLimits (f1 1 ++ z 15) (on) 0 4096) (0) (layPower 1)), (askedBytes (ask opPowerLimits (f1 1
      ++ z 15) (on) 0 4096) (0) (layPower 1)), (ask opPowerLimits (f1 1 ++ z 15) (on) 0 4096), by decide +kernel⟩,
    ⟨(1), (up), by decide +kernel⟩,
    ⟨(1), ({ up with pwr := { up.pwr with dimDisable := true } }), by decide +kernel⟩,
    ⟨(1900), (0), (up), by decide +kernel⟩,
    ⟨(0), (0),
      ({ { up with pwr := { up.pwr with calmSince := some 0 } } with time := { up.time with ltc := [(42, 1000000)] } }), _,
      by decide +kernel, by decide +kernel, by decide +kernel, by decide +kernel, by decide +kernel, by decide +kernel, rfl,
      by decide +kernel⟩,
    ⟨(1), ({ up with pwr := { up.pwr with settling := true, issue := 15 } }), by decide +kernel⟩,
    ⟨(1), ({ up with pwr := { up.pwr with settling := true, issue := 16, eastN := 15 } }), by decide +kernel⟩,
    ⟨(31), (List.replicate 8 0), ({ up with pwr := { up.pwr with railsOn := [] } }), by decide +kernel⟩,
    ⟨(31), (List.replicate 7 0 ++ [1051]), (up), by decide +kernel⟩,
    ⟨(0x107), (up), by decide +kernel⟩,
    ⟨(0x107), ({ up with pwr := { up.pwr with state := 2 } }), by decide +kernel⟩,
    ⟨({ up with pwr := { up.pwr with coolOk := false, coolTimer := true } }), by decide +kernel⟩,
    ⟨({ up with pwr := { up.pwr with coolOk := false, coolTimer := true, state := 2 } }), by decide +kernel⟩,
    ⟨_, ({ up with pwr := { up.pwr with halt := some ⟨true, 2, true, 0, 1250⟩ } }), rfl, by decide +kernel⟩,
    ⟨_, ({ up with pwr := { up.pwr with halt := some ⟨true, 2, true, 0, 1250⟩ } }), rfl⟩,
    ⟨(up), by decide +kernel⟩,
    ⟨({ up with pwr := { up.pwr with coolOk := false, coolTimer := true } }), by decide +kernel⟩,
    ⟨({ up with pwr := { up.pwr with coolOk := false } }), by decide +kernel⟩,
    ⟨(up), by decide +kernel⟩,
    ⟨({ State.reset with pwr := { State.reset.pwr with coolOk := true, order := 3 } }), by decide +kernel⟩⟩

/-- The hypotheses of SetPointsWithinVmax hold together. -/
theorem witness_SetPointsWithinVmax :
    ∃ (peak : Nat) (sust : Nat) (s : State) (t : State), s.pwr.mcRunning = true ∧ s.pwr.stage = 5 ∧ s.pwr.state ≠ 2 ∧
      s.pwr.state ≠ 4 ∧ s.pwr.halt = none ∧ 600 ≤ s.pwr.vmaxW ∧ 600 ≤ s.pwr.vmaxE ∧ exec (.governorSample peak sust) s =
      .next t :=
  ⟨(1900), (0), (up), _, by decide +kernel, by decide +kernel, by decide +kernel, by decide +kernel, by decide +kernel,
    by decide +kernel, by decide +kernel, rfl⟩

/-- The hypotheses of QueuesAndSlots hold together. -/
theorem witness_QueuesAndSlots :
    (∃ (f : Nat) (n : Nat) (v : Nat) (q : Machine.Queue) (s : State), f < 64 ∧ n < 16384 ∧ v < 65536 ∧ SMap.look s.queues n
      = some q ∧ q.fn = f ∧ q.destroying = none ∧ cnt v q.completed ≤ 2 ^ q.subLog2 ∧ cnt v q.tail ≤ cnt v q.completed) ∧
    (∃ (f : Nat) (n : Nat) (v : Nat) (q : Machine.Queue) (s : State), f < 64 ∧ n < 16384 ∧ v < 65536 ∧ SMap.look s.queues n
      = some q ∧ q.fn = f ∧ q.destroying = none ∧ 2 ^ q.subLog2 < cnt v q.completed) ∧
    (∃ (f : Nat) (n : Nat) (v : Nat) (q : Machine.Queue) (s : State), f < 64 ∧ n < 16384 ∧ v < 65536 ∧ SMap.look s.queues n
      = some q ∧ q.fn = f ∧ cnt v q.compHead ≤ cnt q.completed q.compHead) ∧
    (∃ (f : Nat) (n : Nat) (v : Nat) (q : Machine.Queue) (s : State), f < 64 ∧ n < 16384 ∧ v < 65536 ∧ SMap.look s.queues n
      = some q ∧ q.fn = f ∧ cnt q.completed q.compHead < cnt v q.compHead) ∧
    (∃ (n : Nat) (s : State), n ∈ slotWaiters s ∧ (residents s).length < Config.residentSlots) ∧
    (∃ (n : Nat) (s : State) (m : _), n ∈ slotWaiters s ∧ Config.residentSlots ≤ (residents s).length ∧ idleResident s =
      some m) ∧
    (∃ (n : Nat) (s : State), slotWaiters s = [n] ∧ (residents s).length < Config.residentSlots) ∧
    (∃ (s : State), slotWaiters s = []) :=
  ⟨⟨(0), (16383), (16), _, ({ on with queues := [(16383, que)] }), by decide +kernel, by decide +kernel, by decide +kernel,
      rfl, by decide +kernel⟩,
    ⟨(0), (16383), (17), _, ({ on with queues := [(16383, que)] }), by decide +kernel, by decide +kernel, by decide +kernel,
      rfl, by decide +kernel⟩,
    ⟨(0), (16383), (3), _, ({ on with queues := [(16383, { que with completed := 3 })] }), by decide +kernel,
      by decide +kernel, by decide +kernel, rfl, by decide +kernel⟩,
    ⟨(0), (16383), (4), _, ({ on with queues := [(16383, { que with completed := 3 })] }), by decide +kernel,
      by decide +kernel, by decide +kernel, rfl, by decide +kernel⟩,
    ⟨(1), ({ on with queues := [(1, { que with resident := false, tail := 1 })] }), by decide +kernel⟩,
    ⟨(16383), (manyQueues), _, by decide +kernel, by decide +kernel, rfl⟩,
    ⟨(1), ({ on with queues := [(1, { que with resident := false, tail := 1 })] }), by decide +kernel⟩,
    ⟨(on), by decide +kernel⟩⟩

/-- The hypotheses of CommandsInOrder hold together. -/
theorem witness_CommandsInOrder :
    (∃ (n : Nat) (b : List Byte) (d : Desc) (q : Machine.Queue) (f : Facet) (s : State) (c : Cmd) (t : _), d = descOf b ∧
      SMap.look s.queues n = some q ∧ q.resident = true ∧ q.marked = false ∧ q.destroying = none ∧ q.current = none ∧ 0 <
      unfetched q ∧ computeUp s = true ∧ s.pwr.fetchStop = false ∧ s.pwr.westParked = false ∧ facetOf s q.facet = some f ∧ c
      =
      { queue := n, index := q.fetched, fn := q.fn, facet := q.facet, report := q.report, desc := d, clk := f.master, acceptedAt := ltcOf s f.master }
      ∧ t = setCmd s.nextCmd c (setQueue n { q with fetched := (q.fetched + 1) % 65536, current := some s.nextCmd }
      (undimFacet q.facet { s with nextCmd := s.nextCmd + 1 })) ∧ fetchStatus s q d = none) ∧
    (∃ (n : Nat) (b : List Byte) (d : Desc) (q : Machine.Queue) (f : Facet) (s : State) (c : Cmd) (t : _) (st : _) (x :
      Nat), d = descOf b ∧ SMap.look s.queues n = some q ∧ q.resident = true ∧ q.marked = false ∧ q.destroying = none ∧
      q.current = none ∧ 0 < unfetched q ∧ computeUp s = true ∧ s.pwr.fetchStop = false ∧ s.pwr.westParked = false ∧ facetOf
      s q.facet = some f ∧ c =
      { queue := n, index := q.fetched, fn := q.fn, facet := q.facet, report := q.report, desc := d, clk := f.master, acceptedAt := ltcOf s f.master }
      ∧ t = setCmd s.nextCmd c (setQueue n { q with fetched := (q.fetched + 1) % 65536, current := some s.nextCmd }
      (undimFacet q.facet { s with nextCmd := s.nextCmd + 1 })) ∧ fetchStatus s q d = some (st, x)) ∧
    (∃ (id : Nat) (n : Nat) (c : Cmd) (q : Machine.Queue) (s : State) (t : State), cmdOf s id = some c ∧ c.phase = .waiting
      ∧ c.ready = false ∧ SMap.look s.queues c.queue = some q ∧ c.desc.payload = .nop ∧ c.desc.waitEn = true ∧ readFence q
      c.desc.waitFence s = (.inl n, t) ∧ c.desc.waitValue ≤ n) ∧
    (∃ (id : Nat) (n : Nat) (c : Cmd) (q : Machine.Queue) (s : State) (t : State), cmdOf s id = some c ∧ c.phase = .waiting
      ∧ c.ready = false ∧ SMap.look s.queues c.queue = some q ∧ c.desc.payload = .nop ∧ c.desc.waitEn = true ∧ readFence q
      c.desc.waitFence s = (.inl n, t) ∧ n < c.desc.waitValue) ∧
    (∃ (id : Nat) (c : Cmd) (s : State), cmdOf s id = some c ∧ c.desc.deadline ≠ 0 ∧ c.remote = none ∧ c.phase = .waiting) ∧
    (∃ (id : Nat) (c : Cmd) (s : State), cmdOf s id = some c ∧ c.desc.deadline ≠ 0 ∧ c.remote = none ∧ c.phase = .running) ∧
    (∃ (n : Nat) (c : Nat) (f : Facet) (s : State), n < 64 ∧ facetOf s n = some f ∧ placementHeld s n f = false ∧ rejectRuns
      n s = s ∧ f.chosen = none ∧ SMap.look s.serve n = none ∧ chooseRun s n f = some c ∧ needsSwitch s f c = false ∧
      s.facets = SMap.put s.facets n f) ∧
    (∃ (id : Nat) (c : Cmd) (f : Facet) (s : State), cmdOf s id = some c ∧ facetOf s c.facet = some f ∧ isRun c.desc.payload
      = true ∧ f.chosen = some id ∧ placementHeld s c.facet f = false ∧ mayStartRun s id = true ∧ ladderStatus f (ladderOf
      c) = none ∧ needsSwitch s f id = false) ∧
    (∃ (id : Nat) (c : Cmd) (f : Facet) (s : State), cmdOf s id = some c ∧ facetOf s c.facet = some f ∧ isRun c.desc.payload
      = true ∧ f.chosen = some id ∧ placementHeld s c.facet f = false ∧ mayStartRun s id = true ∧ ladderStatus f (ladderOf
      c) = none ∧ needsSwitch s f id = true) ∧
    (∃ (id : Nat) (c : Cmd) (f : Facet) (s : State) (st : _), cmdOf s id = some c ∧ facetOf s c.facet = some f ∧ isRun
      c.desc.payload = true ∧ f.chosen = some id ∧ placementHeld s c.facet f = false ∧ mayStartRun s id = true ∧
      ladderStatus f (ladderOf c) = some st) ∧
    (∃ (n : Nat) (id : Nat) (set : Nat) (f : Facet) (s : State), n < 64 ∧ facetOf s n = some f ∧ f.switching = some (id,
      set) ∧ f.loads = [] ∧ f.eclipse = none ∧ f.resize = none ∧ id < 2 ^ 32) ∧
    (∃ (id : Nat) (c : Cmd) (s : State), cmdOf s id = some c ∧ c.phase = .ended ∧ c.remote = none) ∧
    (∃ (n : Nat) (q : Machine.Queue) (s : State), SMap.look s.queues n = some q ∧ q.source = 0 ∧ compRoom q = true ∧
      q.waiting = []) ∧
    (∃ (n : Nat) (q : Machine.Queue) (s : State), SMap.look s.queues n = some q ∧ q.source = 0 ∧ compRoom q = false) :=
  ⟨⟨(0), (z 2 ++ f2 1 ++ z 124), _, _, _, ({ on with queues := [(0, { que with tail := 1 })] }), _, _, rfl, rfl,
      by decide +kernel, by decide +kernel, by decide +kernel, by decide +kernel, by decide +kernel, by decide +kernel,
      by decide +kernel, by decide +kernel, rfl, rfl, rfl, by decide +kernel⟩,
    ⟨(0), (z 2 ++ f2 2 ++ z 124), _, _, _, ({ on with queues := [(0, { que with tail := 1 })] }), _, _, (stBadHandle), (0),
      rfl, rfl, by decide +kernel, by decide +kernel, by decide +kernel, by decide +kernel, by decide +kernel,
      by decide +kernel, by decide +kernel, by decide +kernel, rfl, rfl, rfl, by decide +kernel⟩,
    ⟨(9), _, _, _,
      ({ on with cmds := [(9, { run1 with phase := .waiting, ready := false, desc := { dNop with waitEn := true, waitFence := 3, waitValue := 0 } })] }),
      _, rfl, by decide +kernel, by decide +kernel, rfl, by decide +kernel, by decide +kernel, rfl, by decide +kernel⟩,
    ⟨(9), _, _, _,
      ({ on with cmds := [(9, { run1 with phase := .waiting, ready := false, desc := { dNop with waitEn := true, waitFence := 3, waitValue := (2 ^ 64) } })] }),
      _, rfl, by decide +kernel, by decide +kernel, rfl, by decide +kernel, by decide +kernel, rfl, by decide +kernel⟩,
    ⟨(9), _, ({ on with cmds := [(9, { run1 with phase := .waiting, desc := { dNop with deadline := 1 } })] }), rfl,
      by decide +kernel⟩,
    ⟨(9), _, ({ on with cmds := [(9, { run1 with desc := { dNop with deadline := 1 } })] }), rfl, by decide +kernel⟩,
    ⟨(0), _, _, ({ serving serve0 (.runSegment 1 []) with serve := [], facets := [(0, { fac2 with chosen := none })] }),
      by decide +kernel, rfl, by decide +kernel, by decide +kernel, by decide +kernel, by decide +kernel, rfl,
      by decide +kernel⟩,
    ⟨(9), _, _, ({ serving serve0 (.runSegment 1 []) with serve := [], facets := [(0, { fac2 with chosen := some 9 })] }),
      rfl, rfl, by decide +kernel⟩,
    ⟨(9), _, _,
      ({ serving serve0 (.runSegment 1 []) with serve := [], facets := [(0, { fac2 with chosen := some 9, planesSet := none })] }),
      rfl, rfl, by decide +kernel⟩,
    ⟨(9), _, _,
      ({ serving serve0 (.runSegment 1 []) with serve := [], facets := [(0, { fac2 with chosen := some 9, ladders := [] })] }),
      _, rfl, rfl, by decide +kernel, by decide +kernel, by decide +kernel, by decide +kernel, rfl⟩,
    ⟨(0), (9), (3), _,
      ({ serving serve0 (.runSegment 1 []) with serve := [], facets := [(0, { fac2 with switching := some (9, 3) })] }),
      by decide +kernel, rfl, by decide +kernel⟩,
    ⟨(9), _, ({ on with cmds := [(9, { run1 with phase := .ended })] }), rfl, by decide +kernel⟩,
    ⟨(0), _, (on), rfl, by decide +kernel⟩,
    ⟨(0), _, ({ on with queues := [(0, { que with completed := 16 })] }), rfl, by decide +kernel⟩⟩

/-- The hypotheses of QueueCommands hold together. -/
theorem witness_QueueCommands :
    (∃ (id : Nat) (c : Cmd) (s : State), cmdOf s id = some c ∧ mayStart s id = true ∧ c.met = [] ∧ c.late = false) ∧
    (∃ (id : Nat) (c : Cmd) (q : Machine.Queue) (l : List (Nat × Nat)) (s : State), cmdOf s id = some c ∧ mayStart s id =
      true ∧ c.desc.payload = .fenceSignal l ∧ SMap.look s.queues c.queue = some q) ∧
    (∃ (q : Machine.Queue) (i : Nat) (v : Nat) (n : Nat) (s : State) (t : State), readFence q i s = (.inl n, t) ∧ n < v) ∧
    (∃ (q : Machine.Queue) (i : Nat) (v : Nat) (n : Nat) (s : State) (t : State), readFence q i s = (.inl n, t) ∧ v ≤ n) ∧
    (∃ (id : Nat) (host : List Byte) (c : Cmd) (s : State) (u : State) (t : State), cmdOf s id = some c ∧ mayStart s id =
      true ∧ u = startCmd id (dmaWorks (cmdMover s id c).cluster c.facet s) ∧ isCopy c.desc.payload = true ∧ copyMove id
      host c u = (none, t)) ∧
    (∃ (id : Nat) (c : Cmd) (s : State) (u : State) (t : State), cmdOf s id = some c ∧ mayStart s id = true ∧ u = startCmd
      id (dmaWorks (cmdMover s id c).cluster c.facet s) ∧ isFill c.desc.payload = true ∧ fillMove id c u = (none, t)) ∧
    (∃ (id : Nat) (c : Cmd) (s : State) (u : State) (t : State) (st : _) (d : Nat), cmdOf s id = some c ∧ mayStart s id =
      true ∧ u = startCmd id (dmaWorks (cmdMover s id c).cluster c.facet s) ∧ isFill c.desc.payload = true ∧ fillMove id c u
      = (some (.fail st d), t)) ∧
    (∃ (id : Nat) (c : Cmd) (s : State) (u : State) (target : Nat) (all : _) (va : Nat) (pages : Nat) (x : _), cmdOf s id =
      some c ∧ mayStart s id = true ∧ u = startCmd id (dmaWorks (cmdMover s id c).cluster c.facet s) ∧ c.desc.payload =
      .shadowInvalidate target all va pages ∧ SMap.look s.ctxs target = some x ∧ x.fn = c.fn ∧ (all = true ∨ 0 < pages)) ∧
    (∃ (id : Nat) (c : Cmd) (s : State) (u : State) (target : Nat) (all : _) (va : Nat) (pages : Nat) (x : _), cmdOf s id =
      some c ∧ mayStart s id = true ∧ u = startCmd id (dmaWorks (cmdMover s id c).cluster c.facet s) ∧ c.desc.payload =
      .shadowInvalidate target all va pages ∧ SMap.look s.ctxs target = some x ∧ x.fn ≠ c.fn) ∧
    (∃ (n : Nat) (k : Nat), k < n) :=
  ⟨⟨(9), _, (serving serve0 (.nop)), rfl, by decide +kernel⟩,
    ⟨(9), _, _, ([(0, 1)]), (serving serve0 (.fenceSignal [(0, 1)])), rfl, by decide +kernel, by decide +kernel, rfl⟩,
    ⟨(que), (3), (2 ^ 64), _, (on), _, rfl, by decide +kernel⟩,
    ⟨(que), (3), (0), _, (on), _, rfl, by decide +kernel⟩,
    ⟨(9), ([]), _, (serving serve0 (.copy ⟨0, 1024, 64, 1, 1, 0, 0, 0x0102⟩)), _, _, rfl, by decide +kernel, rfl,
      by decide +kernel, rfl⟩,
    ⟨(9), _, (serving serve0 (.fill ⟨0, 1024, 64, 0, 1, 0, 0, 0x0102⟩)), _, _, rfl, by decide +kernel, rfl,
      by decide +kernel, rfl⟩,
    ⟨(9), _, (serving serve0 (.fill ⟨0, 2 ^ 40, 64, 0, 1, 0, 0, 0x0102⟩)), _, _, (stUnmapped), (2 ^ 40), rfl,
      by decide +kernel, rfl, by decide +kernel, rfl⟩,
    ⟨(9), _, (serving serve0 (.shadowInvalidate 1 false 0 1)), _, (1), (false), (0), (1), _, rfl, by decide +kernel, rfl,
      by decide +kernel, rfl, by decide +kernel⟩,
    ⟨(9), _, ({ serving serve0 (.shadowInvalidate 1 true 0 0) with ctxs := [(1, { ctx0 with fn := 3 })] }), _, (1), (true),
      (0), (0), _, rfl, by decide +kernel, rfl, by decide +kernel, rfl, by decide +kernel⟩,
    ⟨(64), (63), by decide +kernel⟩⟩

/-- The hypotheses of Serving hold together. -/
theorem witness_Serving :
    (∃ (id : Nat) (c : Cmd) (f : Facet) (v : Machine.Serve) (s : State) (a : CfgArgs), cmdOf s id = some c ∧ mayStart s id =
      true ∧ facetOf s c.facet = some f ∧ SMap.look s.serve c.facet = some v ∧ c.desc.payload = .configure a ∧ configureOk f
      v a = true) ∧
    (∃ (id : Nat) (c : Cmd) (f : Facet) (v : Machine.Serve) (s : State) (a : CfgArgs), cmdOf s id = some c ∧ mayStart s id =
      true ∧ facetOf s c.facet = some f ∧ SMap.look s.serve c.facet = some v ∧ c.desc.payload = .configure a ∧ configureOk f
      v a = false) ∧
    (∃ (id : Nat) (c : Cmd) (f : Facet) (v : Machine.Serve) (s : State) (a : AdmitArgs) (image : List Byte) (slot : Nat) (d
      : List Byte × List Byte) (t : State), cmdOf s id = some c ∧ mayStart s id = true ∧ facetOf s c.facet = some f ∧
      SMap.look s.serve c.facet = some v ∧ c.desc.payload = .seqAdmit a ∧ v.configured = true ∧ a.ladder = v.ladder ∧
      freeSlot s c.facet v = some slot ∧ moverRead (cmdMover (startCmd id s) id c) 0 0 a.record 256 image (startCmd id s) =
      (.inl d, t) ∧ admitStatus t c.facet f v a d.1 = none) ∧
    (∃ (id : Nat) (c : Cmd) (f : Facet) (v : Machine.Serve) (s : State) (x : Nat) (k : Nat) (q : Machine.Seq), cmdOf s id =
      some c ∧ mayStart s id = true ∧ facetOf s c.facet = some f ∧ SMap.look s.serve c.facet = some v ∧ c.desc.payload =
      .seqCancel x ∧ slotOfSeq v x = some k ∧ SMap.look v.seqs k = some q ∧ q.context = c.desc.context) ∧
    (∃ (id : Nat) (c : Cmd) (f : Facet) (v : Machine.Serve) (s : State) (x : Nat) (k : Nat) (q : Machine.Seq), cmdOf s id =
      some c ∧ mayStart s id = true ∧ facetOf s c.facet = some f ∧ SMap.look s.serve c.facet = some v ∧ c.desc.payload =
      .seqCancel x ∧ slotOfSeq v x = some k ∧ SMap.look v.seqs k = some q ∧ q.context ≠ c.desc.context) ∧
    (∃ (n : Nat) (s : State), n < 64 ∧ mayBuild s n = true) ∧
    (∃ (n : Nat) (s : State), n < 64 ∧ mayBuild s n = false) ∧
    (∃ (n : Nat) (v : Machine.Serve) (p : Machine.Step) (s : State), n < 64 ∧ SMap.look s.serve n = some v ∧ v.step = some p
      ∧ p.copiesDone = false) ∧
    (∃ (n : Nat) (f : Facet) (v : Machine.Serve) (p : Machine.Step) (s : State) (t : State), n < 64 ∧ facetOf s n = some f ∧
      SMap.look s.serve n = some v ∧ v.step = some p ∧ p.started = true ∧ p.done = false ∧ p.run = 0 ∧ p.due = 0 ∧
      f.switching = none ∧ f.eclipse = none ∧ coresEnded s (stepRun n) f.cores f.stepMet = true ∧ t = freeCores (stepRun n)
      f.cores (checkCores f.cores s) ∧ (∃ g, facetOf t n = some g ∧ g.stepMet = [])) ∧
    (∃ (n : Nat) (x : Nat) (k : Nat) (v : Machine.Serve) (q : Machine.Seq) (s : State), n < 64 ∧ SMap.look s.serve n = some
      v ∧ slotOfSeq v x = some k ∧ SMap.look v.seqs k = some q ∧ q.leave = none ∧ (q.state = 1 ∨ q.state = 2) ∧
      q.firstDeadline ≠ 0) ∧
    (∃ (n : Nat) (x : Nat) (k : Nat) (v : Machine.Serve) (q : Machine.Seq) (s : State), n < 64 ∧ SMap.look s.serve n = some
      v ∧ slotOfSeq v x = some k ∧ SMap.look v.seqs k = some q ∧ q.leave = none ∧ (q.state = 1 ∨ q.state = 2) ∧
      q.firstDeadline = 0) :=
  ⟨⟨(9), _, _, _, (serving serve0 (.configure ⟨1, 0, 64, 0, 1⟩)), (⟨1, 0, 64, 0, 1⟩), rfl, by decide +kernel, rfl, rfl,
      by decide +kernel⟩,
    ⟨(9), _, _, _, (serving serve0 (.configure ⟨9, 0, 64, 0, 1⟩)), (⟨9, 0, 64, 0, 1⟩), rfl, by decide +kernel, rfl, rfl,
      by decide +kernel⟩,
    ⟨(9), _, _, _,
      ({ serving serve0 (.seqAdmit ⟨7, 1, 4096, 0, 0⟩) with xl := { on.xl with clus := [(0, [⟨1, 0, 16, true, 0, true, true⟩])] } }),
      (⟨7, 1, 4096, 0, 0⟩), (recordBytes newRec), _, ((recordBytes newRec, [])), _, rfl, by decide +kernel, rfl, rfl,
      by decide +kernel, by decide +kernel, by decide +kernel, rfl, fst_eq _ _ (by decide +kernel), by decide +kernel⟩,
    ⟨(9), _, _, _, (withSeq seq0 (.seqCancel 7)), (7), _, _, rfl, by decide +kernel, rfl, rfl, by decide +kernel, rfl, rfl,
      by decide +kernel⟩,
    ⟨(9), _, _, _, (withSeq { seq0 with context := 2 } (.seqCancel 7)), (7), _, _, rfl, by decide +kernel, rfl, rfl,
      by decide +kernel, rfl, rfl, by decide +kernel⟩,
    ⟨(0), (serving serve0 (.nop)), by decide +kernel⟩,
    ⟨(0), (serving { serve0 with step := some ⟨1, 0, [], false, false, 0, 0, [], 0, false⟩ } .nop), by decide +kernel⟩,
    ⟨(0), _, _, (serving { serve0 with step := some ⟨1, 0, [(0, 1)], false, false, 0, 0, [], 0, false⟩ } .nop),
      by decide +kernel, rfl, rfl, by decide +kernel⟩,
    ⟨(0), _, _, _, (serving { serve0 with step := some ⟨1, 0, [], true, true, 0, 0, [], 0, false⟩ } .nop), _,
      by decide +kernel, rfl, rfl, rfl, by decide +kernel, by decide +kernel, by decide +kernel, by decide +kernel,
      by decide +kernel, by decide +kernel, by decide +kernel, rfl, ⟨_, rfl, rfl⟩⟩,
    ⟨(0), (7), _, _, _, (withSeq { seq0 with firstDeadline := 1 }), by decide +kernel, rfl, rfl, rfl, by decide +kernel⟩,
    ⟨(0), (7), _, _, _, (withSeq seq0), by decide +kernel, rfl, rfl, rfl, by decide +kernel⟩⟩

/-- The hypotheses of EmittedTokens hold together. -/
theorem witness_EmittedTokens :
    ∃ (res : List (Nat × Nat)) (nodes : List (Nat × Nat)) (limit : Nat) (fuel : Nat) (i : Nat) (k : Nat), (walkTree res
      nodes limit fuel 0 [] []).2[i]? = some k :=
  ⟨([(5, 0), (6, 0)]), ([(5, 0)]), (3), (3), (0), (1), by decide +kernel⟩

/-- The hypotheses of Handoffs hold together. -/
theorem witness_Handoffs :
    (∃ (id : Nat) (k : Nat) (c : Cmd) (f : Facet) (a : ExportArgs) (v : Machine.Serve) (q : Machine.Seq) (s : State), cmdOf
      s id = some c ∧ mayStart s id = true ∧ c.desc.payload = .stateExport a ∧ facetOf s c.facet = some f ∧ f.tier.kind ≠ 0
      ∧ SMap.look s.serve c.facet = some v ∧ slotOfSeq v a.seqId = some k ∧ SMap.look v.seqs k = some q ∧ exportOk q c a =
      true ∧ q.state = 2) ∧
    (∃ (n : Nat) (x : Nat) (k : Nat) (v : Machine.Serve) (q : Machine.Seq) (e : Machine.Export) (s : State), n < 64 ∧
      SMap.look s.serve n = some v ∧ slotOfSeq v x = some k ∧ SMap.look v.seqs k = some q ∧ q.exp = some e ∧ e.step = 1 ∧
      q.state = 3) ∧
    (∃ (n : Nat) (x : Nat) (k : Nat) (v : Machine.Serve) (q : Machine.Seq) (e : Machine.Export) (s : State) (w : Nat), n <
      64 ∧ SMap.look s.serve n = some v ∧ slotOfSeq v x = some k ∧ SMap.look v.seqs k = some q ∧ q.exp = some e ∧ e.step = 2
      ∧ acceptWord (globalOf s n) w = true) ∧
    (∃ (n : Nat) (x : Nat) (k : Nat) (v : Machine.Serve) (q : Machine.Seq) (e : Machine.Export) (s : State) (w : Nat), n <
      64 ∧ SMap.look s.serve n = some v ∧ slotOfSeq v x = some k ∧ SMap.look v.seqs k = some q ∧ q.exp = some e ∧ e.step = 2
      ∧ acceptWord (globalOf s n) w = false) ∧
    (∃ (n : Nat) (x : Nat) (k : Nat) (v : Machine.Serve) (q : Machine.Seq) (e : Machine.Export) (s : State), n < 64 ∧
      SMap.look s.serve n = some v ∧ slotOfSeq v x = some k ∧ SMap.look v.seqs k = some q ∧ q.exp = some e ∧ e.step = 2) ∧
    (∃ (n : Nat) (x : Nat) (k : Nat) (v : Machine.Serve) (q : Machine.Seq) (e : Machine.Export) (s : State), n < 64 ∧
      SMap.look s.serve n = some v ∧ slotOfSeq v x = some k ∧ SMap.look v.seqs k = some q ∧ q.exp = some e ∧ e.step = 3) ∧
    (∃ (n : Nat) (x : Nat) (k : Nat) (v : Machine.Serve) (q : Machine.Seq) (e : Machine.Export) (s : State), n < 64 ∧
      SMap.look s.serve n = some v ∧ slotOfSeq v x = some k ∧ SMap.look v.seqs k = some q ∧ q.exp = some e ∧ e.step = 3) ∧
    (∃ (n : Nat) (x : Nat) (k : Nat) (v : Machine.Serve) (q : Machine.Seq) (e : Machine.Export) (s : State), n < 64 ∧
      SMap.look s.serve n = some v ∧ slotOfSeq v x = some k ∧ SMap.look v.seqs k = some q ∧ q.exp = some e ∧ e.step = 4 ∧
      e.evict = false) ∧
    (∃ (n : Nat) (x : Nat) (k : Nat) (v : Machine.Serve) (q : Machine.Seq) (e : Machine.Export) (s : State), n < 64 ∧
      SMap.look s.serve n = some v ∧ slotOfSeq v x = some k ∧ SMap.look v.seqs k = some q ∧ q.exp = some e ∧ e.step = 4) ∧
    (∃ (n : Nat) (x : Nat) (k : Nat) (v : Machine.Serve) (q : Machine.Seq) (e : Machine.Export) (s : State) (w : _), n < 64
      ∧ SMap.look s.serve n = some v ∧ slotOfSeq v x = some k ∧ SMap.look v.seqs k = some q ∧ q.exp = some e ∧ e.step = 5 ∧
      w = ownWord (q.rec_.offeredEpoch + 1) e.device e.facet 2) ∧
    (∃ (n : Nat) (x : Nat) (k : Nat) (v : Machine.Serve) (q : Machine.Seq) (e : Machine.Export) (s : State), n < 64 ∧
      SMap.look s.serve n = some v ∧ slotOfSeq v x = some k ∧ SMap.look v.seqs k = some q ∧ q.exp = some e ∧ e.step = 5 ∧
      e.deadline ≠ none ∧ e.word = ownWord q.rec_.offeredEpoch e.device e.facet 1) ∧
    (∃ (n : Nat) (x : Nat) (k : Nat) (v : Machine.Serve) (q : Machine.Seq) (e : Machine.Export) (s : State), n < 64 ∧
      SMap.look s.serve n = some v ∧ slotOfSeq v x = some k ∧ SMap.look v.seqs k = some q ∧ q.exp = some e ∧ e.step = 8) ∧
    (∃ (id : Nat) (c : Cmd) (f : Facet) (a : ImportArgs) (v : Machine.Serve) (s : State), cmdOf s id = some c ∧
      c.desc.payload = .stateImport a ∧ facetOf s c.facet = some f ∧ SMap.look s.serve c.facet = some v ∧ mayStart s id =
      true ∧ f.tier.kind ≠ 0 ∧ v.configured = true ∧ idTaken s c.facet v a.seqId = false) ∧
    (∃ (id : Nat) (c : Cmd) (f : Facet) (a : ImportArgs) (v : Machine.Serve) (s : State) (k : _), cmdOf s id = some c ∧
      c.desc.payload = .stateImport a ∧ facetOf s c.facet = some f ∧ SMap.look s.serve c.facet = some v ∧ c.phase = .running
      ∧ c.stage = 1 ∧ freeSlot s c.facet v = some k) ∧
    (∃ (id : Nat) (c : Cmd) (f : Facet) (a : ImportArgs) (v : Machine.Serve) (s : State) (b : List Byte) (r : SeqRecord) (me
      : Nat × Nat), cmdOf s id = some c ∧ c.desc.payload = .stateImport a ∧ facetOf s c.facet = some f ∧ SMap.look s.serve
      c.facet = some v ∧ r = recordOfBytes b ∧ c.phase = .running ∧ c.stage = 2 ∧ a.resolve = false ∧ importFits f v r =
      true ∧ me = globalOf s c.facet) ∧
    (∃ (id : Nat) (c : Cmd) (f : Facet) (a : ImportArgs) (v : Machine.Serve) (s : State) (b : List Byte) (r : SeqRecord) (w
      : Nat) (me : Nat × Nat), cmdOf s id = some c ∧ c.desc.payload = .stateImport a ∧ facetOf s c.facet = some f ∧
      SMap.look s.serve c.facet = some v ∧ r = recordOfBytes b ∧ c.phase = .running ∧ c.stage = 2 ∧ a.resolve = false ∧
      importFits f v r = true ∧ me = globalOf s c.facet ∧ w = ownWord (w / 2 ^ 32) me.1 me.2 1) ∧
    (∃ (id : Nat) (c : Cmd) (f : Facet) (a : ImportArgs) (v : Machine.Serve) (s : State) (b : List Byte) (r : SeqRecord) (w
      : Nat) (me : Nat × Nat), cmdOf s id = some c ∧ c.desc.payload = .stateImport a ∧ facetOf s c.facet = some f ∧
      SMap.look s.serve c.facet = some v ∧ r = recordOfBytes b ∧ c.phase = .running ∧ c.stage = 2 ∧ a.resolve = false ∧
      importFits f v r = true ∧ me = globalOf s c.facet ∧ w ≠ ownWord (w / 2 ^ 32) me.1 me.2 1) ∧
    (∃ (id : Nat) (c : Cmd) (f : Facet) (a : ImportArgs) (v : Machine.Serve) (s : State) (r : _), cmdOf s id = some c ∧
      c.desc.payload = .stateImport a ∧ facetOf s c.facet = some f ∧ SMap.look s.serve c.facet = some v ∧ c.phase = .running
      ∧ c.stage = 3 ∧ c.image = some r) ∧
    (∃ (id : Nat) (c : Cmd) (f : Facet) (a : ImportArgs) (v : Machine.Serve) (s : State), cmdOf s id = some c ∧
      c.desc.payload = .stateImport a ∧ facetOf s c.facet = some f ∧ SMap.look s.serve c.facet = some v ∧ c.phase = .running
      ∧ c.stage = 3) ∧
    (∃ (n : Nat) (x : Nat) (k : Nat) (v : Machine.Serve) (q : Machine.Seq) (s : State), n < 64 ∧ SMap.look s.serve n = some
      v ∧ slotOfSeq v x = some k ∧ SMap.look v.seqs k = some q ∧ q.reading = true) ∧
    (∃ (n : Nat) (x : Nat) (v : Machine.Serve) (s : State), n < 64 ∧ SMap.look s.serve n = some v ∧ x ∈ v.releases) :=
  ⟨⟨(9), _, _, _, (⟨7, false, 2, 3⟩), _, _, (withSeq seq0 (.stateExport ⟨7, false, 2, 3⟩)), rfl, by decide +kernel,
      by decide +kernel, rfl, by decide +kernel, rfl, rfl, rfl, by decide +kernel⟩,
    ⟨(0), (7), _, _, _, _, (exporting 1), by decide +kernel, rfl, rfl, rfl, rfl, by decide +kernel⟩,
    ⟨(0), (7), _, _, _, _, (exporting 2), (0), by decide +kernel, rfl, rfl, rfl, rfl, by decide +kernel⟩,
    ⟨(0), (7), _, _, _, _, (exporting 2), (1), by decide +kernel, rfl, rfl, rfl, rfl, by decide +kernel⟩,
    ⟨(0), (7), _, _, _, _, (exporting 2), by decide +kernel, rfl, rfl, rfl, rfl, by decide +kernel⟩,
    ⟨(0), (7), _, _, _, _, (exporting 3), by decide +kernel, rfl, rfl, rfl, rfl, by decide +kernel⟩,
    ⟨(0), (7), _, _, _, _, (exporting 3), by decide +kernel, rfl, rfl, rfl, rfl, by decide +kernel⟩,
    ⟨(0), (7), _, _, _, _, (exporting 4), by decide +kernel, rfl, rfl, rfl, rfl, by decide +kernel⟩,
    ⟨(0), (7), _, _, _, _, (exporting 4), by decide +kernel, rfl, rfl, rfl, rfl, by decide +kernel⟩,
    ⟨(0), (7), _, _, _, _, (exporting 5), _, by decide +kernel, rfl, rfl, rfl, rfl, by decide +kernel, rfl⟩,
    ⟨(0), (7), _, _, _, _, (withSeq
      { seq0 with exp := some ⟨5, some 9, 3, 2, ownWord 6 3 2 1, some 5, false⟩, state := 3 }), by decide +kernel, rfl, rfl,
      rfl, rfl, by decide +kernel⟩,
    ⟨(0), (7), _, _, _, _, (exporting 8), by decide +kernel, rfl, rfl, rfl, rfl, by decide +kernel⟩,
    ⟨(9), _, _, (imp0), _, (serving serve0 (.stateImport imp0)), rfl, by decide +kernel, rfl, rfl, by decide +kernel⟩,
    ⟨(9), _, _, (imp0), _, (importing 1), _, rfl, by decide +kernel, rfl, rfl, by decide +kernel, by decide +kernel, rfl⟩,
    ⟨(9), _, _, (imp0), _, (importing 2), (recordBytes rec0), _, _, rfl, by decide +kernel, rfl, rfl, rfl,
      by decide +kernel, by decide +kernel, by decide +kernel, by decide +kernel, rfl⟩,
    ⟨(9), _, _, (imp0), _, (importing 2), (recordBytes rec0), _, (ownWord 6 65535 0 1), _, rfl, by decide +kernel, rfl, rfl,
      rfl, by decide +kernel, by decide +kernel, by decide +kernel, by decide +kernel, rfl, by decide +kernel⟩,
    ⟨(9), _, _, (imp0), _, (importing 2), (recordBytes rec0), _, (ownWord 6 65535 0 2), _, rfl, by decide +kernel, rfl, rfl,
      rfl, by decide +kernel, by decide +kernel, by decide +kernel, by decide +kernel, rfl, by decide +kernel⟩,
    ⟨(9), _, _, (imp0), _, (importing 3), _, rfl, by decide +kernel, rfl, rfl, by decide +kernel, by decide +kernel, rfl⟩,
    ⟨(9), _, _, (imp0), _, (importing 3), rfl, by decide +kernel, rfl, rfl, by decide +kernel⟩,
    ⟨(0), (7), _, _, _, (withSeq { seq0 with reading := true }), by decide +kernel, rfl, rfl, rfl, by decide +kernel⟩,
    ⟨(0), (7), _, (serving { serve0 with releases := [7] } .nop), by decide +kernel, rfl, by decide +kernel⟩⟩

/-- The hypotheses of Eclipses hold together. -/
theorem witness_Eclipses :
    (∃ (fn : Nat) (h : Req) (b : List Byte) (s : State) (n : _) (f : _), n = field b 0 1 ∧ AskedJob fn layReset true h b s ∧
      facetOf s n = some f ∧ f.state ≠ 4) ∧
    (∃ (fn : Nat) (h : Req) (b : List Byte) (s : State) (n : _) (f : _), n = field b 0 1 ∧ AskedJob fn layReset true h b s ∧
      facetOf s n = some f ∧ f.state = 4) ∧
    (∃ (fn : Nat) (h : Req) (b : List Byte) (s : State) (n : _), n = field b 0 1 ∧ Asked fn layReset true h b s ∧ 16 ≤
      h.respLen ∧ facetOf s n = none) ∧
    (∃ (id : Nat) (c : Cmd) (s : State), id < 2 ^ 32 ∧ cmdOf s id = some c ∧ c.phase = .running ∧ isRun c.desc.payload =
      true) ∧
    (∃ (id : Nat) (c : Cmd) (s : State), id < 2 ^ 32 ∧ cmdOf s id = some c ∧ c.phase = .running ∧ countsStarted c = true ∧
      isRun c.desc.payload = false) ∧
    (∃ (id : Nat) (c : Cmd) (s : State), id < 2 ^ 32 ∧ cmdOf s id = some c ∧ calWaits s c = true) ∧
    (∃ (n : Nat) (f : Facet) (s : State), facetOf s n = some f ∧ f.eclipse = none) ∧
    (∃ (n : Nat) (f : Facet) (s : State) (x : _), facetOf s n = some f ∧ f.eclipse = some x) ∧
    (∃ (n : Nat) (f : Facet) (x : Machine.Eclipse) (s : State), n < 64 ∧ s.pwr.state ≠ 4 ∧ facetOf s n = some f ∧ f.eclipse
      = some x ∧ x.phase = 1) ∧
    (∃ (n : Nat) (f : Facet) (x : Machine.Eclipse) (s : State), n < 64 ∧ s.pwr.state ≠ 4 ∧ facetOf s n = some f ∧ f.eclipse
      = some x ∧ x.phase = 2) ∧
    (∃ (n : Nat) (f : Facet) (x : Machine.Eclipse) (s : State), n < 64 ∧ s.pwr.state ≠ 4 ∧ facetOf s n = some f ∧ f.eclipse
      = some x ∧ x.phase = 3 ∧ s.fw.handover = false) ∧
    (∃ (n : Nat) (f : Facet) (x : Machine.Eclipse) (s : State), n < 64 ∧ s.pwr.state ≠ 4 ∧ facetOf s n = some f ∧ f.eclipse
      = some x ∧ x.phase = 3 ∧ s.fw.handover = true) ∧
    (∃ (n : Nat) (f : Facet) (x : Machine.Eclipse) (s : State) (errors : SMap (List CalErrors)) (es : _) (t : _), n < 64 ∧
      s.pwr.state ≠ 4 ∧ facetOf s n = some f ∧ f.eclipse = some x ∧ x.phase = 4 ∧ es = (NSet.diff x.cores x.failed).flatMap
      enginesOf ∧ t = forAll es (checkEngine errors) s ∧ ((∀ e ∈ es, (engineOf s e).status ≠ 3 → (engineOf t e).status ≠
      3))) ∧
    (∃ (n : Nat) (f : Facet) (x : Machine.Eclipse) (s : State), n < 64 ∧ s.pwr.state ≠ 4 ∧ facetOf s n = some f ∧ f.eclipse
      = some x ∧ x.phase = 5 ∧ f.loads = []) ∧
    (∃ (n : Nat) (f : Facet) (x : Machine.Eclipse) (s : State), n < 64 ∧ s.pwr.state ≠ 4 ∧ facetOf s n = some f ∧ f.eclipse
      = some x ∧ x.phase = 5 ∧ f.loads ≠ []) :=
  ⟨⟨(0), (askedHdr (ask opComputeReset (z 8) (on) 0 4096) (0) layReset), (askedBytes (ask opComputeReset (z 8) (on) 0 4096)
      (0) layReset), (ask opComputeReset (z 8) (on) 0 4096), _, _, rfl, by decide +kernel, rfl, by decide +kernel⟩,
    ⟨(0), (askedHdr (ask opComputeReset (z 8) ({ on with facets := [(0, { fac with state := 4 })] }) 0 4096) (0) layReset),
      (askedBytes (ask opComputeReset (z 8) ({ on with facets := [(0, { fac with state := 4 })] }) 0 4096) (0) layReset),
      (ask opComputeReset (z 8) ({ on with facets := [(0, { fac with state := 4 })] }) 0 4096), _, _, rfl,
      by decide +kernel, rfl, by decide +kernel⟩,
    ⟨(0), (askedHdr (ask opComputeReset (z 8) (up) 0 4096) (0) layReset), (askedBytes (ask opComputeReset (z 8) (up) 0 4096)
      (0) layReset), (ask opComputeReset (z 8) (up) 0 4096), _, rfl, by decide +kernel⟩,
    ⟨(9), _, (work), by decide +kernel, rfl, by decide +kernel⟩,
    ⟨(9), _, ({ on with cmds := [(9, run1)] }), by decide +kernel, rfl, by decide +kernel⟩,
    ⟨(9), _,
      ({ work with facets := [(0, { fac2 with planesSet := some 3 })], cmds := [(9, { run1 with desc := dRun, phase := .waiting, ran := false })], engines := [(0, { eng with cal := some { cause := 1, began := 0, temp := 450, prev := .chunk 0 3 1 } })] }),
      by decide +kernel, rfl, by decide +kernel⟩,
    ⟨(0), _, (on), rfl, by decide +kernel⟩,
    ⟨(0), _, (eclipsed 4), _, rfl, rfl⟩,
    ⟨(0), _, _, (eclipsed 1), by decide +kernel, by decide +kernel, rfl, rfl, by decide +kernel⟩,
    ⟨(0), _, _, (eclipsed 2), by decide +kernel, by decide +kernel, rfl, rfl, by decide +kernel⟩,
    ⟨(0), _, _, (eclipsed 3), by decide +kernel, by decide +kernel, rfl, rfl, by decide +kernel⟩,
    ⟨(0), _, _, ({ eclipsed 3 with fw := { on.fw with handover := true } }), by decide +kernel, by decide +kernel, rfl, rfl,
      by decide +kernel⟩,
    ⟨(0), _, _, ({ eclipsed 4 with engines := (List.range 8).map fun e => (e, { status := 3 }) }), ([]), _, _,
      by decide +kernel, by decide +kernel, rfl, rfl, by decide +kernel, rfl, rfl, by decide +kernel⟩,
    ⟨(0), _, _, (eclipsed 5), by decide +kernel, by decide +kernel, rfl, rfl, by decide +kernel⟩,
    ⟨(0), _, _, (eclipsed 5 [(1, (3, 1))]), by decide +kernel, by decide +kernel, rfl, rfl, by decide +kernel⟩⟩

/-- The hypotheses of FacetWatch hold together. -/
theorem witness_FacetWatch :
    (∃ (n : Nat) (c : Nat) (f : Facet) (r : Replace) (s : State), n < 64 ∧ c < 544 ∧ facetOf s n = some f ∧ f.replace = some
      r ∧ r.failed = c ∧ (coreOf s r.spare).cleared = true ∧ coreInService s r.spare = true ∧ (∀ e ∈ f.loads, coreOfEngine
      (e.1 / 2) ≠ r.spare) ∧ f.running = none ∧ stepRunning s n = false) ∧
    (∃ (s : State), s.pwr.dusk = false) ∧
    (∃ (s : State), s.pwr.dusk = true) ∧
    (∃ (n : Nat) (f : Facet) (s : State) (g : _), n < 64 ∧ facetOf s n = some f ∧ g =
      { f with slowDur := 0, slowEst := 0, slowN := 0 } ∧ f.slowN < 4) ∧
    (∃ (n : Nat) (f : Facet) (s : State) (g : _), n < 64 ∧ facetOf s n = some f ∧ g =
      { f with slowDur := 0, slowEst := 0, slowN := 0 } ∧ 4 ≤ f.slowN ∧ f.slowDur * 256 ≤ s.reg.slowThr * f.slowEst) ∧
    (∃ (n : Nat) (f : Facet) (s : State) (g : _), n < 64 ∧ facetOf s n = some f ∧ g =
      { f with slowDur := 0, slowEst := 0, slowN := 0 } ∧ 4 ≤ f.slowN ∧ s.reg.slowThr * f.slowEst < f.slowDur * 256 ∧
      s.reg.slowEn = true ∧ f.slowArmed = true) ∧
    (∃ (n : Nat) (f : Facet) (s : State) (g : _), n < 64 ∧ facetOf s n = some f ∧ g =
      { f with slowDur := 0, slowEst := 0, slowN := 0 } ∧ 4 ≤ f.slowN ∧ s.reg.slowThr * f.slowEst < f.slowDur * 256 ∧
      f.slowArmed = false) ∧
    (∃ (n : Nat) (f : Facet) (s : State) (g : _), n < 64 ∧ facetOf s n = some f ∧ g = { f with checked := 0, missed := 0 } ∧
      f.missed * 1000 ≤ s.reg.overThr * f.checked) ∧
    (∃ (n : Nat) (f : Facet) (s : State) (g : _), n < 64 ∧ facetOf s n = some f ∧ g = { f with checked := 0, missed := 0 } ∧
      s.reg.overThr * f.checked < f.missed * 1000 ∧ f.overRun < 9) ∧
    (∃ (n : Nat) (f : Facet) (s : State) (g : _), n < 64 ∧ facetOf s n = some f ∧ g = { f with checked := 0, missed := 0 } ∧
      s.reg.overThr * f.checked < f.missed * 1000 ∧ 9 ≤ f.overRun ∧ s.reg.overEn = true ∧ f.overArmed = true) ∧
    (∃ (k : Nat), k < 32) ∧
    (∃ (n : Nat) (l : List Nat) (f : Facet) (s : State), n < 64 ∧ facetOf s n = some f ∧ s.reg.detectEn = true ∧ f.eclipse =
      none ∧ hangCycle s f l = true) ∧
    (∃ (n : Nat) (l : List Nat) (f : Facet) (s : State), n < 64 ∧ facetOf s n = some f ∧ hangCycle s f l = false) :=
  ⟨⟨(0), (0), _, _,
      ({ on with facets := [(0, { fac with replace := some ⟨0, 16⟩ })], cores := [(0, core0), (16, core0)], engines := coreEngines }),
      by decide +kernel, by decide +kernel, rfl, rfl, by decide +kernel⟩,
    ⟨(on), by decide +kernel⟩,
    ⟨({ on with pwr := { on.pwr with dusk := true } }), by decide +kernel⟩,
    ⟨(0), _, (on), _, by decide +kernel, rfl, rfl, by decide +kernel⟩,
    ⟨(0), _, ({ on with facets := [(0, { fac with slowN := 4 })] }), _, by decide +kernel, rfl, rfl, by decide +kernel⟩,
    ⟨(0), _,
      ({ on with facets := [(0, { fac with slowN := 4, slowDur := 2 ^ 40, slowEst := 1 })], reg := { on.reg with slowEn := true } }),
      _, by decide +kernel, rfl, rfl, by decide +kernel⟩,
    ⟨(0), _, ({ on with facets := [(0, { fac with slowN := 4, slowDur := 2 ^ 40, slowEst := 1, slowArmed := false })] }), _,
      by decide +kernel, rfl, rfl, by decide +kernel⟩,
    ⟨(0), _, (on), _, by decide +kernel, rfl, rfl, by decide +kernel⟩,
    ⟨(0), _, ({ on with facets := [(0, { fac with missed := 2 ^ 40, checked := 1, overRun := 8 })] }), _, by decide +kernel,
      rfl, rfl, by decide +kernel⟩,
    ⟨(0), _,
      ({ on with facets := [(0, { fac with missed := 2 ^ 40, checked := 1, overRun := 9 })], reg := { on.reg with overEn := true } }),
      _, by decide +kernel, rfl, rfl, by decide +kernel⟩,
    ⟨(31), by decide +kernel⟩,
    ⟨(0), ([0, 1]), _, (hung), by decide +kernel, rfl, by decide +kernel⟩,
    ⟨(0), ([]), _, (on), by decide +kernel, rfl, by decide +kernel⟩⟩

/-- The hypotheses of VoxlinkTraining hold together. -/
theorem witness_VoxlinkTraining :
    (∃ (p : Nat) (s : State) (x : _), p < 6 ∧ x = portOf s p ∧ x.enable = false ∧ portPowered s p = true) ∧
    (∃ (p : Nat) (s : State) (x : _), p < 6 ∧ x = portOf s p ∧ x.enable = true ∧ x.state ≠ 5) ∧
    (∃ (p : Nat) (s : State) (x : _), p < 6 ∧ x = portOf s p ∧ x.state = 3) ∧
    (∃ (p : Nat) (s : State) (x : _), p < 6 ∧ x = portOf s p ∧ x.enable = true ∧ x.state = 5 ∧ portPowered s p = true) ∧
    (∃ (p : Nat) (s : State) (x : _) (l : _), p < 6 ∧ x = portOf s p ∧ x.state = 1 ∧ anyWidth (portWidths (failLanes l x)) =
      true) ∧
    (∃ (p : Nat) (s : State) (x : _), p < 6 ∧ x = portOf s p ∧ x.state = 1) ∧
    (∃ (p : Nat) (s : State) (x : _) (l : _) (a : Nat) (b : Nat), p < 6 ∧ x = portOf s p ∧ a < 4096 ∧ b < 4096 ∧ x.state = 4
      ∧ anyWidth (portWidths (failLanes l x)) = true) ∧
    (∃ (p : Nat) (s : State) (x : _) (l : _) (a : Nat) (b : Nat), p < 6 ∧ x = portOf s p ∧ a < 4096 ∧ b < 4096 ∧ x.state = 4
      ∧ anyWidth (portWidths (failLanes l x)) = false) ∧
    (∃ (p : Nat) (s : State) (x : _) (k : Nat), p < 6 ∧ x = portOf s p ∧ k < 16 ∧ x.state = 3) ∧
    (∃ (p : Nat) (s : State) (x : _) (k : Nat) (n : Nat), p < 6 ∧ x = portOf s p ∧ k < 16 ∧ x.state = 3 ∧ 1600 < n) ∧
    (∃ (p : Nat) (s : State) (x : _) (k : Nat) (n : Nat), p < 6 ∧ x = portOf s p ∧ k < 16 ∧ x.state = 3 ∧ n ≤ 1600) :=
  ⟨⟨(5), (on), _, by decide +kernel, rfl, by decide +kernel⟩,
    ⟨(5), (ports active), _, by decide +kernel, rfl, by decide +kernel⟩,
    ⟨(5), (ports active), _, by decide +kernel, rfl, by decide +kernel⟩,
    ⟨(5), (ports { active with state := 5 }), _, by decide +kernel, rfl, by decide +kernel⟩,
    ⟨(5), (ports { active with state := 1 }), _, ([]), by decide +kernel, rfl, by decide +kernel⟩,
    ⟨(5), (ports { active with state := 1 }), _, by decide +kernel, rfl, by decide +kernel⟩,
    ⟨(5), (ports { active with state := 4 }), _, ([]), (0), (4095), by decide +kernel, rfl, by decide +kernel⟩,
    ⟨(5), (ports { active with state := 4 }), _, (List.range 16), (0), (4095), by decide +kernel, rfl, by decide +kernel⟩,
    ⟨(5), (ports active), _, (15), by decide +kernel, rfl, by decide +kernel⟩,
    ⟨(5), (ports active), _, (15), (1601), by decide +kernel, rfl, by decide +kernel⟩,
    ⟨(5), (ports active), _, (15), (1600), by decide +kernel, rfl, by decide +kernel⟩⟩

/-- The hypotheses of VoxlinkEcho hold together. -/
theorem witness_VoxlinkEcho :
    (∃ (p : Nat) (half : Nat) (s : State) (x : _) (f : Flit), p < 6 ∧ half < 2 ∧ x = portOf s p ∧ f.link < 2 ∧ rxHalf s p f
      = half ∧ x.state = 3 ∧ linkWidth x half ≠ 3 ∧ f.good = false) ∧
    (∃ (p : Nat) (half : Nat) (s : State) (x : _) (f : Flit), p < 6 ∧ half < 2 ∧ x = portOf s p ∧ f.link < 2 ∧ rxHalf s p f
      = half ∧ x.state = 3 ∧ linkWidth x half ≠ 3 ∧ f.good = true ∧ f.kind = 0) ∧
    (∃ (p : Nat) (half : Nat) (s : State) (x : _) (f : Flit), p < 6 ∧ half < 2 ∧ x = portOf s p ∧ f.link < 2 ∧ rxHalf s p f
      = half ∧ x.state = 3 ∧ linkWidth x half ≠ 3 ∧ f.good = true ∧ f.kind ≠ 0) ∧
    (∃ (p : Nat) (half : Nat) (s : State) (x : _) (a : Nat), p < 6 ∧ half < 2 ∧ x = portOf s p ∧ a < 4096 ∧ x.state = 3) ∧
    (∃ (p : Nat) (half : Nat) (s : State) (x : _), p < 6 ∧ half < 2 ∧ x = portOf s p ∧ x.state = 3 ∧ limitReached (linkOf x
      half) = true) ∧
    (∃ (p : Nat) (half : Nat) (s : State) (x : _), p < 6 ∧ half < 2 ∧ x = portOf s p ∧ x.state = 3 ∧ linkWidth x half ≠ 3) ∧
    (∃ (p : Nat) (half : Nat) (s : State) (x : _), p < 6 ∧ half < 2 ∧ x = portOf s p) ∧
    (∃ (p : Nat) (half : Nat) (s : State) (x : _), p < 6 ∧ half < 2 ∧ x = portOf s p ∧ useHigh x half = false) ∧
    (∃ (p : Nat) (half : Nat) (s : State) (x : _) (v : Nat), p < 6 ∧ half < 2 ∧ x = portOf s p ∧ v < 2 ^ 32 ∧ (∀ e ∈
      s.facets, e.2.halfPorts = [])) ∧
    (∃ (p : Nat) (half : Nat) (s : State) (x : _) (v : Nat), p < 6 ∧ half < 2 ∧ x = portOf s p ∧ v < 2 ^ 32 ∧ x.enable =
      true ∧ x.check = true) ∧
    (∃ (p : Nat) (half : Nat) (s : State) (x : _) (v : Nat), p < 6 ∧ half < 2 ∧ x = portOf s p ∧ v < 2 ^ 32 ∧ x.enable =
      false ∧ x.check = false ∧ bit v 30 = 1) :=
  ⟨⟨(5), (1), (ports active), _, ({ flitOf 0 0 with symbols := none }), by decide +kernel, by decide +kernel, rfl,
      by decide +kernel⟩,
    ⟨(5), (1), (ports active), _, (flitOf 0 0), by decide +kernel, by decide +kernel, rfl, by decide +kernel⟩,
    ⟨(5), (1), (ports active), _, (flitOf 2 9), by decide +kernel, by decide +kernel, rfl, by decide +kernel⟩,
    ⟨(5), (1), (ports active), _, (4095), by decide +kernel, by decide +kernel, rfl, by decide +kernel⟩,
    ⟨(5), (1), (ports
      { active with lo := { buf := [{ kind := 0, seq := 0, half := 1, vnet := 0, dest := 0, txn := none, replays := 8 }] } }),
      _, by decide +kernel, by decide +kernel, rfl, by decide +kernel⟩,
    ⟨(5), (1), (ports active), _, by decide +kernel, by decide +kernel, rfl, by decide +kernel⟩,
    ⟨(5), (1), (ports active), _, by decide +kernel, by decide +kernel, rfl⟩,
    ⟨(5), (1), (ports active), _, by decide +kernel, by decide +kernel, rfl, by decide +kernel⟩,
    ⟨(5), (1), (ports active), _, (2 ^ 31 + 3), by decide +kernel, by decide +kernel, rfl, by decide +kernel⟩,
    ⟨(5), (1), (ports { active with check := true }), _, (2 ^ 31), by decide +kernel, by decide +kernel, rfl,
      by decide +kernel⟩,
    ⟨(5), (1), (on), _, (2 ^ 30), by decide +kernel, by decide +kernel, rfl, by decide +kernel⟩⟩

/-- The hypotheses of NonceOnce hold together. -/
theorem witness_NonceOnce :
    ∃ (q : LinkPos) (n : Nat), nonceOk q n = true :=
  ⟨({ high := 4096 }), (1), by decide +kernel⟩

/-- The hypotheses of VoxlinkMemoryRequests hold together. -/
theorem witness_VoxlinkMemoryRequests :
    (∃ (p : Nat) (src : Nat) (t : Txn) (s : State) (e : Nat) (r : _), p < 6 ∧ src < 65536 ∧ admitReq t s = .inr e ∧ r =
      answerError (facetByGlobal s t.masterDevice t.masterFacet) src t e s) ∧
    (∃ (p : Nat) (src : Nat) (n : Nat) (t : Txn) (s : State) (m : _) (u : _) (v : _), p < 6 ∧ src < 65536 ∧ admitReq t s =
      .inl n ∧ m = remoteMover p src n t s ∧ u = chargeTxn (some n) none t s ∧ ((t.context ≠ 0 → SMap.look s.vxl.failed
      m.cmd = none)) ∧ t.data.length ≤ (if t.encrypted then 200 else 224) ∧ moverWrite m 0 0 t.addr t.data u = (none, v)) ∧
    (∃ (p : Nat) (src : Nat) (n : Nat) (t : Txn) (s : State) (m : _) (u : _) (d : _) (v : _), p < 6 ∧ src < 65536 ∧ admitReq
      t s = .inl n ∧ m = remoteMover p src n t s ∧ u = chargeTxn (some n) none t s ∧ ((t.context ≠ 0 → SMap.look
      s.vxl.failed m.cmd = none)) ∧ 2 ≤ t.data.length ∧ 1 ≤ readLen t ∧ readLen t ≤ 4096 ∧ moverRead m 0 0 t.addr (readLen
      t) (drawBytes (readLen t) u).1 (drawBytes (readLen t) u).2 = (.inl d, v)) ∧
    (∃ (p : Nat) (src : Nat) (n : Nat) (t : Txn) (s : State) (m : _) (u : _) (fa : _) (v : _) (old : _) (w : _), p < 6 ∧ src
      < 65536 ∧ admitReq t s = .inl n ∧ m = remoteMover p src n t s ∧ u = chargeTxn (some n) none t s ∧ ((t.context ≠ 0 →
      SMap.look s.vxl.failed m.cmd = none)) ∧ t.addr % 8 = 0 ∧ translate m.cluster m.via.cls m.ctx t.addr true m.cmd u =
      (.device fa, v) ∧ 16 ≤ t.data.length ∧ atomicAt m n fa (casOf t.data) v = (.inl old, w)) ∧
    (∃ (p : Nat) (src : Nat) (n : Nat) (t : Txn) (s : State) (m : _) (u : _) (fa : _) (v : _) (old : _) (w : _), p < 6 ∧ src
      < 65536 ∧ admitReq t s = .inl n ∧ m = remoteMover p src n t s ∧ u = chargeTxn (some n) none t s ∧ ((t.context ≠ 0 →
      SMap.look s.vxl.failed m.cmd = none)) ∧ t.addr % 8 = 0 ∧ translate m.cluster m.via.cls m.ctx t.addr true m.cmd u =
      (.device fa, v) ∧ 8 ≤ t.data.length ∧ atomicAt m n fa (fun a => (a + ofLe (t.data.take 8)) % 2 ^ 64) v = (.inl old,
      w)) :=
  ⟨⟨(5), (2), ({ txn0 with context := 2 }), (linked), (4), _, by decide +kernel, by decide +kernel, by decide +kernel, rfl⟩,
    ⟨(5), (2), (0), ({ txn0 with op := 3, data := List.replicate 200 1 }), (linked), _, _, _, by decide +kernel,
      by decide +kernel, by decide +kernel, rfl, rfl, by decide +kernel, by decide +kernel, rfl⟩,
    ⟨(5), (2), (0), ({ txn0 with data := [64, 0] }), (linked), _, _, _, _, by decide +kernel, by decide +kernel,
      by decide +kernel, rfl, rfl, by decide +kernel, by decide +kernel, by decide +kernel, by decide +kernel, rfl⟩,
    ⟨(5), (2), (0), ({ txn0 with op := 5, data := List.replicate 16 0 }), (linked), _, _, _, _, _, _, by decide +kernel,
      by decide +kernel, by decide +kernel, rfl, rfl, by decide +kernel, by decide +kernel, rfl, by decide +kernel, rfl⟩,
    ⟨(5), (2), (0), ({ txn0 with op := 6, data := List.replicate 16 0 }), (linked), _, _, _, _, _, _, by decide +kernel,
      by decide +kernel, by decide +kernel, rfl, rfl, by decide +kernel, by decide +kernel, rfl, by decide +kernel, rfl⟩⟩

/-- The hypotheses of VoxlinkMessages hold together. -/
theorem witness_VoxlinkMessages :
    (∃ (p : Nat) (src : Nat) (t : Txn) (s : State) (n : Nat) (f : _) (l : Nat) (u : _), p < 6 ∧ src < 65536 ∧ facetByGlobal
      s t.masterDevice t.masterFacet = some n ∧ inEclipse s n = false ∧ dispatchError s t = none ∧ facetOf s n = some f ∧
      ladderOfSet f (t.addr % 2 ^ 32) = some l ∧ u = chargeTxn (some n) none t s) ∧
    (∃ (p : Nat) (src : Nat) (t : Txn) (s : State) (n : Nat) (f : _), p < 6 ∧ src < 65536 ∧ admitReq t s = .inl n ∧ facetOf
      s n = some f ∧ f.eclipse = none) ∧
    (∃ (p : Nat) (src : Nat) (t : Txn) (s : State) (o : _) (u : _), p < 6 ∧ src < 65536 ∧ SMap.look s.vxl.outst t.tag = some
      o ∧ o.dest = src ∧ u = chargeTxn (some o.facet) (some o) t s ∧ o.op = 0x01 ∧ t.last = true) ∧
    (∃ (p : Nat) (src : Nat) (t : Txn) (s : State) (o : _) (u : _), p < 6 ∧ src < 65536 ∧ SMap.look s.vxl.outst t.tag = some
      o ∧ o.dest = src ∧ u = chargeTxn (some o.facet) (some o) t s ∧ o.op = 0x01 ∧ t.last = false) ∧
    (∃ (p : Nat) (src : Nat) (t : Txn) (s : State) (o : _) (u : _), p < 6 ∧ src < 65536 ∧ SMap.look s.vxl.outst t.tag = some
      o ∧ o.dest = src ∧ u = chargeTxn (some o.facet) (some o) t s ∧ (o.op = 0x03 ∨ o.op = 0x18) ∧ o.left ≤ 1) ∧
    (∃ (p : Nat) (src : Nat) (t : Txn) (s : State) (o : _) (u : _), p < 6 ∧ src < 65536 ∧ SMap.look s.vxl.outst t.tag = some
      o ∧ o.dest = src ∧ u = chargeTxn (some o.facet) (some o) t s ∧ (o.op = 0x05 ∨ o.op = 0x06)) ∧
    (∃ (p : Nat) (src : Nat) (t : Txn) (s : State) (o : _) (u : _), p < 6 ∧ src < 65536 ∧ SMap.look s.vxl.outst t.tag = some
      o ∧ o.dest = src ∧ u = chargeTxn (some o.facet) (some o) t s ∧ o.op = 0x10) ∧
    (∃ (p : Nat) (src : Nat) (t : Txn) (s : State) (o : _) (u : _), p < 6 ∧ src < 65536 ∧ SMap.look s.vxl.outst t.tag = some
      o ∧ o.dest = src ∧ u = chargeTxn (some o.facet) (some o) t s ∧ o.op = 0x30) ∧
    (∃ (p : Nat) (src : Nat) (t : Txn) (s : State) (o : _) (u : _), p < 6 ∧ src < 65536 ∧ SMap.look s.vxl.outst t.tag = some
      o ∧ o.dest = src ∧ u = chargeTxn (some o.facet) (some o) t s ∧ o.op ∈ [0x01, 0x03, 0x05, 0x06, 0x10, 0x18, 0x30]) ∧
    (∃ (p : Nat) (src : Nat) (s : State) (tag : Nat) (o : _), p < 6 ∧ src < 65536 ∧ tag < 65536 ∧ SMap.look s.vxl.outst tag
      = some o) ∧
    (∃ (p : Nat) (src : Nat) (t : Txn) (s : State), p < 6 ∧ src < 65536 ∧ SMap.look s.vxl.outst t.tag = none) ∧
    (∃ (p : Nat) (src : Nat) (n : Nat) (t : Txn) (s : State) (y : CSlot) (u : _), p < 6 ∧ src < 65536 ∧ facetByGlobal s
      t.masterDevice t.masterFacet = some n ∧ inEclipse s n = false ∧ t.rsv = false ∧ y =
      { collSlot n t with cores := collCores s src t } ∧ y.expected ≠ 0 ∧ y.hop ≠ 7 ∧ u = chargeTxn (some n) none t s ∧
      SMap.look s.vxl.slots (p * 256 + t.addr % 256) = none) ∧
    (∃ (p : Nat) (src : Nat) (n : Nat) (t : Txn) (s : State) (y : CSlot) (u : _) (x : _), p < 6 ∧ src < 65536 ∧
      facetByGlobal s t.masterDevice t.masterFacet = some n ∧ inEclipse s n = false ∧ t.rsv = false ∧ y =
      { collSlot n t with cores := collCores s src t } ∧ y.expected ≠ 0 ∧ y.hop ≠ 7 ∧ u = chargeTxn (some n) none t s ∧
      SMap.look s.vxl.slots (p * 256 + t.addr % 256) = some x ∧ collMatches x y = true) ∧
    (∃ (p : Nat) (src : Nat) (s : State) (slot : Nat) (x : _) (id : _), p < 6 ∧ src < 65536 ∧ SMap.look s.vxl.slots (p * 256
      + slot) = some x ∧ runningWork s x.facet = some id) ∧
    (∃ (p : Nat) (src : Nat) (t : Txn) (s : State) (f : _), p < 6 ∧ src < 65536 ∧ s.vxl.idValid = true ∧ t.masterDevice =
      s.vxl.id ∧ t.rsv = false ∧ facetOf s t.masterFacet = some f ∧ f.member = false ∧ f.memberCount ≠ 0 ∧ f.state ≠ 4 ∧
      f.memberDevs.length < f.memberCount) :=
  ⟨⟨(5), (2), ({ txn0 with op := 16, addr := 3, data := List.replicate 56 0 }), (linked), (0), _, (1), _,
      by decide +kernel, by decide +kernel, by decide +kernel, by decide +kernel, by decide +kernel, rfl, by decide +kernel,
      rfl⟩,
    ⟨(5), (2), ({ txn0 with op := 17, data := [3] }), (linked), (0), _, by decide +kernel, by decide +kernel,
      by decide +kernel, rfl, by decide +kernel⟩,
    ⟨(5), (2), ({ txn0 with op := 2, last := true, addr := 0 }), (asked 1 1), _, _, by decide +kernel, by decide +kernel,
      rfl, by decide +kernel, rfl, by decide +kernel⟩,
    ⟨(5), (2), ({ txn0 with op := 2, last := false, addr := 0 }), (asked 1 1), _, _, by decide +kernel, by decide +kernel,
      rfl, by decide +kernel, rfl, by decide +kernel⟩,
    ⟨(5), (2), ({ txn0 with op := 4, last := true, addr := 0 }), (asked 3 1), _, _, by decide +kernel, by decide +kernel,
      rfl, by decide +kernel, rfl, by decide +kernel⟩,
    ⟨(5), (2), ({ txn0 with op := 7, last := true, addr := 0 }), (asked 6 1), _, _, by decide +kernel, by decide +kernel,
      rfl, by decide +kernel, rfl, by decide +kernel⟩,
    ⟨(5), (2), ({ txn0 with op := 17, last := true, addr := 0 }), (asked 0x10 1), _, _, by decide +kernel,
      by decide +kernel, rfl, by decide +kernel, rfl, by decide +kernel⟩,
    ⟨(5), (2), ({ txn0 with op := 49, last := true, addr := 0 }), (asked 0x30 1), _, _, by decide +kernel,
      by decide +kernel, rfl, by decide +kernel, rfl, by decide +kernel⟩,
    ⟨(5), (2), ({ txn0 with op := 63, last := true, addr := 4 }), (asked 1 1), _, _, by decide +kernel, by decide +kernel,
      rfl, by decide +kernel, rfl, by decide +kernel⟩,
    ⟨(5), (2), (asked 1 1), (7), _, by decide +kernel, by decide +kernel, by decide +kernel, rfl⟩,
    ⟨(5), (2), ({ txn0 with op := 2 }), (linked), by decide +kernel⟩,
    ⟨(5), (2), (0), (coll0), (linked), _, _, by decide +kernel, by decide +kernel, by decide +kernel, by decide +kernel,
      by decide +kernel, rfl, by decide +kernel, by decide +kernel, rfl, by decide +kernel⟩,
    ⟨(5), (2), (0), (coll0), ({ linked with vxl := { linked.vxl with slots := [(5 * 256 + 255, collSlot 0 coll0)] } }), _,
      _, _, by decide +kernel, by decide +kernel, by decide +kernel, by decide +kernel, by decide +kernel, rfl,
      by decide +kernel, by decide +kernel, rfl, rfl, by decide +kernel⟩,
    ⟨(5), (0),
      ({ linked with vxl := { linked.vxl with slots := [(5 * 256 + 255, collSlot 0 coll0)] }, facets := [(0, { fac2 with running := some 9 })], cmds := [(9, { run1 with desc := dRun })] }),
      (255), _, _, by decide +kernel, by decide +kernel, rfl, rfl⟩,
    ⟨(5), (2), ({ txn0 with op := 0x30 }), ({ linked with facets := [(0, { fac2 with memberCount := 1 })] }), _,
      by decide +kernel, by decide +kernel, by decide +kernel, by decide +kernel, by decide +kernel, rfl, by decide +kernel⟩⟩

/-- The hypotheses of HostWindow hold together. -/
theorem witness_HostWindow :
    (∃ (a : Nat) (s : State) (n : Nat), hostUp s = true ∧ windowFacet s = none ∧ a + n ≤ 2 ^ 39) ∧
    (∃ (a : Nat) (s : State) (d : List Byte), hostUp s = true ∧ windowFacet s = none ∧ a + d.length ≤ 2 ^ 39) ∧
    (∃ (a : Nat) (s : State) (n : Nat), hostUp s = true ∧ windowFacet s = none ∧ a + n ≤ 2 ^ 39) ∧
    (∃ (a : Nat) (s : State) (f : _) (v : _) (n : Nat), hostUp s = true ∧ windowFacet s = some f ∧ v = fnVia s (ownerOf s f)
      ∧ a + n ≤ 2 ^ 39 ∧ rangeWaits v f a n false s = true) ∧
    (∃ (a : Nat) (s : State) (f : _) (v : _) (n : Nat) (d : _) (t : _), hostUp s = true ∧ windowFacet s = some f ∧ v = fnVia
      s (ownerOf s f) ∧ a + n ≤ 2 ^ 39 ∧ rangeWaits v f a n false s = false ∧ faRead v f 1 a n s = (.inl d, t)) ∧
    (∃ (a : Nat) (s : State) (f : _) (v : _) (n : Nat) (l : Nat) (t : State), hostUp s = true ∧ windowFacet s = some f ∧ v =
      fnVia s (ownerOf s f) ∧ a + n ≤ 2 ^ 39 ∧ rangeWaits v f a n false s = false ∧ faRead v f 1 a n s = (.inr
      (stDataPoisoned, l), t)) ∧
    (∃ (a : Nat) (s : State) (f : _) (v : _) (d : List Byte) (t : _), hostUp s = true ∧ windowFacet s = some f ∧ v = fnVia s
      (ownerOf s f) ∧ a + d.length ≤ 2 ^ 39 ∧ rangeWaits v f a d.length true s = false ∧ faWrite v f 1 a d s = (none, t)) ∧
    (∃ (a : Nat) (s : State) (f : _) (v : _) (d : List Byte) (e : Nat × Nat) (t : State), hostUp s = true ∧ windowFacet s =
      some f ∧ v = fnVia s (ownerOf s f) ∧ a + d.length ≤ 2 ^ 39 ∧ rangeWaits v f a d.length true s = false ∧ faWrite v f 1
      a d s = (some e, t)) ∧
    (∃ (a : Nat) (s : State) (f : _) (v : _) (k : Nat) (n : Nat) (d : _) (t : _), hostUp s = true ∧ windowFacet s = some f ∧
      v = fnVia s (ownerOf s f) ∧ ((n = 4 ∨ n = 8)) ∧ a + n ≤ 2 ^ 39 ∧ a % n = 0 ∧ k ≤ 2 ∧ rangeWaits v f a n true s = false
      ∧ faRead v f 1 a n s = (.inl d, t)) ∧
    (∃ (a : Nat) (s : State) (f : _) (v : _) (k : Nat) (n : Nat), hostUp s = true ∧ windowFacet s = some f ∧ v = fnVia s
      (ownerOf s f) ∧ a + n ≤ 2 ^ 39 ∧ rangeWaits v f a n true s = false ∧ atomicOk a k n = false) ∧
    (∃ (f : Nat) (v : Nat) (s : State) (r : _), f < 64 ∧ v < 2 ^ 32 ∧ hostUp s = true ∧ fnExists s f = true ∧ r = fnOf s f) ∧
    (∃ (f : Nat) (v : Nat) (s : State) (r : _), f < 64 ∧ v < 2 ^ 32 ∧ hostUp s = true ∧ fnExists s f = true ∧ r = fnOf s f ∧
      evcOff r = true) ∧
    (∃ (f : Nat) (v : Nat) (s : State) (r : _), f < 64 ∧ v < 2 ^ 32 ∧ hostUp s = true ∧ fnExists s f = true ∧ r = fnOf s f ∧
      evcOff r = false) ∧
    (∃ (f : Nat) (v : Nat) (s : State) (r : _) (k : Nat), f < 64 ∧ v < 2 ^ 32 ∧ hostUp s = true ∧ fnExists s f = true ∧ r =
      fnOf s f ∧ k < 8) ∧
    (∃ (f : Nat) (v : Nat) (s : State) (r : _) (o : Nat), f < 64 ∧ v < 2 ^ 32 ∧ hostUp s = true ∧ fnExists s f = true ∧ r =
      fnOf s f ∧ 0x100000 ≤ o ∧ o < 2 ^ 26 ∧ f ≠ 0) ∧
    (∃ (f : Nat) (v : Nat) (s : State) (r : _) (o : Nat), f < 64 ∧ v < 2 ^ 32 ∧ hostUp s = true ∧ fnExists s f = true ∧ r =
      fnOf s f ∧ o < 2 ^ 26 ∧ o % 4 ≠ 0) ∧
    (∃ (f : Nat) (v : Nat) (s : State) (r : _), f < 64 ∧ v < 2 ^ 32 ∧ hostUp s = true ∧ fnExists s f = true ∧ r = fnOf s f ∧
      f = 0) ∧
    (∃ (f : Nat) (v : Nat) (s : State) (r : _), f < 64 ∧ v < 2 ^ 32 ∧ hostUp s = true ∧ fnExists s f = true ∧ r = fnOf s f ∧
      f = 0) :=
  ⟨⟨(2 ^ 39 - 8), (up), (8), by decide +kernel⟩,
    ⟨(2 ^ 39 - 8), (up), ([1]), by decide +kernel⟩,
    ⟨(2 ^ 39 - 8), (up), (8), by decide +kernel⟩,
    ⟨(64), ({ window with coh := { window.coh with blocked := [(1, ⟨.readShared 1, [], none, none, true, false⟩)] } }), _,
      _, (8), by decide +kernel, rfl, rfl, by decide +kernel⟩,
    ⟨(64), (window), _, _, (8), _, _, by decide +kernel, rfl, rfl, by decide +kernel, by decide +kernel, read_spec _
      (by decide +kernel)⟩,
    ⟨(64), ({ window with lineMeta := [(1, { poisoned := true })] }), _, _, (8), (64), _, by decide +kernel, rfl, rfl,
      by decide +kernel, by decide +kernel, fst_eq _ _ (by decide +kernel)⟩,
    ⟨(64), (window), _, _, ([1, 2]), _, by decide +kernel, rfl, rfl, by decide +kernel, by decide +kernel, rfl⟩,
    ⟨(2 ^ 38), (window), _, _, ([1, 2]), ((stUnmapped, 2 ^ 38)), _, by decide +kernel, rfl, rfl, by decide +kernel,
      by decide +kernel, fst_eq _ _ (by decide +kernel)⟩,
    ⟨(64), (window), _, _, (2), (8), _, _, by decide +kernel, rfl, rfl, by decide +kernel, by decide +kernel,
      by decide +kernel, by decide +kernel, by decide +kernel, read_spec _ (by decide +kernel)⟩,
    ⟨(65), (window), _, _, (0), (8), by decide +kernel, rfl, rfl, by decide +kernel⟩,
    ⟨(63), (2 ^ 32 - 1), (vfs), _, by decide +kernel, by decide +kernel, by decide +kernel, by decide +kernel, rfl⟩,
    ⟨(63), (17), (vfs), _, by decide +kernel, by decide +kernel, by decide +kernel, by decide +kernel, rfl,
      by decide +kernel⟩,
    ⟨(63), (2 ^ 32 - 1), (updFn 63 (fun r => { r with evcMode := 2 }) vfs), _, by decide +kernel, by decide +kernel,
      by decide +kernel, by decide +kernel, rfl, by decide +kernel⟩,
    ⟨(63), (2 ^ 32 - 1), (vfs), _, (7), by decide +kernel, by decide +kernel, by decide +kernel, by decide +kernel, rfl,
      by decide +kernel⟩,
    ⟨(63), (2 ^ 32 - 1), (vfs), _, (2 ^ 26 - 1), by decide +kernel, by decide +kernel, by decide +kernel, by decide +kernel,
      rfl, by decide +kernel⟩,
    ⟨(63), (2 ^ 32 - 1), (vfs), _, (2 ^ 26 - 1), by decide +kernel, by decide +kernel, by decide +kernel, by decide +kernel,
      rfl, by decide +kernel⟩,
    ⟨(0), (2 ^ 32 - 1), (vfs), _, by decide +kernel, by decide +kernel, by decide +kernel, by decide +kernel, rfl,
      by decide +kernel⟩,
    ⟨(0), (2 ^ 32 - 1), (vfs), _, by decide +kernel, by decide +kernel, by decide +kernel, by decide +kernel, rfl,
      by decide +kernel⟩⟩

/-- The hypotheses of FunctionControl hold together. -/
theorem witness_FunctionControl :
    (∃ (f : Nat) (s : State) (o : Nat) (v : Nat), f < 64 ∧ hostUp s = true ∧ o < 4096 ∧ o % 4 = 0 ∧ v < 2 ^ 32 ∧ configReady
      s = false) ∧
    (∃ (f : Nat) (s : State) (o : Nat) (v : Nat), f < 64 ∧ hostUp s = true ∧ o < 4096 ∧ o % 4 = 0 ∧ v < 2 ^ 32 ∧ configReady
      s = true ∧ fnExists s f = true) ∧
    (∃ (f : Nat) (s : State), f < 64 ∧ hostUp s = true ∧ fnExists s f = true) ∧
    (∃ (f : Nat) (s : State), f < 64 ∧ hostUp s = true ∧ s.reg.numVFs ≤ f) ∧
    (∃ (f : Nat) (s : State), f < 64 ∧ hostUp s = true ∧ f < s.reg.numVFs) ∧
    (∃ (f : Nat) (s : State), f < 64 ∧ hostUp s = true ∧ fnExists s f = true ∧ mayLock s f = true) ∧
    (∃ (f : Nat) (s : State), f < 64 ∧ hostUp s = true ∧ fnExists s f = true ∧ mayLock s f = false) ∧
    (∃ (f : Nat) (s : State), f < 64 ∧ hostUp s = true ∧ fnExists s f = true ∧ (fnOf s f).tdi = 1) ∧
    (∃ (f : Nat) (s : State), f < 64 ∧ hostUp s = true ∧ fnExists s f = true ∧ (fnOf s f).tdi ≠ 1) :=
  ⟨⟨(63), ({ vfs with pwr := { vfs.pwr with mcRunning := false }, sec := { vfs.sec with imageOk := true } }), (4092), (1),
      by decide +kernel⟩,
    ⟨(63), (vfs), (4092), (1), by decide +kernel⟩,
    ⟨(63), (vfs), by decide +kernel⟩,
    ⟨(63), (vfs), by decide +kernel⟩,
    ⟨(62), (vfs), by decide +kernel⟩,
    ⟨(63), (updFn 63 (fun r => { r with ideStream := true, quiesced := true }) vfs), by decide +kernel⟩,
    ⟨(63), (vfs), by decide +kernel⟩,
    ⟨(63), (updFn 63 (fun r => { r with tdi := 1 }) vfs), by decide +kernel⟩,
    ⟨(63), (vfs), by decide +kernel⟩⟩

/-- The hypotheses of EventControl hold together. -/
theorem witness_EventControl :
    (∃ (f : Nat) (v : Nat) (s : State) (r : _), f < 64 ∧ hostUp s = true ∧ fnExists s f = true ∧ r = fnOf s f ∧ v < 2 ^ 32 ∧
      r.evcMode = 1 ∧ v % 4 = 2) ∧
    (∃ (f : Nat) (v : Nat) (s : State) (r : _), f < 64 ∧ hostUp s = true ∧ fnExists s f = true ∧ r = fnOf s f ∧ v < 2 ^ 32 ∧
      r.evcMode = 2 ∧ v % 4 = 1) ∧
    (∃ (f : Nat) (v : Nat) (s : State) (r : _) (m : Nat), f < 64 ∧ hostUp s = true ∧ fnExists s f = true ∧ r = fnOf s f ∧ v
      < 2 ^ 32 ∧ evcOff r = false ∧ ((m = 0 ∨ m = 3)) ∧ v % 4 = m) ∧
    (∃ (f : Nat) (v : Nat) (s : State) (r : _), f < 64 ∧ hostUp s = true ∧ fnExists s f = true ∧ r = fnOf s f ∧ v < 2 ^ 32 ∧
      evcOff r = true ∧ v % 4 = 2) ∧
    (∃ (f : Nat) (v : Nat) (s : State) (r : _), f < 64 ∧ hostUp s = true ∧ fnExists s f = true ∧ r = fnOf s f ∧ v < 2 ^ 32 ∧
      evcOff r = true ∧ v % 4 = 1) ∧
    (∃ (f : Nat) (v : Nat) (s : State) (r : _), f < 64 ∧ hostUp s = true ∧ fnExists s f = true ∧ r = fnOf s f ∧ v < 65536 ∧
      r.evcMode = 2 ∧ headValid r v = false) ∧
    (∃ (f : Nat) (v : Nat) (s : State) (r : _), f < 64 ∧ hostUp s = true ∧ fnExists s f = true ∧ r = fnOf s f ∧ v < 65536 ∧
      r.evcMode = 2 ∧ headValid r v = true ∧ v = r.tail) ∧
    (∃ (f : Nat) (v : Nat) (s : State) (r : _), f < 64 ∧ hostUp s = true ∧ fnExists s f = true ∧ r = fnOf s f ∧ v < 65536 ∧
      r.evcMode = 2 ∧ headValid r v = true ∧ v ≠ r.tail) ∧
    (∃ (f : Nat) (s : State) (r : _) (w : Nat) (m : Nat), f < 64 ∧ hostUp s = true ∧ fnExists s f = true ∧ r = fnOf s f ∧ w
      < 128 ∧ m < 2 ^ 64 ∧ r.evcMode ≠ 1) ∧
    (∃ (f : Nat) (v : Nat) (s : State) (r : _), f < 64 ∧ hostUp s = true ∧ fnExists s f = true ∧ r = fnOf s f ∧ v < 2 ^ 32) ∧
    (∃ (g : Glint) (f : Nat) (s : State), g.kind ∈ (fnOf s f).disabled) ∧
    (∃ (f : Nat) (k : Nat), k ≠ f) ∧
    (∃ (g : Glint) (f : Nat) (s : State), g.kind ∉ (fnOf s f).disabled ∧ (fnOf s f).evcMode ≠ 2) :=
  ⟨⟨(63), (2), (updFn 63 (fun r => { r with evcMode := 1 }) vfs), _, by decide +kernel, by decide +kernel,
      by decide +kernel, rfl, by decide +kernel⟩,
    ⟨(63), (1), (updFn 63 (fun r => { r with evcMode := 2 }) vfs), _, by decide +kernel, by decide +kernel,
      by decide +kernel, rfl, by decide +kernel⟩,
    ⟨(63), (0x7F03), (updFn 63 (fun r => { r with evcMode := 2 }) vfs), _, (3), by decide +kernel, by decide +kernel,
      by decide +kernel, rfl, by decide +kernel⟩,
    ⟨(63), (0x7F02), (updFn 63 (fun r => { r with evcMode := 0 }) vfs), _, by decide +kernel, by decide +kernel,
      by decide +kernel, rfl, by decide +kernel⟩,
    ⟨(63), (0x7F01), (updFn 63 (fun r => { r with evcMode := 3 }) vfs), _, by decide +kernel, by decide +kernel,
      by decide +kernel, rfl, by decide +kernel⟩,
    ⟨(63), (0), (updFn 63 (fun r => { r with evcMode := 2, ringSize := 6, head := 1, tail := 3 }) vfs), _,
      by decide +kernel, by decide +kernel, by decide +kernel, rfl, by decide +kernel⟩,
    ⟨(63), (3), (updFn 63 (fun r => { r with evcMode := 2, ringSize := 6, head := 1, tail := 3 }) vfs), _,
      by decide +kernel, by decide +kernel, by decide +kernel, rfl, by decide +kernel⟩,
    ⟨(63), (2), (updFn 63 (fun r => { r with evcMode := 2, ringSize := 6, head := 1, tail := 3 }) vfs), _,
      by decide +kernel, by decide +kernel, by decide +kernel, rfl, by decide +kernel⟩,
    ⟨(63), (updFn 63 (fun r => { r with evcMode := 0, pendBits := [8191] }) vfs), _, (127), (2 ^ 63), by decide +kernel,
      by decide +kernel, by decide +kernel, rfl, by decide +kernel⟩,
    ⟨(63), (0), (updFn 63 (fun r => { r with lost := true }) vfs), _, by decide +kernel, by decide +kernel,
      by decide +kernel, rfl, by decide +kernel⟩,
    ⟨(⟨255, 3, 0, 0, none, false⟩), (3), (updFn 3 (fun r => { r with disabled := [255] }) vfs), by decide +kernel⟩,
    ⟨(3), (4), by decide +kernel⟩,
    ⟨(⟨255, 3, 0, 0, none, false⟩), (3), (vfs), by decide +kernel⟩⟩

/-- The hypotheses of HoldingBuffer hold together. -/
theorem witness_HoldingBuffer :
    ∃ (k : Nat) (s : State), heldCount (fnOf s k).holding ≤ 64 :=
  ⟨(3), (vfs), by decide +kernel⟩

/-- The hypotheses of SpdmAndSessions hold together. -/
theorem witness_SpdmAndSessions :
    (∃ (f : Nat) (s : State), f < 64 ∧ hostUp s = true ∧ fnExists s f = true) ∧
    (∃ (f : Nat) (s : State), f < 64 ∧ hostUp s = true ∧ fnExists s f = true ∧ (spdmOf s f).version = true) ∧
    (∃ (f : Nat) (s : State), f < 64 ∧ hostUp s = true ∧ fnExists s f = true ∧ (spdmOf s f).version = false) ∧
    (∃ (f : Nat) (s : State), f < 64 ∧ hostUp s = true ∧ fnExists s f = true ∧ (spdmOf s f).caps = true) ∧
    (∃ (f : Nat) (s : State), f < 64 ∧ hostUp s = true ∧ fnExists s f = true ∧ (spdmOf s f).caps = false) ∧
    (∃ (f : Nat) (s : State), f < 64 ∧ hostUp s = true ∧ fnExists s f = true ∧ (spdmOf s f).algs = true ∧
      s.fuses.identityKeys = true) ∧
    (∃ (f : Nat) (s : State), f < 64 ∧ hostUp s = true ∧ fnExists s f = true ∧ (spdmOf s f).algs = true ∧
      s.fuses.identityKeys = true) ∧
    (∃ (f : Nat) (s : State) (k : Nat), f < 64 ∧ hostUp s = true ∧ fnExists s f = true ∧ (spdmOf s f).algs = true ∧
      s.fuses.identityKeys = true ∧ k ≠ 0) ∧
    (∃ (f : Nat) (s : State), f < 64 ∧ hostUp s = true ∧ fnExists s f = true ∧ (spdmOf s f).algs = true ∧
      s.fuses.identityKeys = true ∧ (sessionsOf s f).length < 2) ∧
    (∃ (f : Nat) (s : State), f < 64 ∧ hostUp s = true ∧ fnExists s f = true ∧ (spdmOf s f).algs = true ∧
      s.fuses.identityKeys = true ∧ 2 ≤ (sessionsOf s f).length) ∧
    (∃ (f : Nat) (s : State) (r : _), f < 64 ∧ hostUp s = true ∧ fnExists s f = true ∧ (spdmOf s f).algs = true ∧
      s.fuses.identityKeys = false ∧ r = doeError f deUnspecified s) ∧
    (∃ (f : Nat) (s : State) (i : Nat) (signed : Bool), f < 64 ∧ hostUp s = true ∧ fnExists s f = true ∧ (spdmOf s f).algs =
      true ∧ (i ≤ 6 ∨ i = 0xFF) ∧ (signed = false ∨ s.fuses.identityKeys = true)) ∧
    (∃ (f : Nat) (s : State), f < 64 ∧ hostUp s = true ∧ fnExists s f = true) ∧
    (∃ (f : Nat) (id : Nat) (s : State) (x : _), f < 64 ∧ hostUp s = true ∧ fnExists s f = true ∧ sessionOf s f id = some x
      ∧ x.established = false) ∧
    (∃ (f : Nat) (id : Nat) (s : State), f < 64 ∧ hostUp s = true ∧ fnExists s f = true ∧ inSession s f id = true) ∧
    (∃ (f : Nat) (id : Nat) (s : State) (r : _), f < 64 ∧ hostUp s = true ∧ fnExists s f = true ∧ inSession s f id = false ∧
      r = doeError f deUnexpected s) ∧
    (∃ (f : Nat) (s : State), f < 64 ∧ hostUp s = true ∧ fnExists s f = true ∧ s.fuses.identityKeys = true) ∧
    (∃ (f : Nat) (id : Nat) (s : State), f < 64 ∧ hostUp s = true ∧ fnExists s f = true ∧ s.fuses.identityKeys = true ∧
      inSession s f id = true) ∧
    (∃ (f : Nat) (s : State) (k : Nat), f < 64 ∧ hostUp s = true ∧ fnExists s f = true ∧ s.fuses.identityKeys = true ∧ ((k =
      0 ∧ (spdmOf s f).challenged = true) ∨ (k = 1 ∧ (spdmOf s f).measured = true))) ∧
    (∃ (f : Nat) (s : State), f < 64 ∧ hostUp s = true ∧ fnExists s f = true ∧ s.fuses.identityKeys = false) ∧
    (∃ (f : Nat) (s : State) (k : Nat), f < 64 ∧ hostUp s = true ∧ fnExists s f = true ∧ s.fuses.identityKeys = false ∧ k ≤
      2) ∧
    (∃ (f : Nat) (s : State), f < 64 ∧ hostUp s = true ∧ fnExists s f = true ∧ f = 0) ∧
    (∃ (f : Nat) (s : State), f < 64 ∧ hostUp s = true ∧ fnExists s f = true ∧ f ≠ 0) :=
  ⟨⟨(63), (vfs), by decide +kernel⟩,
    ⟨(63), (secure 63), by decide +kernel⟩,
    ⟨(63), (vfs), by decide +kernel⟩,
    ⟨(63), (secure 63), by decide +kernel⟩,
    ⟨(63), (vfs), by decide +kernel⟩,
    ⟨(63), (secure 63), by decide +kernel⟩,
    ⟨(63), (secure 63), by decide +kernel⟩,
    ⟨(63), (secure 63), (1), by decide +kernel⟩,
    ⟨(63), (secure 63), by decide +kernel⟩,
    ⟨(63), ({ secure 63 with sec := { (secure 63).sec with sessions := [⟨63, 1, true, true⟩, ⟨63, 2, true, true⟩] } }),
      by decide +kernel⟩,
    ⟨(63), ({ secure 63 with fuses := { (secure 63).fuses with identityKeys := false } }), _, by decide +kernel,
      by decide +kernel, by decide +kernel, by decide +kernel, by decide +kernel, rfl⟩,
    ⟨(63), (secure 63), (6), (true), by decide +kernel⟩,
    ⟨(63), (vfs), by decide +kernel⟩,
    ⟨(63), (1), (opening), _, by decide +kernel, by decide +kernel, by decide +kernel, rfl, by decide +kernel⟩,
    ⟨(63), (1), (secure 63), by decide +kernel⟩,
    ⟨(63), (2), (secure 63), _, by decide +kernel, by decide +kernel, by decide +kernel, by decide +kernel, rfl⟩,
    ⟨(63), (secure 63), by decide +kernel⟩,
    ⟨(63), (1), (secure 63), by decide +kernel⟩,
    ⟨(63), (secure 63), (1), by decide +kernel⟩,
    ⟨(63), ({ vfs with fuses := { vfs.fuses with identityKeys := false } }), by decide +kernel⟩,
    ⟨(63), ({ vfs with fuses := { vfs.fuses with identityKeys := false } }), (2), by decide +kernel⟩,
    ⟨(0), (vfs), by decide +kernel⟩,
    ⟨(63), (vfs), by decide +kernel⟩⟩

/-- The hypotheses of KeyOps hold together. -/
theorem witness_KeyOps :
    (∃ (f : Nat) (id : Nat) (b : List Byte) (s : State) (k : _) (r : _), f < 64 ∧ hostUp s = true ∧ fnExists s f = true ∧ k
      = field b 1 1 ∧ keyOpsOpen s f id = false ∧ r = vendorSend f syDenied [] s ∧ field b 0 1 = 0x10 ∧ k = 0) ∧
    (∃ (f : Nat) (id : Nat) (b : List Byte) (s : State) (k : _) (r : _), f < 64 ∧ hostUp s = true ∧ fnExists s f = true ∧ k
      = field b 1 1 ∧ keyOpsOpen s f id = false ∧ r = vendorSend f syDenied [] s ∧ field b 0 1 = 0x10 ∧ k = 1) ∧
    (∃ (f : Nat) (id : Nat) (b : List Byte) (s : State) (k : _) (r : _), f < 64 ∧ hostUp s = true ∧ fnExists s f = true ∧ k
      = field b 1 1 ∧ keyOpsOpen s f id = false ∧ r = vendorSend f syDenied [] s ∧ field b 0 1 = 0x10 ∧ k = 2) ∧
    (∃ (f : Nat) (id : Nat) (b : List Byte) (s : State) (k : _) (r : _), f < 64 ∧ hostUp s = true ∧ fnExists s f = true ∧ k
      = field b 1 1 ∧ keyOpsOpen s f id = false ∧ r = vendorSend f syDenied [] s ∧ field b 0 1 = 0x11) ∧
    (∃ (f : Nat) (id : Nat) (b : List Byte) (s : State) (k : _) (r : _), f < 64 ∧ hostUp s = true ∧ fnExists s f = true ∧ k
      = field b 1 1 ∧ keyOpsOpen s f id = true ∧ field b 0 1 = 0x10 ∧ r = vendorSend f syMalformed [] s ∧ k = 0 ∧ keySetBad
      0 b = true) ∧
    (∃ (f : Nat) (id : Nat) (b : List Byte) (s : State) (k : _) (r : _), f < 64 ∧ hostUp s = true ∧ fnExists s f = true ∧ k
      = field b 1 1 ∧ keyOpsOpen s f id = true ∧ field b 0 1 = 0x10 ∧ r = vendorSend f syMalformed [] s ∧ k = 1 ∧ keySetBad
      1 b = true) ∧
    (∃ (f : Nat) (id : Nat) (b : List Byte) (s : State) (k : _) (r : _), f < 64 ∧ hostUp s = true ∧ fnExists s f = true ∧ k
      = field b 1 1 ∧ keyOpsOpen s f id = true ∧ field b 0 1 = 0x10 ∧ r = vendorSend f syMalformed [] s ∧ k = 2 ∧ keySetBad
      2 b = true) ∧
    (∃ (f : Nat) (id : Nat) (b : List Byte) (s : State) (k : _) (n : _) (g : _) (m : _), f < 64 ∧ hostUp s = true ∧ fnExists
      s f = true ∧ k = field b 1 1 ∧ keyOpsOpen s f id = true ∧ field b 0 1 = 0x10 ∧ k = 0 ∧ keySetBad 0 b = false ∧ n =
      field b 3 1 ∧ facetOf s n = some g ∧ g.fn = f ∧ g.confidential = true ∧ g.rekey = none ∧ g.state ≠ 4 ∧ m = freeMemSlot
      s ∧ m ≤ 255) ∧
    (∃ (f : Nat) (id : Nat) (b : List Byte) (s : State) (k : _) (p : _), f < 64 ∧ hostUp s = true ∧ fnExists s f = true ∧ k
      = field b 1 1 ∧ keyOpsOpen s f id = true ∧ field b 0 1 = 0x10 ∧ k = 1 ∧ keySetBad 1 b = false ∧ p = bodyPeer b ∧
      SMap.look s.sec.linkKeys p = none ∧ s.sec.linkKeys.length < 4096 ∧ keyFlag b 0 = false ∧ keyFlag b 1 = false) ∧
    (∃ (f : Nat) (id : Nat) (b : List Byte) (s : State) (k : _) (n : _), f < 64 ∧ hostUp s = true ∧ fnExists s f = true ∧ k
      = field b 1 1 ∧ keyOpsOpen s f id = true ∧ field b 0 1 = 0x10 ∧ k = 2 ∧ keySetBad 2 b = false ∧ n = lowestFrom
      (s.sec.weightSlots.map (·.1)) 0 ∧ n < 64) ∧
    (∃ (f : Nat) (id : Nat) (b : List Byte) (s : State) (k : _), f < 64 ∧ hostUp s = true ∧ fnExists s f = true ∧ k = field
      b 1 1 ∧ keyOpsOpen s f id = true ∧ field b 0 1 = 0x11 ∧ keyClearBad b = true) ∧
    (∃ (f : Nat) (id : Nat) (b : List Byte) (s : State) (k : _) (n : _) (x : _), f < 64 ∧ hostUp s = true ∧ fnExists s f =
      true ∧ k = field b 1 1 ∧ keyOpsOpen s f id = true ∧ field b 0 1 = 0x11 ∧ keyClearBad b = false ∧ k = 2 ∧ n = field b 4
      2 ∧ SMap.look s.sec.weightSlots n = some x ∧ x.owner = f ∧ slotInUse s n = true) ∧
    (∃ (f : Nat) (id : Nat) (b : List Byte) (s : State) (k : _) (n : _) (x : _), f < 64 ∧ hostUp s = true ∧ fnExists s f =
      true ∧ k = field b 1 1 ∧ keyOpsOpen s f id = true ∧ field b 0 1 = 0x11 ∧ keyClearBad b = false ∧ k = 2 ∧ n = field b 4
      2 ∧ SMap.look s.sec.weightSlots n = some x ∧ x.owner = f ∧ slotInUse s n = false) ∧
    (∃ (f : Nat) (id : Nat) (b : List Byte) (s : State) (k : _) (x : _), f < 64 ∧ hostUp s = true ∧ fnExists s f = true ∧ k
      = field b 1 1 ∧ keyOpsOpen s f id = true ∧ field b 0 1 = 0x11 ∧ keyClearBad b = false ∧ k = 1 ∧ keyFlag b 0 = false ∧
      SMap.look s.sec.linkKeys (bodyPeer b) = some x ∧ x.fn = f) ∧
    (∃ (f : Nat) (id : Nat) (b : List Byte) (s : State) (k : _), f < 64 ∧ hostUp s = true ∧ fnExists s f = true ∧ k = field
      b 1 1 ∧ keyOpsOpen s f id = true ∧ f = 0 ∧ field b 0 1 = 0x12 ∧ bindingBad b = false ∧ s.fuses.identityTag ∈
      bindingTags b ∧ s.sec.bindings.length < 16) ∧
    (∃ (f : Nat) (b : List Byte) (s : State) (k : _) (n : Nat) (g : _) (r : _), f < 64 ∧ hostUp s = true ∧ fnExists s f =
      true ∧ k = field b 1 1 ∧ n < 64 ∧ facetOf s n = some g ∧ g.rekey = some r ∧ retiring s n = false) :=
  ⟨⟨(63), (1), (([0x10, 0] ++ z 78)), (vfs), _, _, by decide +kernel, by decide +kernel, by decide +kernel, rfl,
      by decide +kernel, rfl, by decide +kernel⟩,
    ⟨(63), (1), (([0x10, 1] ++ z 78)), (vfs), _, _, by decide +kernel, by decide +kernel, by decide +kernel, rfl,
      by decide +kernel, rfl, by decide +kernel⟩,
    ⟨(63), (1), (([0x10, 2] ++ z 78)), (vfs), _, _, by decide +kernel, by decide +kernel, by decide +kernel, rfl,
      by decide +kernel, rfl, by decide +kernel⟩,
    ⟨(63), (1), ([0x11, 0]), (vfs), _, _, by decide +kernel, by decide +kernel, by decide +kernel, rfl, by decide +kernel,
      rfl, by decide +kernel⟩,
    ⟨(63), (1), (([0x10, 0] ++ z 77)), (secure 63), _, _, by decide +kernel, by decide +kernel, by decide +kernel, rfl,
      by decide +kernel, by decide +kernel, rfl, by decide +kernel⟩,
    ⟨(63), (1), (([0x10, 1] ++ [8] ++ z 77)), (secure 63), _, _, by decide +kernel, by decide +kernel, by decide +kernel,
      rfl, by decide +kernel, by decide +kernel, rfl, by decide +kernel⟩,
    ⟨(63), (1), (([0x10, 2] ++ [1] ++ z 77)), (secure 63), _, _, by decide +kernel, by decide +kernel, by decide +kernel,
      rfl, by decide +kernel, by decide +kernel, rfl, by decide +kernel⟩,
    ⟨(63), (1), (([0x10, 0] ++ [0, 63] ++ z 12 ++ List.replicate 64 7)),
      ({ secure 63 with facets := [(63, { fac with fn := 63, confidential := true })] }), _, _, _, _, by decide +kernel,
      by decide +kernel, by decide +kernel, rfl, by decide +kernel, by decide +kernel, by decide +kernel, by decide +kernel,
      rfl, rfl, by decide +kernel, by decide +kernel, by decide +kernel, by decide +kernel, rfl, by decide +kernel⟩,
    ⟨(63), (1), (([0x10, 1] ++ [0, 0] ++ f2 65535 ++ z 2 ++ f4 9 ++ z 4 ++ List.replicate 32 7 ++ z 32)), (secure 63), _, _,
      by decide +kernel, by decide +kernel, by decide +kernel, rfl, by decide +kernel, by decide +kernel, by decide +kernel,
      by decide +kernel, rfl, by decide +kernel⟩,
    ⟨(63), (1), (([0x10, 2] ++ z 14 ++ List.replicate 32 7 ++ z 32)), (secure 63), _, _, by decide +kernel,
      by decide +kernel, by decide +kernel, rfl, by decide +kernel, by decide +kernel, by decide +kernel, by decide +kernel,
      rfl, by decide +kernel⟩,
    ⟨(63), (1), ([0x11, 0] ++ z 6), (secure 63), _, by decide +kernel, by decide +kernel, by decide +kernel, rfl,
      by decide +kernel⟩,
    ⟨(63), (1), ([0x11, 2, 0, 0] ++ f2 63 ++ z 2),
      ({ secure 63 with sec := { (secure 63).sec with weightSlots := [(63, ⟨63, z 32⟩)] }, facets := [(0, { fac with fn := 63, sets := [(3, { ws3 with keySlot := 63 })] })] }),
      _, _, _, by decide +kernel, by decide +kernel, by decide +kernel, rfl, by decide +kernel, by decide +kernel,
      by decide +kernel, by decide +kernel, rfl, rfl, by decide +kernel⟩,
    ⟨(63), (1), ([0x11, 2, 0, 0] ++ f2 63 ++ z 2),
      ({ secure 63 with sec := { (secure 63).sec with weightSlots := [(63, ⟨63, z 32⟩)] } }), _, _, _, by decide +kernel,
      by decide +kernel, by decide +kernel, rfl, by decide +kernel, by decide +kernel, by decide +kernel, by decide +kernel,
      rfl, rfl, by decide +kernel⟩,
    ⟨(63), (1), ([0x11, 1, 0, 0] ++ f2 65535 ++ z 2),
      ({ secure 63 with sec := { (secure 63).sec with linkKeys := [(peerKey false 65535, { fn := 63, salt := 1 })] } }), _,
      _, by decide +kernel, by decide +kernel, by decide +kernel, rfl, by decide +kernel, by decide +kernel,
      by decide +kernel, by decide +kernel, by decide +kernel, rfl, by decide +kernel⟩,
    ⟨(0), (1), ([0x12] ++ z 3 ++ f4 5 ++ z 32 ++ f2 1 ++ z 6 ++ toLe 16 77), (secure 0), _, by decide +kernel,
      by decide +kernel, by decide +kernel, rfl, by decide +kernel⟩,
    ⟨(63), ([]), ({ vfs with facets := [(0, { fac with fn := 63, confidential := true, rekey := some ⟨1, [0]⟩ })] }), _,
      (0), _, _, by decide +kernel, by decide +kernel, by decide +kernel, rfl, by decide +kernel, rfl, rfl,
      by decide +kernel⟩⟩

/-- The hypotheses of LifeCycleAndTamper hold together. -/
theorem witness_LifeCycleAndTamper :
    (∃ (b : List Byte) (s : State) (t : _) (f : Nat), hostUp s = true ∧ field b 0 1 = 0x21 ∧ t = lcTarget b ∧ f < 64 ∧ f ≠ 0
      ∧ fnExists s f = true) ∧
    (∃ (b : List Byte) (s : State) (t : _), hostUp s = true ∧ field b 0 1 = 0x21 ∧ t = lcTarget b ∧ lcAuthority
      s.fuses.lcState t = none) ∧
    (∃ (w : Option Nat) (b : List Byte) (c : Bool) (d : Bool) (s : State) (t : _) (need : Nat), hostUp s = true ∧ field b 0
      1 = 0x21 ∧ t = lcTarget b ∧ lcAuthority s.fuses.lcState t = some need ∧ (s.sec.nonce ≠ some (lcNonce b) ∨ lcAuthorised
      s need w c d = false)) ∧
    (∃ (w : Option Nat) (b : List Byte) (c : Bool) (d : Bool) (s : State) (t : _) (need : Nat), hostUp s = true ∧ field b 0
      1 = 0x21 ∧ t = lcTarget b ∧ lcAuthority s.fuses.lcState t = some need ∧ s.sec.nonce = some (lcNonce b) ∧ lcAuthorised
      s need w c d = true) ∧
    (∃ (k : Nat) (s : State), k < 4 ∧ s.pwr.aonGood = true ∧ s.fuses.lcState = 0) ∧
    (∃ (k : Nat) (s : State), k < 4 ∧ s.pwr.aonGood = true ∧ s.fuses.lcState ≠ 0) :=
  ⟨⟨([0x21, 4, 0, 0] ++ toLe 32 5 ++ z 12), (vfs), _, (63), by decide +kernel, by decide +kernel, rfl, by decide +kernel⟩,
    ⟨([0x21, 1, 0, 0] ++ toLe 32 5 ++ z 12), (on), _, by decide +kernel, by decide +kernel, rfl, by decide +kernel⟩,
    ⟨(none), ([0x21, 4, 0, 0] ++ toLe 32 5 ++ z 12), (true), (false), (on), _, (1), by decide +kernel, by decide +kernel,
      rfl, by decide +kernel⟩,
    ⟨(none), ([0x21, 4, 0, 0] ++ toLe 32 5 ++ z 12), (true), (true), ({ on with sec := { on.sec with nonce := some 5 } }),
      _, (1), by decide +kernel, by decide +kernel, rfl, by decide +kernel⟩,
    ⟨(3), ({ on with fuses := { on.fuses with lcState := 0 } }), by decide +kernel⟩,
    ⟨(3), (on), by decide +kernel⟩⟩

/-- The hypotheses of RailsAndReset hold together. -/
theorem witness_RailsAndReset :
    (∃ (k : Nat) (s : State), k < 8 ∧ s.pwr.aonGood = false) ∧
    (∃ (r : Nat) (s : State), r < 7 ∧ railCommanded s.pwr r = true ∧ s.pwr.stage ≠ 6) ∧
    (∃ (k : Nat) (s : State), k < 8 ∧ s.pwr.aonGood = true) ∧
    (∃ (r : Nat) (s : State), r < 7 ∧ (railCommanded s.pwr r = false ∨ s.pwr.stage = 6)) ∧
    (∃ (r : Nat) (s : State), r < 7 ∧ s.pwr.aonGood = true ∧ (r ∈ s.pwr.railsOn ∨ railCommanded s.pwr r = true)) ∧
    (∃ (s : State), s.pwr.perst = false) ∧
    (∃ (s : State), s.pwr.perst = true ∧ s.pwr.aonGood = true ∧ s.pwr.stage ≠ 6 ∧ s.pwr.order ≠ 7) ∧
    (∃ (a : Bool) (b : Bool) (s : State) (u : _), s.pwr.perst = true ∧ s.pwr.aonGood = true ∧ s.pwr.stage ≠ 6 ∧ s.pwr.order
      = 7 ∧ u = firstPowerUp (setSec (chooseBank a b s.fuses.svnFloor) (setPwr (fun p =>
      { p with perst := false, pcie := s.time.refclkOk }) s))) ∧
    (∃ (a : Bool) (b : Bool) (s : State), (chooseBank a b s.fuses.svnFloor s.sec).imageOk = true) ∧
    (∃ (s : State), s.pwr.stage = 2 ∧ s.pwr.perst = false ∧ s.sec.imageOk = true ∧ s.fuses.lcState ≠ 5) :=
  ⟨⟨(7), ({ State.reset with pwr := { State.reset.pwr with aonGood := false } }), by decide +kernel⟩,
    ⟨(1), ({ State.reset with pwr := { State.reset.pwr with aonGood := true, order := 5 } }), by decide +kernel⟩,
    ⟨(0), (on), by decide +kernel⟩,
    ⟨(0), (on), by decide +kernel⟩,
    ⟨(0), (on), by decide +kernel⟩,
    ⟨(on), by decide +kernel⟩,
    ⟨({ State.reset with pwr := { State.reset.pwr with aonGood := true, perst := true, order := 2 } }), by decide +kernel⟩,
    ⟨(true), (false), ({ State.reset with pwr := { State.reset.pwr with aonGood := true, perst := true, order := 7 } }), _,
      by decide +kernel, by decide +kernel, by decide +kernel, by decide +kernel, rfl⟩,
    ⟨(true), (false), (on), by decide +kernel⟩,
    ⟨({ State.reset with pwr := { State.reset.pwr with stage := 2, perst := false }, sec := { up.sec with imageOk := true } }),
      by decide +kernel⟩⟩

/-- The hypotheses of Sideband hold together. -/
theorem witness_Sideband :
    (∃ (s : State), s.pwr.aonGood = true) ∧
    (∃ (s : State) (a : Nat), s.pwr.aonGood = true ∧ a < 128 ∧ s.side.dynAddr = none) ∧
    (∃ (s : State) (a : Nat), s.pwr.aonGood = true ∧ a < 128 ∧ s.side.dynAddr ≠ none) ∧
    (∃ (s : State) (e : Nat), s.pwr.aonGood = true ∧ 0 < e ∧ e < 255) ∧
    (∃ (s : State) (e : Nat), s.pwr.aonGood = true ∧ 0 < e ∧ e < 255) ∧
    (∃ (s : State) (t : Nat), s.pwr.aonGood = true ∧ (t = 0 ∨ t = 2 ∨ t = 4)) ∧
    (∃ (s : State) (k : Nat), s.pwr.aonGood = true ∧ 1 ≤ k ∧ k ≤ 25) ∧
    (∃ (s : State) (k : Nat), s.pwr.aonGood = true ∧ 25 < k) ∧
    (∃ (s : State) (k : Nat), s.pwr.aonGood = true ∧ 26 ≤ k ∧ k ≤ 29) ∧
    (∃ (s : State) (k : Nat), s.pwr.aonGood = true ∧ (k < 26 ∨ 29 < k)) ∧
    (∃ (s : State) (e : Nat), s.pwr.aonGood = true ∧ e < 256) ∧
    (∃ (s : State), s.pwr.aonGood = true ∧ s.fw.handover = true) ∧
    (∃ (s : State), s.pwr.aonGood = true ∧ s.fw.handover = false) ∧
    (∃ (c : Nat) (o : Nat) (d : List Byte) (s : State), c < 544 ∧ o + d.length ≤ 2 ^ 21 ∧ 1 < s.fuses.lcState) ∧
    (∃ (c : Nat) (o : Nat) (w : Bool) (d : List Byte) (s : State), c < 544 ∧ o + d.length ≤ 2 ^ 21 ∧ s.fuses.lcState ≤ 1 ∧ 6
      ∈ s.pwr.railsOn ∧ (coreOf s c).powered = true ∧ confCore s c = false ∧ o + d.length ≤ Config.dataRegion ∧ w = true) ∧
    (∃ (c : Nat) (o : Nat) (w : Bool) (d : List Byte) (s : State), c < 544 ∧ o + d.length ≤ 2 ^ 21 ∧ s.fuses.lcState ≤ 1 ∧ 6
      ∈ s.pwr.railsOn ∧ (coreOf s c).powered = true ∧ confCore s c = false ∧ o + d.length ≤ Config.dataRegion ∧ w = false) ∧
    (∃ (c : Nat) (o : Nat) (d : List Byte) (s : State), c < 544 ∧ o + d.length ≤ 2 ^ 21 ∧ s.fuses.lcState ≤ 1 ∧ 6 ∈
      s.pwr.railsOn ∧ (coreOf s c).powered = true ∧ (confCore s c = true ∨ Config.dataRegion < o + d.length)) :=
  ⟨⟨(up), by decide +kernel⟩,
    ⟨(up), (127), by decide +kernel⟩,
    ⟨({ up with side := { up.side with dynAddr := some 8 } }), (127), by decide +kernel⟩,
    ⟨(up), (254), by decide +kernel⟩,
    ⟨(up), (254), by decide +kernel⟩,
    ⟨(up), (4), by decide +kernel⟩,
    ⟨(up), (25), by decide +kernel⟩,
    ⟨(up), (26), by decide +kernel⟩,
    ⟨(up), (29), by decide +kernel⟩,
    ⟨(up), (30), by decide +kernel⟩,
    ⟨(up), (255), by decide +kernel⟩,
    ⟨({ up with fw := { up.fw with handover := true } }), by decide +kernel⟩,
    ⟨(up), by decide +kernel⟩,
    ⟨(543), (0), ([1, 2]), (on), by decide +kernel⟩,
    ⟨(543), (Config.dataRegion - 2), (true), ([1, 2]),
      ({ on with fuses := { on.fuses with lcState := 1 }, cores := [(543, { powered := true })] }), by decide +kernel⟩,
    ⟨(543), (Config.dataRegion - 2), _, ([1, 2]),
      ({ on with fuses := { on.fuses with lcState := 1 }, cores := [(543, { powered := true })] }), by decide +kernel,
      by decide +kernel, by decide +kernel, by decide +kernel, by decide +kernel, by decide +kernel, by decide +kernel, rfl⟩,
    ⟨(543), (Config.dataRegion - 1), ([1, 2]),
      ({ on with fuses := { on.fuses with lcState := 1 }, cores := [(543, { powered := true })] }), by decide +kernel⟩⟩

/-- The hypotheses of ServicesComplete hold together. -/
theorem witness_ServicesComplete :
    (∃ (fn : Nat) (h : Req) (b : List Byte) (s : State), AskedJob fn layFwUpdate false h b s ∧ field b 0 8 % 4096 = 0 ∧
      field b 8 4 ≤ 16777216 ∧ s.fw.update = none) ∧
    (∃ (u : FwUpdate) (s : State), s.fw.update = some u ∧ u.phase = 1 ∧ imageAccepted s u.img = true) ∧
    (∃ (u : FwUpdate) (s : State), s.fw.update = some u ∧ u.phase = 2 ∧ quiet s = true ∧ (∀ e ∈ s.facets, e.2.resize =
      none)) ∧
    (∃ (u : FwUpdate) (s : State), s.fw.update = some u ∧ u.phase = 3) ∧
    (∃ (fn : Nat) (h : Req) (d : List Byte) (s : State), Asked fn (layPower 0) false h d s ∧ 30 ≤ h.respLen ∧ powerBodyOk
      (powerBody d) = true) ∧
    (∃ (fn : Nat) (h : Req) (d : List Byte) (s : State), Asked fn (layPower 1) false h d s ∧ 30 ≤ h.respLen) ∧
    (∃ (s : State) (half : Nat), s.pwr.mcRunning = true ∧ s.pwr.stage = 5 ∧ s.pwr.state = 0 ∧ s.pwr.halt = none ∧ half < 2 ∧
      s.pwr.dimDisable = false ∧ halfOn s (half == 1) = true ∧ halfWorks s (half == 1) = false) ∧
    (∃ (s : State) (p : Nat), s.pwr.mcRunning = true ∧ s.pwr.stage = 5 ∧ s.pwr.state = 0 ∧ s.pwr.halt = none ∧ s.pwr.peakW *
      97 < p * 100) ∧
    (∃ (s : State) (half : Nat), s.pwr.mcRunning = true ∧ s.pwr.stage = 5 ∧ s.pwr.state = 0 ∧ s.pwr.halt = none ∧ half < 2 ∧
      s.pwr.settling = true ∧ s.pwr.issue < 16) ∧
    (∃ (s : State) (k : Nat) (l : List Int), s.pwr.mcRunning = true ∧ s.pwr.stage = 5 ∧ s.pwr.state = 0 ∧ s.pwr.halt = none
      ∧ k < 32 ∧ l.length = 8 ∧ halfOn s (eastCluster k) = true) ∧
    (∃ (s : State) (n : _), s.pwr.mcRunning = true ∧ s.pwr.stage = 5 ∧ s.pwr.state = 0 ∧ s.pwr.halt = none ∧ okTrip n = true
      ∧ computeOn s = true) ∧
    (∃ (s : State), s.pwr.mcRunning = true ∧ s.pwr.stage = 5 ∧ s.pwr.state = 0 ∧ s.pwr.halt = none ∧ s.pwr.coolOk = false ∧
      s.pwr.coolTimer = true ∧ computeOn s = true) ∧
    (∃ (x : Machine.Halt) (s : State), s.pwr.halt = some x ∧ s.fw.handover = false) ∧
    (∃ (s : State), s.pwr.coolOk = true) ∧
    (∃ (s : State), s.pwr.coolOk = true ∧ s.pwr.order ≠ 3) ∧
    (∃ (s : State), s.pwr.coolOk = false) ∧
    (∃ (f : Nat) (s : State), f < 64 ∧ hostUp s = true ∧ fnExists s f = true) ∧
    (∃ (f : Nat) (s : State), f < 64 ∧ hostUp s = true ∧ fnExists s f = true ∧ (spdmOf s f).version = true) ∧
    (∃ (f : Nat) (s : State), f < 64 ∧ hostUp s = true ∧ fnExists s f = true ∧ (spdmOf s f).caps = true) ∧
    (∃ (f : Nat) (s : State), f < 64 ∧ hostUp s = true ∧ fnExists s f = true ∧ (spdmOf s f).algs = true ∧
      s.fuses.identityKeys = true) ∧
    (∃ (f : Nat) (s : State), f < 64 ∧ hostUp s = true ∧ fnExists s f = true ∧ (spdmOf s f).algs = true ∧
      s.fuses.identityKeys = true) ∧
    (∃ (f : Nat) (s : State) (i : Nat), f < 64 ∧ hostUp s = true ∧ fnExists s f = true ∧ (spdmOf s f).algs = true ∧
      s.fuses.identityKeys = true ∧ (i ≤ 6 ∨ i = 0xFF)) ∧
    (∃ (f : Nat) (s : State), f < 64 ∧ hostUp s = true ∧ fnExists s f = true ∧ (spdmOf s f).algs = true ∧
      s.fuses.identityKeys = true ∧ (sessionsOf s f).length < 2) ∧
    (∃ (f : Nat) (s : State) (i : Nat) (x : _), f < 64 ∧ hostUp s = true ∧ fnExists s f = true ∧ sessionOf s f i = some x ∧
      x.established = false) ∧
    (∃ (f : Nat) (s : State) (i : Nat), f < 64 ∧ hostUp s = true ∧ fnExists s f = true ∧ inSession s f i = true) ∧
    (∃ (f : Nat) (s : State) (i : Nat), f < 64 ∧ hostUp s = true ∧ fnExists s f = true ∧ inSession s f i = true ∧
      s.fuses.identityKeys = true) ∧
    (∃ (f : Nat) (s : State), f < 64 ∧ hostUp s = true ∧ fnExists s f = true ∧ s.fuses.identityKeys = true) ∧
    (∃ (f : Nat) (s : State), f < 64 ∧ hostUp s = true ∧ fnExists s f = true ∧ f = 0) ∧
    (∃ (k : Nat) (s : State), k < 8 ∧ s.pwr.aonGood = false) ∧
    (∃ (r : Nat) (s : State), r < 7 ∧ railCommanded s.pwr r = true ∧ s.pwr.stage ≠ 6) ∧
    (∃ (r : Nat) (s : State), r < 7 ∧ s.pwr.aonGood = true ∧ r ∈ s.pwr.railsOn) ∧
    (∃ (s : State), s.pwr.perst = false) ∧
    (∃ (s : State), s.pwr.perst = true ∧ s.pwr.aonGood = true ∧ s.pwr.stage ≠ 6 ∧ s.pwr.order ≠ 7) ∧
    (∃ (s : State), s.pwr.stage = 2 ∧ s.pwr.perst = false ∧ s.sec.imageOk = true ∧ s.fuses.lcState ≠ 5) ∧
    (∃ (s : State), s.pwr.aonGood = true) ∧
    (∃ (s : State) (a : Nat), s.pwr.aonGood = true ∧ a < 128 ∧ s.side.dynAddr = none) ∧
    (∃ (s : State) (e : Nat), s.pwr.aonGood = true ∧ 0 < e ∧ e < 255) ∧
    (∃ (s : State) (k : Nat), s.pwr.aonGood = true ∧ 1 ≤ k ∧ k ≤ 25) ∧
    (∃ (s : State) (k : Nat), s.pwr.aonGood = true ∧ 26 ≤ k ∧ k ≤ 29) ∧
    (∃ (s : State) (e : Nat), s.pwr.aonGood = true ∧ e < 256) ∧
    (∃ (s : State), s.pwr.aonGood = true ∧ s.fw.handover = false) ∧
    (∃ (c : Nat) (o : Nat) (d : List Byte) (s : State), c < 544 ∧ o + d.length ≤ Config.dataRegion ∧ s.fuses.lcState ≤ 1 ∧ 6
      ∈ s.pwr.railsOn ∧ (coreOf s c).powered = true ∧ confCore s c = false) :=
  ⟨⟨(0), (askedHdr (ask opFwUpdate (f8 4096 ++ f4 16777216 ++ z 4) (on) 0 4096) (0) layFwUpdate), (askedBytes (ask
      opFwUpdate (f8 4096 ++ f4 16777216 ++ z 4) (on) 0 4096) (0) layFwUpdate), (ask opFwUpdate (f8 4096 ++ f4 16777216 ++ z
      4) (on) 0 4096), by decide +kernel⟩,
    ⟨_,
      ({ on with fw := { on.fw with update := some { phase := 1, img := ⟨true, 3, true, 64, 2, true, 16777216, z 256⟩, ticket := ⟨0, 1, opFwUpdate⟩ } } }),
      rfl, by decide +kernel⟩,
    ⟨_,
      ({ on with fw := { on.fw with update := some { phase := 2, img := ⟨true, 3, true, 64, 2, true, 16777216, z 256⟩, ticket := ⟨0, 1, opFwUpdate⟩ } } }),
      rfl, by decide +kernel⟩,
    ⟨_,
      ({ on with fw := { on.fw with update := some { phase := 3, img := ⟨true, 3, true, 64, 2, true, 16777216, z 256⟩, ticket := ⟨0, 1, opFwUpdate⟩ } } }),
      rfl, by decide +kernel⟩,
    ⟨(0), (askedHdr (ask opPowerLimits (f1 0 ++ f1 0 ++ f2 800 ++ f2 700 ++ f1 100 ++ z 1 ++ f2 850 ++ f2 600 ++ f2 85 ++ f2
      10000) (on) 0 4096) (0) (layPower 0)), (askedBytes (ask opPowerLimits (f1 0 ++ f1 0 ++ f2 800 ++ f2 700 ++ f1 100 ++ z
      1 ++ f2 850 ++ f2 600 ++ f2 85 ++ f2 10000) (on) 0 4096) (0) (layPower 0)), (ask opPowerLimits (f1 0 ++ f1 0 ++ f2 800
      ++ f2 700 ++ f1 100 ++ z 1 ++ f2 850 ++ f2 600 ++ f2 85 ++ f2 10000) (on) 0 4096), by decide +kernel⟩,
    ⟨(0), (askedHdr (ask opPowerLimits (f1 1 ++ z 15) (on) 0 4096) (0) (layPower 1)), (askedBytes (ask opPowerLimits (f1 1
      ++ z 15) (on) 0 4096) (0) (layPower 1)), (ask opPowerLimits (f1 1 ++ z 15) (on) 0 4096), by decide +kernel⟩,
    ⟨(up), (1), by decide +kernel⟩,
    ⟨(up), (1900), by decide +kernel⟩,
    ⟨({ up with pwr := { up.pwr with settling := true, issue := 15 } }), (1), by decide +kernel⟩,
    ⟨(up), (31), (List.replicate 7 0 ++ [1051]), by decide +kernel⟩,
    ⟨(up), (0x107), by decide +kernel⟩,
    ⟨({ up with pwr := { up.pwr with coolOk := false, coolTimer := true } }), by decide +kernel⟩,
    ⟨_, ({ up with pwr := { up.pwr with halt := some ⟨true, 2, true, 0, 1250⟩ } }), rfl, by decide +kernel⟩,
    ⟨(up), by decide +kernel⟩,
    ⟨(up), by decide +kernel⟩,
    ⟨({ up with pwr := { up.pwr with coolOk := false, coolTimer := true } }), by decide +kernel⟩,
    ⟨(63), (vfs), by decide +kernel⟩,
    ⟨(63), (secure 63), by decide +kernel⟩,
    ⟨(63), (secure 63), by decide +kernel⟩,
    ⟨(63), (secure 63), by decide +kernel⟩,
    ⟨(63), (secure 63), by decide +kernel⟩,
    ⟨(63), (secure 63), (6), by decide +kernel⟩,
    ⟨(63), (secure 63), by decide +kernel⟩,
    ⟨(63), (opening), (1), _, by decide +kernel, by decide +kernel, by decide +kernel, rfl, by decide +kernel⟩,
    ⟨(63), (secure 63), (1), by decide +kernel⟩,
    ⟨(63), (secure 63), (1), by decide +kernel⟩,
    ⟨(63), (secure 63), by decide +kernel⟩,
    ⟨(0), (vfs), by decide +kernel⟩,
    ⟨(7), ({ State.reset with pwr := { State.reset.pwr with aonGood := false } }), by decide +kernel⟩,
    ⟨(1), ({ State.reset with pwr := { State.reset.pwr with aonGood := true, order := 5 } }), by decide +kernel⟩,
    ⟨(6), (on), by decide +kernel⟩,
    ⟨(on), by decide +kernel⟩,
    ⟨({ State.reset with pwr := { State.reset.pwr with aonGood := true, perst := true, order := 2 } }), by decide +kernel⟩,
    ⟨({ State.reset with pwr := { State.reset.pwr with stage := 2, perst := false }, sec := { up.sec with imageOk := true } }),
      by decide +kernel⟩,
    ⟨(up), by decide +kernel⟩,
    ⟨(up), (127), by decide +kernel⟩,
    ⟨(up), (254), by decide +kernel⟩,
    ⟨(up), (25), by decide +kernel⟩,
    ⟨(up), (29), by decide +kernel⟩,
    ⟨(up), (255), by decide +kernel⟩,
    ⟨(up), by decide +kernel⟩,
    ⟨(543), (Config.dataRegion - 2), ([1, 2]),
      ({ on with fuses := { on.fuses with lcState := 1 }, cores := [(543, { powered := true })] }), by decide +kernel⟩⟩

end Sys2Proof.Tests
end

/-! Scope of the model: every command completes or names what does not exist, and the state after reset. -/

namespace Sys2Proof.Machine

theorem checked_fault {ok : Bool} (h : ok = false) (s : State) (f : State → State) :
    checked ok s f = .fault .noSuchUnit := by
  simp [checked, h]

/-- Every arm of `exec` is a `checked` effect, and the check that it makes is the command's own arm of `Instr.wf`. -/
theorem exec_eq_checked (c : Instr) (s : State) : ∃ f : State → State, exec c s = checked c.wf s f := by
  cases c <;> apply Exists.intro <;> rfl

/-- Settles O2: every meaning is guarded by `checked` with the command's arm of `Instr.wf`. -/
theorem wellFormedCompletes : Obligations.WellFormedCompletes := by
  unfold Obligations.WellFormedCompletes
  intro c s
  obtain ⟨f, hf⟩ := exec_eq_checked c s
  rw [hf]
  exact ⟨fun h => ⟨f s, checked_ok h s f⟩, fun h => checked_fault h s f⟩

/-! ## Records of the units after reset -/

@[simp] theorem fnOf_reset (f : Nat) : fnOf State.reset f = {} := rfl
@[simp] theorem coreOf_reset (c : Nat) : coreOf State.reset c = coreInit State.reset c := rfl
@[simp] theorem engineOf_reset (e : Nat) : engineOf State.reset e = engineInit State.reset e := rfl
@[simp] theorem portOf_reset (p : Nat) : portOf State.reset p = {} := rfl

@[simp] theorem coreInit_powered (s : State) (c : Nat) : (coreInit s c).powered = false := rfl
@[simp] theorem coreInit_cmd (s : State) (c : Nat) : (coreInit s c).cmd = none := rfl

/-- An engine starts as RESERVE or UNCALIBRATED, never as OK (R97, R100). -/
theorem engineInit_status_ne_ok (s : State) (e : Nat) : (engineInit s e).status ≠ 1 := by
  unfold engineInit
  split <;> decide

/-- Settles O4: the whole-module registers are read off `State.reset`, and a unit that no map lists has its initial record. -/
theorem resetState : Obligations.ResetState := by
  unfold Obligations.ResetState
  have hfns (f : Nat) (_ : f < 64) : (fnOf State.reset f).evcMode = 0 ∧ (fnOf State.reset f).outstanding = false ∧
      (fnOf State.reset f).ringSize = 6 ∧ (fnOf State.reset f).disabled = [] ∧ (fnOf State.reset f).quiesced = false := by
    simp
  have hengines (e : Nat) (_ : e < 4352) : (engineOf State.reset e).status ≠ 1 := by
    simpa using engineInit_status_ne_ok State.reset e
  have hcores (c : Nat) (_ : c < 544) : (coreOf State.reset c).powered = false ∧ (coreOf State.reset c).cmd = none := by
    simp
  have hports (p : Nat) (_ : p < 6) : (portOf State.reset p).enable = false := by
    simp
  have hlc : lcLegal State.reset := by decide
  have hfloor : State.reset.fuses.svnFloor ≤ 64 := by decide
  have hqueue : queueOk State.reset := fun _ hc => nomatch hc
  exact ⟨rfl, hlc, hfloor, rfl, hqueue, rfl, rfl, rfl, rfl, hfns, rfl, rfl, rfl, rfl, rfl, rfl, hengines, hcores, hports⟩

end Sys2Proof.Machine

/-! BAR2 and the registers of BAR0: what each effect is, case by case. -/

namespace Sys2Proof.Machine

/-! ## BAR2 (R211, R286, R289) -/

theorem exec_bar2Read {a n : Nat} (h : a + n ≤ 2 ^ 39) (s : State) :
    exec (.bar2Read a n) s = .next (bar2ReadEff a n s) :=
  checked_ok (decide_eq_true h) s _

theorem exec_bar2Write {a : Nat} {d : List Byte} (h : a + d.length ≤ 2 ^ 39) (s : State) :
    exec (.bar2Write a d) s = .next (bar2WriteEff a d s) :=
  checked_ok (decide_eq_true h) s _

theorem exec_bar2Atomic {a n : Nat} (h : a + n ≤ 2 ^ 39) (k x y : Nat) (s : State) :
    exec (.bar2Atomic a k n x y) s = .next (bar2AtomicEff a k n x y s) :=
  checked_ok (decide_eq_true h) s _

section NoWindow
variable {s : State} (hu : hostUp s = true) (hw : windowFacet s = none)
include hu hw

theorem bar2ReadEff_noWindow (a n : Nat) : bar2ReadEff a n s = abortRead s := by
  simp [bar2ReadEff, hu, hw]

theorem bar2WriteEff_noWindow (a : Nat) (d : List Byte) : bar2WriteEff a d s = discardWrite s := by
  simp [bar2WriteEff, hu, hw]

theorem bar2AtomicEff_noWindow (a k n x y : Nat) : bar2AtomicEff a k n x y s = abortRead s := by
  simp [bar2AtomicEff, hu, hw]

end NoWindow

section Window
variable {s : State} {f : Nat} (hu : hostUp s = true) (hw : windowFacet s = some f)
include hu hw

theorem bar2ReadEff_waits {a n : Nat} (hb : rangeWaits (fnVia s (ownerOf s f)) f a n false s = true) :
    bar2ReadEff a n s = s := by
  simp [bar2ReadEff, hu, hw, hb]

theorem bar2ReadEff_data {a n : Nat} {d : List Byte} {t : State}
    (hb : rangeWaits (fnVia s (ownerOf s f)) f a n false s = false)
    (hr : faRead (fnVia s (ownerOf s f)) f 1 a n s = (.inl d, t)) :
    bar2ReadEff a n s = emit (.completion (some d) false) t := by
  simp [bar2ReadEff, hu, hw, hb, hr]

theorem bar2ReadEff_poisoned {a n l : Nat} {t : State}
    (hb : rangeWaits (fnVia s (ownerOf s f)) f a n false s = false)
    (hr : faRead (fnVia s (ownerOf s f)) f 1 a n s = (.inr (stDataPoisoned, l), t)) :
    bar2ReadEff a n s = poisonRead n t := by
  simp [bar2ReadEff, hu, hw, hb, hr]

theorem bar2WriteEff_done {a : Nat} {d : List Byte} {t : State}
    (hb : rangeWaits (fnVia s (ownerOf s f)) f a d.length true s = false)
    (hr : faWrite (fnVia s (ownerOf s f)) f 1 a d s = (none, t)) : bar2WriteEff a d s = t := by
  simp [bar2WriteEff, hu, hw, hb, hr]

theorem bar2WriteEff_failed {a : Nat} {d : List Byte} {e : Nat × Nat} {t : State}
    (hb : rangeWaits (fnVia s (ownerOf s f)) f a d.length true s = false)
    (hr : faWrite (fnVia s (ownerOf s f)) f 1 a d s = (some e, t)) : bar2WriteEff a d s = discardWrite t := by
  simp [bar2WriteEff, hu, hw, hb, hr]

theorem bar2AtomicEff_run {a k n : Nat} (x y : Nat)
    (hb : rangeWaits (fnVia s (ownerOf s f)) f a n true s = false) (hk : atomicOk a k n = true) :
    bar2AtomicEff a k n x y s = atomicRun f a k n x y s := by
  simp [bar2AtomicEff, hu, hw, hb, hk]

theorem bar2AtomicEff_refused {a k n : Nat} (x y : Nat)
    (hb : rangeWaits (fnVia s (ownerOf s f)) f a n true s = false) (hk : atomicOk a k n = false) :
    bar2AtomicEff a k n x y s = abortRead s := by
  simp [bar2AtomicEff, hu, hw, hb, hk]

end Window

theorem atomicOk_of_aligned {a k n : Nat} (hn : n = 4 ∨ n = 8) (ha : a % n = 0) (hk : k ≤ 2) : atomicOk a k n = true := by
  simp [atomicOk, hn, ha, hk]

theorem atomicRun_data {f a n : Nat} {d : List Byte} {s t : State} (k x y : Nat)
    (hr : faRead (fnVia s (ownerOf s f)) f 1 a n s = (.inl d, t)) :
    atomicRun f a k n x y s = emit (.completion (some d) false)
      (faWrite (fnVia s (ownerOf s f)) f 1 a (toLe n (atomicNew k n x y (ofLe d))) t).2 := by
  simp [atomicRun, hr]

/-! ## REGISTER_WRITE (R13, R14, R291) -/

theorem barWrite_narrow {v : Nat} (hv : v < 2 ^ 32) (f o : Nat) (s : State) :
    barWrite f o v false s = barWrite32 f o v s :=
  congrArg (barWrite32 f o · s) (Nat.mod_eq_of_lt hv)

/-- A 32-bit register write that names a function and an offset of its region is one write there. -/
theorem exec_registerWrite {f o v : Nat} {s : State} (hf : f < 64) (ho : o < 2 ^ 26) (hv : v < 2 ^ 32)
    (hu : hostUp s = true) (he : fnExists s f = true) :
    exec (.registerWrite f o v false) s = .next (barWrite32 f o v s) := by
  have hok : (okFn f && decide (o < 2 ^ 26) && decide (v < 2 ^ 64)) = true := by
    have hv64 : v < 2 ^ 64 := by omega
    simp only [okFn, hf, ho, hv64, decide_true, Bool.and_self]
  have heff : registerWriteEff f o v false s = barWrite32 f o v s := by
    simp [registerWriteEff, hu, he, barWrite_narrow hv]
  exact (checked_ok hok s _).trans (congrArg _ heff)

theorem barWrite32_misaligned {o : Nat} (h : o % 4 ≠ 0) (f v : Nat) (s : State) : barWrite32 f o v s = s := by
  simp [barWrite32, h]

theorem barWrite32_common {o : Nat} (h : o % 4 = 0) (hlt : o < 0x100000) (f v : Nat) (s : State) :
    barWrite32 f o v s = commonWrite f o v s := by
  simp [barWrite32, h, hlt]

theorem barWrite32_pf0 {o : Nat} (h : o % 4 = 0) (hge : 0x100000 ≤ o) (v : Nat) (s : State) :
    barWrite32 0 o v s = deviceWrite o v s := by
  simp [barWrite32, h, Nat.not_lt.2 hge]

/-- The device-management region is PF0's alone. -/
theorem barWrite32_device_of_other {f o : Nat} (hf : f ≠ 0) (hge : 0x100000 ≤ o) (v : Nat) (s : State) :
    barWrite32 f o v s = s := by
  simp [barWrite32, hf, Nat.not_lt.2 hge]

/-- An aligned offset of the mailbox, the event controller or the MSI-X table whose register has no row of its own (mode, status
and ring head have one). -/
abbrev RecordOffset (o : Nat) : Prop := o % 4 = 0 ∧ o < 0x4000 ∧ o ≠ 0x2000 ∧ o ≠ 0x2004 ∧ o ≠ 0x2014

theorem recordOffset_enable {k : Nat} (hk : k < 8) : RecordOffset (0x2020 + 4 * k) := by
  unfold RecordOffset
  omega

/-- Such a register changes its function's record, and nothing else. -/
theorem commonWrite_record {o : Nat} (h : RecordOffset o) (f v : Nat) (s : State) :
    commonWrite f o v s = setFn f (fnRegWrite o v (fnOf s f)) s := by
  obtain ⟨-, hlt, hmode, hstatus, hhead⟩ := h
  have hpend : ¬ 0x4000 ≤ o := by omega
  have hsubmit : o ≠ 0x10000 := by omega
  have hcomp : o ≠ 0x10004 := by omega
  simp [commonWrite, updFn, hmode, hstatus, hhead, hpend, hsubmit, hcomp]

theorem commonWrite_submit (f v : Nat) (s : State) :
    commonWrite f 0x10000 v s = dbSubmitEff f (bits v 29 16) (v % 65536) s := by
  simp [commonWrite]

theorem fnRegWrite_reqAddrHigh (v : Nat) (r : Fn) :
    fnRegWrite 0x1004 v r = { r with reqAddr := setHigh r.reqAddr v } := by
  simp [fnRegWrite]

theorem fnRegWrite_mbxStatus (v : Nat) (r : Fn) :
    fnRegWrite 0x1010 v r = { r with done := keepBit r.done v 31, overrun := keepBit r.overrun v 29 } := by
  simp [fnRegWrite]

theorem fnRegWrite_ringSize (v : Nat) (r : Fn) :
    fnRegWrite 0x2010 v r = if evcOff r then { r with ringSize := clampNat 6 16 (v % 32) } else r := by
  simp [fnRegWrite]

theorem fnRegWrite_enable {k : Nat} (hk : k < 8) (v : Nat) (r : Fn) :
    fnRegWrite (0x2020 + 4 * k) v r = { r with disabled := writeEnable k v r.disabled } := by
  have hhi : 0x2020 + 4 * k < 0x2040 := by omega
  have hne (o : Nat) (ho : o < 0x2020) : 0x2020 + 4 * k ≠ o := by omega
  simp [fnRegWrite, hhi, hne]

theorem deviceWrite_errCtrl (v : Nat) (s : State) : deviceWrite 0x106400 v s = { s with reg := errCtrlWrite v s.reg } := by
  simp [deviceWrite, setReg]

theorem deviceWrite_sharing (v : Nat) (s : State) :
    deviceWrite 0x102000 v s = { s with reg := sharingWrite 0x102000 v s.reg } := by
  simp [deviceWrite, setReg]

theorem exec_registerWrite_record {f o v : Nat} {s : State} (hf : f < 64) (h : RecordOffset o) (hv : v < 2 ^ 32)
    (hu : hostUp s = true) (he : fnExists s f = true) :
    exec (.registerWrite f o v false) s = .next (setFn f (fnRegWrite o v (fnOf s f)) s) := by
  have hlt : o < 0x100000 := by omega
  rw [exec_registerWrite hf (by omega) hv hu he, barWrite32_common h.1 hlt, commonWrite_record h]

/-- Settles O51: BAR2 by what the window shows and what the home answers, then BAR0 by the register that the offset names. -/
theorem hostWindow : Obligations.HostWindow := by
  unfold Obligations.HostWindow
  refine ⟨fun a s hu => ⟨fun hw => ⟨?_, ?_, ?_⟩, ?_⟩, ?_⟩
  · intro n hn
    rw [exec_bar2Read hn, bar2ReadEff_noWindow hu hw]
  · intro d hd
    rw [exec_bar2Write hd, bar2WriteEff_noWindow hu hw]
  · intro k n x y hn
    rw [exec_bar2Atomic hn, bar2AtomicEff_noWindow hu hw]
  · rintro f hw _ rfl
    refine ⟨?_, ?_, ?_, ?_, ?_, ?_, ?_⟩
    · intro n hn hb
      rw [exec_bar2Read hn, bar2ReadEff_waits hu hw hb]
    · intro n d t hn hb hr
      rw [exec_bar2Read hn, bar2ReadEff_data hu hw hb hr]
    · intro n l t hn hb hr
      rw [exec_bar2Read hn, bar2ReadEff_poisoned hu hw hb hr]
    · intro d t hd hb hr
      rw [exec_bar2Write hd, bar2WriteEff_done hu hw hb hr]
    · intro d e t hd hb hr
      rw [exec_bar2Write hd, bar2WriteEff_failed hu hw hb hr]
    · intro k n x y d t hsize hn ha hk hb hr
      rw [exec_bar2Atomic hn, bar2AtomicEff_run hu hw x y hb (atomicOk_of_aligned hsize ha hk), atomicRun_data k x y hr]
    · intro k n x y hn hb hk
      rw [exec_bar2Atomic hn, bar2AtomicEff_refused hu hw x y hb hk]
  · rintro f v s hf hv hu he _ rfl
    refine ⟨?_, ?_, ?_, ?_, ?_, ?_, ?_, ?_, ?_, ?_⟩
    · rw [exec_registerWrite_record hf (by decide) hv hu he, fnRegWrite_reqAddrHigh]
    · rw [exec_registerWrite_record hf (by decide) hv hu he, fnRegWrite_mbxStatus]
    · intro hoff
      rw [exec_registerWrite_record hf (by decide) hv hu he, fnRegWrite_ringSize, if_pos hoff]
    · intro hon
      rw [exec_registerWrite_record hf (by decide) hv hu he, fnRegWrite_ringSize, if_neg (by simp [hon])]
    · intro k hk
      rw [exec_registerWrite_record hf (recordOffset_enable hk) hv hu he, fnRegWrite_enable hk]
    · rw [exec_registerWrite hf (by decide) hv hu he, barWrite32_common (by decide) (by decide), commonWrite_submit]
    · intro o hge ho hf0
      rw [exec_registerWrite hf ho hv hu he, barWrite32_device_of_other hf0 hge]
    · intro o ho hodd
      rw [exec_registerWrite hf ho hv hu he, barWrite32_misaligned hodd]
    · rintro rfl
      rw [exec_registerWrite hf (by decide) hv hu he, barWrite32_pf0 (by decide) (by decide), deviceWrite_errCtrl]
    · rintro rfl
      rw [exec_registerWrite hf (by decide) hv hu he, barWrite32_pf0 (by decide) (by decide), deviceWrite_sharing]

end Sys2Proof.Machine

/-! What a memory access, a loss of power and the end of a sequence leave alone: the power state and the serving tables. -/

namespace Sys2Proof.Machine

/-! ## Folds of effects -/

/-- What each effect of a fold keeps, the fold keeps. -/
theorem foldl_frame {α β : Type} (p : State → β) {g : State → α → State} (h : ∀ t a, p (g t a) = p t) (l : List α)
    (s : State) : p (l.foldl g s) = p s := by
  induction l generalizing s with
  | nil => rfl
  | cons a r ih => exact (ih (g s a)).trans (h s a)

theorem foldl_pwr {α : Type} {g : State → α → State} (h : ∀ t a, (g t a).pwr = t.pwr) (l : List α) (s : State) :
    (l.foldl g s).pwr = s.pwr :=
  foldl_frame State.pwr h l s

theorem foldl_serve {α : Type} {g : State → α → State} (h : ∀ t a, (g t a).serve = t.serve) (l : List α) (s : State) :
    (l.foldl g s).serve = s.serve :=
  foldl_frame State.serve h l s

theorem forAll_pwr {g : Nat → State → State} (h : ∀ n t, (g n t).pwr = t.pwr) (l : List Nat) (s : State) :
    (forAll l g s).pwr = s.pwr :=
  foldl_pwr (fun t n => h n t) l s

theorem forAll_serve {g : Nat → State → State} (h : ∀ n t, (g n t).serve = t.serve) (l : List Nat) (s : State) :
    (forAll l g s).serve = s.serve :=
  foldl_serve (fun t n => h n t) l s

/-! ## Records of one unit -/

@[simp] theorem updFn_pwr_serve (f : Nat) (g : Fn → Fn) (s : State) :
    (updFn f g s).pwr = s.pwr ∧ (updFn f g s).serve = s.serve := ⟨rfl, rfl⟩

@[simp] theorem updChan_pwr_serve (c : Nat) (g : Chan → Chan) (s : State) :
    (updChan c g s).pwr = s.pwr ∧ (updChan c g s).serve = s.serve := ⟨rfl, rfl⟩

@[simp] theorem updCore_pwr_serve (c : Nat) (g : Core → Core) (s : State) :
    (updCore c g s).pwr = s.pwr ∧ (updCore c g s).serve = s.serve := ⟨rfl, rfl⟩

@[simp] theorem updEngine_pwr_serve (e : Nat) (g : Engine → Engine) (s : State) :
    (updEngine e g s).pwr = s.pwr ∧ (updEngine e g s).serve = s.serve := ⟨rfl, rfl⟩

@[simp] theorem updPort_pwr_serve (p : Nat) (g : Port → Port) (s : State) :
    (updPort p g s).pwr = s.pwr ∧ (updPort p g s).serve = s.serve := ⟨rfl, rfl⟩

/-! ## DRAM and the memory-side cache (R200 to R212) -/

@[simp] theorem mscWriteBack_pwr_serve (l : MscLine) (s : State) :
    (mscWriteBack l s).pwr = s.pwr ∧ (mscWriteBack l s).serve = s.serve := by
  unfold mscWriteBack
  split <;> simp

@[simp] theorem mscPut_pwr_serve (mru : Bool) (l : MscLine) (s : State) :
    (mscPut mru l s).pwr = s.pwr ∧ (mscPut mru l s).serve = s.serve := by
  unfold mscPut
  dsimp only
  split
  · simp
  · split <;> simp

@[simp] theorem mscDrop_pwr_serve (gl : Nat) (s : State) :
    (mscDrop gl s).pwr = s.pwr ∧ (mscDrop gl s).serve = s.serve := by
  simp [mscDrop]

@[simp] theorem mscFlushStack_pwr_serve (k : Nat) (s : State) :
    (mscFlushStack k s).pwr = s.pwr ∧ (mscFlushStack k s).serve = s.serve := by
  simp [mscFlushStack, foldl_pwr, foldl_serve]

@[simp] theorem degradeChan_pwr_serve (ch cause : Nat) (s : State) :
    (degradeChan ch cause s).pwr = s.pwr ∧ (degradeChan ch cause s).serve = s.serve := by
  unfold degradeChan
  dsimp only
  split <;> simp

@[simp] theorem countParity_pwr_serve (ch : Nat) (out : LineOutcome) (s : State) :
    (countParity ch out s).pwr = s.pwr ∧ (countParity ch out s).serve = s.serve := by
  unfold countParity
  split
  · split <;> simp
  · simp

@[simp] theorem noteFix_pwr_serve (gl : Nat) (s : State) :
    (noteFix gl s).pwr = s.pwr ∧ (noteFix gl s).serve = s.serve := by
  simp [noteFix]

@[simp] theorem dramFix_pwr_serve (gl : Nat) (out : LineOutcome) (s : State) :
    (dramFix gl out s).pwr = s.pwr ∧ (dramFix gl out s).serve = s.serve := by
  unfold dramFix
  dsimp only
  split <;> simp

@[simp] theorem baseRead_pwr_serve (cls : Option Nat) (gl hint : Nat) (out : LineOutcome) (s : State) :
    (baseRead cls gl hint out s).2.pwr = s.pwr ∧ (baseRead cls gl hint out s).2.serve = s.serve := by
  unfold baseRead
  split
  · dsimp only
    split
    · simp
    · split <;> simp
  · dsimp only
    split
    · simp
    · dsimp only
      split
      · simp
      · split <;> simp

@[simp] theorem baseWrite_pwr_serve (cls : Option Nat) (gl hint off : Nat) (d : List Byte) (key : Nat) (out : LineOutcome)
    (s : State) :
    (baseWrite cls gl hint off d key out s).pwr = s.pwr ∧ (baseWrite cls gl hint off d key out s).serve = s.serve := by
  unfold baseWrite
  dsimp only
  split
  · simp
  · split <;> simp

/-! ## Cluster caches and snoop filters (R238 to R246) -/

@[simp] theorem setCacheSet_pwr_serve (k : Nat) (l : List CLine) (s : State) :
    (setCacheSet k l s).pwr = s.pwr ∧ (setCacheSet k l s).serve = s.serve := ⟨rfl, rfl⟩

@[simp] theorem setFilterSet_pwr_serve (k : Nat) (l : List FEntry) (s : State) :
    (setFilterSet k l s).pwr = s.pwr ∧ (setFilterSet k l s).serve = s.serve := ⟨rfl, rfl⟩

@[simp] theorem countCoh_pwr_serve (k : Nat) (g : CohCount → CohCount) (s : State) :
    (countCoh k g s).pwr = s.pwr ∧ (countCoh k g s).serve = s.serve := by
  unfold countCoh
  split <;> simp

@[simp] theorem cacheDrop_pwr_serve (k gl : Nat) (s : State) :
    (cacheDrop k gl s).pwr = s.pwr ∧ (cacheDrop k gl s).serve = s.serve := ⟨rfl, rfl⟩

@[simp] theorem filterClear_pwr_serve (k gl : Nat) (s : State) :
    (filterClear k gl s).pwr = s.pwr ∧ (filterClear k gl s).serve = s.serve := ⟨rfl, rfl⟩

@[simp] theorem countCe_pwr_serve (k : Nat) (l : CLine) (s : State) :
    (countCe k l s).pwr = s.pwr ∧ (countCe k l s).serve = s.serve := by
  unfold countCe
  split <;> simp

@[simp] theorem poisonBack_pwr_serve (k : Nat) (l : CLine) (s : State) :
    (poisonBack k l s).pwr = s.pwr ∧ (poisonBack k l s).serve = s.serve := by
  simp [poisonBack]

@[simp] theorem writeBackLine_pwr_serve (k : Nat) (l : CLine) (s : State) :
    (writeBackLine k l s).pwr = s.pwr ∧ (writeBackLine k l s).serve = s.serve := by
  unfold writeBackLine
  split <;> simp

@[simp] theorem surrender_pwr_serve (k gl : Nat) (s : State) :
    (surrender k gl s).pwr = s.pwr ∧ (surrender k gl s).serve = s.serve := by
  unfold surrender
  split
  · simp
  · split <;> simp

@[simp] theorem invalidateAll_pwr_serve (gl : Nat) (s : State) :
    (invalidateAll gl s).pwr = s.pwr ∧ (invalidateAll gl s).serve = s.serve := by
  unfold invalidateAll
  split <;> simp [foldl_pwr, foldl_serve]

@[simp] theorem filterRoom_pwr_serve (gl : Nat) (s : State) :
    (filterRoom gl s).pwr = s.pwr ∧ (filterRoom gl s).serve = s.serve := by
  unfold filterRoom
  split
  · simp
  · split <;> simp

@[simp] theorem filterRecord_pwr_serve (gl : Nat) (m : Bool) (pres : NSet) (s : State) :
    (filterRecord gl m pres s).pwr = s.pwr ∧ (filterRecord gl m pres s).serve = s.serve := by
  unfold filterRecord
  dsimp only
  split <;> simp

@[simp] theorem cacheFill_pwr_serve (k : Nat) (l : CLine) (s : State) :
    (cacheFill k l s).pwr = s.pwr ∧ (cacheFill k l s).serve = s.serve := by
  simp [cacheFill, foldl_pwr, foldl_serve]

@[simp] theorem flushAllM_pwr_serve (s : State) : (flushAllM s).pwr = s.pwr ∧ (flushAllM s).serve = s.serve := by
  simp [flushAllM, foldl_pwr, foldl_serve]

/-! ## Accesses carried out at once (R239 to R252, R263) -/

@[simp] theorem homeWrite_pwr_serve (cls : Option Nat) (gl hint off : Nat) (d : List Byte) (s : State) :
    (homeWrite cls gl hint off d s).pwr = s.pwr ∧ (homeWrite cls gl hint off d s).serve = s.serve := by
  unfold homeWrite
  dsimp only
  split <;> simp

@[simp] theorem homeOwn_pwr_serve (cls : Option Nat) (gl : Nat) (whole : Bool) (s : State) :
    (homeOwn cls gl whole s).2.pwr = s.pwr ∧ (homeOwn cls gl whole s).2.serve = s.serve := by
  unfold homeOwn
  dsimp only
  split
  · split
    · split <;> simp
    · simp
  · split <;> simp

@[simp] theorem cacheCheck_pwr_serve (k gl : Nat) (s : State) :
    (cacheCheck k gl s).2.pwr = s.pwr ∧ (cacheCheck k gl s).2.serve = s.serve := by
  unfold cacheCheck
  split
  · simp
  · split
    · simp
    · split
      · simp
      · split <;> simp

@[simp] theorem clusterStore_pwr_serve (cls : Option Nat) (k gl hint off : Nat) (d : List Byte) (s : State) :
    (clusterStore cls k gl hint off d s).2.pwr = s.pwr ∧ (clusterStore cls k gl hint off d s).2.serve = s.serve := by
  unfold clusterStore
  dsimp only
  split
  · split
    · simp
    · split <;> simp [foldl_pwr, foldl_serve]
  · split
    · simp
    · split <;> simp

@[simp] theorem writeLine_pwr_serve (via : Via) (gl hint off : Nat) (d : List Byte) (s : State) :
    (writeLine via gl hint off d s).2.pwr = s.pwr ∧ (writeLine via gl hint off d s).2.serve = s.serve := by
  unfold writeLine
  split
  · unfold clusterWrite
    dsimp only
    split <;> simp
  · simp

theorem faWriteAux_pwr_serve (via : Via) (facet hint : Nat) (l : List (Nat × Nat)) (d : List Byte) (s : State) :
    (faWriteAux via facet hint l d s).2.pwr = s.pwr ∧ (faWriteAux via facet hint l d s).2.serve = s.serve := by
  induction l generalizing d s with
  | nil => exact ⟨rfl, rfl⟩
  | cons p rest ih =>
    unfold faWriteAux
    split
    · simp
    · dsimp only
      split
      · simp
      · simp [ih]

@[simp] theorem faWrite_pwr_serve (via : Via) (facet hint fa : Nat) (d : List Byte) (s : State) :
    (faWrite via facet hint fa d s).2.pwr = s.pwr ∧ (faWrite via facet hint fa d s).2.serve = s.serve :=
  faWriteAux_pwr_serve _ _ _ _ _ _

/-! ## Ports, stacks and cores that lose power (R56, R96, R205) -/

@[simp] theorem portsDown_pwr_serve (l : List Nat) (s : State) :
    (portsDown l s).pwr = s.pwr ∧ (portsDown l s).serve = s.serve := by
  have h (p : Nat) (t : State) : (if (portOf t p).enable then updPort p (unlink 5) t else t).pwr = t.pwr ∧
      (if (portOf t p).enable then updPort p (unlink 5) t else t).serve = t.serve := by
    split <;> simp
  exact ⟨forAll_pwr (fun p t => (h p t).1) l s, forAll_serve (fun p t => (h p t).2) l s⟩

@[simp] theorem selfRefreshHalf_pwr_serve (east b : Bool) (s : State) :
    (selfRefreshHalf east b s).pwr = s.pwr ∧ (selfRefreshHalf east b s).serve = s.serve := by
  cases b <;> simp [selfRefreshHalf, forAll_pwr, forAll_serve]

@[simp] theorem idleFabric_pwr_serve (s : State) :
    (idleFabric s).pwr = s.pwr ∧ (idleFabric s).serve = s.serve := by
  simp [idleFabric]

@[simp] theorem dropHalfCaches_pwr_serve (east : Bool) (s : State) :
    (dropHalfCaches east s).pwr = s.pwr ∧ (dropHalfCaches east s).serve = s.serve := ⟨rfl, rfl⟩

@[simp] theorem powerDownHalf_pwr_serve (east : Bool) (s : State) :
    (powerDownHalf east s).pwr = s.pwr ∧ (powerDownHalf east s).serve = s.serve := by
  simp [powerDownHalf, forAll_pwr, forAll_serve]

@[simp] theorem dropJob_pwr_serve (k : Nat) (j : ChunkJob) (s : State) :
    (dropJob k j s).pwr = s.pwr ∧ (dropJob k j s).serve = s.serve := ⟨rfl, rfl⟩

@[simp] theorem dropChunks_pwr_serve (cores : NSet) (s : State) :
    (dropChunks cores s).pwr = s.pwr ∧ (dropChunks cores s).serve = s.serve := by
  unfold dropChunks
  refine ⟨forAll_pwr ?_ _ s, forAll_serve ?_ _ s⟩
  all_goals
    intro k t
    split
    · split <;> simp
    · rfl

@[simp] theorem railsDown_serve (s : State) : (railsDown s).serve = s.serve := by
  simp [railsDown]

/-! ## Sequences that end (R430, R439, R502) -/

@[simp] theorem updServe_pwr (n : Nat) (g : Serve → Serve) (s : State) : (updServe n g s).pwr = s.pwr := rfl

@[simp] theorem updSeq_pwr (n slot : Nat) (g : Seq → Seq) (s : State) : (updSeq n slot g s).pwr = s.pwr := rfl

@[simp] theorem updFacet_pwr (n : Nat) (g : Facet → Facet) (s : State) : (updFacet n g s).pwr = s.pwr := rfl

@[simp] theorem loseContext_pwr (n : Nat) (s : State) : (loseContext n s).pwr = s.pwr := by
  unfold loseContext
  split <;> rfl

@[simp] theorem endCmd_pwr (id st run detail : Nat) (ran : Bool) (s : State) :
    (endCmd id st run detail ran s).pwr = s.pwr := by
  unfold endCmd
  split
  · rfl
  · split
    · rfl
    · dsimp only
      split <;> simp

@[simp] theorem meetStatus_pwr (id st detail : Nat) (s : State) : (meetStatus id st detail s).pwr = s.pwr := by
  unfold meetStatus
  split
  · rfl
  · split
    · rfl
    · split
      · rfl
      · split
        · dsimp only
          split <;> simp
        · rfl

@[simp] theorem finishCmd_pwr (id : Nat) (s : State) : (finishCmd id s).pwr = s.pwr := by
  unfold finishCmd
  split
  · rfl
  · split
    · dsimp only
      split <;> simp
    · rfl

@[simp] theorem endExportCmd_pwr (x : Option Export) (st : Nat) (s : State) : (endExportCmd x st s).pwr = s.pwr := by
  unfold endExportCmd
  split
  · split <;> simp
  · rfl

@[simp] theorem leaveSeq_pwr (n slot reason status : Nat) (keep : Bool) (s : State) :
    (leaveSeq n slot reason status keep s).pwr = s.pwr := by
  unfold leaveSeq
  split
  · rfl
  · dsimp only
    split <;> simp

@[simp] theorem writeToken_pwr (n slot : Nat) (r : List Byte) (s : State) : (writeToken n slot r s).pwr = s.pwr := by
  unfold writeToken
  split
  · rfl
  · dsimp only [countDeadline]
    split <;> split <;> simp

@[simp] theorem writeTokens_pwr (n slot : Nat) (l : List (List Byte)) (s : State) :
    (writeTokens n slot l s).pwr = s.pwr := by
  induction l generalizing s with
  | nil => rfl
  | cons r rest ih =>
    unfold writeTokens
    split
    · rfl
    · split <;> simp [ih]

@[simp] theorem writeEnd_pwr (n slot : Nat) (s : State) : (writeEnd n slot s).pwr = s.pwr := by
  unfold writeEnd
  split
  · rfl
  · split
    · rfl
    · split
      · rfl
      · dsimp only
        split <;> simp

theorem eventsOnly_fireSource (f src : Nat) (g : Glint) (s : State) : eventsOnly s (fireSource f src g s) := by
  unfold fireSource
  split
  · exact eventsOnly_ringPush f g s
  · exact eventsOnly_firePending f src s

@[simp] theorem fireOut_pwr (n : Nat) (q : Seq) (tail : Nat) (s : State) : (fireOut n q tail s).pwr = s.pwr := by
  unfold fireOut
  split
  · rfl
  · obtain ⟨_, _, h⟩ := eventsOnly_fireSource (ownerOf s n) q.rec_.outSource
      (shapeGlint evOutput (ownerOf s n) q.rec_.seqId tail none (confFacet s n)) s
    rw [h]

@[simp] theorem flushSeq_pwr (n slot : Nat) (s : State) : (flushSeq n slot s).pwr = s.pwr := by
  unfold flushSeq
  split
  · rfl
  · dsimp only
    split
    · split <;> simp
    · simp

@[simp] theorem leaveNow_pwr (n slot reason status : Nat) (keep : Bool) (s : State) :
    (leaveNow n slot reason status keep s).pwr = s.pwr := by
  simp [leaveNow]

theorem winPutAux_pwr (n : Nat) (v : Serve) (l : List (Nat × Nat)) (d : List Byte) (s : State) :
    (winPutAux n v l d s).pwr = s.pwr := by
  induction l generalizing d s with
  | nil => rfl
  | cons p r ih => simp [winPutAux, ih]

@[simp] theorem winPut_pwr (n : Nat) (v : Serve) (off : Nat) (d : List Byte) (s : State) :
    (winPut n v off d s).pwr = s.pwr :=
  winPutAux_pwr _ _ _ _ _

@[simp] theorem syncRefs_pwr (n : Nat) (old new : Serve) (s : State) : (syncRefs n old new s).pwr = s.pwr := by
  simp [syncRefs, forAll_pwr]

@[simp] theorem syncSlot_pwr (n : Nat) (old new : Serve) (slot : Nat) (q : Seq) (s : State) :
    (syncSlot n old new slot q s).pwr = s.pwr := by
  unfold syncSlot
  dsimp only
  split <;> split <;> simp

@[simp] theorem syncServe_pwr (n : Nat) (old : Serve) (s : State) : (syncServe n old s).pwr = s.pwr := by
  unfold syncServe
  split <;> simp [foldl_pwr]

theorem synced_pwr {g : State → State} (h : ∀ t, (g t).pwr = t.pwr) (n : Nat) (s : State) :
    (synced n g s).pwr = s.pwr := by
  unfold synced
  split <;> simp [h]

@[simp] theorem loseTables_pwr (s : State) : (loseTables s).pwr = s.pwr := by
  refine forAll_pwr (fun n t => synced_pwr (fun u => ?_) n t) _ s
  split
  · rfl
  · exact foldl_pwr (fun w e => leaveNow_pwr _ _ _ _ _ w) _ u

end Sys2Proof.Machine

/-! Events write no function's restored bit, and markRestored sets every one (R309). -/

namespace Sys2Proof.Machine

theorem restored_setFn {n : Nat} {r : Fn} {s : State} (h : r.restored = (fnOf s n).restored) (f : Nat) :
    (fnOf (setFn n r s) f).restored = (fnOf s f).restored := by
  by_cases hf : f = n
  · rw [hf, fnOf_setFn_self, h]
  · rw [fnOf_setFn_ne _ _ _ _ hf]

theorem restored_updFn {n : Nat} {g : Fn → Fn} (h : ∀ r, (g r).restored = r.restored) (s : State) (f : Nat) :
    (fnOf (updFn n g s) f).restored = (fnOf s f).restored :=
  restored_setFn (h (fnOf s n)) f

@[simp] theorem restored_sendVector (n v : Nat) (s : State) (f : Nat) :
    (fnOf (sendVector n v s) f).restored = (fnOf s f).restored := rfl

@[simp] theorem logGlint_restored (g : Glint) (r : Fn) : (logGlint g r).restored = r.restored := rfl

@[simp] theorem restored_ringRecord (n : Nat) (b : List Byte) (s : State) (f : Nat) :
    (fnOf (ringRecord n b s) f).restored = (fnOf s f).restored :=
  restored_setFn (by rfl) f

@[simp] theorem restored_ringWrite (n : Nat) (g : Glint) (s : State) (f : Nat) :
    (fnOf (ringWrite n g s) f).restored = (fnOf s f).restored := by
  have hrecs (l : List (List Byte)) : (fnOf (l.foldl (fun t b => ringRecord n b t) s) f).restored = (fnOf s f).restored :=
    foldl_frame (fun t => (fnOf t f).restored) (fun t b => restored_ringRecord n b t f) l s
  unfold ringWrite
  dsimp only
  split <;> simp [hrecs]

@[simp] theorem restored_noteDrops (n : Nat) (s : State) (f : Nat) :
    (fnOf (noteDrops n s) f).restored = (fnOf s f).restored := by
  refine restored_updFn (fun r => ?_) s f
  dsimp only
  split <;> rfl

@[simp] theorem restored_ringPush (n : Nat) (g : Glint) (s : State) (f : Nat) :
    (fnOf (ringPush n g s) f).restored = (fnOf s f).restored := by
  unfold ringPush
  dsimp only
  split
  · simp
  · split
    · split
      · exact restored_setFn (by rfl) f
      · split
        · exact (restored_updFn (fun _ => by rfl) _ f).trans (restored_noteDrops n s f)
        · exact (restored_updFn (fun _ => by rfl) _ f).trans (restored_noteDrops n s f)
    · exact restored_setFn (by rfl) f

@[simp] theorem restored_firePending (n src : Nat) (s : State) (f : Nat) :
    (fnOf (firePending n src s) f).restored = (fnOf s f).restored := by
  unfold firePending
  dsimp only
  split
  · exact restored_setFn (by rfl) f
  · exact restored_setFn (by rfl) f

@[simp] theorem restored_fireSource (n src : Nat) (g : Glint) (s : State) (f : Nat) :
    (fnOf (fireSource n src g s) f).restored = (fnOf s f).restored := by
  unfold fireSource
  split <;> simp

@[simp] theorem restored_deliver (g : Glint) (n : Nat) (s : State) (f : Nat) :
    (fnOf (deliver g n s) f).restored = (fnOf s f).restored := by
  unfold deliver
  dsimp only
  split
  · rfl
  · rw [restored_fireSource]
    exact restored_setFn (logGlint_restored g _) f

@[simp] theorem restored_deliverAll (g : Glint) (fns : List Nat) (s : State) (f : Nat) :
    (fnOf (deliverAll g fns s) f).restored = (fnOf s f).restored := by
  unfold deliverAll
  exact foldl_frame (fun t => (fnOf t f).restored) (fun t n => restored_deliver g n t f) _ s

@[simp] theorem fnOf_flightAdd (g : Glint) (s : State) (f : Nat) : fnOf (flightAdd g s) f = fnOf s f := by
  unfold flightAdd
  split <;> simp only [fnOf]

@[simp] theorem restored_raiseFw (fns : List Nat) (kind concerns subject detail : Nat) (second : Option (Nat × Nat))
    (conf : Bool) (s : State) (f : Nat) :
    (fnOf (raiseFw fns kind concerns subject detail second conf s) f).restored = (fnOf s f).restored := by
  unfold raiseFw
  dsimp only
  split
  · exact congrArg Fn.restored (fnOf_flightAdd _ s f)
  · simp

/-! ## markRestored -/

/-- A fold that restores each function of a list restores those of the list, and undoes none. -/
theorem restored_forAll {l : List Nat} {f : Nat} {s : State} (h : f ∈ l ∨ (fnOf s f).restored = true) :
    (fnOf (forAll l (fun n t => updFn n (fun r => { r with restored := true }) t) s) f).restored = true := by
  induction l generalizing s with
  | nil => exact h.resolve_left List.not_mem_nil
  | cons a l ih =>
    refine ih (s := updFn a (fun r => { r with restored := true }) s) ?_
    by_cases ha : f = a
    · exact .inr (by simp [ha, updFn])
    · refine h.imp (fun hm => (List.mem_cons.1 hm).resolve_left ha) fun hr => ?_
      rw [updFn, fnOf_setFn_ne _ _ _ _ ha, hr]

theorem restored_markRestored {f : Nat} (h : f < 64) (s : State) : (fnOf (markRestored s) f).restored = true := by
  unfold markRestored
  exact restored_forAll (.inl (List.mem_range.2 h))

@[simp] theorem markRestored_pwr (s : State) : (markRestored s).pwr = s.pwr := by
  simp [markRestored, forAll_pwr]

end Sys2Proof.Machine

/-! Parking a half and bringing it back, dusk and wake (R27, R56, R57, R369, R498, R499, R504). -/

namespace Sys2Proof.Machine

/-! ## FACET_PARK, FACET_UNPARK, HALF_UNPARK_READY -/

theorem parkReply_accepted {half : Nat} {s : State} (hh : half < 2) (hp : parked s (half == 1) = false)
    (hb : parkBusy (half == 1) s = false) : parkReply half s = { status := syAccepted } := by
  have hle : ¬ 1 < half := by omega
  simp [parkReply, hle, hp, hb]

theorem unparkReply_accepted {half : Nat} {s : State} (hh : half < 2) (hp : parked s (half == 1) = true)
    (hn : s.pwr.park = none) (hu : updateBusy s = false) : unparkReply half s = { status := syAccepted } := by
  have hle : ¬ 1 < half := by omega
  simp [unparkReply, hle, hp, hn, hu]

section Asked
variable {fn : Nat} {h : Req} {b : List Byte} {s : State}

/-- A row that its request reaches acts on it. -/
theorem checked_onRequest {lay : Layout} {c : Bool} {act : Req → List Byte → State → State}
    (ha : Asked fn lay c h b s) : checked (okFn fn) s (onRequest fn lay act) = .next (act h b s) := by
  obtain ⟨hfn, hask, -⟩ := ha
  have hok : okFn fn = true := decide_eq_true hfn
  rw [checked_ok hok, onRequest_of_asked hask]

/-- A park that nothing refuses is carried out at once. -/
theorem exec_facetPark (ha : AskedJob fn (layPark 0) true h b s) (hh : field b 0 1 < 2)
    (hp : parked s (field b 0 1 == 1) = false) (hb : parkBusy (field b 0 1 == 1) s = false) :
    exec (.facetPark fn) s = .next (requestDone (ticketOf h opFacetPark) syOk
      (parkHalf (field b 0 1 == 1) (taken h opFacetPark [] s))) :=
  (checked_onRequest ha.1).trans
    (congrArg _ (serveJob_next (mayAccept_of_asked ha) (parkReply_accepted hh hp hb) ha.2.1))

/-- An unpark that nothing refuses powers the half up and waits until the half is ready. -/
theorem exec_facetUnpark (ha : AskedJob fn (layPark 1) true h b s) (hh : field b 0 1 < 2)
    (hp : parked s (field b 0 1 == 1) = true) (hn : s.pwr.park = none) (hu : updateBusy s = false) :
    ∃ t, exec (.facetUnpark fn) s = .next
        { t with pwr := { t.pwr with park := some ⟨field b 0 1, true, 6, some (ticketOf h opFacetPark)⟩ } } ∧
      t = unparkHalf (field b 0 1 == 1) (taken h opFacetPark [] s) :=
  ⟨_, (checked_onRequest ha.1).trans
    (congrArg _ (serveJob_next (mayAccept_of_asked ha) (unparkReply_accepted hh hp hn hu) ha.2.1)), rfl⟩

end Asked

/-- The unpark in progress ends when its half is calibrated and cleared. -/
theorem exec_halfUnparkReady {half : Nat} {p : ParkStep} {s : State} (hh : half < 2) (hp : s.pwr.park = some p)
    (hu : p.unpark = true) (he : p.half = half) (hc : calStage s (half == 1) = 3) (hl : halfCleared s (half == 1) = true) :
    exec (.halfUnparkReady half) s = .next (retryBlocked (requestDoneOpt p.ticket syOk
      (if half = 1 then setParked true false { s with pwr := { s.pwr with park := none } }
        else markRestored (setParked false false { s with pwr := { s.pwr with park := none } })))) := by
  refine (checked_ok (decide_eq_true hh) s _).trans (congrArg _ ?_)
  have hready : (p.unpark && p.half == half && calStage s (half == 1) == 3 && halfCleared s (half == 1)) = true := by
    simp [hu, he, hc, hl]
  simp only [halfUnparkReadyEff, hp]
  rw [if_pos hready]
  obtain rfl | rfl : half = 0 ∨ half = 1 := by omega
  · rfl
  · rfl

/-! ## POWER_LIMITS: DUSK and WAKE -/

@[simp] theorem toLe_length (w n : Nat) : (toLe w n).length = w := by
  induction w generalizing n with
  | zero => rfl
  | succ w ih => simp [toLe, ih]

@[simp] theorem limitsBody_length (p : Pwr) : (limitsBody p).length = 14 := by
  simp [limitsBody]

/-- Dusk begins from D0 only. -/
theorem state_of_mayDusk {s : State} (hm : mayDusk s = true) : s.pwr.state = 0 := by
  simp only [mayDusk, Bool.and_eq_true, beq_iff_eq] at hm
  obtain ⟨⟨⟨⟨⟨-, h0⟩, -⟩, -⟩, -⟩, -⟩ := hm
  exact h0

section Power
variable {fn sub : Nat} {h : Req} {d : List Byte} {s t : State}

/-- A POWER_LIMITS request of which only the subop counts is answered with what its work says. -/
theorem checked_powerRequest {body : Req → List Byte → State → State} {act : State → Reply × State} {r : Reply}
    (hfn : fn < 64) (hg : gate (ignoreBody h) opPowerLimits false s = none)
    (ha : askedBy s fn (layPower sub) = some (h, d)) (hb : body h d s = serve (ignoreBody h) opPowerLimits false act s)
    (hr : act s = (r, t)) (hl : 16 + r.body.length ≤ h.respLen) :
    checked (okFn fn) s (onRequest fn (layPower sub) body) = .next (answeredWith h r t) := by
  have hok : okFn fn = true := decide_eq_true hfn
  have hserved : Served (ignoreBody h) opPowerLimits false s :=
    ⟨(fn_of_asked ha).symm ▸ hfn, inHand_of_asked (h := h) ha, hg⟩
  rw [checked_ok hok, onRequest_of_asked ha, hb, serve_next hserved (by rw [hr]; exact hl), hr]
  rfl

variable (hfn : fn < 64) (hg : gate (ignoreBody h) opPowerLimits false s = none) (hl : 30 ≤ h.respLen)
include hfn hg hl

theorem exec_powerLimitsDusk_dark (ha : askedBy s fn (layPower 2) = some (h, d)) (hs : s.pwr.state = 1 ∨ s.pwr.state = 2) :
    exec (.powerLimitsDusk fn) s = .next (answeredWith h { status := syOk, body := limitsBody s.pwr } s) :=
  checked_powerRequest hfn hg ha rfl (by simp [hs]) (by simpa using hl)

theorem exec_powerLimitsDusk_begins (ha : askedBy s fn (layPower 2) = some (h, d)) (hm : mayDusk s = true) :
    exec (.powerLimitsDusk fn) s =
      .next (answeredWith h { status := syOk, body := limitsBody s.pwr } (beginDusk s)) :=
  checked_powerRequest hfn hg ha rfl (by simp [hm, state_of_mayDusk hm]) (by simpa using hl)

theorem exec_powerLimitsDusk_busy (ha : askedBy s fn (layPower 2) = some (h, d)) (h1 : s.pwr.state ≠ 1)
    (h2 : s.pwr.state ≠ 2) (hm : mayDusk s = false) :
    exec (.powerLimitsDusk fn) s = .next (answeredWith h { status := syBusy } s) :=
  checked_powerRequest hfn hg ha rfl (by simp [hm, h1, h2]) (Nat.le_trans (by simp) hl)

theorem exec_powerLimitsWake_awake (ha : askedBy s fn (layPower 3) = some (h, d)) (h0 : s.pwr.state = 0)
    (hh : s.pwr.halt = none) :
    exec (.powerLimitsWake fn) s = .next (answeredWith h { status := syOk, body := limitsBody s.pwr } s) :=
  checked_powerRequest hfn hg ha rfl (by simp [h0, hh]) (by simpa using hl)

theorem exec_powerLimitsWake_begins (ha : askedBy s fn (layPower 3) = some (h, d))
    (hs : s.pwr.state = 2 ∨ s.pwr.state = 4) (hw : wakeRefused s = false) :
    exec (.powerLimitsWake fn) s =
      .next (answeredWith h { status := syOk, body := limitsBody s.pwr } (beginWake s)) := by
  have h0 : s.pwr.state ≠ 0 := by omega
  exact checked_powerRequest hfn hg ha rfl (by simp [h0, hs, hw]) (by simpa using hl)

theorem exec_powerLimitsWake_busy (ha : askedBy s fn (layPower 3) = some (h, d))
    (hs : s.pwr.state = 2 ∨ s.pwr.state = 4) (hw : wakeRefused s = true) :
    exec (.powerLimitsWake fn) s = .next (answeredWith h { status := syBusy } s) := by
  have h0 : s.pwr.state ≠ 0 := by omega
  exact checked_powerRequest hfn hg ha rfl (by simp [h0, hw]) (Nat.le_trans (by simp) hl)

end Power

/-! ## The D-state of PF0 -/

/-- D3hot of PF0 asks for dusk, and whether dusk may begin does not depend on the D-state. -/
theorem exec_pf0D3hotEntry {s : State} (hm : mayDusk s = true) :
    exec .pf0D3hotEntry s = .next (beginDusk (updFn 0 (fun r => { r with d3hot := true }) s)) := by
  have hm1 : mayDusk (updFn 0 (fun r => { r with d3hot := true }) s) = true := hm
  exact congrArg Host.Outcome.next (if_pos hm1)

theorem exec_pf0D0Entry {s : State} (hd : (fnOf s 0).d3hot = true) (hs : s.pwr.state = 2) (hw : wakeRefused s = false) :
    exec .pf0D0Entry s = .next (beginWake (updFn 0 (fun r => { r with d3hot := false }) s)) := by
  have hw1 : wakeRefused (updFn 0 (fun r => { r with d3hot := false }) s) = false := hw
  have heff : pf0D0EntryEff s = beginWake (updFn 0 (fun r => { r with d3hot := false }) s) := by
    simp [pf0D0EntryEff, hd, hs, hw1]
  exact congrArg Host.Outcome.next heff

/-! ## DUSK_ENTERED and WOKE -/

theorem saveTables_saved {s : State} {v : Nat × Serve} (hv : v ∈ (saveTables s).serve) : v.2.saved = true := by
  obtain ⟨e, -, rfl⟩ := List.mem_map.1 hv
  rfl

@[simp] theorem railsDown_railsOn (s : State) :
    (railsDown s).pwr.railsOn = NSet.diff s.pwr.railsOn [0, 1, 2, 5] := by
  simp [railsDown]

theorem notMem_diff {a b : NSet} {k : Nat} (hk : k ∈ b) : k ∉ NSet.diff a b := by
  simp [NSet.diff, hk]

@[simp] theorem setPwr_pwr (g : Pwr → Pwr) (s : State) : (setPwr g s).pwr = g s.pwr := rfl

@[simp] theorem setPwr_serve (g : Pwr → Pwr) (s : State) : (setPwr g s).serve = s.serve := rfl

/-- The module as it stands when dusk is reached, before its event. -/
def inDusk (s : State) : State :=
  setPwr (fun p => { p with state := 2, dusk := true }) (railsDown (idleFabric (flushAllM (saveTables s))))

theorem duskEnteredEff_enters {s : State} (hs : s.pwr.state = 1) (hc : copying s = false) (hh : s.pwr.halt = none) :
    duskEnteredEff s = raiseFw [0] evDuskEntered 0 0 0 none false (inDusk s) := by
  rw [duskEnteredEff, if_neg (by simp [hs, hc, hh]), inDusk]

@[simp] theorem inDusk_state (s : State) : (inDusk s).pwr.state = 2 := by
  rw [inDusk, setPwr_pwr]

@[simp] theorem inDusk_dusk (s : State) : (inDusk s).pwr.dusk = true := by
  rw [inDusk, setPwr_pwr]

@[simp] theorem inDusk_railsOn (s : State) : (inDusk s).pwr.railsOn = NSet.diff s.pwr.railsOn [0, 1, 2, 5] := by
  rw [inDusk, setPwr_pwr]
  dsimp only
  rw [railsDown_railsOn, (idleFabric_pwr_serve _).1, (flushAllM_pwr_serve _).1]
  rfl

@[simp] theorem inDusk_serve (s : State) : (inDusk s).serve = (saveTables s).serve := by
  rw [inDusk, setPwr_serve, railsDown_serve, (idleFabric_pwr_serve _).2, (flushAllM_pwr_serve _).2]

/-- Dusk stands once the last frame copy has ended: the tables are saved, and the core rails, VDD_AN and VDD_SER are off. -/
theorem exec_duskEntered {s : State} (hs : s.pwr.state = 1) (hc : copying s = false) (hh : s.pwr.halt = none) :
    ∃ t, exec .duskEntered s = .next t ∧ t.pwr.state = 2 ∧ t.pwr.dusk = true ∧ 0 ∉ t.pwr.railsOn ∧ 1 ∉ t.pwr.railsOn ∧
      2 ∉ t.pwr.railsOn ∧ 5 ∉ t.pwr.railsOn ∧ ∀ v ∈ t.serve, v.2.saved = true := by
  have hoff (k : Nat) (hk : k ∈ [0, 1, 2, 5]) : k ∉ NSet.diff s.pwr.railsOn [0, 1, 2, 5] := notMem_diff hk
  refine ⟨_, checked_ok rfl s duskEnteredEff, ?_⟩
  rw [duskEnteredEff_enters hs hc hh]
  simp only [raiseFw_pwr, raiseFw_serve, inDusk_railsOn, inDusk_serve]
  exact ⟨inDusk_state s, inDusk_dusk s, hoff 0 (by simp), hoff 1 (by simp), hoff 2 (by simp), hoff 5 (by simp),
    fun v hv => saveTables_saved hv⟩

@[simp] theorem emptyWindows_pwr (s : State) : (emptyWindows s).pwr = s.pwr := rfl

@[simp] theorem restoreTables_pwr (s : State) : (restoreTables s).pwr = s.pwr := rfl

/-- The module is in D0 when both halves are ready and no load is due, and every function's event state is back. -/
theorem exec_woke {s : State} (ms : Nat) (hs : s.pwr.state = 3) (hw : halfReady s false = true)
    (he : halfReady s true = true) (hl : ∀ e ∈ s.facets, e.2.loads = []) :
    ∃ t, exec (.woke ms) s = .next t ∧ t.pwr.state = 0 ∧ t.pwr.dusk = false ∧ t.pwr.fetchStop = false ∧
      ∀ f, f < 64 → (fnOf t f).restored = true := by
  refine ⟨_, checked_ok rfl s _, ?_⟩
  have hloads : (s.facets.any fun e => !e.2.loads.isEmpty) = false := by
    simpa using fun n f => hl (n, f)
  rw [wokeEff, if_neg (by simp [hs, hw, he, hloads])]
  simp only [raiseFw_pwr, markRestored_pwr, restored_raiseFw]
  refine ⟨?_, ?_, ?_, fun f hf => restored_markRestored hf _⟩ <;> split <;> simp

/-- Settles O32: a request that nothing refuses is answered and its work done, and each move between D0, dusk and wake sets the
power state. -/
theorem parkingAndDusk : Obligations.ParkingAndDusk := by
  unfold Obligations.ParkingAndDusk
  refine ⟨⟨?_, ?_⟩, ?_, ?_, ?_, ?_, ?_⟩
  · rintro fn h b s half rfl hh
    exact ⟨fun ha => exec_facetPark ha hh, fun ha => exec_facetUnpark ha hh⟩
  · intro half p s hh hp hu he hc hl
    exact exec_halfUnparkReady hh hp hu he hc hl
  · intro fn h d s hfn hg hl
    refine ⟨fun ha => ⟨?_, ?_, ?_⟩, fun ha => ⟨?_, ?_, ?_⟩⟩
    · exact exec_powerLimitsDusk_dark hfn hg hl ha
    · exact exec_powerLimitsDusk_begins hfn hg hl ha
    · exact exec_powerLimitsDusk_busy hfn hg hl ha
    · exact exec_powerLimitsWake_awake hfn hg hl ha
    · exact exec_powerLimitsWake_begins hfn hg hl ha
    · exact exec_powerLimitsWake_busy hfn hg hl ha
  · exact fun s => exec_pf0D3hotEntry
  · exact fun s => exec_pf0D0Entry
  · exact fun s => exec_duskEntered
  · exact fun ms s => exec_woke ms

end Sys2Proof.Machine

/-! The step of the block, and local time: captures, trims, the reference clock and half-rate samples (R40 to R55). -/

namespace Sys2Proof.Machine

/-! ## One step (log 1) -/

theorem step_cons {c : Instr} {rest : List Instr} {s : State} (h : s.pending = c :: rest) :
    step s = exec c { s with pending := rest } := by
  simp [step, h]

theorem step_nil {s : State} (h : s.pending = []) : step s = .next (tick s) := by
  simp [step, h]

/-- Settles O1: by whether the queue is empty. -/
theorem stepTakesFront : Obligations.StepTakesFront := by
  unfold Obligations.StepTakesFront
  exact ⟨fun _ _ _ h => step_cons h, fun c s => step_cons (s := { s with pending := c :: s.pending }) rfl,
    fun _ h => step_nil h⟩

/-! ## LTC_CAPTURE (R49, R50) -/

theorem exec_ltcCaptureGo {v : Nat} (hv : v < 2 ^ 32) (s : State) :
    exec (.ltcCaptureGo v) s = .next (ltcCaptureGoEff v s) :=
  checked_ok (decide_eq_true hv) s _

theorem ltcCaptureGoEff_starts {v : Nat} {s : State} (hgo : bit v 31 = 1) (hb : s.time.captBusy = false) :
    ltcCaptureGoEff v s =
      { s with time := { s.time with captDone := false, captBusy := true, captSource := v % 64 } } := by
  simp [ltcCaptureGoEff, hgo, hb]

theorem ltcCaptureGoEff_ignored {v : Nat} {s : State} (h : bit v 31 = 0 ∨ s.time.captBusy = true) :
    ltcCaptureGoEff v s = s := by
  simp [ltcCaptureGoEff, h]

theorem exec_ltcCaptureDone (s : State) : exec .ltcCaptureDone s = .next (ltcCaptureDoneEff s) := rfl

theorem ltcCaptureDoneEff_captures {s : State} (hb : s.time.captBusy = true) (hn : s.time.captSource < 42)
    (hp : ltcPowered s s.time.captSource = true) :
    ltcCaptureDoneEff s = { s with time := { s.time with
      captBusy := false, captDone := true, captError := false, captMc := ltcOf s 42
      captLocal := ltcOf s s.time.captSource, captEpoch := epochOf s s.time.captSource } } := by
  simp [ltcCaptureDoneEff, hb, hn, hp, mcNow]

theorem ltcCaptureDoneEff_fails {s : State} (hb : s.time.captBusy = true)
    (h : 42 ≤ s.time.captSource ∨ ltcPowered s s.time.captSource = false) :
    ltcCaptureDoneEff s = { s with time := { s.time with
      captBusy := false, captDone := true, captError := true, captMc := 0, captLocal := 0, captEpoch := 0 } } := by
  have hbad : (decide (s.time.captSource < 42) && ltcPowered s s.time.captSource) = false := by
    rcases h with h | h
    · rw [decide_eq_false (Nat.not_lt.2 h), Bool.false_and]
    · rw [h, Bool.and_false]
  simp [ltcCaptureDoneEff, hb, hbad]

/-! ## What a change of rates leaves alone (R42, R43) -/

/-- Two states differ at most in the rates of the counters and in how many free values have been drawn. -/
def ratesOnly (s t : State) : Prop :=
  t = { s with time := { s.time with rate := t.time.rate }, freeCtr := t.freeCtr }

theorem ratesOnly_trans {a b c : State} (h : ratesOnly a b) (g : ratesOnly b c) : ratesOnly a c := by
  unfold ratesOnly at h g ⊢
  rw [h] at g
  exact g

theorem ratesOnly_forAll {g : Nat → State → State} (h : ∀ n t, ratesOnly t (g n t)) (l : List Nat) (s : State) :
    ratesOnly s (forAll l g s) := by
  induction l generalizing s with
  | nil => exact rfl
  | cons n r ih => exact ratesOnly_trans (h n s) (ih (g n s))

/-! ## Trims (R42, R43) -/

/-- The rate offset of a counter. -/
def rateOf (s : State) (n : Nat) : Int := SMap.getD s.time.rate n 0

/-- Two rates are one slew apart: at most 1,000 ppm (R43). -/
def withinSlew (a b : Int) : Prop := a - b ≤ 1000 ∧ b - a ≤ 1000

theorem withinSlew_refl (a : Int) : withinSlew a a := by
  simp [withinSlew]

theorem withinSlew_add_clampInt (a x : Int) : withinSlew (a + clampInt (-1000) 1000 x) a := by
  unfold withinSlew clampInt
  split
  · omega
  · split <;> omega

theorem ratesOnly_trimOne (n : Nat) (s : State) : ratesOnly s (trimOne n s) := rfl

theorem withinSlew_trimOne (n : Nat) (s : State) : withinSlew (rateOf (trimOne n s) n) (rateOf s n) := by
  simpa [rateOf, trimOne] using withinSlew_add_clampInt (rateOf s n) ((drawRate 500 s).1 - rateOf s n)

theorem rateOf_trimOne_ne {n k : Nat} (h : n ≠ k) (s : State) : rateOf (trimOne k s) n = rateOf s n :=
  SMap.getD_put_ne _ k n _ 0 h

theorem rateOf_forAll_trimOne_of_notMem {n : Nat} {l : List Nat} (h : n ∉ l) (s : State) :
    rateOf (forAll l trimOne s) n = rateOf s n := by
  induction l generalizing s with
  | nil => rfl
  | cons k r ih =>
    obtain ⟨hk, hr⟩ := not_or.1 (mt List.mem_cons.2 h)
    exact (ih hr (trimOne k s)).trans (rateOf_trimOne_ne hk s)

/-- Counters trimmed once each slew once each. -/
theorem withinSlew_forAll_trimOne {l : List Nat} (hl : l.Nodup) (n : Nat) (s : State) :
    withinSlew (rateOf (forAll l trimOne s) n) (rateOf s n) := by
  induction l generalizing s with
  | nil => exact withinSlew_refl _
  | cons k r ih =>
    obtain ⟨hkr, hr⟩ := List.nodup_cons.1 hl
    by_cases h : n = k
    · subst h
      have hlater : rateOf (forAll (n :: r) trimOne s) n = rateOf (trimOne n s) n :=
        rateOf_forAll_trimOne_of_notMem hkr (trimOne n s)
      rw [hlater]
      exact withinSlew_trimOne n s
    · have hfirst : rateOf (trimOne k s) n = rateOf s n := rateOf_trimOne_ne h s
      rw [← hfirst]
      exact ih hr (trimOne k s)

theorem withinSlew_trimAll (n : Nat) (s : State) : withinSlew (rateOf (trimAll s) n) (rateOf s n) :=
  withinSlew_forAll_trimOne (List.nodup_range.filter _) n s

/-- A trim changes rates only, and sets trim_valid. -/
theorem trimAll_frame (s : State) :
    trimAll s = { s with
      time := { s.time with rate := (trimAll s).time.rate, trimValid := true }, freeCtr := (trimAll s).freeCtr } := by
  have h : ratesOnly s (forAll (ltcNumbers.filter (ltcPowered s)) trimOne s) := ratesOnly_forAll ratesOnly_trimOne _ s
  unfold trimAll
  rw [h]

theorem exec_ltcTrim {s : State} (hc : s.time.refclkOk = true) (hm : s.pwr.mcRunning = true) :
    exec .ltcTrim s = .next (trimAll s) := by
  have heff : ltcTrimEff s = trimAll s := by simp [ltcTrimEff, hc, hm]
  exact (checked_ok rfl s ltcTrimEff).trans (congrArg _ heff)

/-! ## The reference clock (R43) -/

/-- A counter without the reference clock takes a free rate. -/
def freeRate (n : Nat) (s : State) : State :=
  let d := drawRate 5000 s
  { d.2 with time := { d.2.time with rate := SMap.put d.2.time.rate n d.1 } }

theorem ratesOnly_freeRate (n : Nat) (s : State) : ratesOnly s (freeRate n s) := rfl

/-- The state without its reference clock, before the event. -/
def untrimmed (s : State) : State :=
  let s1 := forAll ltcNumbers freeRate s
  { s1 with time := { s1.time with refclkOk := false, trimValid := false } }

/-- The loss of the clock changes rates only, and clears trim_valid. -/
theorem untrimmed_frame (s : State) :
    untrimmed s = { s with
      time := { s.time with rate := (untrimmed s).time.rate, refclkOk := false, trimValid := false }
      freeCtr := (untrimmed s).freeCtr } := by
  have h : ratesOnly s (forAll ltcNumbers freeRate s) := ratesOnly_forAll ratesOnly_freeRate _ s
  unfold untrimmed
  rw [h]

theorem exec_refclkLoss {s : State} (hc : s.time.refclkOk = true) :
    exec .refclkLoss s = .next (if s.pwr.mcRunning then raiseTo [0] evLtcUntrimmed 0 0 0 none false (untrimmed s)
      else untrimmed s) :=
  (checked_ok rfl s refclkLossEff).trans (congrArg _ (if_pos hc))

/-- The state with its reference clock back in tolerance, before the first trim. -/
def clocked (s : State) : State :=
  { s with time := { s.time with refclkOk := true }, pwr := { s.pwr with pcie := s.pwr.pcie || !s.pwr.perst } }

theorem exec_refclkRestore {s : State} (hc : s.time.refclkOk = false) (hm : s.pwr.mcRunning = true) :
    exec .refclkRestore s = .next (trimAll (clocked s)) := by
  have heff : refclkRestoreEff s = trimAll (clocked s) := by simp [refclkRestoreEff, clocked, hc, hm]
  exact (checked_ok rfl s refclkRestoreEff).trans (congrArg _ heff)

/-! ## HALF_RATE_SAMPLE and SEAM_SLOW (R51, R55) -/

/-- The state with both rate fields written, before the facets are looked at. -/
def sampled (w e : Nat) (s : State) : State :=
  { s with time := { s.time with
    westRate := if s.pwr.westParked then 0 else w % 2 ^ 16
    eastRate := if s.pwr.eastParked then 0 else e % 2 ^ 16 } }

theorem exec_halfRateSample (w e : Nat) (s : State) :
    exec (.halfRateSample w e) s = .next (forAll (s.facets.map (·.1)) seamCheck (sampled w e s)) := rfl

theorem sampled_unparked {s : State} (hw : s.pwr.westParked = false) (he : s.pwr.eastParked = false) (w e : Nat) :
    sampled w e s = { s with time := { s.time with westRate := w % 2 ^ 16, eastRate := e % 2 ^ 16 } } := by
  simp [sampled, hw, he]

section Seam
variable {n : Nat} {f : Facet} {s : State} (hf : facetOf s n = some f)
include hf

theorem seamCheck_raises (hw : inHalf f false = true) (he : inHalf f true = true) (hl : f.seamLow = false)
    (hr : Nat.min s.time.westRate s.time.eastRate < f.minRate) :
    seamCheck n s = raiseTo [f.fn] evSeamSlow f.fn n (s.time.westRate + s.time.eastRate * 2 ^ 16) none f.confidential
      (setFacet n { f with seamLow := true } s) := by
  have hmin : (f.minRate != 0) = true := bne_iff_ne.2 (Nat.ne_zero_of_lt hr)
  simp only [seamCheck, hf, hr, hw, he, hl, hmin, decide_true, Bool.not_true, Bool.not_false, Bool.and_true,
    Bool.false_eq_true, if_false, if_true]

theorem seamCheck_arms (hl : f.seamLow = true) (hr : f.minRate ≤ Nat.min s.time.westRate s.time.eastRate) :
    seamCheck n s = setFacet n { f with seamLow := false } s := by
  have hlow : ¬ Nat.min s.time.westRate s.time.eastRate < f.minRate := Nat.not_lt.2 hr
  simp [seamCheck, hf, hl, hlow]

end Seam

theorem setFacet_singleton {n : Nat} {f : Facet} {s : State} (h : s.facets = [(n, f)]) (g : Facet) :
    setFacet n g s = { s with facets := [(n, g)] } := by
  simp [setFacet, h, SMap.put]

theorem facetOf_singleton {n : Nat} {f : Facet} {s : State} (h : s.facets = [(n, f)]) : facetOf s n = some f := by
  simp [facetOf, h, SMap.look]

theorem exec_halfRateSample_nil {s : State} (h : s.facets = []) (w e : Nat) :
    exec (.halfRateSample w e) s = .next (sampled w e s) := by
  have hnone : s.facets.map (·.1) = [] := by rw [h]; rfl
  rw [exec_halfRateSample, hnone]
  rfl

/-- With one facet a sample is checked against that facet alone. -/
theorem exec_halfRateSample_singleton {n : Nat} {f : Facet} {s : State} (h : s.facets = [(n, f)]) (w e : Nat) :
    exec (.halfRateSample w e) s = .next (seamCheck n (sampled w e s)) := by
  have hone : s.facets.map (·.1) = [n] := by rw [h]; rfl
  rw [exec_halfRateSample, hone]
  rfl

section OneFacet
variable {w e n : Nat} {f : Facet} {s : State} (h : s.facets = [(n, f)])
  (hw : s.pwr.westParked = false) (he : s.pwr.eastParked = false)
include h hw he

/-- R55: the first sample below the minimum raises SEAM_SLOW to the facet's owner. -/
theorem exec_halfRateSample_raises (hwest : inHalf f false = true) (heast : inHalf f true = true)
    (hl : f.seamLow = false) (hr : Nat.min (w % 2 ^ 16) (e % 2 ^ 16) < f.minRate) :
    exec (.halfRateSample w e) s = .next
      (raiseTo [f.fn] evSeamSlow f.fn n (w % 2 ^ 16 + e % 2 ^ 16 * 2 ^ 16) none f.confidential
        { s with
          time := { s.time with westRate := w % 2 ^ 16, eastRate := e % 2 ^ 16 }
          facets := [(n, { f with seamLow := true })] }) := by
  have hs := sampled_unparked hw he w e
  have hf : facetOf (sampled w e s) n = some f := facetOf_singleton h
  have hlow : Nat.min (sampled w e s).time.westRate (sampled w e s).time.eastRate < f.minRate := by rw [hs]; exact hr
  rw [exec_halfRateSample_singleton h, seamCheck_raises hf hwest heast hl hlow,
    setFacet_singleton (s := sampled w e s) h, hs]

/-- R55: a sample at or above the minimum arms SEAM_SLOW again. -/
theorem exec_halfRateSample_arms (hl : f.seamLow = true) (hr : f.minRate ≤ Nat.min (w % 2 ^ 16) (e % 2 ^ 16)) :
    exec (.halfRateSample w e) s = .next { s with
      time := { s.time with westRate := w % 2 ^ 16, eastRate := e % 2 ^ 16 }
      facets := [(n, { f with seamLow := false })] } := by
  have hs := sampled_unparked hw he w e
  have hf : facetOf (sampled w e s) n = some f := facetOf_singleton h
  have hmet : f.minRate ≤ Nat.min (sampled w e s).time.westRate (sampled w e s).time.eastRate := by rw [hs]; exact hr
  rw [exec_halfRateSample_singleton h, seamCheck_arms hf hl hmet, setFacet_singleton (s := sampled w e s) h, hs]

end OneFacet

/-- Settles O8: captures by their cases, trims and the clock by what a change of rates leaves alone, samples by the check
of each facet. -/
theorem localTime : Obligations.LocalTime := by
  unfold Obligations.LocalTime
  refine ⟨⟨?_, ?_, ?_, ?_⟩, ⟨?_, ?_, ?_⟩, ?_, ?_, ?_⟩
  · intro v s hv hgo hb
    rw [exec_ltcCaptureGo hv, ltcCaptureGoEff_starts hgo hb]
  · intro v s hv h
    rw [exec_ltcCaptureGo hv, ltcCaptureGoEff_ignored h]
  · intro s hb hn hp
    rw [exec_ltcCaptureDone, ltcCaptureDoneEff_captures hb hn hp]
  · intro s hb h
    rw [exec_ltcCaptureDone, ltcCaptureDoneEff_fails hb h]
  · intro s hc hm
    exact ⟨trimAll s, exec_ltcTrim hc hm, trimAll_frame s, fun n => withinSlew_trimAll n s⟩
  · intro s hc
    exact ⟨untrimmed s, untrimmed_frame s, exec_refclkLoss hc⟩
  · intro s hc hm
    exact ⟨trimAll (clocked s), exec_refclkRestore hc hm, trimAll_frame (clocked s)⟩
  · exact fun w e s h => exec_halfRateSample_nil h w e
  · exact fun w e n f s => exec_halfRateSample_raises
  · exact fun w e n f s => exec_halfRateSample_arms

end Sys2Proof.Machine

/-! Numbers of the matrix engines: accumulator entries, and the codes of conversions (R70, R73, R74, R144). -/

namespace Sys2Proof.Machine

/-! ## Bytes of a word -/

theorem ofLe_toLe (w n : Nat) : ofLe (toLe w n) = n % 256 ^ w := by
  induction w generalizing n with
  | zero => simp [toLe, ofLe, Nat.mod_one]
  | succ w ih =>
    have hbyte : (BitVec.ofNat 8 n).toNat = n % 256 := BitVec.toNat_ofNat n 8
    rw [toLe, ofLe, ih, hbyte, Nat.pow_succ', Nat.mod_mul]

/-- A list reads back from where it was written. -/
theorem readN_writeN_self {m : Mem} (h : Mem.wf m = true) (a : Nat) (l : List Byte) :
    Mem.readN (Mem.writeN m a l) a l.length = l := by
  refine List.ext_getElem (by simp [Mem.readN]) fun i _ hi => ?_
  simp [Mem.readN, Mem.read_writeN l m a _ h, hi]

/-- A range that a write does not meet reads as before. -/
theorem readN_writeN_of_disjoint {m : Mem} (h : Mem.wf m = true) {a b n : Nat} {l : List Byte}
    (hd : b + n ≤ a ∨ a + l.length ≤ b) : Mem.readN (Mem.writeN m a l) b n = Mem.readN m b n := by
  refine List.map_congr_left fun i hi => ?_
  have hn : i < n := List.mem_range.1 hi
  have hout : ¬ (a ≤ b + i ∧ b + i < a + l.length) := by omega
  rw [Mem.read_writeN l m a _ h, if_neg hout]

/-! ## Accumulator entries (R70 step 6, R144) -/

theorem clampInt_mem {lo hi : Int} (h : lo ≤ hi) (x : Int) : lo ≤ clampInt lo hi x ∧ clampInt lo hi x ≤ hi := by
  unfold clampInt
  split
  · omega
  · split <;> omega

/-- The low 32 bits of a number in the range of 32-bit words, read back in two's complement, give the number. -/
theorem signed_low32 {c : Int} (hlo : -(2 ^ 31) ≤ c) (hhi : c ≤ 2 ^ 31 - 1) : signed 32 (c % 2 ^ 32).toNat = c := by
  unfold signed
  dsimp only
  split <;> omega

/-- The core with the saturated value `t` in entry `i` of its accumulator. -/
def accPut (i : Nat) (t : Int) (x : Core) : Core :=
  { x with
    acc := Mem.writeN x.acc (4 * i) (toLe 4 (clampInt (-(2 ^ 31)) (2 ^ 31 - 1) t % 2 ^ 32).toNat)
    accBad := NSet.del x.accBad i }

theorem accEntry_accPut_self {x : Core} (h : Mem.wf x.acc = true) (i : Nat) (t : Int) :
    accEntry (accPut i t x) i = clampInt (-(2 ^ 31)) (2 ^ 31 - 1) t := by
  obtain ⟨hlo, hhi⟩ := clampInt_mem (lo := -(2 ^ 31)) (hi := 2 ^ 31 - 1) (by decide) t
  have hread := readN_writeN_self h (4 * i) (toLe 4 (clampInt (-(2 ^ 31)) (2 ^ 31 - 1) t % 2 ^ 32).toNat)
  have hlow : (clampInt (-(2 ^ 31)) (2 ^ 31 - 1) t % 2 ^ 32).toNat % 256 ^ 4 =
      (clampInt (-(2 ^ 31)) (2 ^ 31 - 1) t % 2 ^ 32).toNat := by omega
  rw [toLe_length] at hread
  rw [accEntry, accPut, hread, ofLe_toLe, hlow, signed_low32 hlo hhi]

theorem accEntry_accPut_ne {x : Core} (h : Mem.wf x.acc = true) {i j : Nat} (hj : j ≠ i) (t : Int) :
    accEntry (accPut i t x) j = accEntry x j := by
  have hd : 4 * j + 4 ≤ 4 * i ∨
      4 * i + (toLe 4 (clampInt (-(2 ^ 31)) (2 ^ 31 - 1) t % 2 ^ 32).toNat).length ≤ 4 * j := by
    rw [toLe_length]
    omega
  rw [accEntry, accPut, readN_writeN_of_disjoint h hd, accEntry]

theorem accAdd_bad {i : Nat} {x : Core} (hi : i ∈ x.accBad) (n : Nat) (v : Int) (b : Bool) :
    accAdd false i [v] (x, n, b) = (x, n, true) := by
  simp [accAdd, hi]

theorem accAdd_good {write : Bool} {i : Nat} {x : Core} (hg : write = true ∨ i ∉ x.accBad) (n : Nat) (v : Int) (b : Bool) :
    (accAdd write i [v] (x, n, b)).1 = accPut i (if write then v else accEntry x i + v) x := by
  have hok : ¬ (!write && x.accBad.contains i) = true := by
    rcases hg with rfl | hi
    · simp
    · simp [hi]
  rw [accAdd, if_neg hok]
  rfl

/-- Settles O19: an add that reads bad parity leaves the core, and any other add or write is one write of its entry. -/
theorem accumulatorSaturates : Obligations.AccumulatorSaturates := by
  unfold Obligations.AccumulatorSaturates
  intro write i n v b x hwf
  refine ⟨fun hg => ?_, ?_, fun j hj => ?_⟩
  · rw [accAdd_good hg, accEntry_accPut_self hwf]
  · rintro rfl hi
    exact accAdd_bad hi n v b
  · by_cases hg : write = true ∨ i ∉ x.accBad
    · rw [accAdd_good hg, accEntry_accPut_ne hwf hj]
    · obtain ⟨hw, hi⟩ := not_or.1 hg
      obtain rfl : write = false := Bool.eq_false_iff.2 hw
      rw [accAdd_bad (Decidable.not_not.1 hi)]

/-! ## Conversions (R73, R74) -/

section Conversion
variable {r : Nat} {sum err : Int}

theorem convert_above (h : 16 * (fullScale r : Int) < 16 * sum + err) : convert r sum err = (511, true) := by
  have hq : ((16 * fullScale r : Nat) : Int) < 16 * sum + err := by exact_mod_cast h
  rw [convert, if_pos hq]

theorem convert_below (h : 16 * sum + err < -(16 * (fullScale r : Int))) : convert r sum err = (-512, true) := by
  have hlow : ¬ ((16 * fullScale r : Nat) : Int) < 16 * sum + err := by omega
  have hq : 16 * sum + err < -((16 * fullScale r : Nat) : Int) := by exact_mod_cast h
  rw [convert, if_neg hlow, if_pos hq]

theorem convert_within (hlo : -(16 * (fullScale r : Int)) ≤ 16 * sum + err) (hhi : 16 * sum + err ≤ 16 * (fullScale r : Int)) :
    convert r sum err = (clampInt (-512) 511 (roundDiv (16 * sum + err) (16 * adcStep r)), false) := by
  have h1 : ¬ ((16 * fullScale r : Nat) : Int) < 16 * sum + err := by omega
  have h2 : ¬ 16 * sum + err < -((16 * fullScale r : Nat) : Int) := by omega
  rw [convert, if_neg h1, if_neg h2]

end Conversion

/-- A code has 10 bits: each of the three cases stays in the range. -/
theorem convert_range (r : Nat) (sum err : Int) : -512 ≤ (convert r sum err).1 ∧ (convert r sum err).1 ≤ 511 := by
  rcases Int.lt_or_le (16 * (fullScale r : Int)) (16 * sum + err) with ha | hhi
  · simp [convert_above ha]
  · rcases Int.lt_or_le (16 * sum + err) (-(16 * (fullScale r : Int))) with hb | hlo
    · simp [convert_below hb]
    · rw [convert_within hlo hhi]
      exact clampInt_mem (by decide) _

/-- Settles O20: by whether the charge lies above full scale, below it, or within. -/
theorem conversionCodes : Obligations.ConversionCodes := by
  unfold Obligations.ConversionCodes
  intro r sum err
  obtain ⟨hlo, hhi⟩ := convert_range r sum err
  refine ⟨hlo, hhi, convert_above, convert_below, fun h1 h2 => ?_⟩
  rw [convert_within h1 h2]
  exact ⟨rfl, rfl⟩

end Sys2Proof.Machine

/-! Passes, droop, and the loads and swaps of planes (R67, R70, R78, R79, R89 to R92, R137, R219, R220). -/

namespace Sys2Proof.Machine

/-! ## The sequencer's part of an operation (R133, R141) -/

section CoreOp
variable {c id i : Nat} {key : List Nat} {act : Nat → Nat → State → Doing × State} {s t : State}
  (hi : issues s c = some id) (ho : opAt (coreOf s c) key = some i)
include hi ho

theorem coreOp_of_waits (ha : act id i s = (.waits, t)) : coreOp c key act s = t := by
  simp [coreOp, hi, ho, ha]

theorem coreOp_of_goes (ha : act id i s = (.goes, t)) : coreOp c key act s = opStarted c i t := by
  simp [coreOp, hi, ho, ha]

theorem coreOp_of_ends (ha : act id i s = (.ends, t)) : coreOp c key act s = opDone c id i (opStarted c i t) := by
  simp [coreOp, hi, ho, ha]

end CoreOp

theorem opStarted_of_part {c i : Nat} {s : State} (h : SMap.has (coreOf s c).part i = true) : opStarted c i s = s :=
  if_pos h

/-- An operation with some of its parts done has started. -/
theorem has_part_of_partOf {s : State} {c i : Nat} (h : partOf s c i ≠ 0) : SMap.has (coreOf s c).part i = true := by
  cases hl : SMap.look (coreOf s c).part i with
  | none => exact absurd (by simp [partOf, SMap.getD, hl]) h
  | some n => simp [SMap.has, hl]

@[simp] theorem upsetCore_nil (c : Nat) (s : State) : upsetCore c [] s = s := rfl

/-! ## PASS (R67, R70, R137, R141) -/

section Pass
variable {c id i mask rep w input es ts : Nat} {s : State}

theorem exec_pass (hc : c < 544) :
    exec (.pass c mask rep w input es ts []) s = .next (coreOp c [0x01, mask, rep, w, input, es, ts] (fun id i t =>
      passRepeats c id i mask w input es ts ((List.range (rep + 1)).drop (partOf t c i)) t) s) :=
  checked_ok (decide_eq_true hc) s _

/-- The repeats that are left of a pass begin with the one that is due. -/
theorem range_drop_of_le {k : Nat} (h : k ≤ rep) :
    (List.range (rep + 1)).drop k = k :: (List.range (rep + 1)).drop (k + 1) := by
  have hk : k < (List.range (rep + 1)).length := by
    rw [List.length_range]
    omega
  rw [List.drop_eq_getElem_cons hk, List.getElem_range]

/-- The last repeat of a pass whose engines are free ends it. -/
theorem passRepeats_last (hi : issues s c = some id)
    (hf : ((maskEngines mask).all fun e => engineFree s (c * 8 + e)) = true) (k : Nat) :
    passRepeats c id i mask w input es ts [k] s =
      (.ends, setPart c i (k + 1) (passRepeat c id mask w input es ts k (opStarted c i s))) := by
  have hbusy : ¬ (!(maskEngines mask).all fun e => engineFree s (c * 8 + e)) = true := by simp only [hf]; decide
  rw [passRepeats, hi, if_neg (by simp), if_neg hbusy, passRepeats]

/-- While an engine of the mask is not free the repeat that is due waits. -/
theorem passRepeats_waits (hi : issues s c = some id)
    (hf : ((maskEngines mask).all fun e => engineFree s (c * 8 + e)) = false) (k : Nat) (l : List Nat) :
    passRepeats c id i mask w input es ts (k :: l) s = (if k = 0 then .waits else .goes, s) := by
  rw [passRepeats, hi, if_neg (by simp), if_pos (by simp only [hf]; decide)]

variable (hc : c < 544) (hi : issues s c = some id) (ho : opAt (coreOf s c) [0x01, mask, rep, w, input, es, ts] = some i)
include hc hi ho

theorem exec_pass_last (hf : ((maskEngines mask).all fun e => engineFree s (c * 8 + e)) = true)
    (hp : partOf s c i = rep) :
    exec (.pass c mask rep w input es ts []) s = .next (opDone c id i (opStarted c i
      (setPart c i (rep + 1) (passRepeat c id mask w input es ts rep (opStarted c i s))))) := by
  have hdue : (List.range (rep + 1)).drop (partOf s c i) = [rep] := by
    rw [hp, range_drop_of_le (Nat.le_refl rep), List.drop_of_length_le (by simp)]
  have hact : passRepeats c id i mask w input es ts ((List.range (rep + 1)).drop (partOf s c i)) s =
      (.ends, setPart c i (rep + 1) (passRepeat c id mask w input es ts rep (opStarted c i s))) := by
    rw [hdue, passRepeats_last hi hf]
  rw [exec_pass hc, coreOp_of_ends hi ho hact]

theorem exec_pass_waits (hp : partOf s c i ≤ rep)
    (hf : ((maskEngines mask).all fun e => engineFree s (c * 8 + e)) = false) :
    exec (.pass c mask rep w input es ts []) s = .next s := by
  have hact : passRepeats c id i mask w input es ts ((List.range (rep + 1)).drop (partOf s c i)) s =
      (if partOf s c i = 0 then .waits else .goes, s) := by
    rw [range_drop_of_le hp, passRepeats_waits hi hf]
  rw [exec_pass hc]
  by_cases h0 : partOf s c i = 0
  · rw [if_pos h0] at hact
    rw [coreOp_of_waits hi ho hact]
  · rw [if_neg h0] at hact
    rw [coreOp_of_goes hi ho hact, opStarted_of_part (has_part_of_partOf h0)]

end Pass

/-! ## Droop (R78, R79) -/

section Droop
variable {e : Nat} {s : State} (he : e < 4352)
include he

theorem exec_anDroopReplay : exec (.anDroopReplay e) s = .next (anDroopReplayEff e s) :=
  checked_ok (decide_eq_true he) s _

theorem exec_engineDroopStop : exec (.engineDroopStop e) s = .next (engineDroopStopEff e s) :=
  checked_ok (decide_eq_true he) s _

theorem exec_engineDroopResume : exec (.engineDroopResume e) s = .next (engineDroopResumeEff e s) :=
  checked_ok (decide_eq_true he) s _

theorem exec_anDroopReplay_idle (hr : runsPasses s e = false) : exec (.anDroopReplay e) s = .next s := by
  rw [exec_anDroopReplay he, anDroopReplayEff, if_neg (by simp [hr])]

theorem exec_anDroopReplay_runs (hr : runsPasses s e = true) :
    exec (.anDroopReplay e) s = .next
      (if (coreOf s (coreOfEngine e)).status = 2 then updFacet (facetOfEngine s e)
          (fun f => if f.confidential then f else { f with droops := f.droops + 1 })
          (countEngine e (fun y => { y with droops := y.droops + 1 })
            (updEngine e (fun x => { x with droopRow := x.droopRow + 1 }) s))
        else countEngine e (fun y => { y with droops := y.droops + 1 })
          (updEngine e (fun x => { x with droopRow := x.droopRow + 1 }) s)) := by
  rw [exec_anDroopReplay he, anDroopReplayEff, if_pos hr]

theorem exec_engineDroopStop_stops (hs : (engineOf s e).stopped = false) (hn : 16 ≤ (engineOf s e).droopRow) :
    exec (.engineDroopStop e) s = .next (raisePf0 evAnDroop e (clusterOfEngine e) (confEngine s e)
      (setEngine e { engineOf s e with
        stopped := true, status := if (engineOf s e).status = 1 then 2 else (engineOf s e).status } s)) := by
  have hdue : (!(engineOf s e).stopped && decide (16 ≤ (engineOf s e).droopRow)) = true := by simp [hs, hn]
  rw [exec_engineDroopStop he]
  exact congrArg _ (if_pos hdue)

theorem exec_engineDroopStop_ignored (h : (engineOf s e).stopped = true ∨ (engineOf s e).droopRow < 16) :
    exec (.engineDroopStop e) s = .next s := by
  have hnot : ¬ (!(engineOf s e).stopped && decide (16 ≤ (engineOf s e).droopRow)) = true := by
    rcases h with h | h
    · simp [h]
    · simp [Nat.not_le.2 h]
  rw [exec_engineDroopStop he]
  exact congrArg _ (if_neg hnot)

theorem exec_engineDroopResume_resumes (hs : (engineOf s e).stopped = true) :
    exec (.engineDroopResume e) s = .next (setEngine e { engineOf s e with
      stopped := false, droopRow := 0
      status := if (engineOf s e).status = 2 ∧ heldOther (engineOf s e) = false then 1 else (engineOf s e).status } s) := by
  rw [exec_engineDroopResume he]
  simp [engineDroopResumeEff, hs]

theorem exec_engineDroopResume_ignored (hs : (engineOf s e).stopped = false) :
    exec (.engineDroopResume e) s = .next s := by
  rw [exec_engineDroopResume he, engineDroopResumeEff]
  simp [hs]

end Droop

/-! ## PLANE_LOAD (R89, R219, R220) -/

@[simp] theorem engineOf_updCluster (k : Nat) (g : Cluster → Cluster) (s : State) (e : Nat) :
    engineOf (updCluster k g s) e = engineOf s e := rfl

@[simp] theorem engineOf_streamWorks (k n : Nat) (s : State) (e : Nat) : engineOf (streamWorks k n s) e = engineOf s e := by
  unfold streamWorks reclass
  dsimp only
  split <;> rfl

/-- The mask of engine 0 alone. -/
theorem maskEngines_one : maskEngines 1 = [0] := by decide

theorem dropRewrites_of_nil {e : Nat} {s : State} (h : (engineOf s e).rewrites = []) (one : Bool) :
    dropRewrites e one s = s := by
  simp [dropRewrites, h]

section PlaneLoad
variable {c id i image stride : Nat} {f : Facet} {w : WSet} {s : State} (hc : c < 544) (hi : issues s c = some id)
  (ho : opAt (coreOf s c) [0x02, 1, image, stride] = some i) (hn : SMap.has (coreOf s c).part i = false)
  (hf : facetOf s (coreOf s c).facet = some f) (hw : SMap.look f.sets (setOfWork s id (coreOf s c).facet) = some w)
include hc hi ho hn hf hw

theorem exec_planeLoad_poisoned (hq : w.quarantined = true) :
    exec (.planeLoad c 1 image stride) s = .next (opDone c id i (opStarted c i (meetStatus id stWeightPoison 0 s))) := by
  refine (checked_ok (decide_eq_true hc) s _).trans (congrArg _ (coreOp_of_ends hi ho ?_))
  simp [hn, hf, hw, hq]

theorem exec_planeLoad_begins (hq : w.quarantined = false) (ha : (engineOf s (c * 8)).active1 = false)
    (hr : (engineOf s (c * 8)).rewrites = []) :
    exec (.planeLoad c 1 image stride) s = .next (opStarted c i (updEngine (c * 8)
      (fun x => updPlane true (fun p => { loading := true
                                          src := .stream (coreOf s c).facet (setOfWork s id (coreOf s c).facet) image
                                          refFlip := p.refFlip }) (abandonCal x))
      (streamWorks (clusterOfCore c) (coreOf s c).facet s))) := by
  have hdrop : dropRewrites (c * 8) true (streamWorks (clusterOfCore c) (coreOf s c).facet s) =
      streamWorks (clusterOfCore c) (coreOf s c).facet s := dropRewrites_of_nil (by simp [hr]) true
  refine (checked_ok (decide_eq_true hc) s _).trans (congrArg _ (coreOp_of_goes hi ho ?_))
  simp [hn, hf, hw, hq, maskEngines_one, forAll, ha, hdrop]

end PlaneLoad

/-! ## PLANE_LOAD_DONE (R89, R92, R220) -/

section PlaneLoadDone
variable {e f set i : Nat} {s : State} (he : e < 4352) (ha : (engineOf s e).active1 = false)
  (hl : (engineOf s e).plane1.loading = true) (hs : (engineOf s e).plane1.src = .stream f set i) (retries : Nat) (fault : Bool)
include he ha hl hs

/-- An image number beyond the stream image. -/
theorem exec_planeLoadDone_free (hn : streamFrame s f set i = none) :
    exec (.planeLoadDone e retries fault) s =
      .next (endPlaneLoad e true (.stream f set i) (freeImage s).1 retries fault (freeImage s).2) := by
  refine (checked_ok (decide_eq_true he) s _).trans (congrArg _ ?_)
  simp [planeLoadDoneEff, ha, planeOf, hl, hs, hn]

theorem exec_planeLoadDone_reads {n : Nat} (hn : streamFrame s f set i = some n) :
    exec (.planeLoadDone e retries fault) s = .next (match (faRead (facetVia s f) f 1 (n * 65536) 65536 s).1 with
      | .inl d => endPlaneLoad e true (.stream f set i) d retries fault (faRead (facetVia s f) f 1 (n * 65536) 65536 s).2
      | .inr _ => if ((setOf s f set).map (·.quarantined)).getD true then
          finishSwap e ((loadWaiters s e .empty).foldl (fun t id => meetStatus id stWeightPoison 0 t)
            (updEngine e (updPlane true fun p => { refFlip := p.refFlip }) (faRead (facetVia s f) f 1 (n * 65536) 65536 s).2))
        else (faRead (facetVia s f) f 1 (n * 65536) 65536 s).2) := by
  refine (checked_ok (decide_eq_true he) s _).trans (congrArg _ ?_)
  simp only [planeLoadDoneEff, ha, planeOf, hl, hs, hn, Bool.not_false, if_true]
  rfl

end PlaneLoadDone

/-! ## PLANE_SWAP (R90) -/

/-- What holds a swap does not depend on the calibration that gives way to it. -/
@[simp] theorem swapBlocked_abandonCal (x : Engine) : swapBlocked (abandonCal x) = swapBlocked x := rfl

/-- The handshakes that a swap waited change counters only. -/
@[simp] theorem countPlaneWait_swapWait (e : Nat) (s : State) :
    (engineOf (countPlaneWait e s) e).swapWait = (engineOf s e).swapWait := by
  unfold countPlaneWait countEngine
  dsimp only
  split
  · rfl
  · rw [updEngine, engineOf_setEngine_self]
    rfl

theorem swapOne_free {e : Nat} {s : State} (hb : swapBlocked (engineOf s e) = false) :
    swapOne e s = setEngine e (swapPlanes (abandonCal (engineOf s e))) s := by
  simp [swapOne, hb]

theorem swapOne_blocked {e : Nat} {s : State} (hb : swapBlocked (engineOf s e) = true) :
    swapOne e s = countPlaneWait e (setEngine e { abandonCal (engineOf s e) with swapWait := true } s) := by
  simp [swapOne, hb]

section PlaneSwap
variable {c id i : Nat} {s : State} (hc : c < 544) (hi : issues s c = some id)
  (ho : opAt (coreOf s c) [0x03, 1] = some i) (hn : SMap.has (coreOf s c).part i = false)
include hc hi ho hn

theorem exec_planeSwap_free (hb : swapBlocked (engineOf s (c * 8)) = false) :
    exec (.planeSwap c 1) s = .next (opDone c id i (opStarted c i
      (setEngine (c * 8) (swapPlanes (abandonCal (engineOf s (c * 8)))) s))) := by
  refine (checked_ok (decide_eq_true hc) s _).trans (congrArg _ (coreOp_of_ends hi ho ?_))
  simp [hn, maskEngines_one, forAll, swapOne_free hb, swapPlanes]

theorem exec_planeSwap_blocked (hb : swapBlocked (engineOf s (c * 8)) = true) :
    exec (.planeSwap c 1) s = .next (opStarted c i
      (countPlaneWait (c * 8) (setEngine (c * 8) { abandonCal (engineOf s (c * 8)) with swapWait := true } s))) := by
  refine (checked_ok (decide_eq_true hc) s _).trans (congrArg _ (coreOp_of_goes hi ho ?_))
  simp [hn, maskEngines_one, forAll, swapOne_blocked hb]

end PlaneSwap

/-- Settles O18: passes by whether their engines are free, droop by the engine's count, planes by what holds them. -/
theorem passesAndPlanes : Obligations.PassesAndPlanes := by
  unfold Obligations.PassesAndPlanes
  refine ⟨?_, fun e s he => ⟨?_, ?_, ?_, ?_, ?_, ?_⟩, ?_, ?_, ?_⟩
  · intro c id i mask rep w input es ts s hc hi ho hp
    exact ⟨exec_pass_last hc hi ho, exec_pass_waits hc hi ho hp⟩
  · rintro hr _ rfl
    exact exec_anDroopReplay_runs he hr
  · exact exec_anDroopReplay_idle he
  · exact exec_engineDroopStop_stops he
  · exact exec_engineDroopStop_ignored he
  · exact exec_engineDroopResume_resumes he
  · exact exec_engineDroopResume_ignored he
  · rintro c id i image stride _ _ f w s hc hi ho hn rfl hf rfl hw
    exact ⟨exec_planeLoad_poisoned hc hi ho hn hf hw, exec_planeLoad_begins hc hi ho hn hf hw⟩
  · intro e f set i retries fault s he ha hl hs
    refine ⟨exec_planeLoadDone_free he ha hl hs retries fault, ?_⟩
    rintro n _ hn rfl
    exact exec_planeLoadDone_reads he ha hl hs retries fault hn
  · intro c id i s hc hi ho hn
    exact ⟨exec_planeSwap_free hc hi ho hn, exec_planeSwap_blocked hc hi ho hn⟩

end Sys2Proof.Machine

/-! Sealed chunks on their way to a plane, and the scrub of planes with its rewrites (R82, R84 to R86, R93 to R95, R218, R219). -/

namespace Sys2Proof.Machine

/-! ## SEALED_CHUNK_START (R82, R84, R85) -/

/-- The load of a chunk that R84 and R85 give the slot of cluster `k` now, from facet `f` into a plane of engine `e`. -/
structure LoadTurn (s : State) (k e : Nat) (one : Bool) (f set chunk : Nat) : Prop where
  due : loadDue s e one f set chunk = true
  noRebuild : rebuildDue s e one f set chunk = none
  noScrub : scrubTurn s k = false
  turn : turnFacet s k = some f

/-- The decryption unit of cluster `k` and buffer `b` of an engine's core are free, and the engine is in use. -/
structure UnitFree (s : State) (k e b : Nat) : Prop where
  cluster : clusterOfEngine e = k
  noJob : (clusterOf s k).job = none
  powered : (coreOf s (coreOfEngine e)).powered = true
  buffer : b ∉ (coreOf s (coreOfEngine e)).buffers
  notRetired : (engineOf s e).status ≠ 3
  notReserve : (engineOf s e).status ≠ 4

theorem setGood_of_ready {s : State} {f set : Nat} {w : WSet} (hw : setOf s f set = some w) (hr : w.ready = true)
    (hq : w.quarantined = false) : setGood s f set = true := by
  simp [setGood, hw, hr, hq]

theorem sealedChunkStartEff_load {s : State} {k e p f set chunk b : Nat} {w : WSet}
    (hu : UnitFree s k e b) (ht : LoadTurn s k e (p == 1) f set chunk) (hw : setOf s f set = some w)
    (hg : setGood s f set = true) (hc : chunk < w.hdr.chunkCount) :
    sealedChunkStartEff k e p f set chunk b false s = updEngine e
      (fun y => updPlane (p == 1) (fun q => { q with loading := true, src := .chunk f set chunk })
        (if (p == 1) = y.active1 then y else abandonCal y))
      (dropRewrites e (p == 1) (updCore (coreOfEngine e) (fun y => { y with buffers := NSet.add y.buffers b })
        (updCluster k (fun y => { y with
          job := some { engine := e, plane1 := p == 1, facet := f, set := set, chunk := chunk, buffer := b, scrub := false
                        rebuild := none, second := w.badFirst.contains chunk }
          sinceScrub := Nat.min 4 (y.sinceScrub + 1), lastFacet := f }) s))) := by
  obtain ⟨hk, hjob, hpow, hbuf, h3, h4⟩ := hu
  obtain ⟨hdue, hreb, hscrub, hturn⟩ := ht
  simp [sealedChunkStartEff, hw, hk, hjob, hpow, hbuf, h3, h4, hdue, hreb, hscrub, hturn, hg, hc]

theorem exec_sealedChunkStart {k e p f b : Nat} (hk : k < 32) (he : e < 4352) (hp : p < 2) (hf : f < 64) (hb : b < 4)
    (set chunk : Nat) (scrub : Bool) (s : State) :
    exec (.sealedChunkStart k e p f set chunk b scrub) s = .next (sealedChunkStartEff k e p f set chunk b scrub s) :=
  checked_ok (by simp [okCluster, okEngine, okTwo, okFacet, hk, he, hp, hf, hb]) s _

/-! ## SEALED_CHUNK_DONE (R82, R86) -/

@[simp] theorem takePad_length (n : Nat) (l : List Byte) : (takePad n l).length = n := by
  simp only [takePad, List.length_append, List.length_take, List.length_replicate]
  omega

/-- What has just been written has good parity (R155). -/
theorem scratchRead_scratchWrite (c a : Nat) (d : List Byte) (s : State) :
    ∃ l, scratchRead (coreOf (scratchWrite c a d s) c) a d.length = some l := by
  have hgood : badBytes (coreOf (scratchWrite c a d s) c) a d.length = false := by
    rw [scratchWrite, updCore, coreOf_setCore_self]
    simp only [badBytes, List.any_eq_false, List.mem_filter]
    intro b ⟨_, hb⟩
    simp at hb ⊢
    omega
  exact ⟨_, if_neg (by simp [hgood])⟩

theorem exec_sealedChunkDone {k : Nat} (hk : k < 32) (tagOk : Bool) (image : List Byte) (retries : Nat) (fault : Bool)
    (upset : List Nat) (s : State) : exec (.sealedChunkDone k tagOk image retries fault upset) s =
      .next (sealedChunkDoneEff k tagOk image retries fault upset s) :=
  checked_ok (decide_eq_true hk) s _

section ChunkDone
variable {k : Nat} {j : ChunkJob} {w : WSet} {s : State} (hj : (clusterOf s k).job = some j)
  (hw : setOf s j.facet j.set = some w) (image : List Byte) (retries : Nat) (fault : Bool)
include hj hw

/-- A right tag over a copy that reads: the plaintext stands in the buffer, and no bit of it is upset. -/
theorem sealedChunkDoneEff_ready (hr : (readChunk j.facet w j.second j.chunk s).1.isSome = true) :
    sealedChunkDoneEff k true image retries fault [] s = chunkReady k j (takePad 65536 image) retries fault
      (chunkRepaired j (scratchWrite (coreOfEngine j.engine) (bufferAt j.buffer) (takePad 65536 image)
        (readChunk j.facet w j.second j.chunk s).2)) := by
  obtain ⟨l, hl⟩ := scratchRead_scratchWrite (coreOfEngine j.engine) (bufferAt j.buffer) (takePad 65536 image)
    (readChunk j.facet w j.second j.chunk s).2
  rw [takePad_length] at hl
  simp only [sealedChunkDoneEff, hj, hw, hr, Bool.and_true, if_true, List.map_nil, upsetCore_nil, hl]

theorem sealedChunkDoneEff_fails {tagOk : Bool}
    (h : tagOk = false ∨ (readChunk j.facet w j.second j.chunk s).1.isSome = false) :
    sealedChunkDoneEff k tagOk image retries fault [] s = chunkFails k j (readChunk j.facet w j.second j.chunk s).2 := by
  have hbad : ¬ (tagOk && (readChunk j.facet w j.second j.chunk s).1.isSome) = true := by
    rcases h with h | h <;> simp [h]
  simp only [sealedChunkDoneEff, hj, hw]
  rw [if_neg hbad]

theorem exec_sealedChunkDone_tagGood (hk : k < 32) : exec (.sealedChunkDone k true image retries fault []) s =
    .next (if (readChunk j.facet w j.second j.chunk s).1.isSome then
      chunkReady k j (takePad 65536 image) retries fault
        (chunkRepaired j (scratchWrite (coreOfEngine j.engine) (bufferAt j.buffer) (takePad 65536 image)
          (readChunk j.facet w j.second j.chunk s).2))
      else chunkFails k j (readChunk j.facet w j.second j.chunk s).2) := by
  rw [exec_sealedChunkDone hk]
  by_cases hr : (readChunk j.facet w j.second j.chunk s).1.isSome = true
  · rw [sealedChunkDoneEff_ready hj hw image retries fault hr, if_pos hr]
  · rw [sealedChunkDoneEff_fails hj hw image retries fault (.inr (Bool.eq_false_iff.2 hr)), if_neg hr]

theorem exec_sealedChunkDone_tagBad (hk : k < 32) : exec (.sealedChunkDone k false image retries fault []) s =
    .next (chunkFails k j (readChunk j.facet w j.second j.chunk s).2) := by
  rw [exec_sealedChunkDone hk, sealedChunkDoneEff_fails hj hw image retries fault (.inl rfl)]

end ChunkDone

section ChunkFails
variable {k : Nat} {j : ChunkJob} {w : WSet} {t : State} (hw : setOf t j.facet j.set = some w)
include hw

theorem chunkFails_replica (hr : w.replicated = true) (hs : j.second = false) (hb : j.chunk ∉ w.badSecond) :
    chunkFails k j t = updCluster k (fun y => { y with job := some { j with second := true } })
      (updSet j.facet j.set (fun y => { y with badFirst := NSet.add y.badFirst j.chunk }) t) := by
  simp [chunkFails, hw, hr, hs, hb]

theorem chunkFails_lost (h : w.replicated = false ∨ j.second = true) : chunkFails k j t = chunkLost k j t := by
  rcases h with h | h <;> simp [chunkFails, hw, h]

end ChunkFails

/-! ## PLANE_SCRUB_VISIT and SCRUB_GAP_TIMEOUT (R93 to R95) -/

@[simp] theorem confEngine_setEngine (e n : Nat) (x : Engine) (s : State) :
    confEngine (setEngine n x s) e = confEngine s e := rfl

theorem exec_planeScrubVisit {e row : Nat} (he : e < 4352) (hrow : row < 256) (s : State) :
    exec (.planeScrubVisit e 0 row []) s = .next (planeScrubVisitEff e 0 row [] s) :=
  checked_ok (by simp [okEngine, okTwo, he, hrow]) s _

section ScrubVisit
variable {e row : Nat} {s : State} (hl : (engineOf s e).plane0.loading = false)
  (hp : (coreOf s (coreOfEngine e)).powered = true) (h3 : (engineOf s e).status ≠ 3)
include hl hp h3

/-- A plane that is loaded, powered and in use is visited. -/
theorem not_scrubSkipped : ¬ ((planeOf (engineOf s e) false).loading || !(coreOf s (coreOfEngine e)).powered ||
    (engineOf s e).status == 3) = true := by
  simp [planeOf, hl, hp, h3]

theorem planeScrubVisitEff_good (hpar : rowParityBad (engineOf s e).plane0 row = false)
    (href : rowRefBad (engineOf s e).plane0 row = false) :
    planeScrubVisitEff e 0 row [] s = finishSwap e (setEngine e { engineOf s e with
      scrubWait := none
      plane0 := { (engineOf s e).plane0 with
        scrubbed := SMap.put (engineOf s e).plane0.scrubbed row
          (ltcOf s (clusterOfEngine e), epochOf s (clusterOfEngine e)) } } s) := by
  have hgood : (!rowParityBad (engineOf s e).plane0 row && !rowRefBad (engineOf s e).plane0 row) = true := by
    simp [hpar, href]
  exact (if_neg (not_scrubSkipped hl hp h3)).trans (if_pos hgood)

/-- A row of bad parity with no rewrite due is an error of that row. -/
theorem planeScrubVisitEff_bad (hpar : rowParityBad (engineOf s e).plane0 row = true) (hrw : (engineOf s e).rewrites = []) :
    planeScrubVisitEff e 0 row [] s = scrubError e false false row (setEngine e (engineOf s e) s) := by
  have hbad : ¬ (!rowParityBad (engineOf s e).plane0 row && !rowRefBad (engineOf s e).plane0 row) = true := by
    simp [hpar]
  have hnone : ¬ ((engineOf s e).rewrites.any fun r => r.one == false && r.row == row) = true := by simp [hrw]
  have herr : planeScrubVisitEff e 0 row [] s =
      scrubError e false (!rowParityBad (engineOf s e).plane0 row) row (setEngine e (engineOf s e) s) :=
    (if_neg (not_scrubSkipped hl hp h3)).trans ((if_neg hbad).trans (if_neg hnone))
  rw [herr, hpar]
  rfl

end ScrubVisit

/-- A row of bad parity in the active plane, which is empty and which no command used. -/
theorem scrubError_active {e row : Nat} {x : Engine} {s : State} (hst : x.status = 1) (ha : x.active1 = false)
    (hsrc : x.plane0.src = .empty) (hus : x.plane0.users = []) (hrw : x.rewrites = []) (hconf : confEngine s e = false) :
    scrubError e false false row (setEngine e x s) = setEngine e { x with
      scrubWait := none, heldScrub := true, status := 2
      rewrites := [{ one := false, row := row, last := lastScrub x.plane0 row, act := true, refOnly := false }]
      scrubFaults := satAdd 16 x.scrubFaults 1 } s := by
  simp [scrubError, planeOf, ha, hst, hsrc, hrw, countEngine, hconf, updEngine, usersSince, hus]

theorem exec_scrubGapTimeout {e : Nat} {s : State} (he : e < 4352) (hst : (engineOf s e).status = 1) :
    exec (.scrubGapTimeout e) s =
      .next (setEngine e { engineOf s e with scrubWait := some ((engineOf s e).active1, 0) } s) :=
  (checked_ok (decide_eq_true he) s _).trans (congrArg _ (if_pos hst))

/-! ## SCRUB_REWRITE_DONE (R94, R95) -/

section RewriteDone
variable {e : Nat} {r : Rewrite} {s : State} (he : e < 4352) (hr : nextRewrite s e = some r)
include he hr

theorem exec_scrubRewriteDone (ok : Bool) :
    exec (.scrubRewriteDone e ok) s = .next (finishSwap e
      (if r.act && !r.told then scrubFaultEvent e r (if ok then dropRewrite e r (writeRow e r s)
          else planeLoadFault e .empty (dropRewrite e r (writeRow e r s)))
        else if ok then dropRewrite e r (writeRow e r s)
          else planeLoadFault e .empty (dropRewrite e r (writeRow e r s)))) := by
  refine (checked_ok (decide_eq_true he) s _).trans (congrArg _ ?_)
  simp only [scrubRewriteDoneEff, hr]

theorem exec_scrubRewriteDone_shadow (ha : r.act = false) :
    exec (.scrubRewriteDone e true) s = .next (finishSwap e (dropRewrite e r (writeRow e r s))) := by
  simp [exec_scrubRewriteDone he hr, ha]

theorem exec_scrubRewriteDone_active (ha : r.act = true) (ht : r.told = false) :
    exec (.scrubRewriteDone e true) s =
      .next (finishSwap e (scrubFaultEvent e r (dropRewrite e r (writeRow e r s)))) := by
  simp [exec_scrubRewriteDone he hr, ha, ht]

theorem exec_scrubRewriteDone_faultRow (ha : r.act = false) :
    exec (.scrubRewriteDone e false) s =
      .next (finishSwap e (planeLoadFault e .empty (dropRewrite e r (writeRow e r s)))) := by
  simp [exec_scrubRewriteDone he hr, ha]

end RewriteDone

/-- Settles O21: a chunk's start by its turn, its end by the tag and the copies, a scrub visit by what the row reads back, and a
rewrite by its plane. -/
theorem sealedLoadsAndScrub : Obligations.SealedLoadsAndScrub := by
  unfold Obligations.SealedLoadsAndScrub
  refine ⟨⟨?_, ?_, ?_⟩, ?_, ?_, ?_, ?_⟩
  · rintro k e p set chunk b f w s _ hk he hp hb hf hcl hjob hpow hbuf h3 h4 hw hready hq hc hdue hreb hscrub hturn rfl
    rw [exec_sealedChunkStart hk he hp hf hb, sealedChunkStartEff_load ⟨hcl, hjob, hpow, hbuf, h3, h4⟩
      ⟨hdue, hreb, hscrub, hturn⟩ hw (setGood_of_ready hw hready hq) hc]
  · rintro k retries image fault j w _ s hk hj hw rfl
    exact ⟨exec_sealedChunkDone_tagGood hj hw image retries fault hk, exec_sealedChunkDone_tagBad hj hw image retries fault hk⟩
  · intro k j w t hw
    exact ⟨chunkFails_replica hw, chunkFails_lost hw⟩
  · intro e row s he hrow hl hp h3 hpar href
    rw [exec_planeScrubVisit he hrow, planeScrubVisitEff_good hl hp h3 hpar href]
  · intro e row s he hrow hl hp hst ha hsrc hus hrw hconf hpar
    have h3 : (engineOf s e).status ≠ 3 := by omega
    rw [exec_planeScrubVisit he hrow, planeScrubVisitEff_bad hl hp h3 hpar hrw, scrubError_active hst ha hsrc hus hrw hconf]
  · exact fun e s he => exec_scrubGapTimeout he
  · intro e r s he hr
    exact ⟨exec_scrubRewriteDone_shadow he hr, exec_scrubRewriteDone_active he hr, exec_scrubRewriteDone_faultRow he hr⟩

end Sys2Proof.Machine

/-! Segments and weight sets of a facet, loaded and unloaded (R87, R127, R128, R132, R217, R219, R355, R356, R529, R532, R533). -/

namespace Sys2Proof.Machine

/-- A request that its row finds is answered with what the row's work says, where the answer fits. -/
theorem checked_serve {fn : Nat} {lay : Layout} {h : Req} {b : List Byte} {s t : State} {act : State → Reply × State}
    {r : Reply} {body : Req → List Byte → State → State}
    (ha : Asked fn lay true h b s) (hb : body h b s = serve h lay.op true act s) (hact : act s = (r, t))
    (hl : 16 + r.body.length ≤ h.respLen) :
    checked (okFn fn) s (onRequest fn lay body) = .next (answeredWith h r t) := by
  rw [checked_onRequest ha, hb, serve_next (served_of_asked ha) (by rw [hact]; exact hl), hact]

/-! ## SEGMENT_LOAD (R127, R128, R132, R355, R356) -/

theorem segmentReply_newLadder {h : Req} {b : SegBody} {f f1 : Facet} {g : Segment} {frames : List Nat} {s : State}
    (hf : facetOf s b.facet = some f) (hfn : f.fn = h.fn) (hlad : b.ladder = 0) (hal : b.containerAddr % 64 = 0)
    (hlen : b.length ≤ 268435456) (hg : decodeSegment (b.container.take b.length) = some g) (hok : segmentOk f g = true)
    (h0 : SMap.look f.ladders 0 = none) (hst : f.state ≠ 4) (hpr : g.prisms.length ≤ (freePrisms s).length)
    (htk : takeBytes s b.facet g.size f = some (frames, f1)) (hnew : SMap.look f.ladders f.nextLadder = none) :
    segmentReply h b s = ({ status := syOk, body := toLe 4 f.nextLadder ++ toLe 4 0 },
      some ({ f1 with
        nextLadder := f.nextLadder + 1
        ladders := SMap.put f.ladders f.nextLadder ⟨g.weightSet,
          [(g.coreCount, ⟨g, frames, if g.coreCount = f.rung then (fitMapping g f.cores).getD [] else []⟩)]⟩ },
        ⟨g, frames, if g.coreCount = f.rung then (fitMapping g f.cores).getD [] else []⟩)) := by
  have htakes : ladderTakes f 0 g = true := by simp [ladderTakes, h0]
  have hshort : ¬ 268435456 < b.length := Nat.not_lt.2 hlen
  have hprisms : ¬ (freePrisms s).length < g.prisms.length := Nat.not_lt.2 hpr
  simp [segmentReply, segOf, segHandle, hf, hfn, hlad, hal, hshort, hg, hok, htakes, hst, hprisms, htk, hnew, SMap.put]

/-- A container that is taken is answered with its ladder's handle, and stored. -/
theorem exec_segmentLoad {fn n : Nat} {h : Req} {body container : List Byte} {f f1 : Facet} {l : Loaded} {s : State}
    (ha : Asked fn (laySegment 0) true h body s) (hl : 24 ≤ h.respLen)
    (hf : facetOf s (segBody body container).facet = some f) (hlad : (segBody body container).ladder = 0)
    (hr : segmentReply h (segBody body container) s =
      ({ status := syOk, body := toLe 4 n ++ toLe 4 0 }, some (f1, l))) :
    exec (.segmentLoad fn container) s = .next
      (answeredWith h { status := syOk, body := toLe 4 n ++ toLe 4 0 }
        (storeSegment (segBody body container) f.nextLadder f1 l s)) := by
  refine checked_serve ha rfl ?_ (by simpa using hl)
  simp only [hr, hf, segHandle, hlad, if_true]

section SegmentUnload
variable {h : Req} {n ladder : Nat} {f : Facet} {s : State} (hf : facetOf s n = some f) (hfn : f.fn = h.fn)
  (hh : SMap.has f.ladders ladder = true)
include hf hfn hh

theorem segmentUnloadReply_free (hn : ladderNamed s n ladder = false) :
    segmentUnloadReply h n ladder s = { status := syOk, body := toLe 4 ladder ++ toLe 4 0 } := by
  simp [segmentUnloadReply, hf, hfn, hh, hn]

theorem segmentUnloadReply_named (hn : ladderNamed s n ladder = true) :
    segmentUnloadReply h n ladder s = { status := syBusy } := by
  simp [segmentUnloadReply, hf, hfn, hh, hn]

end SegmentUnload

/-- UNLOAD frees a ladder exactly where it is answered OK. -/
theorem exec_segmentUnload {fn : Nat} {h : Req} {b : List Byte} {r : Reply} {s : State}
    (ha : Asked fn (laySegment 1) true h b s) (hr : segmentUnloadReply h (field b 0 1) (field b 4 4) s = r)
    (hl : 16 + r.body.length ≤ h.respLen) :
    exec (.segmentUnload fn) s = .next (answeredWith h r (if r.status = syOk then
      freeTrees (fun x => x.facet == field b 0 1 && x.ladder == field b 4 4)
        (updFacet (field b 0 1) (dropLadder (field b 4 4)) s) else s)) := by
  refine checked_serve ha rfl ?_ hl
  dsimp only
  rw [hr]
  split <;> rfl

/-! ## WEIGHT_SET_LOAD (R217, R529, R532) -/

section WeightLoad
variable {h : Req} {b : WsBody} {f : Facet} {w : WsHeader} {s : State} (hf : facetOf s b.facet = some f) (hfn : f.fn = h.fn)
  (hw : decodeWeightSet (b.container.take b.length) = some w) (hok : weightBodyOk b w = true)
  (hkey : weightKey h b w s = syOk)
include hf hfn hw hok hkey

theorem weightReply_accepted (htag : b.tagOk = true) (hsealed : w.sealedKey = true → b.unwrapOk = true ∧ freeWeightSlot s ≤ 63)
    (hheld : setHeld f b.setId = false) (hst : f.state ≠ 4) (hplace : placeSet s b w (dropSet b.setId f) ≠ none) :
    weightReply h b s = { status := syAccepted } := by
  have hwrap : (w.sealedKey && !b.unwrapOk) = false := by
    cases hs : w.sealedKey with
    | false => rfl
    | true => simp [(hsealed hs).1]
  have hslot : (w.sealedKey && decide (63 < freeWeightSlot s)) = false := by
    cases hs : w.sealedKey with
    | false => rfl
    | true => simp [(hsealed hs).2]
  simp [weightReply, wsOf, hf, hfn, hw, hok, hkey, htag, hwrap, hheld, hst, hplace, hslot]

theorem weightReply_tagBad (htag : b.tagOk = false) : weightReply h b s = { status := syRejected } := by
  simp [weightReply, wsOf, hf, hfn, hw, hok, hkey, htag]

end WeightLoad

section WeightSetLoad
variable {fn : Nat} {h : Req} {body container : List Byte} {tagOk unwrapOk : Bool} {s : State}

/-- A set that its checks accept is loaded after the response. -/
theorem exec_weightSetLoad_accepted (ha : AskedJob fn layWeightLoad true h body s)
    (hr : weightReply h (wsBody body container tagOk unwrapOk) s = { status := syAccepted }) :
    exec (.weightSetLoad fn container tagOk unwrapOk) s = .next
      (loadSet (wsBody body container tagOk unwrapOk) (ticketOf h opWeightSetLoad) (taken h opWeightSetLoad [] s)) :=
  (checked_onRequest ha.1).trans (congrArg _ (serveJob_next (mayAccept_of_asked ha) hr ha.2.1))

/-- One that they turn away is answered, and nothing else happens. -/
theorem exec_weightSetLoad_turned (ha : Asked fn layWeightLoad true h body s)
    (hr : (weightReply h (wsBody body container tagOk unwrapOk) s).status ≠ syAccepted) :
    exec (.weightSetLoad fn container tagOk unwrapOk) s =
      .next (answeredWith h (weightReply h (wsBody body container tagOk unwrapOk) s) s) :=
  (checked_onRequest ha).trans (congrArg _ (serveJob_turned (served_of_asked ha) hr))

end WeightSetLoad

/-! ## WEIGHT_SET_LOAD_DONE (R87, R219) -/

theorem exec_weightSetLoadDone {n set : Nat} {images : List StreamImage} {f : Facet} {w : WSet} {s t : State} {good : Bool}
    (hn : n < 64) (hf : facetOf s n = some f) (hw : SMap.look f.sets set = some w) (hr : w.ready = false)
    (hm : makeImages n set images (List.range w.streamFrames.length) s = (good, t)) :
    exec (.weightSetLoadDone n set images) s = .next (forAll (f.cores.flatMap enginesOf) (releaseHeldSet n set)
      (requestDoneOpt w.ticket (if good then syOk else syRejected)
        (updSet n set (fun y => { y with ready := true, ticket := none }) t))) := by
  refine (checked_ok (decide_eq_true hn) s _).trans (congrArg _ ?_)
  simp [weightSetLoadDoneEff, hf, hw, hr, hm]

/-! ## WEIGHT_SET_UNLOAD (R533) -/

/-- A request for a set that the facet holds is answered, and its work done, by whether the set is in use. -/
theorem exec_weightSetUnload {fn : Nat} {h : Req} {b : List Byte} {f : Facet} {w : WSet} {s : State}
    (ha : Asked fn layWeightUnload true h b s) (hl : 16 ≤ h.respLen) (hf : facetOf s (field b 0 1) = some f)
    (hfn : f.fn = h.fn) (hw : SMap.look f.sets (field b 4 4) = some w) :
    exec (.weightSetUnload fn) s = .next (if setBusy s (field b 0 1) f (field b 4 4) w then
        answeredWith h { status := syBusy } s
      else answeredWith h { status := syOk }
        (freeSetSlot f (field b 4 4) (setFacet (field b 0 1) (dropSet (field b 4 4) f) s))) := by
  cases hb : setBusy s (field b 0 1) f (field b 4 4) w with
  | true =>
    have hr : weightSetUnloadReply h (field b 0 1) (field b 4 4) s = { status := syBusy } := by
      simp [weightSetUnloadReply, hf, hfn, hw, hb]
    refine checked_serve ha rfl ?_ hl
    simp only [hf, hr]
    rfl
  | false =>
    have hr : weightSetUnloadReply h (field b 0 1) (field b 4 4) s = { status := syOk } := by
      simp [weightSetUnloadReply, hf, hfn, hw, hb]
    refine checked_serve ha rfl ?_ hl
    simp only [hf, hr]
    rfl

/-- Settles O33: each request by the answer of its own checks, and the end of a load by the stream image that it made. -/
theorem segmentsAndWeightSets : Obligations.SegmentsAndWeightSets := by
  unfold Obligations.SegmentsAndWeightSets
  refine ⟨⟨?_, ?_⟩, ?_, ?_, ?_⟩
  · rintro fn h body container f f1 g frames s ha hl _ rfl hf hfn hlad hal hlen hg hok h0 hst hpr htk hnew _ rfl
    rw [← fn_of_asked ha.2.1] at hfn
    exact exec_segmentLoad ha hl hf hlad
      (segmentReply_newLadder hf hfn hlad hal hlen hg hok h0 hst hpr htk hnew)
  · rintro fn h b f s ha hl _ _ rfl rfl hf hfn hh
    rw [← fn_of_asked ha.2.1] at hfn
    exact ⟨fun hn => exec_segmentUnload ha (segmentUnloadReply_free hf hfn hh hn) (by simpa using hl),
      fun hn => exec_segmentUnload ha (segmentUnloadReply_named hf hfn hh hn) (by simp; omega)⟩
  · rintro fn h body container tagOk unwrapOk f w s _ rfl hf hfn hw hok hkey
    refine ⟨fun ha htag hsealed hheld hst hplace => ?_, fun ha _ htag => ?_⟩
    · rw [← fn_of_asked ha.1.2.1] at hfn
      exact exec_weightSetLoad_accepted ha (weightReply_accepted hf hfn hw hok hkey htag hsealed hheld hst hplace)
    · rw [← fn_of_asked ha.2.1] at hfn
      have hr := weightReply_tagBad hf hfn hw hok hkey htag
      rw [exec_weightSetLoad_turned ha (by rw [hr]; decide), hr]
  · intro n set images f w s t good hn hf hw hr hm
    exact exec_weightSetLoadDone hn hf hw hr hm
  · rintro fn h b f w s ha hl _ _ rfl rfl hf hfn hw
    rw [← fn_of_asked ha.2.1] at hfn
    rw [exec_weightSetUnload ha hl hf hfn hw]
    exact ⟨fun hb => by rw [hb]; rfl, fun hb => by rw [hb]; rfl⟩

end Sys2Proof.Machine

/-! Full calibration of an engine, start-up calibration of a half, and the clearing of a core (R107 to R116, R158). -/

namespace Sys2Proof.Machine

/-! ## A full calibration starts (R107, R110) -/

/-- The run that a window starts takes the shadow plane as it stands. -/
theorem calRun_of_none {e : Nat} {s : State} (hc : (engineOf s e).cal = none) :
    calRun s e = { cause := (engineOf s e).calCall, began := ltcOf s (clusterOfEngine e), temp := engineTemp s e
                   prev := (shadowPlane (engineOf s e)).src } := by
  simp [calRun, calPrev, hc]

/-- A start in a window with a free shadow plane, called for by the period: neither an early start nor one for the temperature. -/
theorem calibrationStartEff_periodic {e : Nat} {s : State} (hw : calWindow s e = true)
    (hf : shadowFree (engineOf s e) = true) (h1 : (engineOf s e).calCall = 1) :
    calibrationStartEff e s = setEngine e (updPlane (!(engineOf s e).active1) (calPlane (coreNow s (coreOfEngine e)))
      { engineOf s e with cal := some (calRun s e) }) s := by
  simp [calibrationStartEff, hw, hf, h1, b2n]

/-! ## What a full calibration leaves of its engine (R107 steps 5 and 6, R120) -/

/-- A change of one plane writes planes only. -/
theorem updPlane_planes (one : Bool) (g : Plane → Plane) (x : Engine) :
    ∃ p q, updPlane one g x = { x with plane0 := p, plane1 := q } := by
  cases one with
  | false => exact ⟨g x.plane0, x.plane1, rfl⟩
  | true => exact ⟨x.plane0, g x.plane1, rfl⟩

theorem activePlane_updPlane_shadow (g : Plane → Plane) (x : Engine) :
    activePlane (updPlane (!x.active1) g x) = activePlane x := by
  cases ha : x.active1 <;> simp [activePlane, updPlane, setPlane, planeOf, ha]

/-- Giving the shadow plane back is a change of that plane. -/
theorem restoreShadow_eq_updPlane (prev : PlaneSrc) (x : Engine) :
    ∃ g, restoreShadow prev x = updPlane (!x.active1) g x := by
  unfold restoreShadow
  split
  · exact ⟨_, rfl⟩
  · exact ⟨_, rfl⟩

/-- After a passing calibration no correction is tracked, none is called for, and the active plane is as before. -/
theorem restoreShadow_installCal (prev : PlaneSrc) (t : SMap ColumnCal) (k : CalRun) (now : Nat × Nat) (x : Engine) {y : Engine}
    (hy : y = restoreShadow prev (installCal t k now x)) :
    y.track = [] ∧ y.cal = none ∧ y.calCall = 0 ∧ y.calCount = x.calCount + 1 ∧ y.calTemp = k.temp ∧ y.heldCheck = false ∧
      activePlane y = activePlane x := by
  obtain ⟨g, hg⟩ := restoreShadow_eq_updPlane prev (installCal t k now x)
  have hactive : activePlane y = activePlane x := by
    rw [hy, hg, activePlane_updPlane_shadow]
    rfl
  obtain ⟨p, q, hplanes⟩ := updPlane_planes (!(installCal t k now x).active1) g (installCal t k now x)
  obtain rfl := hy.trans (hg.trans hplanes)
  exact ⟨rfl, rfl, rfl, rfl, rfl, rfl, hactive⟩

section Engine
variable {e : Nat} {s : State} (he : e < 4352)
include he

/-! ## CALIBRATION_PERIOD_EXPIRY, CALIBRATION_START, CALIBRATION_OVERDUE (R107, R108, R110, R113) -/

theorem exec_calibrationPeriodExpiry (h1 : (engineOf s e).status = 1) (h0 : (engineOf s e).calCall = 0) :
    exec (.calibrationPeriodExpiry e) s = .next (setEngine e { engineOf s e with calCall := 1 } s) :=
  (checked_ok (decide_eq_true he) s _).trans (congrArg _ (if_pos (by simp [h1, h0])))

theorem exec_calibrationStart (hw : calWindow s e = true) (hf : shadowFree (engineOf s e) = true)
    (ha : (engineOf s e).active1 = false) (hc : (engineOf s e).cal = none) (h1 : (engineOf s e).calCall = 1) :
    exec (.calibrationStart e) s = .next (setEngine e { engineOf s e with
      plane1 := calPlane (coreNow s (coreOfEngine e)) (engineOf s e).plane1
      cal := some { cause := 1, began := ltcOf s (clusterOfEngine e), temp := engineTemp s e
                    prev := (engineOf s e).plane1.src } } s) := by
  refine (checked_ok (decide_eq_true he) s (calibrationStartEff e)).trans (congrArg _ ?_)
  rw [calibrationStartEff_periodic hw hf h1, calRun_of_none hc, h1]
  simp [updPlane, setPlane, planeOf, shadowPlane, ha]

theorem exec_calibrationOverdue (h1 : (engineOf s e).status = 1) :
    exec (.calibrationOverdue e) s = .next (raisePf0 evCalibrationOverdue e 0 (confEngine s e) s) :=
  (checked_ok (decide_eq_true he) s _).trans (congrArg _ (if_pos h1))

/-! ## CALIBRATION_DONE and CALIBRATION_ABANDON of a run that is not paused (R107, R113, R116, R120) -/

variable {k : CalRun} (hk : (engineOf s e).cal = some k) (hp : k.paused = false)
include hk hp

theorem exec_calibrationDone (errors : CalErrors) : exec (.calibrationDone e errors) s = .next
    (if (failingColumns (engineOf s e).repairs (calTable 1 errors)).isEmpty then
        finishSwap e (setEngine e (restoreShadow k.prev
          (installCal (calTable 1 errors) k (coreNow s (coreOfEngine e)) (engineOf s e))) s)
      else if repairable (engineOf s e).repairs (failingColumns (engineOf s e).repairs (calTable 1 errors)) then
        forAll (failingColumns (engineOf s e).repairs (calTable 1 errors)) (repairColumn e) (setEngine e
          { recordCal (calTable 1 errors) 1 k.temp (coreNow s (coreOfEngine e)) (engineOf s e) with
            cal := some { k with cause := 4, passes := 0, ordinary := 0, paused := true }, calCall := 4 } s)
      else retireEngine e (setEngine e (restoreShadow .empty
        (recordCal (calTable 1 errors) 2 k.temp (coreNow s (coreOfEngine e)) (engineOf s e))) s)) := by
  refine (checked_ok (decide_eq_true he) s (calibrationDoneEff e errors)).trans (congrArg _ ?_)
  simp only [calibrationDoneEff, hk, hp, Bool.false_eq_true, if_false]

theorem exec_calibrationAbandon (hc : k.cause ≠ 0) : exec (.calibrationAbandon e) s =
    .next (setEngine e (restoreShadow k.prev { engineOf s e with cal := none, calCall := k.cause }) s) := by
  refine (checked_ok (decide_eq_true he) s (calibrationAbandonEff e)).trans (congrArg _ ?_)
  simp [calibrationAbandonEff, hk, hp, hc]

end Engine

/-! ## Start-up calibration (R114) -/

section Half
variable {half : Nat} {s : State} (hh : half < 2)
include hh

theorem exec_startUpCalibration (hr : railOn s (half == 1) = true) (hm : s.pwr.mcRunning = true)
    (hs : calStage s (half == 1) = 0) : exec (.startUpCalibration half) s = .next (setCalStage (half == 1) 1 s) :=
  (checked_ok (decide_eq_true hh) s _).trans (congrArg _ (if_pos (by simp [hr, hm, hs])))

theorem exec_calibrationLoadSettled (hs : calStage s (half == 1) = 1) :
    exec (.calibrationLoadSettled half) s = .next (setCalStage (half == 1) 2 s) :=
  (checked_ok (decide_eq_true hh) s _).trans (congrArg _ (if_pos hs))

theorem exec_startUpCalibrationDone (errors : SMap (List CalErrors)) (hs : calStage s (half == 1) = 2) :
    exec (.startUpCalibrationDone half errors) s = .next (readyCheck (setCalStage (half == 1) 3
      (forAll ((coresOfHalf (half == 1)).flatMap enginesOf) (startUpEngine errors) s))) :=
  (checked_ok (decide_eq_true hh) s _).trans (congrArg _ (if_pos hs))

end Half

/-- The first calibration in turn whose columns are all accepted is the last. -/
theorem calsInTurn_passes {e rep : Nat} {l : List CalErrors} {s : State}
    (hb : failingColumns (engineOf s e).repairs (calTable rep (l.headD [])) = [])
    (pass : SMap ColumnCal → Bool → State → State) (fuel : Nat) (repaired : Bool) :
    calsInTurn rep e pass (fuel + 1) l repaired s = pass (calTable rep (l.headD [])) repaired s := by
  simp only [calsInTurn, hb, List.isEmpty_nil, if_true]

theorem startUpEngine_passes {e : Nat} {errors : SMap (List CalErrors)} {s : State} (h0 : (engineOf s e).status = 0)
    (hb : failingColumns (engineOf s e).repairs (calTable 64 ((SMap.getD errors e []).headD [])) = []) :
    startUpEngine errors e s = passStartUp e (calTable 64 ((SMap.getD errors e []).headD [])) false s := by
  rw [startUpEngine, if_pos h0, calsInTurn_passes hb]

/-- R114: an engine that passes start-up calibration is IN_SERVICE with the table's offsets and gains. -/
theorem passStartUp_inService (e : Nat) (t : SMap ColumnCal) (repaired : Bool) (s : State) :
    (engineOf (passStartUp e t repaired s) e).status = 1 ∧
      (engineOf (passStartUp e t repaired s) e).corr = t.map fun x => (x.1, (x.2.off, tableGain x.2)) := by
  rw [passStartUp, updEngine, engineOf_setEngine_self]
  exact ⟨rfl, rfl⟩

/-! ## CORE_CLEARING_DONE (R158) -/

theorem bindSpare_of_noFacet {s : State} (h : s.facets = []) (c : Nat) : bindSpare c s = s := by
  simp [bindSpare, h]

/-- Readiness is looked at in stage 4 only. -/
theorem readyCheck_of_stage_ne {s : State} (h : s.pwr.stage ≠ 4) : readyCheck s = s := by
  simp [readyCheck, h]

theorem exec_coreClearingDone {c : Nat} {s : State} (hc : c < 544) (hp : (coreOf s c).powered = true)
    (h5 : s.pwr.stage = 5) (hn : s.facets = []) :
    exec (.coreClearingDone c) s = .next (updCore c (fun x => { x with cleared := true }) s) := by
  have hnone : (updCore c (fun x => { x with cleared := true }) s).facets = [] := hn
  have hready : (updCore c (fun x => { x with cleared := true }) s).pwr.stage ≠ 4 := by
    rw [updCore, setCore_pwr, h5]
    decide
  refine (checked_ok (decide_eq_true hc) s (coreClearingDoneEff c)).trans (congrArg _ ?_)
  rw [coreClearingDoneEff, if_pos hp, bindSpare_of_noFacet hnone, readyCheck_of_stage_ne hready, hn]
  rfl

/-- Settles O22: the end of a full calibration by the columns that fail and whether they can be repaired, start-up calibration by
its stages and by what an engine that passes holds. -/
theorem calibration : Obligations.Calibration := by
  unfold Obligations.Calibration
  refine ⟨⟨?_, ?_, ?_, ?_, ?_⟩, ?_, ?_, ?_, ?_, ?_⟩
  · exact fun e s he => exec_calibrationPeriodExpiry he
  · exact fun e s he => exec_calibrationStart he
  · rintro e k errors _ y _ s he rfl hk hp rfl
    rw [exec_calibrationDone he hk hp errors]
    refine ⟨fun hb hy => ⟨?_, restoreShadow_installCal _ _ _ _ _ hy⟩, fun hb hr => ?_, fun hb hr => ?_⟩
    · rw [if_pos (List.isEmpty_iff.2 hb), hy]
    · rw [if_neg (mt List.isEmpty_iff.1 hb), if_pos hr]
    · rw [if_neg (mt List.isEmpty_iff.1 hb), if_neg (Bool.eq_false_iff.1 hr)]
  · exact fun e k s he hk hc hp => exec_calibrationAbandon he hk hp hc
  · exact fun e s he => exec_calibrationOverdue he
  · exact fun half s hh => exec_startUpCalibration hh
  · exact fun half s hh => exec_calibrationLoadSettled hh
  · exact fun half errors s hh => exec_startUpCalibrationDone hh errors
  · rintro e errors _ s h0 rfl hb
    rw [startUpEngine_passes h0 hb]
    exact passStartUp_inService e _ false s
  · exact fun c s hc => exec_coreClearingDone hc

end Sys2Proof.Machine

/-! COMPUTE_RESET, time limits, and the phases of an eclipse (R112, R337, R481 to R486, R490). -/

namespace Sys2Proof

/-- A changed entry is found changed, and an absent one stays absent. -/
theorem SMap.look_modify_self {α : Type} (m : SMap α) (n : Nat) (g : α → α) :
    SMap.look (SMap.modify m n g) n = (SMap.look m n).map g := by
  induction m with
  | nil => rfl
  | cons a r ih =>
    obtain ⟨k, v⟩ := a
    rw [SMap.modify] at ih
    by_cases hk : k = n
    · simp [SMap.modify, SMap.look, hk]
    · have hn : n ≠ k := Ne.symm hk
      by_cases hl : n < k <;> simp [SMap.modify, SMap.look, hk, hn, hl, ih]

end Sys2Proof

namespace Sys2Proof.Machine

theorem facetOf_updFacet_self (n : Nat) (g : Facet → Facet) (s : State) :
    facetOf (updFacet n g s) n = (facetOf s n).map g :=
  SMap.look_modify_self s.facets n g

/-! ## An eclipse starts, or is joined (R482, R490) -/

theorem facetOf_startEclipse_starts {n : Nat} {f : Facet} {s : State} (hf : facetOf s n = some f) (hn : f.eclipse = none)
    (cause : Nat) (tk : List Ticket) (l : List Nat) :
    facetOf (startEclipse n cause tk l s) n = some { f with
      eclipse := some { phase := 1, cause := cause, tickets := tk, cores := f.cores, startedAt := mcNow s
                        limited := NSet.ofList l } } := by
  rw [startEclipse, facetOf_updFacet_self, hf, Option.map_some, hn]

theorem facetOf_startEclipse_joins {n : Nat} {f : Facet} {x : Eclipse} {s : State} (hf : facetOf s n = some f)
    (hx : f.eclipse = some x) (cause : Nat) (tk : List Ticket) (l : List Nat) :
    facetOf (startEclipse n cause tk l s) n = some { f with
      eclipse := some { x with tickets := x.tickets ++ tk, limited := NSet.union x.limited l } } := by
  rw [startEclipse, facetOf_updFacet_self, hf, Option.map_some, hx]

/-! ## COMPUTE_RESET (R481) -/

/-- The answer to a request changes no facet. -/
@[simp] theorem facetOf_taken (h : Req) (op : Nat) (body : List Byte) (s : State) (n : Nat) :
    facetOf (taken h op body s) n = facetOf s n := by
  rw [taken, answeredWith, facetOf_respond, updFn, facetOf_setFn]

section Reset
variable {fn : Nat} {h : Req} {b : List Byte} {s : State}

/-- A request for a facet that exists is accepted; only a facet that is being destroyed has no cores to eclipse. -/
theorem exec_computeReset {f : Facet} (ha : AskedJob fn layReset true h b s) (hf : facetOf s (field b 0 1) = some f) :
    exec (.computeReset fn) s = .next
      (if f.state = 4 then requestDone (ticketOf h opComputeReset) syOk (taken h opComputeReset [] s)
        else startEclipse (field b 0 1) 2 [ticketOf h opComputeReset] [] (taken h opComputeReset [] s)) := by
  refine (checked_onRequest ha.1).trans (congrArg _
    ((serveJob_next (mayAccept_of_asked ha) (body := []) (by simp [hf]) ha.2.1).trans ?_))
  simp only [facetOf_taken, hf, Option.map_some, Option.getD_some]
  rfl

theorem exec_computeReset_notFound (ha : Asked fn layReset true h b s) (hf : facetOf s (field b 0 1) = none) :
    exec (.computeReset fn) s = .next (answeredWith h { status := syNotFound } s) := by
  refine (checked_onRequest ha).trans (congrArg _
    ((serveJob_turned (served_of_asked ha) (by simp [hf]; decide)).trans ?_))
  simp [hf]

end Reset

/-! ## COMMAND_TIME_LIMIT (R112, R337, R484) -/

theorem calWaits_of_running {c : Cmd} (hr : c.phase = .running) (s : State) : calWaits s c = false := by
  simp [calWaits, hr]

section Limit
variable {id : Nat} {c : Cmd} {s : State} (hid : id < 2 ^ 32) (hc : cmdOf s id = some c)
include hid hc

theorem exec_commandTimeLimit : exec (.commandTimeLimit id) s = .next
    (if calWaits s c then endUnstarted id stTimeLimit 0 s
      else if c.phase != .running || !countsStarted c then s
      else if isRun c.desc.payload then startEclipse c.facet 1 [] [id] s
      else finishCmd id (meetStatus id stTimeLimit 0 (dropWaiters (fun w => w == id) s))) := by
  refine (checked_ok rfl s (commandTimeLimitEff id)).trans (congrArg _ ?_)
  rw [commandTimeLimitEff, if_neg (Nat.not_le.2 hid)]
  simp only [hc]

theorem exec_commandTimeLimit_held (hw : calWaits s c = true) :
    exec (.commandTimeLimit id) s = .next (endUnstarted id stTimeLimit 0 s) := by
  rw [exec_commandTimeLimit hid hc, if_pos hw]

/-- A command that has started is eclipsed where it runs on cores, and abandoned otherwise. -/
theorem exec_commandTimeLimit_started (hr : c.phase = .running) (hs : countsStarted c = true) :
    exec (.commandTimeLimit id) s = .next
      (if isRun c.desc.payload then startEclipse c.facet 1 [] [id] s
        else finishCmd id (meetStatus id stTimeLimit 0 (dropWaiters (fun w => w == id) s))) := by
  have hstarted : ¬ (c.phase != .running || !countsStarted c) = true := by simp [hr, hs]
  rw [exec_commandTimeLimit hid hc, if_neg (Bool.eq_false_iff.1 (calWaits_of_running hr s)), if_neg hstarted]

end Limit

/-- A RUN_SEGMENT always counts as started: only a STATE_IMPORT may not (R480). -/
theorem countsStarted_of_isRun {c : Cmd} (h : isRun c.desc.payload = true) : countsStarted c = true := by
  unfold countsStarted
  cases hp : c.desc.payload with
  | stateImport m => simp [isRun, hp] at h
  | _ => rfl

/-! ## The phases of an eclipse (R483, R485, R486, R490) -/

section Phases
variable {n : Nat} {f : Facet} {x : Eclipse} {s : State}

/-- Outside a halt an effect happens where the eclipse stands at its phase. -/
theorem atPhase_of_phase (hs : s.pwr.state ≠ 4) (hf : facetOf s n = some f) (hx : f.eclipse = some x) {p : Nat}
    (hp : x.phase = p) (act : Facet → Eclipse → State → State) : atPhase n p act s = act f x s := by
  simp [atPhase, hs, hf, hx, hp]

variable (hn : n < 64) (hs : s.pwr.state ≠ 4) (hf : facetOf s n = some f) (hx : f.eclipse = some x)
include hn hs hf hx

/-- A row of an eclipse that stands at the row's phase has its effect. -/
theorem checked_atPhase {p : Nat} (hp : x.phase = p) (act : Facet → Eclipse → State → State) :
    checked (okFacet n) s (atPhase n p act) = .next (act f x s) :=
  (checked_ok (decide_eq_true hn) s _).trans (congrArg _ (atPhase_of_phase hs hf hx hp act))

theorem exec_eclipseFenced (hp : x.phase = 1) :
    exec (.eclipseFenced n) s = .next (updEclipse n (fun y => { y with phase := 2 }) s) :=
  checked_atPhase hn hs hf hx hp _

theorem exec_eclipsePenumbraEnd (hp : x.phase = 2) : exec (.eclipsePenumbraEnd n) s = .next (penumbraEnd n f x s) :=
  checked_atPhase hn hs hf hx hp (penumbraEnd n)

theorem exec_eclipseCleared (hp : x.phase = 3) (hh : s.fw.handover = false) (l : List Nat) :
    exec (.eclipseCleared n l) s = .next
      (forAll (NSet.diff x.cores (NSet.ofList l)) (fun c => updCore c fun y => { y with cleared := true })
        (updEclipse n (fun y => { y with phase := 4 }) (loseCores n l s))) :=
  (checked_atPhase hn hs hf hx hp _).trans (congrArg _ (if_neg (by simp [hh])))

/-- R490: during a firmware handover the next step waits. -/
theorem exec_eclipseCleared_handover (hp : x.phase = 3) (hh : s.fw.handover = true) (l : List Nat) :
    exec (.eclipseCleared n l) s = .next s :=
  (checked_atPhase hn hs hf hx hp _).trans (congrArg _ (if_pos hh))

/-- Where the calibrations retire no engine, no core is lost. -/
theorem exec_eclipseCalibrated (hp : x.phase = 4) (errors : SMap (List CalErrors)) {es : List Nat} {t : State}
    (hes : es = (NSet.diff x.cores x.failed).flatMap enginesOf) (ht : t = forAll es (checkEngine errors) s)
    (hkept : ∀ e ∈ es, (engineOf s e).status ≠ 3 → (engineOf t e).status ≠ 3) :
    exec (.eclipseCalibrated n errors) s = .next
      (updEclipse n (fun y => { y with phase := 5 }) (reloadAll n (loseCores n [] t))) := by
  have hlost : (es.filter fun e => (engineOf t e).status == 3 && (engineOf s e).status != 3) = [] := by
    refine List.filter_eq_nil_iff.2 fun e he => ?_
    have hk := hkept e he
    simp only [Bool.and_eq_true, beq_iff_eq, bne_iff_ne, ne_eq]
    exact fun h => hk h.2 h.1
  subst ht hes
  refine (checked_atPhase hn hs hf hx hp _).trans (congrArg _ ?_)
  dsimp only
  rw [hlost]
  rfl

/-- An eclipse ends once no plane load is due. -/
theorem exec_eclipse (hp : x.phase = 5) (us : Nat) :
    exec (.eclipse n us) s = .next (if f.loads.isEmpty then endEclipse n us f x s else s) :=
  checked_atPhase hn hs hf hx hp _

end Phases

/-- Settles O43: COMPUTE_RESET by the facet's state, a time limit by what the command is, and each phase by the effect of its row. -/
theorem eclipses : Obligations.Eclipses := by
  unfold Obligations.Eclipses
  refine ⟨⟨?_, fun id c s hid hc => ⟨?_, ?_, ?_⟩, fun n cause tk l f s hf => ⟨?_, ?_⟩⟩, ?_⟩
  · rintro fn h b s _ rfl
    refine ⟨fun f ha hf => ?_, fun ha _ => exec_computeReset_notFound ha⟩
    rw [exec_computeReset ha hf]
    exact ⟨fun h4 => by rw [if_neg h4], fun h4 => by rw [if_pos h4]⟩
  · intro hr hrun
    rw [exec_commandTimeLimit_started hid hc hr (countsStarted_of_isRun hrun), if_pos hrun]
  · intro hr hs hrun
    rw [exec_commandTimeLimit_started hid hc hr hs, if_neg (Bool.eq_false_iff.1 hrun)]
  · exact exec_commandTimeLimit_held hid hc
  · exact fun hn => facetOf_startEclipse_starts hf hn cause tk l
  · exact fun x hx => facetOf_startEclipse_joins hf hx cause tk l
  · intro n f x s hn hs hf hx
    refine ⟨?_, ?_, ?_, ?_, ?_, ?_, ?_⟩
    · exact exec_eclipseFenced hn hs hf hx
    · exact exec_eclipsePenumbraEnd hn hs hf hx
    · exact fun hp hh => exec_eclipseCleared hn hs hf hx hp hh []
    · exact exec_eclipseCleared_handover hn hs hf hx
    · exact fun hp errors es t => exec_eclipseCalibrated hn hs hf hx hp errors
    · intro us hp hl
      rw [exec_eclipse hn hs hf hx hp, if_pos (List.isEmpty_iff.2 hl)]
    · intro us hp hl
      rw [exec_eclipse hn hs hf hx hp, if_neg (mt List.isEmpty_iff.1 hl)]

end Sys2Proof.Machine

/-! Rounding to a number format keeps to the format's finite range (R146). -/

namespace Sys2Proof

/-- A magnitude clipped at `top` above a sign, also where it is flushed or zero. -/
theorem clipped_eq_sign_add (p q : Prop) [Decidable p] [Decidable q] (sgn top mag : Nat) :
    ∃ k, (if p then sgn else if q then sgn else if top < mag then sgn + top else sgn + mag) = sgn + k ∧ k ≤ top := by
  by_cases hp : p
  · exact ⟨0, if_pos hp, Nat.zero_le _⟩
  by_cases hq : q
  · exact ⟨0, (if_neg hp).trans (if_pos hq), Nat.zero_le _⟩
  rw [if_neg hp, if_neg hq]
  split
  · exact ⟨top, rfl, Nat.le_refl _⟩
  · exact ⟨mag, rfl, by omega⟩

/-- A rounding gives a sign bit above a magnitude that is at most the largest finite one. -/
theorem fpEncode_eq_sign_add (f : Fmt) {x : Num} (hx : x ≠ .nan) :
    ∃ neg mag, fpEncode f x = b2n neg * 2 ^ (f.ebits + f.mbits) + mag ∧ mag ≤ f.maxFinite := by
  cases x with
  | nan => exact absurd rfl hx
  | inf neg => exact ⟨neg, f.maxFinite, rfl, Nat.le_refl _⟩
  | fin neg m e => exact ⟨neg, clipped_eq_sign_add (m = 0) _ _ f.maxFinite _⟩

/-- Settles O25: the bits below the sign are at most the magnitude, which `fpEncode` clips at the largest finite one. -/
theorem roundingSaturates : Obligations.RoundingSaturates := by
  unfold Obligations.RoundingSaturates
  intro f x _ hx
  obtain ⟨neg, mag, henc, hmag⟩ := fpEncode_eq_sign_add f hx
  calc fpEncode f x % 2 ^ (f.ebits + f.mbits)
      = mag % 2 ^ (f.ebits + f.mbits) := by rw [henc, Nat.mul_add_mod_self_right]
    _ ≤ mag := Nat.mod_le _ _
    _ ≤ f.maxFinite := hmag

end Sys2Proof

/-! The vector operations of a core: each is one operation of its program (R135, R144 to R150, R565). -/

namespace Sys2Proof.Machine

/-! ## What the counters leave of a core -/

@[simp] theorem coreOf_updCore_self (c : Nat) (g : Core → Core) (s : State) : coreOf (updCore c g s) c = g (coreOf s c) :=
  coreOf_setCore_self s c _

@[simp] theorem coreOf_addAcct (id : Nat) (g : Acct → Acct) (s : State) (k : Nat) : coreOf (addAcct id g s) k = coreOf s k := by
  unfold addAcct
  split
  · rfl
  · split
    · rfl
    · split <;> rfl

@[simp] theorem coreOf_chargeVec (id core n : Nat) (s : State) (k : Nat) : coreOf (chargeVec id core n s) k = coreOf s k :=
  coreOf_addAcct id _ s k

/-- Counting the rotates of an operand changes that counter of its core, and nothing else of it. -/
theorem coreOf_countRotate (c a n : Nat) (s : State) :
    ∃ r, coreOf (countRotate c a n s) c = { coreOf s c with rotateExtra := r } := by
  unfold countRotate countCore
  split
  · exact ⟨_, rfl⟩
  · split
    · exact ⟨_, rfl⟩
    · exact ⟨_, coreOf_updCore_self c _ s⟩

@[simp] theorem countRotate_scratch (c a n : Nat) (s : State) :
    (coreOf (countRotate c a n s) c).scratch = (coreOf s c).scratch := by
  obtain ⟨_, h⟩ := coreOf_countRotate c a n s
  rw [h]

@[simp] theorem countRotate_scratchBad (c a n : Nat) (s : State) :
    (coreOf (countRotate c a n s) c).scratchBad = (coreOf s c).scratchBad := by
  obtain ⟨_, h⟩ := coreOf_countRotate c a n s
  rw [h]

@[simp] theorem regRead_countRotate (c a n : Nat) (s : State) (r k : Nat) :
    regRead (coreOf (countRotate c a n s) c) r k = regRead (coreOf s c) r k := by
  obtain ⟨_, h⟩ := coreOf_countRotate c a n s
  rw [h]
  rfl

/-! ## Reads without parity errors (R136, R144, R155) -/

theorem scratchRead_good {x : Core} (h : x.scratchBad = []) (a n : Nat) : scratchRead x a n = some (Mem.readN x.scratch a n) := by
  simp [scratchRead, badBytes, h]

theorem scratchRead_countRotate {s : State} {c : Nat} (h : (coreOf s c).scratchBad = []) (a n b k : Nat) :
    scratchRead (coreOf (countRotate c a n s) c) b k = some (Mem.readN (coreOf s c).scratch b k) := by
  rw [scratchRead_good (by rw [countRotate_scratchBad, h]), countRotate_scratch]

theorem eitherRead_countRotate {s : State} {c : Nat} (h : (coreOf s c).scratchBad = []) {b : Nat} (hb : b < 2 ^ 21)
    (a n k : Nat) : eitherRead (coreOf (countRotate c a n s) c) b k = some (Mem.readN (coreOf s c).scratch b k) :=
  (if_pos hb).trans (scratchRead_countRotate h a n b k)

theorem badAcc_good {x : Core} (h : x.accBad = []) (a n : Nat) : badAcc x a n = false := by
  simp [badAcc, h]

theorem eitherRead_acc {x : Core} (h : x.accBad = []) {a : Nat} (ha : 2 ^ 21 ≤ a) (n : Nat) :
    eitherRead x a n = some (Mem.readN x.acc (a - 2 ^ 21) n) := by
  rw [eitherRead, if_neg (Nat.not_lt.2 ha), badAcc_good h]
  rfl

/-! ## A VEC operation of the program (R133, R135, R141) -/

section VecOp
variable {c id i : Nat} {key : List Nat} {s t : State}

/-- An operation that ends runs: it is counted and completes. -/
theorem checked_coreOp_ends {act : Nat → Nat → State → Doing × State} (h : AtOp c id i key s)
    (ha : act id i s = (.ends, t)) : checked (okCore c) s (coreOp c key act) = .next (opRan c id i t) :=
  (checked_ok (decide_eq_true h.1) s _).trans (congrArg _ (coreOp_of_ends h.2.1 h.2.2 ha))

/-- One that is carried out whole. -/
theorem checked_wholeOp {act : Nat → State → State} (h : AtOp c id i key s) (ha : act id s = t) :
    checked (okCore c) s (wholeOp c key act) = .next (opRan c id i t) :=
  checked_coreOp_ends h (congrArg (Prod.mk Doing.ends) ha)

theorem checked_vecOp {act : Nat → State → State} {count : Nat} (h : AtOp c id i (0x10 :: key) s) (hn : 0 < count)
    (ha : act id s = t) : checked (okCore c) s (vecOp c key count act) = .next (opRan c id i t) :=
  checked_wholeOp h ((if_neg (Nat.ne_of_gt hn)).trans ha)

/-- A count of 0 does nothing else (R135). -/
theorem checked_vecOp_zero (h : AtOp c id i (0x10 :: key) s) (act : Nat → State → State) :
    checked (okCore c) s (vecOp c key 0 act) = .next (opRan c id i s) :=
  checked_wholeOp h rfl

end VecOp

/-! ## Arithmetic (R145, R147, R148, R565) -/

section Arithmetic
variable {c id i fmt vd va vb vc addr count : Nat} {s : State} (hn : 0 < count)
include hn

/-- Only the accounting depends on the free handshakes of a conversion (R565, log 7). -/
theorem exec_vcvt {target : Nat} (h : AtOp c id i [0x10, 0x0A, fmt, vd, va, vb, count, target] s) : ∃ n k,
    exec (.vcvt c fmt vd va vb count target) s = .next (opRan c id i (updCore c (fun x => regWrite vd (packElems target
      ((rangeNums fmt x va count).map fun v => elemEncode target (v.mul (fp32Elem0 x vb)))) x)
      (chargeVec id c n { s with freeCtr := k }))) :=
  ⟨_, _, checked_vecOp h hn rfl⟩

theorem exec_vacc (h : AtOp c id i [0x10, 0x0B, vd, va, vb, addr, count] s) (hb : (coreOf s c).accBad = []) :
    exec (.vacc c vd va vb addr count []) s = .next (opRan c id i (vecSteps c count (fun k x => regWrite (vd + k) (numBytes 3
      (vaccBlock ((wordsLe 4 256 (Mem.readN x.acc (addr - 2 ^ 21 + 1024 * k) 1024)).map (elemDecode 4))
        (regNums 3 (coreOf s c) va) (fp32Elem0 (coreOf s c) vb))) x) (chargeVec id c (2 * count) s))) := by
  refine checked_vecOp h hn ?_
  simp only [upsetCore_nil, coreOf_chargeVec]
  rw [badAcc_good hb]
  rfl

end Arithmetic

/-- Settles O23: each row is one operation of the program whose work the row names. -/
theorem vectorArithmetic : Obligations.VectorArithmetic := by
  unfold Obligations.VectorArithmetic
  refine ⟨?_, ?_⟩
  · rintro c id i fmt vd va vb vc count scalar s _ hn rfl
    refine ⟨?vadd, ?vmul, ?vmax, ?vaddZero, ?vfma, ?vrope⟩
    case vaddZero => exact fun h => checked_vecOp_zero h _
    all_goals exact fun h => checked_vecOp h hn rfl
  · intro c id i fmt vd va vb addr count kind s hn
    refine ⟨?vsum, ?vrmax, ?vsfn, ?vcvt, ?vacc⟩
    case vcvt => exact fun target => exec_vcvt hn
    case vacc => exact exec_vacc hn
    all_goals exact fun h => checked_vecOp h hn rfl

end Sys2Proof.Machine

/-! Loads, stores, attention, ranking and sampling of a core on memory without parity errors (R147, R149, R150). -/

namespace Sys2Proof.Machine

section VectorMemory
variable {c id i vd va vb vc addr count k hd heads : Nat} {k4 lists : Bool} {s : State} (hn : 0 < count)
include hn

theorem exec_vload_scratch (h : AtOp c id i [0x10, 1, vd, addr, count] s) (hb : (coreOf s c).scratchBad = [])
    (ha : addr < 2 ^ 21) :
    exec (.vload c vd addr count []) s = .next (opRan c id i
      (updCore c (regWrite vd (Mem.readN (coreOf s c).scratch addr (1024 * count)))
        (chargeVec id c (2 * rowAccesses addr (1024 * count)) (countRotate c addr (1024 * count) s)))) := by
  refine checked_vecOp h hn ?_
  simp only [upsetCore_nil, if_pos ha, coreOf_chargeVec]
  rw [eitherRead_countRotate hb ha]

theorem exec_vload_acc (h : AtOp c id i [0x10, 1, vd, addr, count] s) (hb : (coreOf s c).accBad = [])
    (ha : 2 ^ 21 ≤ addr) :
    exec (.vload c vd addr count []) s = .next (opRan c id i
      (updCore c (regWrite vd (Mem.readN (coreOf s c).acc (addr - 2 ^ 21) (1024 * count)))
        (chargeVec id c (2 * count) s))) := by
  refine checked_vecOp h hn ?_
  simp only [upsetCore_nil, if_neg (Nat.not_lt.2 ha), coreOf_chargeVec]
  rw [eitherRead_acc hb ha]

theorem exec_vqk (h : AtOp c id i [0x10, 0x10, vd, va, vb, addr, count, b2n k4, hd, heads] s) {p : List Byte × Num} {u : State}
    (hu : u = chargeVec id c (attnHandshakes k4 (headDim hd) heads) (countTile c addr k4 (headDim hd) false s))
    (hp : tilePart (coreOf u c) addr k4 (headDim hd) false = some p) :
    exec (.vqk c vd va vb addr count k4 hd heads []) s = .next (opRan c id i (vecSteps c heads (fun j x => regWrite (vd + j)
      (numBytes 3 (scores k4 (headDim hd) p.1 p.2 ((regNums 0 x (va + j)).take (headDim hd)) (fp32Elem0 (coreOf u c) vb))) x)
      u)) := by
  refine checked_vecOp h hn ?_
  simp only [upsetCore_nil]
  rw [← hu, hp]

theorem exec_vpv (h : AtOp c id i [0x10, 0x11, vd, va, addr, count, b2n k4, hd, heads] s) {p : List Byte × Num} {u : State}
    (hu : u = chargeVec id c (attnHandshakes k4 (headDim hd) heads) (countTile c addr k4 (headDim hd) true s))
    (hp : tilePart (coreOf u c) addr k4 (headDim hd) true = some p) :
    exec (.vpv c vd va addr count k4 hd heads []) s = .next (opRan c id i (vecSteps c heads (fun j x => regWrite (vd + j)
      (numBytes 3 (weightedRows (headDim hd) ((List.range 64).map (tileRow k4 (headDim hd) p.1 p.2))
        ((regNums 3 x (va + j)).take 64) (regNums 3 x (vd + j)))) x) u)) := by
  refine checked_vecOp h hn ?_
  simp only [upsetCore_nil]
  rw [← hu, hp]

section Sampling
variable {d : List Byte} (h : AtOp c id i [0x10, 0x19, vd, va, addr, count] s) (hb : (coreOf s c).scratchBad = [])
  (hpar : d = Mem.readN (coreOf s c).scratch addr 32)
include h hb hpar

theorem exec_vsample_draws (hdraw : ofLe ((d.drop 24).take 4) ≤ 65535) (h10 : ofLe ((d.drop 10).take 2) = 0)
    (h28 : ofLe ((d.drop 28).take 4) = 0) {cs : List Cand} {r : Nat × Num} (hcs : cs = listCands (regRead (coreOf s c) va 8))
    (hr : r = sample cs (fpDecode Fmt.fp32 (ofLe ((d.drop 0).take 4))) (fpDecode Fmt.fp32 (ofLe ((d.drop 4).take 4)))
      (ofLe ((d.drop 8).take 2)) (ofLe ((d.drop 16).take 8)) (ofLe ((d.drop 12).take 4)) (ofLe ((d.drop 24).take 4))) :
    exec (.vsample c vd va addr count []) s = .next (opRan c id i
      (updCore c (regWrite vd (toLe 4 r.1 ++ toLe 4 (fpEncode Fmt.fp32 r.2)))
        (chargeVec id c (32 + 2 * ceilDiv cs.length 64) (countRotate c addr 32 s)))) := by
  refine checked_vecOp h hn ?_
  simp only [upsetCore_nil]
  rw [scratchRead_countRotate hb, ← hpar]
  dsimp only
  rw [if_neg (by simp [h10, h28, hdraw]), regRead_countRotate, ← hcs, ← hr]

theorem exec_vsample_malformed (hdraw : 65535 < ofLe ((d.drop 24).take 4)) :
    exec (.vsample c vd va addr count []) s = .next (opRan c id i
      (meetStatus id stMalformed (0xFFFF + addr * 2 ^ 16) (countRotate c addr 32 s))) := by
  refine checked_vecOp h hn ?_
  simp only [upsetCore_nil]
  rw [scratchRead_countRotate hb, ← hpar]
  exact if_pos (by simp [hdraw])

end Sampling

end VectorMemory

/-- Settles O24: stores and ranking are their rows' work; what the others read has good parity. -/
theorem vectorMemory : Obligations.VectorMemory := by
  unfold Obligations.VectorMemory
  intro c id i vd va vb vc addr count k hd heads k4 lists s hn hs ha
  refine ⟨fun h => ⟨?vloadScratch, ?vloadAcc⟩, ?vstore, ?vqk, ?vpv, ?vtopk,
    fun h d cs r hpar => ⟨?vsample, ?vsampleMalformed⟩⟩
  case vloadScratch => exact exec_vload_scratch hn h hs
  case vloadAcc => exact exec_vload_acc hn h ha
  case vstore => exact fun h => checked_vecOp h hn rfl
  case vqk => exact fun h p u => exec_vqk hn h
  case vpv => exact fun h p u => exec_vpv hn h
  case vtopk => exact fun h => checked_vecOp h hn rfl
  case vsample => exact fun hdraw h10 h28 => exec_vsample_draws hn h hs hpar hdraw h10 h28
  case vsampleMalformed => exact exec_vsample_malformed hn h hs hpar

end Sys2Proof.Machine

/-! Data movement and control of a core: DMA, messages, barriers, events and END (R139, R140, R151, R163, R176). -/

namespace Sys2Proof.Machine

/-! ## Operations that go on (R133) -/

section Going
variable {c id i : Nat} {key : List Nat} {act : Nat → Nat → State → Doing × State} {s t : State} (h : AtOp c id i key s)
include h

theorem checked_coreOp_goes (ha : act id i s = (.goes, t)) :
    checked (okCore c) s (coreOp c key act) = .next (opStarted c i t) :=
  (checked_ok (decide_eq_true h.1) s _).trans (congrArg _ (coreOp_of_goes h.2.1 h.2.2 ha))

theorem checked_coreOp_waits (ha : act id i s = (.waits, t)) : checked (okCore c) s (coreOp c key act) = .next t :=
  (checked_ok (decide_eq_true h.1) s _).trans (congrArg _ (coreOp_of_waits h.2.1 h.2.2 ha))

end Going

theorem partOf_of_not_has {c i : Nat} {s : State} (h : SMap.has (coreOf s c).part i = false) : partOf s c i = 0 := by
  refine Decidable.byContradiction fun hp => ?_
  rw [has_part_of_partOf hp] at h
  exact Bool.noConfusion h

/-! ## DMA (R139) -/

/-- A transfer within a line is one piece. -/
theorem linePieces_within_line {a n : Nat} (hn : 0 < n) (h : a % 64 + n ≤ 64) : linePieces a n = [(a, n)] := by
  have hmin : Nat.min n (64 - a % 64) = n := Nat.min_eq_left (by omega)
  rw [linePieces, pieces, if_neg (Nat.ne_of_gt hn)]
  dsimp only
  rw [hmin, Nat.sub_self, pieces, if_pos rfl]

theorem dmaPieces_within_line {a n : Nat} (hn : 0 < n) (h : a % 64 + n ≤ 64) : dmaPieces [a] n = [(a, n, 0)] := by
  simp [dmaPieces, linePieces_within_line hn h]

section Dma
variable {c id i hint base va a length loc : Nat} {s : State} (hl : 0 < length)
  (hp : SMap.has (coreOf s c).part i = false) (hva : a = va + argPointer s c id base) (ha : a % 64 + length ≤ 64)

section Act
variable {one : Mover → Nat × Nat × Nat → State → Option Stop × State} {t : State}
include hl hp hva ha

theorem dmaAct_done (ho : one (coreMover s c id) (a, length, 0) s = (none, t)) :
    dmaAct c false base va 0 length one id i s = (.ends, setPart c i 1 (opStarted c i t)) := by
  simp [dmaAct, Nat.ne_of_gt hl, dmaEntries, partOf_of_not_has hp, ← hva, dmaPieces_within_line hl ha, dmaRun, ho]

theorem dmaAct_waits (ho : one (coreMover s c id) (a, length, 0) s = (some .wait, t)) :
    dmaAct c false base va 0 length one id i s = (.goes, t) := by
  simp [dmaAct, Nat.ne_of_gt hl, dmaEntries, partOf_of_not_has hp, ← hva, dmaPieces_within_line hl ha, dmaRun, ho]

end Act

section In
variable {host : List Byte} {u : State} (h : AtOp c id i [0x20, hint, 0, base, va, 0, loc, length] s)
include hl hp hva ha h

theorem exec_dmaIn_done {d rest : List Byte}
    (hr : moverRead (coreMover s c id) 0 hint a length (takePad length host) s = (.inl (d, rest), u)) :
    exec (.dmaIn c hint false base va 0 loc length host []) s = .next (opRan c id i (setPart c i 1 (opStarted c i
      (scratchWrite c loc d (countRotate c loc length u))))) := by
  refine checked_coreOp_ends h (dmaAct_done hl hp hva ha ?_)
  simp [dmaInPiece, hr, pieceRotate]

theorem exec_dmaIn_waits (hr : moverRead (coreMover s c id) 0 hint a length (takePad length host) s = (.inr .wait, u)) :
    exec (.dmaIn c hint false base va 0 loc length host []) s = .next (opStarted c i u) := by
  refine checked_coreOp_goes h (dmaAct_waits hl hp hva ha ?_)
  simp [dmaInPiece, hr]

end In

theorem exec_dmaOut_done (hl : 0 < length) (hp : SMap.has (coreOf s c).part i = false)
    (hva : a = va + argPointer s c id base) (ha : a % 64 + length ≤ 64)
    (h : AtOp c id i [0x21, hint, 0, base, va, 0, loc, length] s) (hb : (coreOf s c).scratchBad = []) {u : State}
    (hw : moverWrite (coreMover s c id) 0 hint a (Mem.readN (coreOf s c).scratch loc length) s = (none, u)) :
    exec (.dmaOut c hint false base va 0 loc length []) s = .next (opRan c id i (setPart c i 1 (opStarted c i
      (countRotate c loc length u)))) := by
  refine checked_coreOp_ends h (dmaAct_done hl hp hva ha ?_)
  simp [dmaOutPiece, scratchRead_good hb, hw, pieceRotate]

end Dma

/-! ## Messages (R151, R163, R176) -/

/-- Flits arrive in good parity where the mesh upsets none. -/
theorem deliverFlits_good (d q n p k : Nat) (data : List Byte) (s : State) :
    deliverFlits d q n p k data [] s = enqueue d q (flitsOf n p k data (fun _ => false)) s := by
  have hgood : meshBad [] d = fun _ => false := funext fun _ => rfl
  simp [deliverFlits, hgood]

/-- Flits `0` to `k - 1` of a message of `n` leave core `c` and stand in their destinations' queues. -/
def flitsSent (c i n src k : Nat) (dests : List (Nat × Nat)) (s : State) : State :=
  dests.foldl (fun t d => enqueue d.1 d.2 (flitsOf n 0 k (Mem.readN (coreOf s c).scratch src (128 * k)) (fun _ => false)) t)
    (setPart c i k (opStarted c i (countRotate c src (128 * n) s)))

/-- The first flits of a message from the scratchpad: as many as the slowest destination takes. -/
theorem sendMsg_first {c i n src k : Nat} {dests : List (Nat × Nat)} {s : State} (hb : (coreOf s c).scratchBad = [])
    (hp : SMap.has (coreOf s c).part i = false) (hs : src < 2 ^ 21)
    (hk : (dests.map fun d => queueRoom s d.1 d.2).foldl Nat.min n = k) (kind obj id : Nat) :
    sendMsg c n src dests kind obj [] id i s =
      if k = n then (.ends, clearWait c (flitsSent c i n src k dests s))
      else (.goes, noteWait c kind obj (n - k) (flitsSent c i n src k dests s)) := by
  have hread := eitherRead_countRotate hb hs src (128 * n) (128 * k)
  simp only [sendMsg, partOf_of_not_has hp, Nat.sub_zero, hk, hs, hp, Nat.mul_zero, Nat.add_zero, decide_true, Bool.not_false,
    Bool.and_self, if_true, hread, Nat.zero_add, deliverFlits_good]
  rfl

/-- Where every destination has room for the whole message, all of it goes at once. -/
theorem foldl_min_eq_of_le {l : List Nat} {n : Nat} (h : ∀ m ∈ l, n ≤ m) : l.foldl Nat.min n = n := by
  induction l with
  | nil => rfl
  | cons m r ih =>
    have hm : Nat.min n m = n := Nat.min_eq_left (h m List.mem_cons_self)
    rw [List.foldl_cons, hm]
    exact ih fun x hx => h x (List.mem_cons_of_mem m hx)

section Messages
variable {c id i q n : Nat} {s : State}

section Send
variable {dest d src : Nat} (h : AtOp c id i [0x30, dest, q, n, src] s) (hd : sendTarget s c id dest q = some d)
include h hd

theorem exec_send_unreachable (hr : routeParked s (clusterOfCore c) (clusterOfCore d) = true) :
    exec (.send c dest q n src []) s = .next (opRan c id i (meetStatus id stUnreachable 0 s)) := by
  refine checked_coreOp_ends h ?_
  simp [hd, hr]

theorem exec_send (hb : (coreOf s c).scratchBad = []) (hp : SMap.has (coreOf s c).part i = false) (hs : src < 2 ^ 21)
    (hr : routeParked s (clusterOfCore c) (clusterOfCore d) = false) {k : Nat} (hk : k = Nat.min n (queueRoom s d q)) :
    exec (.send c dest q n src []) s = .next
      (if k = n then opRan c id i (clearWait c (flitsSent c i n src k [(d, q)] s))
       else opStarted c i (noteWait c 1 (d * 8 + q) (n - k) (flitsSent c i n src k [(d, q)] s))) := by
  have hmsg := sendMsg_first (dests := [(d, q)]) hb hp hs hk.symm 1 (d * 8 + q) id
  by_cases hkn : k = n
  · rw [if_pos hkn] at hmsg ⊢
    refine checked_coreOp_ends h ?_
    simp [hd, hr, hmsg]
  · rw [if_neg hkn] at hmsg ⊢
    refine checked_coreOp_goes h ?_
    simp [hd, hr, hmsg]

end Send

theorem exec_recv {dst : Nat} {f : QFlit} {rest : List QFlit} (h : AtOp c id i [0x31, q, n, dst] s)
    (hq : SMap.getD (coreOf s c).inq q [] = f :: rest) (hlen : f.len = n) (hn : n ≤ (f :: rest).length)
    (hgood : (((f :: rest).take n).any fun (y : QFlit) => y.bad) = false) :
    exec (.recv c q n dst []) s = .next (opRan c id i (scratchWrite c dst (((f :: rest).take n).flatMap fun (y : QFlit) => y.data)
      (countRotate c dst (128 * n) (clearWait c (touchQueue c q
        (updCore c (fun x => { x with inq := SMap.put x.inq q ((f :: rest).drop n) }) s)))))) := by
  refine checked_coreOp_ends h ?_
  rw [recvAct, hq]
  dsimp only
  rw [if_neg (by simp [hlen]), if_neg (Nat.not_lt.2 hn), if_neg (by rw [hgood]; simp)]

theorem exec_recv_empty {dst : Nat} (h : AtOp c id i [0x31, q, n, dst] s) (hq : SMap.getD (coreOf s c).inq q [] = []) :
    exec (.recv c q n dst []) s = .next (noteWait c 3 q n s) := by
  refine checked_coreOp_waits h ?_
  rw [recvAct, hq]

theorem exec_prismSend {p k src : Nat} {tree : PrismTree} (h : AtOp c id i [0x32, p, n, src] s)
    (hb : (coreOf s c).scratchBad = []) (hp : SMap.has (coreOf s c).part i = false) (hs : src < 2 ^ 21)
    (ht : workTree s id (coreOf s c).facet p = some (k, tree))
    (hroom : ((prismLeaves s k c).all fun d => decide (n ≤ queueRoom s d tree.queue)) = true) :
    exec (.prismSend c p n src []) s = .next (opRan c id i (clearWait c
      (flitsSent c i n src n ((prismLeaves s k c).map fun d => (d, tree.queue)) s))) := by
  have hmin : (((prismLeaves s k c).map fun d => (d, tree.queue)).map fun d => queueRoom s d.1 d.2).foldl Nat.min n = n := by
    refine foldl_min_eq_of_le ?_
    simpa using hroom
  refine checked_coreOp_ends h ?_
  simp only [upsetCore_nil, ht, sendMsg_first hb hp hs hmin, if_true]

end Messages

/-! ## Barriers, events, END (R140) -/

/-- A core that may issue runs the command and stands at no barrier. -/
theorem issues_some {s : State} {c id : Nat} (h : issues s c = some id) :
    (coreOf s c).cmd = some id ∧ (coreOf s c).atBarrier = none := by
  simp only [issues] at h
  split at h
  case isFalse => cases h
  case isTrue hready =>
    simp only [Bool.and_eq_true, Option.isNone_iff_eq_none] at hready
    obtain ⟨⟨-, hbarrier⟩, -⟩ := hready
    refine ⟨?_, hbarrier⟩
    cases hcmd : (coreOf s c).cmd with
    | none => simp [hcmd] at h
    | some m =>
      rw [hcmd] at h
      grind

section Control
variable {c id i : Nat} {s : State}

/-- A core that may issue arrives at the barrier of its operation, and its controller looks for arrivals. -/
theorem exec_barrier {number p : Nat} {scope : Bool} {u : State} (h : AtOp c id i [0x40, number, b2n scope, p] s)
    (hu : u = updCore c (fun x => { x with atBarrier := some (number, scope, p) }) s) :
    exec (.barrier c number scope p) s = .next (opRan c id i (barrierCheck c id number scope p u)) := by
  obtain ⟨hcmd, hbarrier⟩ := issues_some h.2.1
  have heff : barrierEff c number scope p s = wholeOp c [0x40, number, b2n scope, p] (fun id t =>
      barrierCheck c id number scope p (updCore c (fun y => { y with atBarrier := some (number, scope, p) }) t)) s := by
    simp [barrierEff, hcmd, hbarrier]
  rw [hu]
  exact (checked_ok (decide_eq_true h.1) s _).trans (congrArg _ (heff.trans (coreOp_of_ends h.2.1 h.2.2 rfl)))

section Barrier
variable {number p f : Nat} {scope : Bool} {u : State} {m : Nat × State} (h : AtOp c id i [0x40, number, b2n scope, p] s)
  (hf : f = (coreOf s c).facet) (hu : u = updCore c (fun x => { x with atBarrier := some (number, scope, p) }) s)
  (hm : m = membersArrived f scope u)
include h hf hu hm

theorem exec_barrier_opens (hp : p ≤ (arrivedAt m.2 f id number scope).length + m.1) :
    exec (.barrier c number scope p) s = .next (opRan c id i (forAll (arrivedAt m.2 f id number scope)
      (fun d v => updCore d (fun x => { x with atBarrier := none, waitFor := none }) v) m.2)) := by
  have hfu : (coreOf u c).facet = f := by rw [hu, hf, coreOf_updCore_self]
  rw [exec_barrier h hu, barrierCheck, hfu, ← hm]
  exact congrArg _ (congrArg _ (if_pos hp))

theorem exec_barrier_stands (hp : (arrivedAt m.2 f id number scope).length + m.1 < p) :
    exec (.barrier c number scope p) s = .next (opRan c id i (noteWait c 4 number 0
      (touchWaits (fun d w => w.kind == 4 && w.obj == number && (coreOf m.2 d).facet == f) m.2))) := by
  have hfu : (coreOf u c).facet = f := by rw [hu, hf, coreOf_updCore_self]
  rw [exec_barrier h hu, barrierCheck, hfu, ← hm]
  exact congrArg _ (congrArg _ (if_neg (Nat.not_le.2 hp)))

end Barrier

section WaitEvent
variable {e n : Nat} (h : AtOp c id i [0x41, e, n] s)
include h

theorem exec_waitEvent_passes (hn : n ≤ SMap.getD (coreOf s c).events e 0) :
    exec (.waitEvent c e n) s = .next (opRan c id i s) :=
  checked_wholeOp h (if_pos hn)

theorem exec_waitEvent_waits (hn : SMap.getD (coreOf s c).events e 0 < n) :
    exec (.waitEvent c e n) s = .next (opRan c id i (updCore c (fun x => { x with waiting := some (e, n) }) s)) :=
  checked_wholeOp h (if_neg (Nat.not_le.2 hn))

end WaitEvent

section EndOp
variable {u : State} (h : AtOp c id i [0x7F] s) (hu : u = updCore c (fun x => { x with ended := true, inq := [] }) s)
include h hu

theorem exec_endOp (hq : ((coreOf s c).inq.any fun e => !e.2.isEmpty) = false) :
    exec (.endOp c) s = .next (opRan c id i u) := by
  refine checked_wholeOp h ?_
  dsimp only
  rw [hq, hu]
  rfl

theorem exec_endOp_unread (hq : ((coreOf s c).inq.any fun e => !e.2.isEmpty) = true) :
    exec (.endOp c) s = .next (opRan c id i (meetStatus id stMalformed 0xFFFF u)) := by
  refine checked_wholeOp h ?_
  dsimp only
  rw [hq, hu]
  rfl

end EndOp

end Control

/-- Settles O26: each row by whether what it asks for is there; the first flits of a message by the room for them. -/
theorem coreOperations : Obligations.CoreOperations := by
  unfold Obligations.CoreOperations
  refine ⟨?_, ?_, ?_⟩
  · intro c id i hint base va a length loc host s hl hb hp hva ha
    refine ⟨fun h => ⟨fun d rest u => ?_, fun u => ?_⟩, fun h u => ?_⟩
    · exact exec_dmaIn_done hl hp hva ha h
    · exact exec_dmaIn_waits hl hp hva ha h
    · exact exec_dmaOut_done hl hp hva ha h hb
  · intro c id i q n s hn hb hp
    refine ⟨?send, ?recv, ?recvEmpty, ?prismSend⟩
    case send =>
      intro dest d src k u v h hd hs
      refine ⟨exec_send_unreachable h hd, ?_⟩
      rintro hr hk rfl rfl
      exact exec_send h hd hb hp hs hr hk
    case recv => exact fun dst f rest h => exec_recv h
    case recvEmpty => exact fun dst h => exec_recv_empty h
    case prismSend =>
      rintro p k tree src _ h ht hs hroom rfl
      rw [exec_prismSend h hb hp hs ht hroom, flitsSent, List.foldl_map]
  · intro c id i s
    refine ⟨fun number scope p f u m h hf hu hm => ⟨?_, ?_⟩, fun e n h => ⟨?_, ?_⟩, fun h u hu => ⟨?_, ?_⟩⟩
    · exact exec_barrier_opens h hf hu hm
    · exact exec_barrier_stands h hf hu hm
    · exact exec_waitEvent_passes h
    · exact exec_waitEvent_waits h
    · exact exec_endOp h hu
    · exact exec_endOp_unread h hu

end Sys2Proof.Machine

/-! The sideband (R559 to R561, R564) and the test access port (R156, R162, R537, R558). -/

namespace Sys2Proof

variable {α : Type}

/-- What a map has under a key: a record that a read finds, or no entry at all. Unlike a read that finds nothing, an absent
entry stays absent whatever happens to other keys, also in a map that is not sorted. -/
def SMap.Lists (m : SMap α) (n : Nat) : Option α → Prop
  | some x => SMap.look m n = some x
  | none => ∀ e ∈ m, e.1 ≠ n

theorem SMap.look_of_lists {m : SMap α} {n : Nat} {r : Option α} (h : SMap.Lists m n r) : SMap.look m n = r := by
  cases r with
  | some x => exact h
  | none =>
    induction m with
    | nil => rfl
    | cons e r ih =>
      have he : n ≠ e.1 := (h e List.mem_cons_self).symm
      have hr : SMap.look r n = none := ih fun d hd => h d (List.mem_cons_of_mem e hd)
      simp [SMap.look, he, hr]

theorem SMap.lists_del_self (m : SMap α) (n : Nat) : SMap.Lists (SMap.del m n) n none := by
  intro e he
  simpa using (List.mem_filter.1 he).2

theorem SMap.lists_put_ne {m : SMap α} {n j : Nat} {r : Option α} (h : SMap.Lists m j r) (hj : j ≠ n) (x : α) :
    SMap.Lists (SMap.put m n x) j r := by
  cases r with
  | some y => exact (SMap.look_put_ne m n j x hj).trans h
  | none =>
    intro e he
    rcases SMap.mem_put he with rfl | he
    · exact hj.symm
    · exact h e he

theorem SMap.look_del_ne {m : SMap α} {n j : Nat} {y : α} (h : SMap.look m j = some y) (hj : j ≠ n) :
    SMap.look (SMap.del m n) j = some y := by
  induction m with
  | nil => exact h
  | cons e r ih =>
    obtain ⟨k, v⟩ := e
    by_cases hjk : j = k
    · subst hjk
      have hv : v = y := by simpa [SMap.look] using h
      simp [SMap.del, hj, SMap.look, hv]
    · have hjlt : ¬ j < k := fun hlt => by simp [SMap.look, hjk, hlt] at h
      have hr : SMap.look (SMap.del r n) j = some y := ih (by simpa [SMap.look, hjk, hjlt] using h)
      by_cases hk : k = n
      · rw [SMap.del, List.filter_cons_of_neg (by simp [hk])]
        exact hr
      · rw [SMap.del, List.filter_cons_of_pos (by simp [hk]), SMap.look, if_neg hjk, if_neg hjlt]
        exact hr

theorem SMap.lists_del_ne {m : SMap α} {n j : Nat} {r : Option α} (h : SMap.Lists m j r) (hj : j ≠ n) :
    SMap.Lists (SMap.del m n) j r := by
  cases r with
  | some y => exact SMap.look_del_ne h hj
  | none => exact fun e he => h e (List.mem_filter.1 he).1

end Sys2Proof

namespace Sys2Proof.Machine

/-! ## Answers of the sideband (R559 to R561) -/

/-- With VDD_AON in range the sideband acts. -/
theorem checked_onSideband {ok : Bool} {s t : State} {act : State → State} (hok : ok = true) (hg : s.pwr.aonGood = true)
    (ha : act s = t) : checked ok s (onSideband act) = .next t :=
  (checked_ok hok s _).trans (congrArg _ ((if_pos hg).trans ha))

theorem takeAddress_free {s : State} (h : s.side.dynAddr = none) (a : Nat) :
    takeAddress a s = emit (.sideband sbAddress (toLe 1 a)) (setSide (fun x => { x with dynAddr := some a }) s) := by
  simp [takeAddress, h]

theorem takeAddress_held {s : State} (h : s.side.dynAddr ≠ none) (a : Nat) : takeAddress a s = s :=
  if_pos (Option.isSome_iff_ne_none.2 h)

theorem mctpControlEff_setEid {e : Nat} (h0 : 0 < e) (h1 : e < 255) (s : State) :
    mctpControlEff 1 e s = sideSend sbControl [1, 0, 0, e, 0] (setSide (fun x => { x with eid := e }) s) := by
  have hok : ¬ (e = 0 || e = 0xFF) = true := by
    simp
    omega
  exact if_neg hok

theorem pldmDiscoveryEff_setTid {e : Nat} (h0 : 0 < e) (h1 : e < 255) (s : State) :
    pldmDiscoveryEff 1 e s = pldmSend 0 1 0 [] (setSide (fun x => { x with tid := e }) s) := by
  have hok : ¬ (e = 0 || e = 0xFF) = true := by
    simp
    omega
  exact if_neg hok

/-- The PLDM types that the module speaks have commands. -/
theorem pldmCommands_isEmpty {t : Nat} (h : t = 0 ∨ t = 2 ∨ t = 4) : (pldmCommands t).isEmpty = false := by
  rcases h with rfl | rfl | rfl <;> rfl

theorem pldmDiscoveryEff_version {t : Nat} (h : t = 0 ∨ t = 2 ∨ t = 4) (s : State) : pldmDiscoveryEff 3 t s =
    pldmSend 0 3 0 (toLe 4 (Config.freeNat s.freeCtr)) { s with freeCtr := s.freeCtr + 1 } :=
  if_neg (by simp [pldmCommands_isEmpty h])

theorem pldmDiscoveryEff_commands {t : Nat} (h : t = 0 ∨ t = 2 ∨ t = 4) (s : State) :
    pldmDiscoveryEff 5 t s = pldmSend 0 5 0 (bitmap32 (pldmCommands t)) s :=
  if_neg (by simp [pldmCommands_isEmpty h])

theorem readSensor_inRange {lo hi k : Nat} (h1 : lo ≤ k) (h2 : k ≤ hi) (code : Nat) (s : State) :
    readSensor code lo hi k s = pldmSend 2 code 0 (sensorBytes s k) s :=
  if_pos (by simp [h1, h2])

theorem readSensor_outOfRange {lo hi k : Nat} (h : k < lo ∨ hi < k) (code : Nat) (s : State) :
    readSensor code lo hi k s = pldmSend 2 code 0x80 [] s := by
  refine if_neg ?_
  simp
  omega

/-! ## The refresh of the sensors (R561) -/

/-- `t` differs from `s` in the sideband's own state and in what went out. -/
def sidebandOnly (s t : State) : Prop := ∃ x o, t = { s with side := x, out := o }

theorem sidebandOnly_trans {a b c : State} (h : sidebandOnly a b) (g : sidebandOnly b c) : sidebandOnly a c := by
  obtain ⟨_, _, rfl⟩ := h
  obtain ⟨x, o, rfl⟩ := g
  exact ⟨x, o, rfl⟩

/-- What a sensor measures does not lie in the sideband. -/
theorem sensorValue_of_sidebandOnly {s t : State} (h : sidebandOnly s t) (m : SMap Int) (k : Nat) :
    sensorValue m t k = sensorValue m s k := by
  obtain ⟨_, _, rfl⟩ := h
  rfl

/-- A crossing is noted and may be told; no reading changes. -/
theorem crossing_frame (id k : Nat) (now : Bool) (v : Int) (s : State) :
    sidebandOnly s (crossing id k now v s) ∧ (crossing id k now v s).side.sensors = s.side.sensors := by
  unfold crossing
  dsimp only
  split
  · exact ⟨⟨s.side, s.out, rfl⟩, rfl⟩
  · split <;> exact ⟨⟨_, _, rfl⟩, rfl⟩

theorem crossings_frame (id : Nat) (v : Int) (l : List (Bool × Nat)) (s : State) :
    sidebandOnly s (l.foldl (fun t b => crossing id b.2 b.1 v t) s) ∧
      (l.foldl (fun t b => crossing id b.2 b.1 v t) s).side.sensors = s.side.sensors := by
  induction l generalizing s with
  | nil => exact ⟨⟨s.side, s.out, rfl⟩, rfl⟩
  | cons b r ih =>
    obtain ⟨hone, hkept⟩ := crossing_frame id b.2 b.1 v s
    obtain ⟨hrest, hsame⟩ := ih (crossing id b.2 b.1 v s)
    exact ⟨sidebandOnly_trans hone hrest, hsame.trans hkept⟩

/-- A refresh of one sensor lists its value, or unlists it. -/
theorem refreshOne_sensors (m : SMap Int) (id : Nat) (s : State) :
    (refreshOne m id s).side.sensors = match sensorValue m s id with
      | none => SMap.del s.side.sensors id
      | some v => SMap.put s.side.sensors id v := by
  unfold refreshOne
  cases sensorValue m s id with
  | none => rfl
  | some v => exact (crossings_frame id v _ _).2

theorem sidebandOnly_refreshOne (m : SMap Int) (id : Nat) (s : State) : sidebandOnly s (refreshOne m id s) := by
  unfold refreshOne
  cases sensorValue m s id with
  | none => exact ⟨_, _, rfl⟩
  | some v => exact sidebandOnly_trans ⟨_, _, rfl⟩ (crossings_frame id v _ _).1

theorem refreshOne_lists (m : SMap Int) (id : Nat) (s : State) :
    SMap.Lists (refreshOne m id s).side.sensors id (sensorValue m s id) := by
  rw [refreshOne_sensors]
  cases sensorValue m s id with
  | none => exact SMap.lists_del_self _ id
  | some v => exact SMap.look_put_self _ id v

theorem refreshOne_keeps {k id : Nat} {r : Option Int} {s : State} (h : SMap.Lists s.side.sensors k r) (hk : k ≠ id)
    (m : SMap Int) : SMap.Lists (refreshOne m id s).side.sensors k r := by
  rw [refreshOne_sensors]
  cases sensorValue m s id with
  | none => exact SMap.lists_del_ne h hk
  | some v => exact SMap.lists_put_ne h hk v

theorem sidebandOnly_refreshAll (m : SMap Int) (l : List Nat) (s : State) :
    sidebandOnly s (forAll l (refreshOne m) s) := by
  induction l generalizing s with
  | nil => exact ⟨s.side, s.out, rfl⟩
  | cons n r ih => exact sidebandOnly_trans (sidebandOnly_refreshOne m n s) (ih _)

theorem refreshAll_keeps {k : Nat} {l : List Nat} {r : Option Int} {s : State} (h : SMap.Lists s.side.sensors k r)
    (hk : k ∉ l) (m : SMap Int) : SMap.Lists (forAll l (refreshOne m) s).side.sensors k r := by
  induction l generalizing s with
  | nil => exact h
  | cons n l ih =>
    rw [List.mem_cons, not_or] at hk
    exact ih (refreshOne_keeps h hk.1 m) hk.2

/-- Every sensor of a refresh holds what it measured at the start: a refresh of another changes neither value nor entry. -/
theorem refreshAll_lists {k : Nat} {l : List Nat} (hk : k ∈ l) (m : SMap Int) (s : State) :
    SMap.Lists (forAll l (refreshOne m) s).side.sensors k (sensorValue m s k) := by
  induction l generalizing s with
  | nil => cases hk
  | cons n l ih =>
    by_cases hl : k ∈ l
    · rw [← sensorValue_of_sidebandOnly (sidebandOnly_refreshOne m n s)]
      exact ih hl (refreshOne m n s)
    · obtain rfl : k = n := (List.mem_cons.1 hk).resolve_right hl
      exact refreshAll_keeps (refreshOne_lists m k s) hl m

theorem exec_sensorRefresh {s : State} (hg : s.pwr.aonGood = true) (m : SMap Int) (hh : s.fw.handover = false) :
    ∃ t, exec (.sensorRefresh m) s = .next t ∧ t.pwr = s.pwr ∧ t.fuses = s.fuses ∧
      ∀ k, 1 ≤ k → k ≤ 29 → SMap.look t.side.sensors k = sensorValue m s k := by
  have hrange : (List.range 30).drop 1 = List.range' 1 29 := by decide
  refine ⟨forAll ((List.range 30).drop 1) (refreshOne m) s, checked_onSideband rfl hg (if_neg (by simp [hh])), ?_, ?_, ?_⟩
  · obtain ⟨_, _, h⟩ := sidebandOnly_refreshAll m ((List.range 30).drop 1) s
    rw [h]
  · obtain ⟨_, _, h⟩ := sidebandOnly_refreshAll m ((List.range 30).drop 1) s
    rw [h]
  · intro k h1 h29
    have hk : k ∈ (List.range 30).drop 1 := by
      rw [hrange, List.mem_range'_1]
      omega
    exact SMap.look_of_lists (refreshAll_lists hk m s)

/-! ## The test access port (R156, R162, R537, R558) -/

/-- A refused access counts a stall of the core and raises its event; scratchpads and memory stand. -/
theorem refuseAccess_frame (c o : Nat) (w : Bool) (n : Nat) (s : State) :
    (refuseAccess c o w n s).dram = s.dram ∧ (coreOf (refuseAccess c o w n s) c).scratch = (coreOf s c).scratch := by
  have hcount (g : Core → Core) (hg : ∀ x, (g x).scratch = x.scratch) :
      (countCore c g s).dram = s.dram ∧ (coreOf (countCore c g s) c).scratch = (coreOf s c).scratch := by
    unfold countCore
    split
    · exact ⟨rfl, rfl⟩
    · exact ⟨rfl, by rw [coreOf_updCore_self, hg]⟩
  obtain ⟨hdram, hscratch⟩ := hcount (fun x => { x with stallMgmt := x.stallMgmt + 1 }) fun _ => rfl
  cases w <;> simp [refuseAccess, hdram, hscratch]

section TestPort
variable {c o : Nat} {w : Bool} {d : List Byte} {s : State} (hc : c < 544) (ho : o + d.length ≤ 2 ^ 21)
include hc ho

theorem exec_testAccessPortAccess :
    exec (.testAccessPortAccess c o w d) s = .next (testAccessPortAccessEff c o w d s) :=
  checked_ok (by rw [okCore, decide_eq_true hc, decide_eq_true ho]; rfl) s _

theorem exec_testAccessPortAccess_closed (hl : 1 < s.fuses.lcState) : exec (.testAccessPortAccess c o w d) s = .next s := by
  rw [exec_testAccessPortAccess hc ho]
  exact congrArg _ (if_pos (by simp [testPortOpen, hl]))

variable (hl : s.fuses.lcState ≤ 1) (hr : 6 ∈ s.pwr.railsOn) (hp : (coreOf s c).powered = true)
include hl hr hp

/-- With the port open and the core powered, the access is refused or served. -/
theorem exec_testAccessPortAccess_open : exec (.testAccessPortAccess c o w d) s = .next
    (if confCore s c || decide (Config.dataRegion < o + d.length) then refuseAccess c o w d.length s
     else if w then scratchWrite c o d s else emit (.testPort (Mem.readN (coreOf s c).scratch o d.length)) s) := by
  have hopen : testPortOpen s = true := by simp [testPortOpen, hl, hr]
  rw [exec_testAccessPortAccess hc ho]
  exact congrArg _ (if_neg (by simp [hopen, hp]))

theorem exec_testAccessPortAccess_refused (h : confCore s c = true ∨ Config.dataRegion < o + d.length) :
    exec (.testAccessPortAccess c o w d) s = .next (refuseAccess c o w d.length s) := by
  rw [exec_testAccessPortAccess_open hc ho hl hr hp, if_pos (by simpa using h)]

theorem exec_testAccessPortAccess_served (h : confCore s c = false) (hd : o + d.length ≤ Config.dataRegion) :
    exec (.testAccessPortAccess c o w d) s = .next
      (if w then scratchWrite c o d s else emit (.testPort (Mem.readN (coreOf s c).scratch o d.length)) s) := by
  rw [exec_testAccessPortAccess_open hc ho hl hr hp, if_neg (by simp [h, hd])]

end TestPort

/-- Settles O59: each command of the sideband by its code and operand, and the test port by the life cycle and the core. -/
theorem sideband : Obligations.Sideband := by
  unfold Obligations.Sideband
  refine ⟨fun s hg => ⟨?address, ?addressHeld, ?setEid, ?setTid, ?getEid, ?messageTypes, ?getTid, ?pldmType, ?pldmTypes,
    ?numeric, ?noNumeric, ?state, ?noState, ?receiver, ?fru, ?held, ?refresh⟩, fun c o w d s hc ho => ⟨?closed, ?opened⟩⟩
  case address =>
    exact fun a ha hfree => ⟨checked_onSideband (decide_eq_true ha) hg (takeAddress_free hfree a),
      checked_onSideband (decide_eq_true ha) hg (takeAddress_free hfree a)⟩
  case addressHeld =>
    exact fun a ha hheld => ⟨checked_onSideband (decide_eq_true ha) hg (takeAddress_held hheld a),
      checked_onSideband (decide_eq_true ha) hg (takeAddress_held hheld a)⟩
  case setEid =>
    exact fun e h0 h1 => checked_onSideband (decide_eq_true (by omega)) hg (mctpControlEff_setEid h0 h1 s)
  case setTid => exact fun e h0 h1 => checked_onSideband rfl hg (pldmDiscoveryEff_setTid h0 h1 s)
  case getEid => exact checked_onSideband rfl hg rfl
  case messageTypes => exact checked_onSideband rfl hg rfl
  case getTid => exact checked_onSideband rfl hg rfl
  case pldmType =>
    exact fun t ht => ⟨checked_onSideband rfl hg (pldmDiscoveryEff_commands ht s),
      checked_onSideband rfl hg (pldmDiscoveryEff_version ht s)⟩
  case pldmTypes => exact checked_onSideband rfl hg rfl
  case numeric => exact fun k h1 h25 => checked_onSideband rfl hg (readSensor_inRange h1 h25 _ s)
  case noNumeric => exact fun k hk => checked_onSideband rfl hg (readSensor_outOfRange (.inr hk) _ s)
  case state => exact fun k h26 h29 => checked_onSideband rfl hg (readSensor_inRange h26 h29 _ s)
  case noState => exact fun k hk => checked_onSideband rfl hg (readSensor_outOfRange hk _ s)
  case receiver => exact fun e he => checked_onSideband (decide_eq_true he) hg rfl
  case fru => exact checked_onSideband rfl hg rfl
  case held => exact fun m hh => checked_onSideband rfl hg (if_pos hh)
  case refresh => exact exec_sensorRefresh hg
  case closed => exact exec_testAccessPortAccess_closed hc ho
  case opened =>
    intro hl hr hp
    refine ⟨?_, ?_, fun h => ⟨exec_testAccessPortAccess_refused hc ho hl hr hp h, refuseAccess_frame c o w d.length s⟩⟩
    · rintro hconf hd rfl
      exact exec_testAccessPortAccess_served hc ho hl hr hp hconf hd
    · rintro hconf hd rfl
      exact exec_testAccessPortAccess_served hc ho hl hr hp hconf hd

end Sys2Proof.Machine

/-! Share classes and the guarantee monitor (R182 to R196). -/

namespace Sys2Proof.Machine

/-! ## FCT_GMISS_n (R196) -/

theorem barRead_gmiss {n : Nat} (hn : n < 8) (s : State) :
    barRead s 0 (0x105080 + 4 * n) = SMap.getD s.reg.gmiss n 0 := by
  have haligned : (0x105080 + 4 * n) % 4 = 0 := by omega
  have hdevice : ¬ 0x105080 + 4 * n < 0x100000 := by omega
  have hhigh : ¬ 0x105080 + 4 * n < 0x105000 := by omega
  have hclass : ¬ 0x105080 + 4 * n < 0x105020 := by omega
  have hne (o : Nat) (ho : o < 0x105060) : 0x105080 + 4 * n ≠ o := by omega
  have hfns : ¬ 0x105080 + 4 * n < 0x105060 := by omega
  have hin : 0x105080 + 4 * n < 0x1050A0 := by omega
  simp [barRead, readDeviceHigh, haligned, hdevice, hhigh, hclass, hne, hfns, hin]

/-- The counters lie past the registers of regulation that a write can change. -/
theorem deviceWrite_gmiss {n : Nat} (hn : n < 8) (v : Nat) (s : State) : deviceWrite (0x105080 + 4 * n) v s = s := by
  have hne (o : Nat) (ho : o < 0x105080 ∨ 0x1050A0 ≤ o) : 0x105080 + 4 * n ≠ o := by omega
  have hshare : ¬ 0x105080 + 4 * n < 0x102010 := by omega
  have hclass : ¬ 0x105080 + 4 * n < 0x105060 := by omega
  have hbelow (o : Nat) (ho : 0x1050A0 ≤ o) : ¬ o ≤ 0x105080 + 4 * n := by omega
  simp [deviceWrite, voxWrite, hne, hshare, hclass, hbelow]

/-- A write that its register ignores changes nothing, with the host up or not. -/
theorem exec_registerWrite_ignored {f o v : Nat} {s : State} (hf : f < 64) (ho : o < 2 ^ 26) (hv : v < 2 ^ 32)
    (h : barWrite32 f o v s = s) : exec (.registerWrite f o v false) s = .next s := by
  cases hup : hostUp s && fnExists s f with
  | true =>
    obtain ⟨hu, he⟩ := (Bool.and_eq_true _ _).mp hup
    rw [exec_registerWrite hf ho hv hu he, h]
  | false =>
    have hok : (okFn f && decide (o < 2 ^ 26) && decide (v < 2 ^ 64)) = true := by
      have hv64 : v < 2 ^ 64 := by omega
      simp only [okFn, hf, ho, hv64, decide_true, Bool.and_self]
    exact (checked_ok hok s _).trans (congrArg _ (if_neg (by simp [hup])))

theorem exec_registerWrite_gmiss {n v : Nat} (hn : n < 8) (hv : v < 2 ^ 32) (s : State) :
    exec (.registerWrite 0 (0x105080 + 4 * n) v false) s = .next s :=
  exec_registerWrite_ignored (by decide) (by omega) hv
    ((barWrite32_pf0 (by omega) (by omega) v s).trans (deviceWrite_gmiss hn v s))

/-! ## The guarantee monitor (R189, R190) -/

/-- One more miss of a class, saturating (R196). -/
def countMiss (c : Nat) (s : State) : State :=
  { s with reg := { s.reg with gmiss := SMap.put s.reg.gmiss c (satAdd 32 (SMap.getD s.reg.gmiss c 0) 1) } }

theorem barRead_gmiss_countMiss {n : Nat} (hn : n < 8) (c : Nat) {s t : State} (ht : t.reg = (countMiss c s).reg) :
    barRead t 0 (0x105080 + 4 * n) = if n = c then Nat.min 0xFFFFFFFF (barRead s 0 (0x105080 + 4 * n) + 1)
      else barRead s 0 (0x105080 + 4 * n) := by
  simp only [barRead_gmiss hn, ht]
  by_cases h : n = c
  · subst h
    rw [if_pos rfl]
    exact SMap.getD_put_self _ n _ 0
  · rw [if_neg h]
    exact SMap.getD_put_ne _ c n _ 0 h

section Window
variable {m target held entries : Nat} {s : State} (hm : okMaster m = true) (ht : okTarget target = true)
include hm ht

theorem exec_guaranteeMonitorWindow : exec (.guaranteeMonitorWindow m target held entries) s =
    .next (guaranteeMonitorWindowEff m target held entries s) :=
  checked_ok (by simp [hm, ht]) s _

theorem exec_guaranteeMonitorWindow_spoiled (hs : m ∈ s.reg.spoiled) :
    exec (.guaranteeMonitorWindow m target held entries) s =
      .next { s with reg := { s.reg with spoiled := NSet.del s.reg.spoiled m } } :=
  (exec_guaranteeMonitorWindow hm ht).trans (congrArg _ (if_pos (List.contains_iff_mem.2 hs)))

variable (hs : m ∉ s.reg.spoiled)
include hs

theorem exec_guaranteeMonitorWindow_kept (hk : held < 5000 ∨ classReserved s target (masterClass s m) ≤ entries) :
    exec (.guaranteeMonitorWindow m target held entries) s = .next s := by
  refine (exec_guaranteeMonitorWindow hm ht).trans (congrArg _ ?_)
  simp [guaranteeMonitorWindowEff, hs, hk.symm]

/-- A miss is counted, and told where the monitor is enabled. -/
theorem exec_guaranteeMonitorWindow_missed (hh : 5000 ≤ held) (he : entries < classReserved s target (masterClass s m)) :
    exec (.guaranteeMonitorWindow m target held entries) s = .next (if s.reg.monitorEn then
        raiseTo (masterTo s m) evGuaranteeMiss ((masterTo s m).getLastD 0) (m + masterClass s m * 2 ^ 16) target none
          (masterConf s m) (countMiss (masterClass s m) s)
      else countMiss (masterClass s m) s) := by
  refine (exec_guaranteeMonitorWindow hm ht).trans (congrArg _ ?_)
  simp [guaranteeMonitorWindowEff, hs, Nat.not_lt.2 hh, Nat.not_le.2 he, countMiss]

end Window

/-- Settles O6: the counters are read back by their class, and telling of a miss leaves them alone. -/
theorem guaranteeMissCounters : Obligations.GuaranteeMissCounters := by
  unfold Obligations.GuaranteeMissCounters
  refine ⟨fun n hn => barRead_gmiss hn State.reset, fun n v s hn hv => exec_registerWrite_gmiss hn hv s, ?_⟩
  intro m target held entries s hm ht hs hh he
  refine ⟨_, exec_guaranteeMonitorWindow_missed hm ht hs hh he, fun n hn => barRead_gmiss_countMiss hn _ ?_⟩
  split
  · exact raiseTo_reg _ _ _ _ _ _ _ _
  · rfl

/-! ## Commits of the class registers (R193) -/

section Commit
variable {v : Nat} {s : State} (hv : v < 2 ^ 32)
include hv

theorem exec_fctShareCtrlCommit : exec (.fctShareCtrlCommit v) s = .next (fctShareCtrlCommitEff v s) :=
  checked_ok (decide_eq_true hv) s _

/-- Without go, or during a commit, a write sets monitor_en alone. -/
theorem exec_fctShareCtrlCommit_idle (h : bit v 31 = 0 ∨ s.reg.commitBusy = true) :
    exec (.fctShareCtrlCommit v) s = .next { s with reg := { s.reg with monitorEn := bit v 0 == 1 } } := by
  rw [exec_fctShareCtrlCommit hv, fctShareCtrlCommitEff, if_pos (by simpa using h)]

/-- A write with go while no commit is busy checks the class registers. -/
theorem exec_fctShareCtrlCommit_checks (hgo : bit v 31 = 1) (hfree : s.reg.commitBusy = false) :
    exec (.fctShareCtrlCommit v) s = .next { s with reg := if classesOk s.reg.classes then
        { s.reg with monitorEn := bit v 0 == 1, commitError := false, commitBusy := true, inForce := s.reg.classes }
      else { s.reg with monitorEn := bit v 0 == 1, commitError := true } } := by
  rw [exec_fctShareCtrlCommit hv, fctShareCtrlCommitEff, if_neg (by simp [hgo, hfree])]

end Commit

/-- Settles O9: a window by whether it was met, kept or missed; a commit by go, busy and the checks. -/
theorem sharingControl : Obligations.SharingControl := by
  unfold Obligations.SharingControl
  refine ⟨fun m target held entries s hm ht => ⟨exec_guaranteeMonitorWindow_spoiled hm ht,
    exec_guaranteeMonitorWindow_kept hm ht, ?missed⟩, ?passes, ?fails, fun v s hv => exec_fctShareCtrlCommit_idle hv,
    fun s => checked_ok rfl s _⟩
  case missed =>
    rintro hs hh he _ rfl
    rw [exec_guaranteeMonitorWindow_missed hm ht hs hh he]
    exact ⟨fun hoff => congrArg _ (if_neg (by simp [hoff])), fun hon => congrArg _ (if_pos hon)⟩
  case passes =>
    intro v s hv hgo hfree hclasses
    rw [exec_fctShareCtrlCommit_checks hv hgo hfree, if_pos hclasses]
  case fails =>
    intro v s hv hgo hfree hclasses
    rw [exec_fctShareCtrlCommit_checks hv hgo hfree, if_neg (by simp [hclasses])]

end Sys2Proof.Machine

/-! A request at a base die under each hint of the memory-side cache (R184, R201, R204, R211, R212). -/

namespace Sys2Proof.Machine

/-! ## The memory-side cache and the parity of transfers -/

@[simp] theorem degradeChan_msc (ch cause : Nat) (s : State) : (degradeChan ch cause s).msc = s.msc := by
  unfold degradeChan
  dsimp only
  split <;> simp

@[simp] theorem countParity_msc (ch : Nat) (out : LineOutcome) (s : State) : (countParity ch out s).msc = s.msc := by
  unfold countParity
  split
  · split
    · rfl
    · exact degradeChan_msc ch 0 s
  · rfl

@[simp] theorem mscFind_countParity (ch : Nat) (out : LineOutcome) (s : State) (gl : Nat) :
    mscFind (countParity ch out s) gl = mscFind s gl := by
  simp [mscFind, mscSet]

/-- A hit: KEEP makes the line the most recently used, STREAM leaves it, LAST drops it (R201). -/
theorem baseRead_of_hit {gl : Nat} {l : MscLine} {s : State} (h : mscFind s gl = some l) (cls : Option Nat) (hint : Nat)
    (out : LineOutcome) : baseRead cls gl hint out s = (if l.poisoned then .fail stDataPoisoned else .data l.data,
      if hint = 0 then mscPut true l s else if hint = 1 then s else mscDrop gl s) := by
  simp [baseRead, h]

/-- A miss on a good line: KEEP and STREAM allocate it, LAST does not (R201). -/
theorem baseRead_of_cleanMiss {gl : Nat} {s : State} (h : mscFind s gl = none) (hp : (metaOf s gl).poisoned = false)
    (cls : Option Nat) (hint : Nat) {l : MscLine}
    (hl : l = ⟨gl, dramLine s gl, false, false, (metaOf s gl).keySlot, cls⟩) :
    baseRead cls gl hint .clean s = (.data (dramLine s gl),
      if hint = 0 then mscPut true l s else if hint = 1 then mscPut false l s else s) := by
  subst hl
  simp [baseRead, h, dramFix, decodeLine, countParity, ifFails, hp]

/-- A write of a whole line that misses does not read it. -/
theorem baseWrite_of_wholeMiss {gl : Nat} {s : State} (h : mscFind s gl = none) {d : List Byte} (hd : d.length = 64)
    (cls : Option Nat) (hint key : Nat) (out : LineOutcome) :
    baseWrite cls gl hint 0 d key out s = mscPut (hint == 0) ⟨gl, d, true, false, key, cls⟩ s := by
  simp [baseWrite, h, hd]

/-! ## CHANNEL_REQUEST -/

/-- What the line itself met, once the repeats of the transfer are counted. -/
def lineOutcome (out : LineOutcome) : LineOutcome :=
  match out with
  | .parity _ => .clean
  | o => o

/-- The end of a read: the data goes to the requester, a failure to its command. -/
def endRead (cmd fa : Nat) (r : Rd × State) : State :=
  match r.1 with
  | .data _ => r.2
  | .fail f => meetStatus cmd f fa r.2

/-- A base die serves a requester on a channel. -/
structure Serves (s : State) (m ch : Nat) : Prop where
  requester : okRequester m = true
  chan : ch < 256
  powered : parked s (eastChan ch) = false
  admits : admitted s ch (requesterClass s m) = true
  state : (chanOf s ch).state = 1 ∨ (chanOf s ch).state = 2 ∨ (chanOf s ch).state = 3

section Request
variable {m ch line hint cmd : Nat} {d : List Byte} {out : LineOutcome} {s t : State} (hs : Serves s m ch)
  (hline : line < 2 ^ 25) (hout : ifFails out = false)
include hs hline hout

/-- A served transfer is a write or a read at the base die. -/
theorem exec_channelRequest_served {write : Bool} (hd : d.length ≤ 64) :
    exec (.channelRequest m ch line hint write 0 d out cmd) s = .next
      (if write then baseWrite (requesterClass s m) (ch * 2 ^ 25 + line) (if hint = 2 then 1 else hint) 0 d
          (keySlotOf s ch) (lineOutcome out) (countParity ch out s)
        else endRead cmd (faOfLine s (ch * 2 ^ 25 + line))
          (baseRead (requesterClass s m) (ch * 2 ^ 25 + line) hint (lineOutcome out) (countParity ch out s))) := by
  have hok : (okRequester m && okChan ch && okLine line && okPart 0 d) = true := by
    simpa [hs.requester, okChan, hs.chan, okLine, okPart, hd] using hline
  have hserving : ¬ (!((chanOf s ch).state == 1 || (chanOf s ch).state == 2 || (chanOf s ch).state == 3)) = true := by
    rcases hs.state with h | h | h <;> simp [h]
  exact (checked_ok hok s _).trans (congrArg _ ((if_neg (by simp [hs.admits])).trans ((if_neg (by simp [hs.powered])).trans
    ((if_neg hserving).trans (if_neg (by simp [hout]))))))

/-- A read ends by what the base die answers. -/
theorem exec_channelRequest_read {r : Rd × State} (hr : baseRead (requesterClass s m) (ch * 2 ^ 25 + line) hint
    (lineOutcome out) (countParity ch out s) = r) : exec (.channelRequest m ch line hint false 0 [] out cmd) s =
      .next (endRead cmd (faOfLine s (ch * 2 ^ 25 + line)) r) := by
  rw [exec_channelRequest_served hs hline hout (d := []) (Nat.zero_le 64), if_neg Bool.false_ne_true, hr]

theorem exec_channelRequest_hit {l : MscLine} (hl : mscFind s (ch * 2 ^ 25 + line) = some l) (hp : l.poisoned = false) :
    exec (.channelRequest m ch line hint false 0 [] out cmd) s = .next
      (if hint = 0 then mscPut true l (countParity ch out s) else if hint = 1 then countParity ch out s
        else mscDrop (ch * 2 ^ 25 + line) (countParity ch out s)) := by
  rw [exec_channelRequest_read hs hline hout (baseRead_of_hit ((mscFind_countParity ..).trans hl) ..), hp]
  rfl

theorem exec_channelRequest_poisonedHit {l : MscLine} (hl : mscFind s (ch * 2 ^ 25 + line) = some l)
    (hp : l.poisoned = true) : exec (.channelRequest m ch line 1 false 0 [] out cmd) s =
      .next (meetStatus cmd stDataPoisoned (faOfLine s (ch * 2 ^ 25 + line)) (countParity ch out s)) := by
  rw [exec_channelRequest_read hs hline hout (baseRead_of_hit ((mscFind_countParity ..).trans hl) ..), hp]
  rfl

omit hout

theorem exec_channelRequest_cleanMiss (hn : mscFind s (ch * 2 ^ 25 + line) = none)
    (hp : (metaOf s (ch * 2 ^ 25 + line)).poisoned = false) {l : MscLine} (hl : l = ⟨ch * 2 ^ 25 + line,
      dramLine s (ch * 2 ^ 25 + line), false, false, (metaOf s (ch * 2 ^ 25 + line)).keySlot, requesterClass s m⟩) :
    exec (.channelRequest m ch line hint false 0 [] .clean cmd) s = .next
      (if hint = 0 then mscPut true l s else if hint = 1 then mscPut false l s else s) :=
  exec_channelRequest_read (out := .clean) hs hline rfl (baseRead_of_cleanMiss hn hp _ hint hl)

/-- A write of a whole line under LAST allocates as under STREAM (R201). -/
theorem exec_channelRequest_wholeMiss (hn : mscFind s (ch * 2 ^ 25 + line) = none) (hd : d.length = 64) :
    exec (.channelRequest m ch line hint true 0 d .clean cmd) s = .next
      (mscPut ((if hint = 2 then 1 else hint) == 0) ⟨ch * 2 ^ 25 + line, d, true, false, keySlotOf s ch, requesterClass s m⟩
        s) := by
  rw [exec_channelRequest_served hs hline rfl (by omega), if_pos rfl]
  exact congrArg _ (baseWrite_of_wholeMiss hn hd _ _ _ _)

end Request

/-- Settles O10: each hint by what the cache holds of the line. -/
theorem cacheHints : Obligations.CacheHints := by
  unfold Obligations.CacheHints
  intro m ch line cmd s hm hch hline hpark hadm hstate
  have hs : Serves s m ch := ⟨hm, hch, hpark, hadm, hstate⟩
  refine ⟨?hit, ?miss, ?whole⟩
  case hit =>
    rintro l out _ hl hout rfl
    refine ⟨fun hp => ⟨?_, ?_, ?_⟩, exec_channelRequest_poisonedHit hs hline hout hl⟩
    all_goals exact exec_channelRequest_hit hs hline hout hl hp
  case miss =>
    intro hn hp
    refine ⟨fun l hl => ⟨?_, ?_⟩, ?_⟩
    · exact exec_channelRequest_cleanMiss hs hline hn hp hl
    · exact exec_channelRequest_cleanMiss hs hline hn hp hl
    · exact exec_channelRequest_cleanMiss hs hline hn hp rfl
  case whole =>
    rintro d hd _ rfl hn
    refine ⟨?_, ?_, ?_⟩
    all_goals exact exec_channelRequest_wholeMiss hs hline hn hd

end Sys2Proof.Machine

/-! The messages of Voxlink (R181, R373, R374, R400 to R402). -/

namespace Sys2Proof.Machine

/-! ## Responses (R399 to R401) -/

/-- A response of the peer asked, to a request that it may answer, is acted on. -/
theorem onResponse_answers {src : Nat} {t : Txn} {o : VOut} {s : State} (ho : SMap.look s.vxl.outst t.tag = some o)
    (hd : o.dest = src) {ops : List Nat} (hop : o.op ∈ ops) (act : VOut → State → State) :
    onResponse src t ops act s = act o (chargeTxn (some o.facet) (some o) t s) := by
  simp [onResponse, ho, hd, hop]

/-- A response to nothing that is outstanding is discarded. -/
theorem onResponse_unknown {t : Txn} {s : State} (h : SMap.look s.vxl.outst t.tag = none) (src : Nat) (ops : List Nat)
    (act : VOut → State → State) : onResponse src t ops act s = s := by
  simp [onResponse, h]

theorem exec_peerTimeoutExpiry {tag : Nat} {o : VOut} {s : State} (ht : tag < 65536)
    (ho : SMap.look s.vxl.outst tag = some o) :
    exec (.peerTimeoutExpiry tag) s = .next (outFails o stPeerTimeout (dropOut tag s)) := by
  refine (checked_ok (decide_eq_true ht) s _).trans (congrArg _ ?_)
  simp [peerTimeoutExpiryEff, ho]

section Message
variable {p src : Nat} {t : Txn} {s : State} (hp : p < 6) (hsrc : src < 65536)
include hp hsrc

/-- A message that comes by a port from a module is carried out. -/
theorem checked_message (act : State → State) : checked (okPort p && okIdentity src) s act = .next (act s) :=
  checked_ok (by simp only [okPort, okIdentity, hp, hsrc, decide_true, Bool.and_self]) s act

section Answered
variable {o : VOut} (ho : SMap.look s.vxl.outst t.tag = some o) (hd : o.dest = src)
include ho hd

/-- A response of an op that answers its request has its effect. -/
theorem checked_onResponse {ops : List Nat} (hop : o.op ∈ ops) (act : VOut → State → State) :
    checked (okPort p && okIdentity src) s (onResponse src t ops act) =
      .next (act o (chargeTxn (some o.facet) (some o) t s)) :=
  (checked_message hp hsrc _).trans (congrArg _ (onResponse_answers ho hd hop act))

theorem exec_vxlReadData (hop : o.op = 0x01) : exec (.vxlReadData p src t) s = .next
    (if t.last then dropOut t.tag (chargeTxn (some o.facet) (some o) t s) else chargeTxn (some o.facet) (some o) t s) :=
  checked_onResponse hp hsrc ho hd (by simp [hop]) _

/-- The last acknowledgement of a write ends it. -/
theorem exec_vxlWriteAck_last (hop : o.op = 0x03 ∨ o.op = 0x18) (hl : o.left ≤ 1) : exec (.vxlWriteAck p src t) s =
    .next (dropOut t.tag (chargeTxn (some o.facet) (some o) t s)) :=
  (checked_onResponse hp hsrc ho hd (by simpa using hop) _).trans (congrArg _ (if_pos hl))

end Answered

/-- A response to nothing outstanding changes nothing. -/
theorem checked_onResponse_unknown (h : SMap.look s.vxl.outst t.tag = none) (ops : List Nat) (act : VOut → State → State) :
    checked (okPort p && okIdentity src) s (onResponse src t ops act) = .next s :=
  (checked_message hp hsrc _).trans (congrArg _ (onResponse_unknown h src ops act))

/-! ## DISPATCH and SIGNAL (R374, R400) -/

theorem exec_vxlDispatch_runs {n l : Nat} {f : Facet} (hn : facetByGlobal s t.masterDevice t.masterFacet = some n)
    (he : inEclipse s n = false) (hok : dispatchError s t = none) (hf : facetOf s n = some f)
    (hl : ladderOfSet f (t.addr % 2 ^ 32) = some l) : exec (.vxlDispatch p src t) s = .next (markReady s.nextCmd
      { chargeTxn (some n) none t s with
        cmds := SMap.put (chargeTxn (some n) none t s).cmds s.nextCmd (dispatchCmd s p src n l f t)
        nextCmd := s.nextCmd + 1 }) := by
  refine (checked_message hp hsrc _).trans (congrArg _ ?_)
  simp only [vxlDispatchEff, hn, he, hok, hf, hl, Bool.false_eq_true, if_false]

theorem exec_vxlSignal_raises {n : Nat} {f : Facet} (ha : admitReq t s = .inl n) (hf : facetOf s n = some f)
    (he : f.eclipse = none) : exec (.vxlSignal p src t) s = .next
      (forAll ((bitsOfBytes (t.data.take 64)).filterMap fun i => SMap.look (placementMap s f) i)
        (fun c u => bumpEvent c 1 u) (chargeTxn (some n) none t s)) := by
  refine (checked_message hp hsrc _).trans (congrArg _ ?_)
  simp [vxlSignalEff, ha, hf, he]

/-! ## COLLECTIVE (R181, R402) -/

section Collective
variable {n : Nat} {y : CSlot} (hn : facetByGlobal s t.masterDevice t.masterFacet = some n)
  (he : inEclipse s n = false) (hr : t.rsv = false) (hy : y = { collSlot n t with cores := collCores s src t })
  (hx : y.expected ≠ 0) (hh : y.hop ≠ 7)
include hn he hr hy hx hh

/-- The first contribution starts the slot. -/
theorem exec_vxlCollective_starts (hs : SMap.look s.vxl.slots (p * 256 + t.addr % 256) = none) :
    exec (.vxlCollective p src t) s =
      .next (joinColl (p * 256 + t.addr % 256) y (chargeTxn (some n) none t s)) := by
  subst hy
  refine (checked_message hp hsrc _).trans (congrArg _ ?_)
  simp [vxlCollectiveEff, hn, he, hr, hx, hh, hs]

/-- One that matches is reduced into the slot. -/
theorem exec_vxlCollective_reduces {x : CSlot} (hs : SMap.look s.vxl.slots (p * 256 + t.addr % 256) = some x)
    (hm : collMatches x y = true) : exec (.vxlCollective p src t) s = .next (joinColl (p * 256 + t.addr % 256)
      { x with got := x.got + 1, elems := List.zipWith (collReduce x.op) x.elems y.elems
               cores := NSet.union x.cores y.cores } (chargeTxn (some n) none t s)) := by
  subst hy
  refine (checked_message hp hsrc _).trans (congrArg _ ?_)
  simp [vxlCollectiveEff, hn, he, hr, hx, hh, hs, hm]

end Collective

/-! ## JOIN (R373) -/

theorem exec_vxlJoin_takes {f : Facet} (hid : s.vxl.idValid = true) (hdev : t.masterDevice = s.vxl.id)
    (hr : t.rsv = false) (hf : facetOf s t.masterFacet = some f) (hm : f.member = false) (hc : f.memberCount ≠ 0)
    (hst : f.state ≠ 4) (hl : f.memberDevs.length < f.memberCount) :
    exec (.vxlJoin p src t) s = .next (takeJoin t.masterFacet src f t s) := by
  refine (checked_message hp hsrc _).trans (congrArg _ ?_)
  simp [vxlJoinEff, hid, hdev, hr, hf, hm, hc, hst, Nat.not_le.2 hl]

end Message

theorem exec_collectiveSlotTimeout_ends {p slot id : Nat} {x : CSlot} {s : State} (hp : p < 6)
    (hs : SMap.look s.vxl.slots (p * 256 + slot) = some x) (hw : runningWork s x.facet = some id) :
    exec (.collectiveSlotTimeout p slot) s = .next (meetStatus id stPeerTimeout 0
      { s with vxl := { s.vxl with slots := SMap.del s.vxl.slots (p * 256 + slot) } }) := by
  refine (checked_ok (decide_eq_true hp) s _).trans (congrArg _ ?_)
  simp [collectiveSlotTimeoutEff, hs, hw]

/-- Settles O50: each message by what it names, and each response by what is outstanding under its tag. -/
theorem voxlinkMessages : Obligations.VoxlinkMessages := by
  unfold Obligations.VoxlinkMessages
  refine ⟨fun p src t s hp hsrc => ⟨?dispatch, ?signal, ?answered, ?silence, ?unknown⟩,
    fun p src n t s hp hsrc => ⟨?collective, ?slotTimeout, ?join⟩⟩
  case dispatch =>
    rintro n f l hn he hok hf hl _ rfl
    exact exec_vxlDispatch_runs hp hsrc hn he hok hf hl
  case signal => exact fun n f ha hf he => exec_vxlSignal_raises hp hsrc ha hf he
  case answered =>
    rintro o ho hd _ rfl
    refine ⟨fun hop hlast => ?_, fun hop hlast => ?_, exec_vxlWriteAck_last hp hsrc ho hd,
      fun hop => checked_onResponse hp hsrc ho hd (by simpa using hop) _,
      fun hop => checked_onResponse hp hsrc ho hd (by simp [hop]) _,
      fun hop => checked_onResponse hp hsrc ho hd (by simp [hop]) _,
      fun hop => checked_onResponse hp hsrc ho hd hop _⟩
    · rw [exec_vxlReadData hp hsrc ho hd hop, if_pos hlast]
    · rw [exec_vxlReadData hp hsrc ho hd hop, if_neg (by simp [hlast])]
  case silence => exact fun tag o ht ho => exec_peerTimeoutExpiry ht ho
  case unknown =>
    exact fun h => ⟨checked_onResponse_unknown hp hsrc h _ _, checked_onResponse_unknown hp hsrc h _ _,
      checked_onResponse_unknown hp hsrc h _ _, checked_onResponse_unknown hp hsrc h _ _,
      checked_onResponse_unknown hp hsrc h _ _, checked_onResponse_unknown hp hsrc h _ _⟩
  case collective =>
    rintro y _ hn he hr hy hx hh rfl
    exact ⟨exec_vxlCollective_starts hp hsrc hn he hr hy hx hh,
      fun x hs hm => exec_vxlCollective_reduces hp hsrc hn he hr hy hx hh hs hm⟩
  case slotTimeout => exact fun slot x id hs hw => exec_collectiveSlotTimeout_ends hp hs hw
  case join =>
    exact fun f hid hdev hr hf hm hc hst hl => exec_vxlJoin_takes hp hsrc hid hdev hr hf hm hc hst hl

end Sys2Proof.Machine

/-! Lines of the stacked memory, the upkeep of its channels, and the traffic generator behind MEMTEST (R198, R206 to R215, R223,
R229 to R234, R263). -/

namespace Sys2Proof.Machine

/-! ## Lines of DRAM (R198, R206) -/

theorem dramOk_dramWrite (gl : Nat) (d : List Byte) {s : State} (hs : dramOk s) : dramOk (dramWrite gl d s) :=
  Mem.wf_writeN d s.dram (gl * 64) hs

section Canonical
variable {gl : Nat} {d : List Byte} {s : State} (hd : d.length = 64) (hs : dramOk s)
include hd hs

/-- In a memory in canonical form a write of a line changes its own 64 bytes alone. -/
theorem read_dramWrite (a : Nat) : Mem.read (dramWrite gl d s).dram a =
    if gl * 64 ≤ a ∧ a < gl * 64 + 64 then d.getD (a - gl * 64) 0 else Mem.read s.dram a := by
  have h := Mem.read_writeN d s.dram (gl * 64) a hs
  rwa [hd] at h

theorem dramLine_dramWrite_self : dramLine (dramWrite gl d s) gl = d := by
  refine List.ext_getElem (by simp [dramLine, Mem.readN, hd]) fun i hi hid => ?_
  simp [dramLine, Mem.readN, read_dramWrite hd hs, hid, hd ▸ hid]

theorem dramLine_dramWrite_ne {k : Nat} (hk : k ≠ gl) : dramLine (dramWrite gl d s) k = dramLine s k := by
  unfold dramLine Mem.readN
  refine List.map_congr_left fun i hi => ?_
  have hlt : i < 64 := List.mem_range.1 hi
  have hout : ¬ (gl * 64 ≤ k * 64 + i ∧ k * 64 + i < gl * 64 + 64) := by omega
  rw [read_dramWrite hd hs, if_neg hout]

end Canonical

/-- A memory that is not in canonical form: the byte at address 0 is listed after that at 64, where a read does not find it. -/
def unsortedDram : State := { State.reset with dram := [(64, 1), (0, 1)] }

/-- The byte at 0 reads 0 as long as 64 is listed before it, and 1 once line 1 is all zeros. -/
theorem read_unsortedDram : Mem.read unsortedDram.dram 0 = 0 ∧
    Mem.read (dramWrite 1 zeroLine unsortedDram).dram 0 = 1 := by
  decide

/-- Refutes O5: the statement ranges over memories that are not in canonical form too. In `unsortedDram` zeros written to line 1
unlist address 64, and the byte at address 0, outside the line, changes from 0 to 1. On every memory in canonical form the
clauses hold (`dramLine_dramWrite_self`, `dramLine_dramWrite_ne`, `dramOk_dramWrite`, `read_dramWrite`). -/
theorem not_lineStores : ¬ Obligations.LineStores := by
  unfold Obligations.LineStores
  intro h
  obtain ⟨-, -, -, hother⟩ := h 1 zeroLine unsortedDram (by decide)
  have hsame := hother 0 (by omega)
  obtain ⟨hbefore, hafter⟩ := read_unsortedDram
  rw [hbefore, hafter] at hsame
  exact absurd hsame (by decide)

/-! ## Commands of a channel -/

/-- A command that names a channel has its effect. -/
theorem checked_chan {ch : Nat} (hch : ch < 256) (act : State → State) (s : State) :
    checked (okChan ch) s act = .next (act s) :=
  checked_ok (decide_eq_true hch) s act

@[simp] theorem chanOf_updChan_self (ch : Nat) (g : Chan → Chan) (s : State) : chanOf (updChan ch g s) ch = g (chanOf s ch) :=
  chanOf_setChan_self s ch _

/-! ## Patrol and the error window (R209, R212) -/

@[simp] theorem dramFix_clean (gl : Nat) (s : State) : dramFix gl .clean s = s := rfl

/-- Patrol over a clean line of a channel in service marks the line with the pass and goes on to the next. -/
theorem exec_patrolScrubLine_clean {ch : Nat} {s : State} (hch : ch < 256)
    (hst : (chanOf s ch).state = 1 ∨ (chanOf s ch).state = 2) (hr : (chanOf s ch).selfRefresh = false)
    (hn : (chanOf s ch).patrol + 1 < 2 ^ 25) :
    exec (.patrolScrubLine ch .clean) s = .next
      (updChan ch (fun c => { c with patrol := c.patrol + 1 })
        (setMeta (ch * 2 ^ 25 + (chanOf s ch).patrol) { metaOf s (ch * 2 ^ 25 + (chanOf s ch).patrol) with
          scrubPass := (chanOf s ch).passes % 2 == 1 } s)) := by
  refine (checked_chan hch _ s).trans (congrArg _ ?_)
  have hserves : ¬ ((chanOf s ch).state = 0 || (chanOf s ch).state = 4 || (chanOf s ch).state = 5 ||
      (chanOf s ch).selfRefresh) = true := by
    rcases hst with h | h <;> simp [h, hr]
  have hlast : ¬ (chanOf s ch).patrol + 1 = 2 ^ 25 := Nat.ne_of_lt hn
  have hgood : ¬ decodeLine .clean = .lost := by decide
  exact (if_neg hserves).trans ((if_neg hgood).trans (congrArg (setChan ch · _) (if_neg hlast)))

/-- A channel that no facet holds becomes degraded once, and PF0 alone is told. -/
theorem degradeChan_of_free {ch : Nat} {s : State} (hst : (chanOf s ch).state = 1) (hd : (chanOf s ch).degraded = false)
    (cause : Nat) : degradeChan ch cause s = raiseTo [0, 0] evMemDegraded 0 ch cause none false
      (setChan ch { chanOf s ch with degraded := true } s) := by
  simp [degradeChan, confChan, hst, hd]

/-- A second at or below ce_degrade starts the count again. -/
theorem exec_ceDegradeWindow_below {ch : Nat} {s : State} (hch : ch < 256) (hle : (chanOf s ch).ceCount ≤ s.reg.ceDegrade) :
    exec (.ceDegradeWindow ch) s = .next (setChan ch
      { chanOf s ch with ceLast := (chanOf s ch).ceCount, ceCount := 0, ceRun := 0 } s) := by
  refine (checked_chan hch _ s).trans (congrArg _ ?_)
  simp [ceDegradeWindowEff, Nat.not_lt.2 hle]

/-- The tenth second in a row above ce_degrade marks a FREE channel degraded. -/
theorem exec_ceDegradeWindow_tenth {ch : Nat} {s : State} (hch : ch < 256) (h0 : s.reg.ceDegrade ≠ 0)
    (hlt : s.reg.ceDegrade < (chanOf s ch).ceCount) (hrun : (chanOf s ch).ceRun = 9) (hst : (chanOf s ch).state = 1)
    (hd : (chanOf s ch).degraded = false) :
    exec (.ceDegradeWindow ch) s = .next (raiseTo [0, 0] evMemDegraded 0 ch 1 none false (setChan ch
      { chanOf s ch with ceLast := (chanOf s ch).ceCount, ceCount := 0, ceRun := 10, degraded := true } s)) := by
  refine (checked_chan hch _ s).trans (congrArg _ ?_)
  have heff : ceDegradeWindowEff ch s = degradeChan ch 1 (setChan ch
      { chanOf s ch with ceLast := (chanOf s ch).ceCount, ceCount := 0, ceRun := 10 } s) := by
    simp [ceDegradeWindowEff, h0, hlt, hrun]
  rw [heff, degradeChan_of_free (by simp [hst]) (by simp [hd])]
  simp

/-! ## Retirement of a FREE channel (R213) -/

theorem retireTurn_of_free {ch : Nat} {s : State} (hst : (chanOf s ch).state = 1) (hu : updateBusy s = false)
    (hp : s.pwr.park = none) : retireTurn s ch = true := by
  simp [retireTurn, hst, hu, hp]

/-- A FREE channel has nothing to copy: its retirement ends at once. -/
theorem retireBegin_of_free {ch : Nat} {s : State} (hst : (chanOf s ch).state = 1) :
    retireBegin ch none s = raiseFw [0] evMemRetired 0 ch 0 none false
      (setChan ch { chanOf s ch with
        state := 4, facet := 0, recorded := true, copy := none, ticket := none, blocked := false, retireWait := false } s) := by
  simp [retireBegin, hst, retireFinish, requestDoneOpt]

theorem exec_channelRetire_free {ch : Nat} {s : State} (hch : ch < 256) (hst : (chanOf s ch).state = 1)
    (hd : (chanOf s ch).degraded = true) (ha : s.reg.autoRetire = true) (hu : updateBusy s = false) (hp : s.pwr.park = none) :
    exec (.channelRetire ch) s = .next (raiseFw [0] evMemRetired 0 ch 0 none false
      (setChan ch { chanOf s ch with
        state := 4, facet := 0, recorded := true, copy := none, ticket := none, blocked := false, retireWait := false } s)) := by
  refine (checked_chan hch _ s).trans (congrArg _ ?_)
  have heff : channelRetireEff ch s = retireOrWait ch none s := by
    simp [channelRetireEff, hst, hd, ha]
  rw [heff, retireOrWait, if_pos (retireTurn_of_free hst hu hp), retireBegin_of_free hst]

/-! ## Frame copies (R215, R263) -/

section FrameCopy
variable {ch : Nat} {c : FrameCopy} {s : State} (hch : ch < 256) (hc : (chanOf s ch).copy = some c)
include hch hc

section Line
variable {out : LineOutcome} {r : Rd × State} (hd : c.draining = false) (hl : c.line < 1024) (hf : c.frame < 32768)
  (hb : SMap.has s.coh.blocked (ch * 2 ^ 25 + c.frame * 1024 + c.line) = false)
  (hr : r = baseRead none (ch * 2 ^ 25 + c.frame * 1024 + c.line) 1 out
    (invalidateAll (ch * 2 ^ 25 + c.frame * 1024 + c.line) s))
include hd hl hf hb hr

/-- A line that reads well arrives at the target with its value. -/
theorem exec_frameCopyLine_data {d : List Byte} (hdata : r.1 = .data d) :
    exec (.frameCopyLine ch out) s = .next (updChan ch (fun x => { x with copy := some { c with line := c.line + 1 } })
      (baseWrite none (c.target * 2 ^ 25 + c.frame * 1024 + c.line) 1 0 d (keySlotOf r.2 c.target) .clean r.2)) := by
  refine (checked_chan hch _ s).trans (congrArg _ ?_)
  simp only [frameCopyLineEff, hc, hd, hb, ← hr, hdata, decide_eq_false (Nat.not_le.2 hl),
    decide_eq_false (Nat.not_le.2 hf), Bool.or_self, Bool.false_eq_true, if_false]

/-- A line that fails arrives poisoned. -/
theorem exec_frameCopyLine_fails {st : Nat} (hfail : r.1 = .fail st) :
    exec (.frameCopyLine ch out) s = .next (updChan ch (fun x => { x with copy := some { c with line := c.line + 1 } })
      (mscPut false ⟨c.target * 2 ^ 25 + c.frame * 1024 + c.line, zeroLine, true, true, keySlotOf r.2 c.target, none⟩ r.2)) := by
  refine (checked_chan hch _ s).trans (congrArg _ ?_)
  simp only [frameCopyLineEff, hc, hd, hb, ← hr, hfail, decide_eq_false (Nat.not_le.2 hl),
    decide_eq_false (Nat.not_le.2 hf), Bool.or_self, Bool.false_eq_true, if_false]

end Line

/-- The frame switches once its last line is copied: the slot's cursor passes it, and the source drains. -/
theorem exec_frameSwitch (hd : c.draining = false) (hl : c.line = 1024) :
    exec (.frameSwitch ch) s = .next
      (updFacet (chanOf s ch).facet (fun f => { f with map := f.map.map fun e =>
        (e.1, if e.2.channel = ch ∧ e.2.copying = true then { e.2 with cursor := e.2.cursor + 1 } else e.2) })
        (updChan ch (fun x => { x with copy := some { c with draining := true } }) s)) := by
  refine (checked_chan hch _ s).trans (congrArg _ ?_)
  simp [frameSwitchEff, hc, hd, hl]

/-- A drained source that was not the last releases its frame, and the copy goes on with the next. -/
theorem exec_frameSourceDrained (hd : c.draining = true) (hn : c.frame + 1 < 32768) :
    exec (.frameSourceDrained ch) s = .next (setChan ch { chanOf s ch with
      copy := some { c with frame := c.frame + 1, line := 0, draining := false } } s) := by
  refine (checked_chan hch _ s).trans (congrArg _ ?_)
  simp [frameSourceDrainedEff, hc, hd, hn]

end FrameCopy

/-! ## Zero-fills (R223) -/

/-- No channel's retirement is blocked or waits its turn. -/
abbrev NoneWaits (s : State) : Prop := ∀ c, c < 256 → (chanOf s c).blocked = false ∧ (chanOf s c).retireWait = false

theorem noneWaits_setChan {s : State} (h : NoneWaits s) (ch : Nat) {r : Chan}
    (hr : r.blocked = false ∧ r.retireWait = false) : NoneWaits (setChan ch r s) := by
  intro c hc
  by_cases he : c = ch
  · rw [he, chanOf_setChan_self]
    exact hr
  · rw [chanOf_setChan_ne _ _ _ _ he]
    exact h c hc

theorem retryBlocked_of_noneWaits {s : State} (h : NoneWaits s) : retryBlocked s = s := by
  have hnone : ((List.range 256).filter fun c => (chanOf s c).blocked || (chanOf s c).retireWait) = [] := by
    refine List.filter_eq_nil_iff.2 fun c hc => ?_
    simp [h c (List.mem_range.1 hc)]
  rw [retryBlocked, hnone]
  rfl

/-- Where nothing waits for the channel, the end of its zero-fill changes its own record alone. -/
theorem exec_zeroFillDone_ends {ch : Nat} {s : State} (hch : ch < 256) (hst : (chanOf s ch).state = 6)
    (ht : (chanOf s ch).ticket = none) (hf : s.facets = []) (h5 : s.pwr.stage = 5) (hw : NoneWaits s) :
    exec (.zeroFillDone ch) s = .next (setChan ch { chanOf s ch with state := (chanOf s ch).after, ticket := none } s) := by
  refine (checked_chan hch _ s).trans (congrArg _ ?_)
  have hretry := retryBlocked_of_noneWaits (noneWaits_setChan hw ch
    (r := { chanOf s ch with state := (chanOf s ch).after, ticket := none }) (hw ch hch))
  simp [zeroFillDoneEff, hst, ht, hf, h5, requestDoneOpt, hretry, forAll, readyCheck_of_stage_ne]

theorem exec_zeroFillDone_idle {ch : Nat} {s : State} (hch : ch < 256) (hst : (chanOf s ch).state ≠ 6) :
    exec (.zeroFillDone ch) s = .next s :=
  (checked_chan hch _ s).trans (congrArg _ (if_neg hst))

/-- Settles O11: each command by the branch of its effect that the channel's record selects. -/
theorem channelUpkeep : Obligations.ChannelUpkeep := by
  unfold Obligations.ChannelUpkeep
  refine ⟨⟨?patrol, ?below, ?tenth⟩, ?retire, ⟨?line, ?switch, ?drained⟩, ?zeroed, ?idle⟩
  case patrol => exact fun ch s hch hst hr hn => exec_patrolScrubLine_clean hch hst hr hn
  case below => exact fun ch s hch hle => exec_ceDegradeWindow_below hch hle
  case tenth => exact fun ch s hch h0 hlt hrun hst hd => exec_ceDegradeWindow_tenth hch h0 hlt hrun hst hd
  case retire => exact fun ch s hch hst hd ha hu hp => exec_channelRetire_free hch hst hd ha hu hp
  case line =>
    exact fun ch c d out s hch hc hd hl hf hb r hr => ⟨exec_frameCopyLine_data hch hc hd hl hf hb hr,
      fun st => exec_frameCopyLine_fails hch hc hd hl hf hb hr⟩
  case switch => exact fun ch c s hch hc hd hl => exec_frameSwitch hch hc hd hl
  case drained => exact fun ch c s hch hc hd hn => exec_frameSourceDrained hch hc hd hn
  case zeroed => exact fun ch s hch hst ht hf h5 hw => exec_zeroFillDone_ends hch hst ht hf h5 hw
  case idle => exact fun ch s hch hst => exec_zeroFillDone_idle hch hst

end Sys2Proof.Machine

/-! The traffic generator behind MEMTEST (R213, R229 to R234). -/

namespace Sys2Proof.Machine

/-! ## What a subop answers (R230, R231) -/

@[simp] theorem tgBlock_length (g : Tg) : (tgBlock g).length = 64 := by
  simp [tgBlock]

section Memtest
variable {h : Req} {ch : Nat} {good ok : State → Bool} {act : State → State} {s : State}
  (hs : Served h opMemtest true s) (hl : 80 ≤ h.respLen)
include hs hl

/-- A subop that stands is answered with the generator block that it leaves. -/
theorem memtest_stands {t : State} {g : Tg} (hch : ch < 256) (hp : parked s (eastChan ch) = false) (hg : good s = true)
    (ho : ok s = true) (ht : act s = t) (hb : (chanOf t ch).tg = g) :
    memtest h ch good ok act s = answeredWith h { status := syOk, body := tgBlock g } t := by
  subst ht hb
  have hle : ¬ 255 < ch := by omega
  refine (serve_next hs ?_).trans ?_
  · simpa [hle, hg, hp, ho, tgReply] using hl
  · simp [hle, hg, hp, ho, tgReply]

/-- One that the channel's state does not allow is BUSY. -/
theorem memtest_busy (hch : ch < 256) (hg : good s = true) (ho : ok s = false) :
    memtest h ch good ok act s = answeredWith h { status := syBusy } s := by
  have hle : ¬ 255 < ch := by omega
  refine (serve_next hs ?_).trans ?_
  · simpa [hle, hg, ho] using Nat.le_trans (by decide) hl
  · simp [hle, hg, ho]

theorem memtest_malformed (hg : good s = false) :
    memtest h ch good ok act s = answeredWith h { status := syMalformed } s := by
  refine (serve_next hs ?_).trans ?_
  · simpa [hg] using Nat.le_trans (by decide) hl
  · simp [hg]

end Memtest

/-! ## The subops (R213, R230 to R232) -/

@[simp] theorem chanOf_taken (h : Req) (op : Nat) (body : List Byte) (s : State) (ch : Nat) :
    chanOf (taken h op body s) ch = chanOf s ch := by
  simp [taken, answeredWith, updFn]

section Subop
variable {fn ch : Nat} {h : Req} {b : List Byte} {s : State} (hl : 80 ≤ h.respLen)
include hl

/-- A bad configuration is MALFORMED, whatever the channel. -/
theorem exec_memtestConfigure_malformed (ha : Asked fn (layMemtest 1) true h b s) (hc : tgCfgOk (tgCfgOf b) = false) :
    exec (.memtestConfigure fn) s = .next (answeredWith h { status := syMalformed } s) :=
  (checked_onRequest ha).trans (congrArg _ (memtest_malformed (served_of_asked ha) hl hc))

variable (hb : ch = memtestChan b) (hch : ch < 256)
include hb hch

theorem exec_memtestAcquire_busy (ha : Asked fn (layMemtest 0) true h b s) (h1 : (chanOf s ch).state ≠ 1)
    (h4 : (chanOf s ch).state ≠ 4) : exec (.memtestAcquire fn) s = .next (answeredWith h { status := syBusy } s) := by
  subst hb
  refine (checked_onRequest ha).trans (congrArg _ (memtest_busy (served_of_asked ha) hl hch rfl ?_))
  simp [h1, h4]

theorem exec_memtestStart_busy (ha : Asked fn (layMemtest 2) true h b s) (hr : (chanOf s ch).tg.running = true) :
    exec (.memtestStart fn) s = .next (answeredWith h { status := syBusy } s) := by
  subst hb
  refine (checked_onRequest ha).trans (congrArg _ (memtest_busy (served_of_asked ha) hl hch rfl ?_))
  simp [hr]

variable (hp : parked s (eastChan ch) = false)
include hp

theorem exec_memtestAcquire (ha : Asked fn (layMemtest 0) true h b s)
    (hst : (chanOf s ch).state = 1 ∨ (chanOf s ch).state = 4) :
    exec (.memtestAcquire fn) s = .next (answeredWith h { status := syOk, body := tgBlock (chanOf s ch).tg }
      (updChan ch (fun c => { c with prev := c.state, state := 5, cover := [] }) s)) := by
  subst hb
  refine (checked_onRequest ha).trans (congrArg _ (memtest_stands (served_of_asked ha) hl hch hp rfl ?_ rfl (by simp)))
  simpa using hst

theorem exec_memtestConfigure (ha : Asked fn (layMemtest 1) true h b s) (hst : (chanOf s ch).state = 5)
    (hc : tgCfgOk (tgCfgOf b) = true) :
    exec (.memtestConfigure fn) s = .next
      (answeredWith h { status := syOk, body := tgBlock { (chanOf s ch).tg with cfg := tgCfgOf b } }
        (updChan ch (fun c => { c with tg := { c.tg with cfg := tgCfgOf b } }) s)) := by
  subst hb
  refine (checked_onRequest ha).trans (congrArg _ (memtest_stands (served_of_asked ha) hl hch hp hc ?_ rfl (by simp)))
  simp [inTesting, hst]

theorem exec_memtestStart (ha : Asked fn (layMemtest 2) true h b s) (hst : (chanOf s ch).state = 5)
    (hr : (chanOf s ch).tg.running = false) :
    exec (.memtestStart fn) s = .next
      (answeredWith h { status := syOk, body := tgBlock { cfg := (chanOf s ch).tg.cfg, running := true } }
        (updChan ch (fun c => { c with tg := { cfg := c.tg.cfg, running := true } }) s)) := by
  subst hb
  refine (checked_onRequest ha).trans (congrArg _ (memtest_stands (served_of_asked ha) hl hch hp rfl ?_ rfl (by simp)))
  simp [inTesting, hst, hr]

/-- STOP answers with the block as the accesses up to the stop leave it. -/
theorem exec_memtestStop {steps : Nat} {reads : List TgRead} {t : State} (ha : Asked fn (layMemtest 3) true h b s)
    (hst : (chanOf s ch).state = 5) (ht : t = if (chanOf s ch).tg.running then (tgRun ch reads steps 0 s).2 else s) :
    exec (.memtestStop fn steps reads) s = .next
      (answeredWith h { status := syOk, body := tgBlock (chanOf t ch).tg } t) := by
  subst hb
  refine (checked_onRequest ha).trans (congrArg _ (memtest_stands (served_of_asked ha) hl hch hp rfl ?_ ht.symm rfl))
  simp [inTesting, hst]

theorem exec_memtestRead (ha : Asked fn (layMemtest 4) true h b s) :
    exec (.memtestRead fn) s = .next (answeredWith h { status := syOk, body := tgBlock (chanOf s ch).tg } s) := by
  subst hb
  exact (checked_onRequest ha).trans (congrArg _ (memtest_stands (served_of_asked ha) hl hch hp rfl rfl rfl rfl))

/-- A released channel is zero-filled towards the state that its record and the request's option give it. -/
theorem exec_memtestRelease {back : Bool} (ha : AskedJob fn (layMemtest 5) true h b s) (hst : (chanOf s ch).state = 5)
    (hback : back = mayReturn (chanOf s ch) (bit (field b 1 1) 0 == 1)) :
    exec (.memtestRelease fn) s = .next
      (updChan ch (fun x => { x with tg := { x.tg with running := false }, recorded := x.recorded && !back,
                                     degraded := x.degraded && !back, ticket := some (ticketOf h opMemtest) })
        (zeroChan ch (if back then 1 else 4) (taken h opMemtest (tgBlock (chanOf s ch).tg) s))) := by
  subst hb hback
  have hle : ¬ 255 < memtestChan b := by omega
  refine (checked_onRequest ha.1).trans (congrArg _ ((serveJob_next (op := opMemtest) (body := tgBlock (chanOf s (memtestChan b)).tg)
    (mayAccept_of_asked ha) ?_ (by simpa using hl)).trans ?_))
  · simp [hle, hp, inTesting, hst]
  · simp only [chanOf_taken]

/-- A retirement that MEMTEST may ask for begins, or waits its turn. -/
theorem exec_memtestRetire (ha : AskedJob fn (layMemtest 6) true h b s) (hm : mayRetire s ch = true) :
    exec (.memtestRetire fn) s = .next (retireOrWait ch (some (ticketOf h opMemtest))
      (taken h opMemtest (tgBlock (chanOf s ch).tg) s)) := by
  subst hb
  have hle : ¬ 255 < memtestChan b := by omega
  refine (checked_onRequest ha.1).trans (congrArg _ (serveJob_next (mayAccept_of_asked ha) ?_ (by simpa using hl)))
  simp [hle, hp, hm]

end Subop

/-! ## The accesses of a run keep the generator's configuration (R229, R232) -/

theorem cfg_updChan {g : Chan → Chan} (hg : ∀ x, (g x).tg.cfg = x.tg.cfg) (k : Nat) (s : State) (ch : Nat) :
    (chanOf (updChan k g s) ch).tg.cfg = (chanOf s ch).tg.cfg := by
  by_cases hk : ch = k
  · rw [hk, chanOf_updChan_self, hg]
  · rw [updChan, chanOf_setChan_ne _ _ _ _ hk]

@[simp] theorem cfg_degradeChan (k cause : Nat) (s : State) (ch : Nat) :
    (chanOf (degradeChan k cause s) ch).tg.cfg = (chanOf s ch).tg.cfg := by
  unfold degradeChan
  dsimp only
  split
  · rfl
  · rw [chanOf_raiseTo]
    exact cfg_updChan (g := fun c => { c with degraded := true }) (fun _ => rfl) k s ch

@[simp] theorem cfg_countParity (k : Nat) (out : LineOutcome) (s : State) (ch : Nat) :
    (chanOf (countParity k out s) ch).tg.cfg = (chanOf s ch).tg.cfg := by
  unfold countParity
  split
  · split
    · exact cfg_updChan (fun _ => by rfl) k s ch
    · exact cfg_degradeChan k 0 s ch
  · rfl

@[simp] theorem cfg_noteFix (gl : Nat) (s : State) (ch : Nat) :
    (chanOf (noteFix gl s) ch).tg.cfg = (chanOf s ch).tg.cfg :=
  cfg_updChan (fun _ => by rfl) (chOfLine gl) _ ch

@[simp] theorem cfg_dramFix (gl : Nat) (out : LineOutcome) (s : State) (ch : Nat) :
    (chanOf (dramFix gl out s) ch).tg.cfg = (chanOf s ch).tg.cfg := by
  unfold dramFix
  dsimp only
  split <;> simp

@[simp] theorem cfg_updTg (k : Nat) (f : TgResult → TgResult) (s : State) (ch : Nat) :
    (chanOf (updTg k f s) ch).tg.cfg = (chanOf s ch).tg.cfg :=
  cfg_updChan (fun _ => by rfl) k s ch

@[simp] theorem cfg_tgFails (k line : Nat) (s : State) (ch : Nat) :
    (chanOf (tgFails k line s) ch).tg.cfg = (chanOf s ch).tg.cfg :=
  cfg_updChan (fun _ => by rfl) k s ch

@[simp] theorem chanOf_tgWrite (k line : Nat) (s : State) (ch : Nat) : chanOf (tgWrite k line s) ch = chanOf s ch := rfl

@[simp] theorem cfg_tgCheck (k line : Nat) (x : TgRead) (s : State) (ch : Nat) :
    (chanOf (tgCheck k line x s).2 ch).tg.cfg = (chanOf s ch).tg.cfg := by
  unfold tgCheck
  dsimp only
  split
  · split <;> simp
  · split
    · simp [cfg_updChan]
    · split
      · simp
      · split <;> split <;> simp

/-! ## TG_RUN_END (R230, R232, R234) -/

/-- The generator of a channel is at rest after a run, under the configuration that it had. -/
structure RunOver (ch : Nat) (g : TgCfg) (t : State) : Prop where
  done : (chanOf t ch).tg.done = true
  running : (chanOf t ch).tg.running = false
  cfg : (chanOf t ch).tg.cfg = g

theorem runOver_stop {ch : Nat} {g : TgCfg} {s : State} (hg : (chanOf s ch).tg.cfg = g) : RunOver ch g
    (updChan ch (fun c => { c with tg := { c.tg with running := false, done := true } }) s) := by
  constructor <;> simp [hg]

/-- A run is over after its last access, or at the failure that stops it. -/
theorem runOver_tgRun {ch : Nat} {g : TgCfg} (reads : List TgRead) (n i : Nat) {s : State}
    (hg : (chanOf s ch).tg.cfg = g) : RunOver ch g (tgRun ch reads n i s).2 := by
  induction n generalizing i s with
  | zero => exact runOver_stop hg
  | succ n ih =>
    unfold tgRun
    dsimp only
    split
    case isTrue => exact ih (i + 1) hg
    case isFalse =>
      split
      · exact runOver_stop (by rw [cfg_tgCheck, hg])
      · exact ih (i + 1) (by rw [cfg_tgCheck, hg])

theorem runOver_tgCover {ch : Nat} {g : TgCfg} {t : State} (h : RunOver ch g t) : RunOver ch g (tgCover ch t) := by
  obtain ⟨hd, hr, hc⟩ := h
  constructor <;> simpa [tgCover]

section Run
variable {ch : Nat} {reads : List TgRead} {s : State} (hch : ch < 256)
include hch

theorem exec_tgRunEnd_idle (hr : (chanOf s ch).tg.running = false) : exec (.tgRunEnd ch reads) s = .next s := by
  refine (checked_chan hch _ s).trans (congrArg _ ?_)
  simp [tgRunEndEff, hr]

variable {g : TgCfg} (hst : (chanOf s ch).state = 5) (hr : (chanOf s ch).tg.running = true) (hg : (chanOf s ch).tg.cfg = g)
include hst hr hg

/-- A run of a set number of loops ends, and is entered into the coverage. -/
theorem exec_tgRunEnd_loops (hn : g.loops ≠ 0) :
    exec (.tgRunEnd ch reads) s = .next (tgCover ch (tgRun ch reads (g.loops * tgPer g) 0 s).2) := by
  refine (checked_chan hch _ s).trans (congrArg _ ?_)
  simp [tgRunEndEff, hst, hr, hg, hn]

/-- An endless run ends only at a failure that stops it. -/
theorem exec_tgRunEnd_endless (hn : g.loops = 0) {r : Bool × State}
    (hrun : r = tgRun ch reads (((reads.map (·.step)).foldl Nat.max 0 / tgPer g + 1) * tgPer g) 0 s) :
    exec (.tgRunEnd ch reads) s = .next (if r.1 then tgCover ch r.2 else s) := by
  refine (checked_chan hch _ s).trans (congrArg _ ?_)
  simp only [tgRunEndEff, hst, hr, hg, hn, if_true, ← hrun]
  cases r.1 <;> simp

end Run

/-- Settles O12: each subop by the channel's state, and the end of a run by induction over its accesses. -/
theorem channelTests : Obligations.ChannelTests := by
  unfold Obligations.ChannelTests
  refine ⟨fun fn h b ch s hb hch hl hp => ⟨?acquire, ?configure, ?start, ?stop, ?read⟩,
    fun fn h b ch s u hb hch hl hp hu => ⟨?release, ?retire⟩, ?loops, ?endless, ?idle⟩
  case acquire => exact fun ha => ⟨exec_memtestAcquire hl hb hch hp ha, exec_memtestAcquire_busy hl hb hch ha⟩
  case configure => exact fun ha => ⟨exec_memtestConfigure hl hb hch hp ha, exec_memtestConfigure_malformed hl ha⟩
  case start => exact fun ha hst => ⟨exec_memtestStart hl hb hch hp ha hst, exec_memtestStart_busy hl hb hch ha⟩
  case stop => exact fun steps reads t ha hst ht => exec_memtestStop hl hb hch hp ha hst ht
  case read => exact exec_memtestRead hl hb hch hp
  case release =>
    rw [hu]
    exact fun back ha hst hback => exec_memtestRelease hl hb hch hp ha hst hback
  case retire =>
    rw [hu]
    exact exec_memtestRetire hl hb hch hp
  case loops =>
    intro ch reads g s hch hst hr hg hn
    obtain ⟨hdone, hrunning, hcfg⟩ := runOver_tgCover (runOver_tgRun reads (g.loops * tgPer g) 0 hg)
    exact ⟨_, exec_tgRunEnd_loops hch hst hr hg hn, rfl, hdone, hrunning, hcfg⟩
  case endless => exact fun ch reads g r s hch hst hr hg hn hrun => exec_tgRunEnd_endless hch hst hr hg hn hrun
  case idle => exact fun ch reads s hch hr => exec_tgRunEnd_idle hch hr

end Sys2Proof.Machine

/-! The messages of cluster cache coherence at a cache and at a home (R242 to R245, R247, R248). -/

namespace Sys2Proof.Machine

theorem okGlobal_of_lt {gl : Nat} (hgl : gl < 2 ^ 33) : okGlobal gl = true := decide_eq_true hgl

/-- A command that names a cluster and a line has its effect. -/
theorem checked_line {k gl : Nat} (hk : k < 32) (hgl : gl < 2 ^ 33) (act : State → State) (s : State) :
    checked (okCluster k && okGlobal gl) s act = .next (act s) :=
  checked_ok (by simp [okCluster, okGlobal_of_lt hgl, hk]) s act

/-! ## What counting leaves alone (R254) -/

section Count
variable (k gl n : Nat) (g : CohCount → CohCount) (s : State)

@[simp] theorem countCoh_blocked : (countCoh k g s).coh.blocked = s.coh.blocked := by
  unfold countCoh
  split <;> rfl

@[simp] theorem countCoh_filter : (countCoh k g s).coh.filter = s.coh.filter := by
  unfold countCoh
  split <;> rfl

@[simp] theorem filterFind_countCoh : filterFind (countCoh k g s) gl = filterFind s gl := by
  simp [filterFind, filterSet]

@[simp] theorem countForward_blocked : (countForward gl s).coh.blocked = s.coh.blocked :=
  countCoh_blocked _ _ s

@[simp] theorem countInvalidations_blocked : (countInvalidations gl n s).coh.blocked = s.coh.blocked := by
  unfold countInvalidations
  split <;> simp

end Count

@[simp] theorem has_setTxn (gl : Nat) (t : HomeTxn) (s : State) : SMap.has (setTxn gl t s).coh.blocked gl = true := by
  simp [setTxn, SMap.has]

/-! ## What a home records of a line (R240 to R242) -/

theorem filterFind_isSome_of_owner {gl j : Nat} {s : State} (h : ownerOfLine s gl = some j) :
    (filterFind s gl).isSome = true := by
  cases hf : filterFind s gl with
  | some e => rfl
  | none => simp [ownerOfLine, hf] at h

theorem filterFind_isSome_of_sharers {gl j : Nat} {r : NSet} {s : State} (h : sharers s gl = j :: r) :
    (filterFind s gl).isSome = true := by
  cases hf : filterFind s gl with
  | some e => rfl
  | none => simp [sharers, hf] at h

/-! ## A request arrives at a home (R244) -/

section Arrive
variable {gl : Nat} {q : HomeReq} {s : State}

theorem serveWaiting_of_blocked (h : SMap.has s.coh.blocked gl = true) (n : Nat) : serveWaiting gl n s = s := by
  cases n with
  | zero => rfl
  | succ n => exact if_pos h

theorem unblock_of_noneWaits (h : s.coh.waiting = []) : unblock gl s = clearTxn gl s := by
  rw [unblock, h]
  rfl

/-- It waits behind a blocked line. -/
theorem homeArrive_of_blocked (h : SMap.has s.coh.blocked gl = true) :
    homeArrive gl q s = countCoh (homeOf (chOfLine gl)) (fun c => { c with blocked := c.blocked + 1 })
      { s with coh := { s.coh with waiting := s.coh.waiting ++ [(gl, q)] } } :=
  if_pos h

/-- A transaction that blocks the line is all that happens. -/
theorem homeArrive_of_blocks (h : SMap.has s.coh.blocked gl = false) {t : State} (ht : homeTake gl q s = t)
    (hb : SMap.has t.coh.blocked gl = true) : homeArrive gl q s = t := by
  rw [homeArrive, h, if_neg Bool.false_ne_true, ht, serveWaiting_of_blocked hb]

/-- So is any transaction where nothing waits. -/
theorem homeArrive_of_noneWaits (h : SMap.has s.coh.blocked gl = false) (hw : s.coh.waiting = []) :
    homeArrive gl q s = homeTake gl q s := by
  rw [homeArrive, h, if_neg Bool.false_ne_true, hw]
  rfl

end Arrive

/-! ## What a home starts (R242) -/

section Take
variable {gl c : Nat} {s : State}

theorem filter_ownerOfLine {j : Nat} (ho : ownerOfLine s gl = some j) (hj : j ≠ c) :
    (ownerOfLine s gl).filter (· != c) = some j := by
  rw [ho, Option.filter_some_pos (by simpa using hj)]

theorem homeTake_readShared_owned {j : Nat} (ho : ownerOfLine s gl = some j) (hj : j ≠ c) :
    homeTake gl (.readShared c) s =
      countForward gl (setTxn gl ⟨.readShared c, [j], some j, none, false, noFillLine s gl⟩ s) := by
  simp [homeTake, filter_ownerOfLine ho hj]

theorem homeTake_readOwn_owned {j : Nat} (ho : ownerOfLine s gl = some j) (hj : j ≠ c) :
    homeTake gl (.readOwn c) s =
      countForward gl (setTxn gl ⟨.readOwn c, [j], some j, none, false, noFillLine s gl⟩ s) := by
  simp [homeTake, filter_ownerOfLine ho hj]

theorem homeTake_readOwn_shared {j : Nat} (ho : ownerOfLine s gl = none) (hs : sharers s gl = [j]) (hj : j ≠ c) :
    homeTake gl (.readOwn c) s =
      countInvalidations gl 1 (setTxn gl ⟨.readOwn c, [j], none, none, false, noFillLine s gl⟩ s) := by
  simp [homeTake, ho, hs, hj]

theorem homeTake_upgrade_alone (hs : sharers s gl = [c]) :
    homeTake gl (.upgrade c) s = setTxn gl ⟨.upgrade c, [], none, none, true, noFillLine s gl⟩ s := by
  simp [homeTake, hs]

theorem homeTake_readShared_memory {e : FEntry} {d : List Byte} (ho : ownerOfLine s gl = none) (hf : filterFind s gl = some e)
    (hd : (baseRead (lineClass s gl) gl 0 .clean s).1 = .data d) :
    homeTake gl (.readShared c) s = setTxn gl
      ⟨.readShared c, [], none, some (d, keySlotOf (baseRead (lineClass s gl) gl 0 .clean s).2 (chOfLine gl)), true,
        noFillLine s gl⟩ (baseRead (lineClass s gl) gl 0 .clean s).2 := by
  simp [homeTake, ho, hf, grantFromMemory, hd]


theorem homeTake_naRead (hint : Nat) : homeTake gl (.naRead hint) s = (homeRead (lineClass s gl) gl hint s).2 := rfl

theorem homeTake_naWrite (hint off : Nat) (data : List Byte) :
    homeTake gl (.naWrite hint off data) s = homeWrite (lineClass s gl) gl hint off data s := rfl

end Take

/-! ## Caching requests (R239, R242, R244) -/

section Request
variable {k gl : Nat} {s u : State} (hk : k < 32) (hgl : gl < 2 ^ 33)

section Exec
include hk hgl

theorem exec_readShared (hI : cacheFind s k gl = none) :
    exec (.readShared k gl false) s = .next (cacheRequest k gl false (.readShared k) s) := by
  refine (checked_line hk hgl _ s).trans (congrArg _ ?_)
  simp [readSharedEff, hI]

theorem exec_readOwn (hI : cacheFind s k gl = none) :
    exec (.readOwn k gl false) s = .next (cacheRequest k gl false (.readOwn k) s) := by
  refine (checked_line hk hgl _ s).trans (congrArg _ ?_)
  simp [readOwnEff, hI]

theorem exec_upgrade {l : CLine} (hS : cacheFind s k gl = some l) (hm : l.m = false) :
    exec (.upgrade k gl) s = .next (cacheRequest k gl false (.upgrade k) s) := by
  refine (checked_line hk hgl _ s).trans (congrArg _ ?_)
  simp [upgradeEff, hS, hm]

end Exec

variable {q : HomeReq} (hs : homeServes s gl = true) (ha : mayAllocate s k (chOfLine gl) = true)
  (hu : u = countCoh k (fun c => { c with misses := c.misses + 1 }) s)
include hs ha hu

/-- A request for a blocked line takes its place behind those that wait. -/
theorem cacheRequest_waits (hb : SMap.has s.coh.blocked gl = true) :
    cacheRequest k gl false q s = countCoh (homeOf (chOfLine gl)) (fun c => { c with blocked := c.blocked + 1 })
      { u with coh := { u.coh with waiting := u.coh.waiting ++ [(gl, q)] } } := by
  have hbu : SMap.has u.coh.blocked gl = true := by simpa [hu] using hb
  rw [← homeArrive_of_blocked hbu, hu]
  simp [cacheRequest, hs, ha, hb]

/-- One for a line that is not blocked and has its filter entry starts the transaction that blocks it. -/
theorem cacheRequest_starts (hb : SMap.has s.coh.blocked gl = false) (hf : (filterFind u gl).isSome = true) {t : State}
    (ht : homeTake gl q u = t) (hbt : SMap.has t.coh.blocked gl = true) : cacheRequest k gl false q s = t := by
  have hbu : SMap.has u.coh.blocked gl = false := by simpa [hu] using hb
  have hroom : hasRoom s gl = true := by
    have hfs : (filterFind s gl).isSome = true := by simpa [hu] using hf
    simp [hasRoom, hfs]
  rw [← homeArrive_of_blocks hbu ht hbt, hu]
  simp [cacheRequest, hs, ha, hroom]

end Request

/-! ## Snoops and acknowledgements (R242, R243) -/

/-- A cluster that holds no copy has carried out its invalidation, whatever the request. -/
theorem snooped_of_invalid {k gl : Nat} {t : HomeTxn} {s : State} (hfwd : t.fwd = none) (hI : cacheFind s k gl = none) :
    snooped s k gl t = true := by
  unfold snooped
  split <;> simp [hfwd, hI]

section Snoop
variable {k gl : Nat} {t : HomeTxn} {s : State} (hk : k < 32) (hgl : gl < 2 ^ 33)
  (ht : SMap.look s.coh.blocked gl = some t)
include hk hgl ht

section Forward
variable {c : Nat} {l : CLine} (hfwd : t.fwd = some k) (hl : cacheFind s k gl = some l) (hbad : l.bad ≠ 2)
include hfwd hl hbad

theorem exec_snoopForward_readShared (hq : t.req = .readShared c) : exec (.snoopForward k gl false) s =
    .next (setTxn gl { t with fwd := none, data := some (l.data, l.keySlot) } (downgradeOwner gl s)) := by
  refine (checked_line hk hgl _ s).trans (congrArg _ ?_)
  simp [snoopForwardEff, blockedTxn, heldLine, ht, hfwd, hl, hbad, hq]

theorem exec_snoopForward_readOwn (hq : t.req = .readOwn c) : exec (.snoopForward k gl false) s =
    .next (setTxn gl { t with fwd := none, data := some (l.data, l.keySlot) } (cacheDrop k gl s)) := by
  refine (checked_line hk hgl _ s).trans (congrArg _ ?_)
  simp [snoopForwardEff, blockedTxn, heldLine, ht, hfwd, hl, hbad, hq]

end Forward

variable (hin : k ∈ t.acks) (hfwd : t.fwd = none)
include hin hfwd

theorem exec_snoopInvalidation_shared {l : CLine} (hl : cacheFind s k gl = some l) (hm : l.m = false) :
    exec (.snoopInvalidation k gl) s = .next (cacheDrop k gl s) := by
  refine (checked_line hk hgl _ s).trans (congrArg _ ?_)
  simp [snoopInvalidationEff, blockedTxn, ht, hin, hfwd, hl, hm]

variable (hI : cacheFind s k gl = none)
include hI

theorem exec_snoopInvalidation_invalid : exec (.snoopInvalidation k gl) s = .next s := by
  refine (checked_line hk hgl _ s).trans (congrArg _ ?_)
  simp [snoopInvalidationEff, blockedTxn, ht, hin, hfwd, hI]

theorem exec_snoopAck_more {j : Nat} {r : NSet} (hd : NSet.del t.acks k = j :: r) :
    exec (.snoopAck k gl) s = .next (setTxn gl { t with acks := j :: r } s) := by
  refine (checked_line hk hgl _ s).trans (congrArg _ ?_)
  simp [snoopAckEff, blockedTxn, ht, hin, snooped_of_invalid hfwd hI, hd]

variable {c : Nat} (hd : NSet.del t.acks k = [])
include hd

theorem exec_snoopAck_upgrade (hq : t.req = .upgrade c) :
    exec (.snoopAck k gl) s = .next (setTxn gl { t with acks := [], granted := true } s) := by
  refine (checked_line hk hgl _ s).trans (congrArg _ ?_)
  simp [snoopAckEff, blockedTxn, ht, hin, snooped_of_invalid hfwd hI, hd, hq]

theorem exec_snoopAck_readOwn {d : List Byte × Nat} (hq : t.req = .readOwn c) (hdata : t.data = some d) :
    exec (.snoopAck k gl) s = .next (setTxn gl { t with acks := [], granted := true } s) := by
  refine (checked_line hk hgl _ s).trans (congrArg _ ?_)
  simp [snoopAckEff, blockedTxn, ht, hin, snooped_of_invalid hfwd hI, hd, hq, hdata]

end Snoop

/-! ## COMPLETION_ACK (R244, R245) -/

section Completion
variable {k gl off slot : Nat} {d data : List Byte} {t : HomeTxn} {s : State}

theorem takeGrant_readShared (hq : t.req = .readShared k) (hd : t.data = some (d, slot)) (hn : t.noFill = false) :
    takeGrant k gl off data t s = cacheFill k { gl := gl, m := false, data := d, keySlot := slot }
      (filterRecord gl false (NSet.add (sharers s gl) k) s) := by
  simp [takeGrant, hq, hd, hn]

theorem takeGrant_readOwn (hq : t.req = .readOwn k) (hd : t.data = some (d, slot)) (hn : t.noFill = false) :
    takeGrant k gl off data t s = cacheFill k { gl := gl, m := true, data := mergeLine d off data, keySlot := slot }
      (filterRecord gl true [k] s) := by
  simp [takeGrant, hq, hd, hn]

/-- Where the requester's fill leaves no request waiting, the line is unblocked and nothing else happens. -/
theorem exec_completionAck (hk : k < 32) (hgl : gl < 2 ^ 33) (hlen : off + data.length ≤ 64)
    (ht : SMap.look s.coh.blocked gl = some t) (hg : t.granted = true) (hq : requesterOf t.req = some k) {u : State}
    (hu : takeGrant k gl off data t s = u) (hw : u.coh.waiting = []) :
    exec (.completionAck k gl off data) s = .next { u with coh := { u.coh with blocked := SMap.del u.coh.blocked gl } } := by
  have hok : (okCluster k && okGlobal gl && okPart off data) = true := by
    simp [okCluster, okGlobal_of_lt hgl, okPart, hk, hlen]
  refine (checked_ok hok s _).trans (congrArg _ ?_)
  have heff : completionAckEff k gl off data s = unblock gl u := by
    simp [completionAckEff, blockedTxn, ht, hg, hq, hlen, hu]
  rw [heff, unblock_of_noneWaits hw]
  rfl

end Completion

/-- Settles O14: each message by the transaction that it meets at the home; a transaction that starts blocks its line, so
nothing that waits is served with it. -/
theorem coherentRequests : Obligations.CoherentRequests := by
  unfold Obligations.CoherentRequests
  refine ⟨fun k gl s u hk hgl hs ha _ hu => ⟨?waits, ?upgradeWaits, fun hb => ⟨?owned, ?shared, ?alone, ?memory⟩⟩,
    ?forward, fun k gl t s hk hgl ht hin hfwd => ⟨?invalidate, ?gone, ?more, ?upgraded, ?acked⟩, ?completion⟩
  case waits =>
    exact fun hb hI => ⟨(exec_readShared hk hgl hI).trans (congrArg _ (cacheRequest_waits hs ha hu hb)),
      (exec_readOwn hk hgl hI).trans (congrArg _ (cacheRequest_waits hs ha hu hb))⟩
  case upgradeWaits =>
    exact fun l hb hS hm => (exec_upgrade hk hgl hS hm).trans (congrArg _ (cacheRequest_waits hs ha hu hb))
  case owned =>
    intro j hI ho hj
    have hf := filterFind_isSome_of_owner ho
    exact ⟨(exec_readShared hk hgl hI).trans (congrArg _
        (cacheRequest_starts hs ha hu hb hf (homeTake_readShared_owned ho hj) (by simp))),
      (exec_readOwn hk hgl hI).trans (congrArg _
        (cacheRequest_starts hs ha hu hb hf (homeTake_readOwn_owned ho hj) (by simp)))⟩
  case shared =>
    exact fun j hI ho hj hne => (exec_readOwn hk hgl hI).trans (congrArg _ (cacheRequest_starts hs ha hu hb
      (filterFind_isSome_of_sharers hj) (homeTake_readOwn_shared ho hj hne) (by simp)))
  case alone =>
    exact fun l hS hm hall => (exec_upgrade hk hgl hS hm).trans (congrArg _ (cacheRequest_starts hs ha hu hb
      (filterFind_isSome_of_sharers hall) (homeTake_upgrade_alone hall) (by simp)))
  case memory =>
    exact fun e d hI ho hf hd => (exec_readShared hk hgl hI).trans (congrArg _ (cacheRequest_starts hs ha hu hb
      (by simp [hf]) (homeTake_readShared_memory ho hf hd) (by simp)))
  case forward =>
    exact fun k gl c t l s hk hgl ht hfwd hl hbad => ⟨exec_snoopForward_readShared hk hgl ht hfwd hl hbad,
      exec_snoopForward_readOwn hk hgl ht hfwd hl hbad⟩
  case invalidate => exact fun l => exec_snoopInvalidation_shared hk hgl ht hin hfwd
  case gone => exact exec_snoopInvalidation_invalid hk hgl ht hin hfwd
  case more => exact fun j r hI => exec_snoopAck_more hk hgl ht hin hfwd hI
  case upgraded => exact fun c hI => exec_snoopAck_upgrade hk hgl ht hin hfwd hI
  case acked => exact fun c d hI hdel => exec_snoopAck_readOwn hk hgl ht hin hfwd hI hdel
  case completion =>
    intro k gl off slot d data t s hk hgl hlen ht hg hd hn _
    exact ⟨fun hq => ⟨_, rfl, exec_completionAck hk hgl hlen ht hg (by simp [hq, requesterOf])
        (takeGrant_readShared hq hd hn)⟩,
      fun hq => ⟨_, rfl, exec_completionAck hk hgl hlen ht hg (by simp [hq, requesterOf])
        (takeGrant_readOwn hq hd hn)⟩⟩

/-! ## Evictions (R242, R243) -/

/-- A line in the write-back buffer of a cluster. -/
abbrev buffered (k : Nat) (l : CLine) (s : State) : State := { s with coh := { s.coh with wbBuf := s.coh.wbBuf ++ [(k, l)] } }

section Evict
variable {k gl : Nat} {l : CLine} {s : State} (hgl : l.gl = gl) (hw : s.coh.wbBuf = [])
include hgl hw

/-- The home's answer takes the line out of the buffer. -/
theorem unbuffer_buffered : { buffered k l s with coh := { (buffered k l s).coh with
    wbBuf := (buffered k l s).coh.wbBuf.filter fun b => !(b.1 == k && b.2.gl == gl) } } = s := by
  have hempty : ((buffered k l s).coh.wbBuf.filter fun b => !(b.1 == k && b.2.gl == gl)) = s.coh.wbBuf := by
    simp [hw, hgl]
  rw [hempty]

/-- A WriteBack's data is written if the filter still records the sender as the owner. -/
theorem homeTake_writeBack : homeTake gl (.writeBack k) (buffered k l s) =
    filterClear k gl (if ownerOfLine s gl == some k then writeBackLine k l s else s) := by
  have hfind : ((buffered k l s).coh.wbBuf.find? fun b => b.1 == k && b.2.gl == gl) = some (k, l) := by
    simp [hw, hgl]
  have howner : ownerOfLine (buffered k l s) gl = ownerOfLine s gl := rfl
  simp only [homeTake, hfind, unbuffer_buffered hgl hw, howner]

theorem homeTake_cleanEvict : homeTake gl (.cleanEvict k) (buffered k l s) = filterClear k gl s :=
  congrArg (filterClear k gl) (unbuffer_buffered hgl hw)

end Evict

section Evicted
variable {k gl : Nat} {l : CLine} {s : State} (hs : homeServes s gl = true) (hl : cacheFind s k gl = some l)
  (hb : SMap.has s.coh.blocked gl = false) (hw : s.coh.waiting = [])
include hs hl hb hw

/-- The home serves an eviction at once where nothing waits. -/
theorem evictLine_of_free {m : Bool} (hm : l.m = m) (q : HomeReq) :
    evictLine k gl m q s = homeTake gl q (buffered k l (cacheDrop k gl s)) := by
  have harrive : evictLine k gl m q s = homeArrive gl q (buffered k l (cacheDrop k gl s)) := by
    rw [evictLine, hl]
    exact if_pos (by simp [hm, hs])
  exact harrive.trans (homeArrive_of_noneWaits hb hw)

variable (hk : k < 32) (hgl : gl < 2 ^ 33) (hwb : s.coh.wbBuf = []) (hlgl : l.gl = gl)
include hk hgl hwb hlgl

theorem exec_writeBack (hm : l.m = true) : exec (.writeBack k gl) s = .next (filterClear k gl
    (if ownerOfLine s gl == some k then writeBackLine k l (cacheDrop k gl s) else cacheDrop k gl s)) := by
  refine (checked_line hk hgl _ s).trans (congrArg _ ?_)
  rw [writeBackEff, evictLine_of_free hs hl hb hw hm]
  exact homeTake_writeBack hlgl hwb

theorem exec_cleanEvictNotice (hm : l.m = false) :
    exec (.cleanEvictNotice k gl) s = .next (filterClear k gl (cacheDrop k gl s)) := by
  refine (checked_line hk hgl _ s).trans (congrArg _ ?_)
  rw [cleanEvictNoticeEff, evictLine_of_free hs hl hb hw hm]
  exact homeTake_cleanEvict hlgl hwb

end Evicted

/-! ## Accesses that do not allocate (R247, R248) -/

section NonAllocating
variable {gl hint off : Nat} {data : List Byte} {s : State} (hgl : gl < 2 ^ 33) (hs : homeServes s gl = true)
include hgl hs

theorem exec_nonAllocatingRead :
    exec (.nonAllocatingRead gl hint) s = .next (homeArrive gl (.naRead hint) s) :=
  (checked_ok (decide_eq_true hgl) s _).trans (congrArg _ (if_pos hs))

theorem exec_nonAllocatingWrite (hlen : off + data.length ≤ 64) :
    exec (.nonAllocatingWrite gl hint off data) s = .next (homeArrive gl (.naWrite hint off data) s) := by
  refine (checked_ok (by simp [okGlobal_of_lt hgl, okPart, hlen]) s _).trans (congrArg _ ?_)
  simp [nonAllocatingWriteEff, hs, hlen]

end NonAllocating

/-- Settles O15: an eviction of a free line is served from the write-back buffer in the same step; an access that does not
allocate is served at once, or takes its place behind the blocked line. -/
theorem evictionsAndHomeAccesses : Obligations.EvictionsAndHomeAccesses := by
  unfold Obligations.EvictionsAndHomeAccesses
  refine ⟨fun k gl l s u hk hgl hs hl hb hw hwb hlgl hu => ⟨?owner, ?notOwner, ?clean⟩,
    fun gl hint off data s hgl hlen hs hw => ⟨fun hb => ?waits, fun hb => ?served⟩⟩
  case owner =>
    intro hm ho
    rw [exec_writeBack hs hl hb hw hk hgl hwb hlgl hm, ho, hu, if_pos (beq_self_eq_true _)]
  case notOwner =>
    intro hm ho
    rw [exec_writeBack hs hl hb hw hk hgl hwb hlgl hm, hu, if_neg (by simpa using ho)]
  case clean =>
    rw [hu]
    exact exec_cleanEvictNotice hs hl hb hw hk hgl hwb hlgl
  case waits =>
    rw [exec_nonAllocatingRead hgl hs, exec_nonAllocatingWrite hgl hs hlen, homeArrive_of_blocked hb,
      homeArrive_of_blocked hb, hw]
    exact ⟨rfl, rfl⟩
  case served =>
    rw [exec_nonAllocatingRead hgl hs, exec_nonAllocatingWrite hgl hs hlen, homeArrive_of_noneWaits hb hw,
      homeArrive_of_noneWaits hb hw, homeTake_naRead, homeTake_naWrite]
    exact ⟨rfl, rfl⟩

end Sys2Proof.Machine

/-! Requests that read: GET_INFO, TELEMETRY and ACCOUNTING_READ (R265, R299, R463, R472). -/

namespace Sys2Proof.Machine

/-- A row whose work answers a request leaves the response and the state of that work. -/
theorem checked_answered {fn : Nat} {lay : Layout} {c : Bool} {h : Req} {b : List Byte} {s t : State}
    {act : State → Reply × State} {r : Reply} {body : Req → List Byte → State → State}
    (ha : Asked fn lay c h b s) (hb : body h b s = serve h lay.op c act s) (hact : act s = (r, t))
    (hl : 16 + r.body.length ≤ h.respLen) :
    checked (okFn fn) s (onRequest fn lay body) = .next (answeredWith h r t) := by
  rw [checked_onRequest ha, hb, serve_next (served_of_asked ha) (by rw [hact]; exact hl), hact]

/-! ## Lengths of the records -/

@[simp] theorem deviceRecord_length (s : State) (fn : Nat) : (deviceRecord s fn).length = 64 := by
  simp [deviceRecord]

@[simp] theorem clusterRecord_length (s : State) (k : Nat) : (clusterRecord s k).length = 8 := by
  simp [clusterRecord]

@[simp] theorem slotRecord_length (f : Facet) (n : Nat) : (slotRecord f n).length = 8 := by
  cases hm : SMap.look f.map n with
  | none => simp [slotRecord, hm]
  | some m => simp [slotRecord, hm]

/-- Records of one length, one after the other. -/
theorem length_flatMap_of_length_eq {α : Type} {g : α → List Byte} {m : Nat} (hg : ∀ a, (g a).length = m) (l : List α) :
    (l.flatMap g).length = l.length * m := by
  induction l with
  | nil => simp
  | cons a r ih => simp [ih, hg, Nat.add_mul, Nat.add_comm]

theorem clusterRecords_length (s : State) : ((List.range 32).flatMap (clusterRecord s)).length = 256 := by
  rw [length_flatMap_of_length_eq (clusterRecord_length s), List.length_range]

theorem slotRecords_length (f : Facet) : ((List.range 256).flatMap (slotRecord f)).length = 2048 := by
  rw [length_flatMap_of_length_eq (slotRecord_length f), List.length_range]

/-! ## GET_INFO (R265, R299) -/

section Info
variable {fn : Nat} {h : Req} {b : List Byte} {s : State}

theorem exec_getInfoDevice (ha : Asked fn (layInfo 0) false h b s) (hl : 80 ≤ h.respLen) :
    exec (.getInfoDevice fn) s = .next (answeredWith h { status := syOk, body := deviceRecord s h.fn } s) :=
  checked_answered ha rfl rfl (by simpa using hl)

theorem exec_getInfoClusters (ha : Asked fn (layInfo 1) false h b s) (hl : 272 ≤ h.respLen) :
    exec (.getInfoClusters fn) s = .next
      (answeredWith h { status := syOk, body := (List.range 32).flatMap (clusterRecord s) } s) :=
  checked_answered ha rfl rfl (le_of_eq_of_le (congrArg (16 + ·) (clusterRecords_length s)) hl)

/-- FRAME_MAP answers about the facet that byte 1 of the body names. -/
theorem exec_getInfoFrameMap {r : Reply} (ha : Asked fn (layInfo 2) false h b s)
    (hr : (ownFacet h (field b 1 1) s fun f => { status := syOk, body := (List.range 256).flatMap (slotRecord f) }) = r)
    (hl : 16 + r.body.length ≤ h.respLen) :
    exec (.getInfoFrameMap fn) s = .next (answeredWith h r s) :=
  checked_answered ha rfl (congrArg (·, s) hr) hl

end Info

theorem ownFacet_own {h : Req} {n : Nat} {f : Facet} {s : State} (hf : facetOf s n = some f) (hfn : f.fn = h.fn)
    (act : Facet → Reply) : ownFacet h n s act = act f := by
  simp [ownFacet, hf, hfn]

theorem ownFacet_none {h : Req} {n : Nat} {s : State} (hf : facetOf s n = none) (act : Facet → Reply) :
    ownFacet h n s act = { status := syNotFound } := by
  simp [ownFacet, hf]

/-! ## TELEMETRY (R299, R463) -/

/-- PF0 is shown every unit of a range that exists. -/
theorem telemetryReply_pf0 {h : Req} {ty first count facet : Nat} {s : State} (h0 : h.fn = 0) (hty : ty < 10)
    (hother : ty ≠ 7 → facet = 0) (htable : ty = 7 → SMap.has s.facets facet = true)
    (hunits : first + count ≤ recordUnits s ty facet) :
    telemetryReply h ty first count facet s =
      { status := syOk, body := ((List.range count).map (· + first)).flatMap (record s ty facet) } := by
  have hshown (n : Nat) : recordShown s h.fn ty facet n = true := by simp [recordShown, h0]
  have hform : ¬ ((decide (10 ≤ ty) || (ty != 7 && facet != 0)) = true) := by
    have hle : ¬ 10 ≤ ty := Nat.not_le.2 hty
    simpa [hle] using hother
  have hfound : ¬ ((decide (ty = 7) && !SMap.has s.facets facet) = true) := by simpa using htable
  have hrange : ¬ recordUnits s ty facet < first + count := Nat.not_lt.2 hunits
  rw [telemetryReply, if_neg hform, if_neg (by simp [h0]), if_neg hfound, if_neg hrange]
  simp only [hshown, if_true]

/-! ## ACCOUNTING_READ (R472) -/

/-- PF0 reads the records of the contexts of a range that are bound. -/
theorem accountingReply_contexts {h : Req} {first count : Nat} {s : State} (h0 : h.fn = 0) (hpos : 1 ≤ count)
    (hmax : count ≤ 1024) :
    accountingReply h 0 first count s =
      { status := syOk
        body := ((List.range count).map (· + first)).flatMap fun n =>
          ((SMap.look s.ctxs n).map (contextRecord s n)).getD [] } := by
  have hcount : ¬ ((decide (count = 0) || decide (1024 < count)) = true) := by simp; omega
  rw [accountingReply, if_pos rfl, if_neg hcount]
  congr 2
  funext n
  cases SMap.look s.ctxs n with
  | none => rfl
  | some c => simp [h0]

/-- PF0 reads the records of a range of functions. -/
theorem accountingReply_functions {h : Req} {first count : Nat} {s : State} (h0 : h.fn = 0) (hpos : 1 ≤ count)
    (hrange : first + count ≤ 64) :
    accountingReply h 1 first count s =
      { status := syOk, body := ((List.range count).map (· + first)).flatMap (functionRecord s) } := by
  have hcount : ¬ ((decide (count = 0) || decide (64 < count) || decide (64 < first + count)) = true) := by simp; omega
  rw [accountingReply, if_neg (by decide), if_pos rfl, if_neg hcount, if_neg (by simp [h0])]

/-- Settles O28: each request is answered with the body of its reply, which its response buffer holds. -/
theorem readRequests : Obligations.ReadRequests := by
  unfold Obligations.ReadRequests
  refine ⟨fun fn h b s => ⟨exec_getInfoDevice, exec_getInfoClusters, ?frameMap⟩, ?telemetry, ?accounting⟩
  case frameMap =>
    rintro ha _ rfl
    refine ⟨fun f hf hfn hl => ?own, fun hf hl => ?absent⟩
    case own =>
      exact exec_getInfoFrameMap ha (ownFacet_own hf (hfn.trans (fn_of_asked ha.2.1).symm) _)
        (le_of_eq_of_le (congrArg (16 + ·) (slotRecords_length f)) hl)
    case absent => exact exec_getInfoFrameMap ha (ownFacet_none hf _) hl
  case telemetry =>
    rintro h b s ha _ _ _ _ rfl rfl rfl rfl hty hother htable hunits _ rfl hl
    exact checked_answered ha rfl
      (congrArg (·, s) (telemetryReply_pf0 (fn_of_asked ha.2.1) hty hother htable hunits)) hl
  case accounting =>
    rintro h b s ha _ _ _ hkind rfl rfl hpos
    refine ⟨?contexts, ?functions⟩
    case contexts =>
      rintro rfl hmax _ rfl hl
      exact checked_answered ha rfl
        (congrArg (·, s) (hkind ▸ accountingReply_contexts (fn_of_asked ha.2.1) hpos hmax)) hl
    case functions =>
      rintro rfl hrange _ rfl hl
      exact checked_answered ha rfl
        (congrArg (·, s) (hkind ▸ accountingReply_functions (fn_of_asked ha.2.1) hpos hrange)) hl

end Sys2Proof.Machine

/-! Contexts, queues and quiesced functions on request (R256, R257, R314 to R317, R377). That a queue takes the lowest free
number is the model's choice (log 12), and so is the order of the checks (log 13). -/

namespace Sys2Proof.Machine

/-- A row that accepts its request takes it, and begins its work after the response. -/
theorem checked_accepted {fn : Nat} {lay : Layout} {c : Bool} {h : Req} {b out : List Byte} {s u : State}
    {check : State → Reply} {act : State → State} {body : Req → List Byte → State → State}
    (ha : AskedJob fn lay c h b s) (hb : body h b s = serveJob h lay.op c check act s)
    (hr : check s = { status := syAccepted, body := out }) (hl : 16 + out.length ≤ h.respLen)
    (hact : act (taken h lay.op out s) = u) : checked (okFn fn) s (onRequest fn lay body) = .next u := by
  rw [checked_onRequest ha.1, hb, serveJob_next (mayAccept_of_asked ha) hr hl, hact]

/-! ## Contexts (R256, R257, R314) -/

section Bind
variable {h : Req} {d : BindBody} {f : Facet} {s : State} (hf : facetOf s d.facet = some f)
include hf

theorem bindReply_ok (hfn : f.fn = h.fn) (hd : d.function = h.fn) (hok : bindBodyOk f d = true)
    (hnew : SMap.has s.ctxs d.context = false) (hstay : leaving f = false) : bindReply h d s = { status := syOk } := by
  simp [bindReply, hf, hfn, hd, hok, hnew, hstay]

theorem bindReply_denied (hfn : f.fn ≠ h.fn) : bindReply h d s = { status := syDenied } := by
  simp [bindReply, hf, hfn]

end Bind

/-- A context is bound exactly where its request is answered OK. -/
theorem exec_contextBind {fn : Nat} {h : Req} {b : List Byte} {r : Reply} {s : State} (ha : Asked fn layBind false h b s)
    (hr : bindReply h (bindBody b) s = r) (hl : 16 + r.body.length ≤ h.respLen) :
    exec (.contextBind fn) s = .next (answeredWith h r (if r.status = syOk then
      setCtx (bindBody b).context { facet := (bindBody b).facet, fn := h.fn, pasid := (bindBody b).pasid,
                                    root := (bindBody b).root, weight := (bindBody b).weight } s else s)) := by
  subst hr
  refine checked_answered ha rfl ?_ hl
  dsimp only
  split <;> rfl

theorem unbindReply_accepted {h : Req} {n : Nat} {c : Ctx} {s : State} (hc : SMap.look s.ctxs n = some c) (hfn : c.fn = h.fn)
    (hu : c.unbinding = none) : unbindReply h n s = { status := syAccepted } := by
  simp [unbindReply, hc, hfn, hu]

/-- A context none of whose commands has started is not busy. -/
theorem ctxBusy_eq_false {n : Nat} {s : State} (hran : ∀ e ∈ s.cmds, e.2.desc.context = n → e.2.ran = false) :
    ctxBusy s n = false := by
  simpa [ctxBusy] using fun a c he hn => hran (a, c) he hn

/-- Unbinding ends once nothing of the context is under way. -/
theorem exec_contextUnbindComplete {n : Nat} {c : Ctx} {t : Ticket} {s : State} (hc : SMap.look s.ctxs n = some c)
    (hu : c.unbinding = some t) (hcmds : ctxBusy s n = false) (hreqs : ctxRequests s n c = false) :
    exec (.contextUnbindComplete n) s = .next (requestDone t syOk (clearContext n s)) := by
  refine (checked_ok rfl s _).trans (congrArg _ ?_)
  simp [contextUnbindCompleteEff, hc, hu, hcmds, hreqs, requestDoneOpt]

/-! ## Queues (R315 to R317) -/

theorem queueReply_ok {h : Req} {d : QueueBody} {f : Facet} {x : Nat} {s : State} (hf : facetOf s d.facet = some f)
    (hfn : f.fn = h.fn) (hm : f.member = false) (hok : queueBodyOk d = true) (hstay : leaving f = false)
    (hpriv : d.privileged = true → privQueues s h.fn < 2) (hfree : freeQueue s < 16384)
    (hx : freeFrame (poolFill s d.facet) f = some x) :
    queueReply h d s = ({ status := syOk, body := toLe 2 (freeQueue s) ++ List.replicate 6 0 }, x) := by
  have hprivOk : (d.privileged && decide (2 ≤ privQueues s h.fn)) = false := by simpa using hpriv
  have hnumber : ¬ 16384 ≤ freeQueue s := Nat.not_le.2 hfree
  simp [queueReply, hf, hfn, hm, hok, hstay, hprivOk, hnumber, hx]

/-- A queue whose request is answered OK takes its number and its frame. -/
theorem exec_queueCreate {fn x : Nat} {h : Req} {b out : List Byte} {s : State}
    (ha : Asked fn layQueueCreate true h b s) (hr : queueReply h (queueBody b) s = ({ status := syOk, body := out }, x))
    (hl : 16 + out.length ≤ h.respLen) :
    exec (.queueCreate fn) s = .next (answeredWith h { status := syOk, body := out }
      (updFacet (queueBody b).facet (fun g => { g with used := NSet.add g.used x })
        (setQueue (freeQueue s) (queueOfBody h.fn x (queueBody b)) s))) := by
  refine checked_answered ha rfl ?_ hl
  simp only [hr, if_true]

theorem queueDestroyReply_accepted {h : Req} {n : Nat} {q : Queue} {s : State} (hq : SMap.look s.queues n = some q)
    (hfn : q.fn = h.fn) (hd : q.destroying = none) : queueDestroyReply h n s = { status := syAccepted } := by
  simp [queueDestroyReply, hq, hfn, hd]

/-- The destruction of a queue ends once no command of it is left. -/
theorem exec_queueDestroyComplete {n : Nat} {q : Queue} {t : Ticket} {s : State} (hq : SMap.look s.queues n = some q)
    (hd : q.destroying = some t) (hempty : ∀ e ∈ s.cmds, e.2.queue ≠ n) :
    exec (.queueDestroyComplete n) s = .next (requestDone t syOk (freeQueueNo n s)) := by
  have hnone : (s.cmds.any fun e => e.2.queue == n) = false := by
    simpa using fun a c he => hempty (a, c) he
  refine (checked_ok rfl s _).trans (congrArg _ ?_)
  simp [queueDestroyCompleteEff, hq, hd, hnone, requestDoneOpt]

/-! ## QUIESCE and RESUME (R377) -/

/-- A request that names a VF which exists is answered on its merits. -/
theorem vfReply_of_exists {n : Nat} {s : State} (hpos : 1 ≤ n) (hmax : n ≤ 63) (hvf : n ≤ s.reg.numVFs) (r : Reply) :
    vfReply n s r = r := by
  have hnumber : ¬ ((decide (n = 0) || decide (63 < n)) = true) := by simp; omega
  rw [vfReply, if_neg hnumber, if_neg (by simp [fnExists, hvf])]

theorem exec_quiesce {fn n : Nat} {h : Req} {b : List Byte} {s : State} (ha : AskedJob fn layQuiesce false h b s)
    (hn : n = field b 0 1) (hpos : 1 ≤ n) (hmax : n ≤ 63) (hvf : n ≤ s.reg.numVFs) (hq : (fnOf s n).quiesceReq = none) :
    exec (.quiesce fn) s = .next (endWaiting (fun c => c.fn == n) stQuiesced
      (updFn n (fun r => { r with quiesced := true, quiesceReq := some (ticketOf h opQuiesce) })
        (taken h opQuiesce [] s))) := by
  subst hn
  refine checked_accepted (out := []) ha rfl ?_ ha.2.1 rfl
  rw [vfReply_of_exists hpos hmax hvf, hq]
  rfl

theorem exec_quiesceDone {n : Nat} {t : Ticket} {s : State} (hn : n < 64) (hq : (fnOf s n).quiesceReq = some t)
    (hidle : fnBusy s n = false) :
    exec (.quiesceDone n) s = .next (requestDone t syOk (setFn n { fnOf s n with quiesceReq := none } s)) := by
  refine (checked_ok (decide_eq_true hn) s _).trans (congrArg _ ?_)
  simp [quiesceDoneEff, hq, hidle, requestDoneOpt]

theorem exec_resume {fn n : Nat} {h : Req} {b : List Byte} {s : State} (ha : Asked fn layResume false h b s)
    (hl : 16 ≤ h.respLen) (hn : n = field b 0 1) (hpos : 1 ≤ n) (hmax : n ≤ 63) (hvf : n ≤ s.reg.numVFs) :
    exec (.resume fn) s =
      .next (answeredWith h { status := syOk } (updFn n (fun r => { r with quiesced := false }) s)) := by
  subst hn
  refine checked_answered ha rfl ?_ hl
  simp only [vfReply_of_exists hpos hmax hvf, if_true]

/-- Settles O29: each request by its own reply, and each completion by what is left of the object. -/
theorem objectRequests : Obligations.ObjectRequests := by
  unfold Obligations.ObjectRequests
  refine ⟨⟨?bind, ?unbind, fun n c t s hc hu hran => exec_contextUnbindComplete hc hu (ctxBusy_eq_false hran)⟩,
    ⟨?create, ?destroy, fun n q t s => exec_queueDestroyComplete⟩,
    ⟨fun fn h b s ha n => exec_quiesce ha, fun n t s => exec_quiesceDone, fun fn h b s ha hl n => exec_resume ha hl⟩⟩
  case bind =>
    rintro fn h b f s ha hl _ rfl hf
    obtain rfl := fn_of_asked ha.2.1
    exact ⟨fun hfn hd hok hnew hstay => exec_contextBind ha (bindReply_ok hf hfn hd hok hnew hstay) hl,
      fun hfn => exec_contextBind ha (bindReply_denied hf hfn) hl⟩
  case unbind =>
    rintro fn h b c s ha _ rfl hc hfn hu
    obtain rfl := fn_of_asked ha.1.2.1
    exact checked_accepted ha rfl (unbindReply_accepted hc hfn hu) ha.2.1 rfl
  case create =>
    rintro fn h b f x s ha hl _ rfl hf hfn hm hok hstay hpriv hfree hx
    obtain rfl := fn_of_asked ha.2.1
    exact exec_queueCreate ha (queueReply_ok hf hfn hm hok hstay hpriv hfree hx) (by simpa using hl)
  case destroy =>
    rintro fn h b q s ha _ rfl hq hfn hd
    obtain rfl := fn_of_asked ha.1.2.1
    exact checked_accepted ha rfl (queueDestroyReply_accepted hq hfn hd) ha.2.1 rfl

end Sys2Proof.Machine

/-! Address translation: mirrors and walks, completions of ATS, invalidations, and page responses (R267 to R277). -/

namespace Sys2Proof.Machine

/-! ## What counting and starting walks leave alone (R276, R285) -/

theorem countXl_trackWait (k : Nat) (g : XlCount → XlCount) (s : State) :
    (countXl k g s).xl.trackWait = s.xl.trackWait := by
  rw [countXl]
  split <;> rfl

theorem startWalk_trackWait (ctx va : Nat) (w : Waiter) (s : State) :
    (startWalk ctx va w s).xl.trackWait = s.xl.trackWait := by
  rw [startWalk]
  split
  case isTrue => rfl
  case isFalse =>
    split
    case isTrue => exact countXl_trackWait ..
    case isFalse => rfl

/-- With nothing waiting for a tracker entry, nothing tries again. -/
theorem retryTrackWait_of_noneWaits {s : State} (hw : s.xl.trackWait = []) : retryTrackWait s = s := by
  simp only [retryTrackWait, hw, List.foldl_nil]
  rw [← hw]

/-! ## One walk in progress -/

/-- With no walk in progress, a walk starts and is counted. -/
theorem startWalk_of_noWalks {s : State} (hw : s.xl.walks = []) (ctx va : Nat) (w : Waiter) :
    startWalk ctx va w s = countXl w.cluster (fun n => { n with walks := n.walks + 1 })
      { s with xl := { s.xl with walks := [{ ctx := ctx, vpage := va / 2 ^ 16, va := va, waiters := [w] }] } } := by
  simp [startWalk, hw]

section OneWalk
variable {x : Walk} {s : State} (hx : s.xl.walks = [x])
include hx

theorem find_walk : (s.xl.walks.find? fun y => y.ctx == x.ctx && y.vpage == x.vpage) = some x := by
  simp [hx]

theorem endWalk_eq : endWalk x.ctx x.vpage s = { s with xl := { s.xl with walks := [] } } := by
  simp [endWalk, hx]

theorem setWalk_self : setWalk x s = s := by
  have hmap : (s.xl.walks.map fun y => if y.ctx == x.ctx && y.vpage == x.vpage then x else y) = s.xl.walks := by
    simp [hx]
  rw [setWalk, hmap]

end OneWalk

/-! ## TRANSLATION_WALK and WALK_COMPLETE (R267, R268) -/

/-- An address below the pool window takes no part in it, whatever the facet serves. -/
theorem belowWindow {va : Nat} (hpool : va < Config.poolBase) (served : Bool) :
    ¬ ((decide (Config.poolBase ≤ va) && served) = true) := by
  have hbelow : decide (Config.poolBase ≤ va) = false := decide_eq_false (Nat.not_le.2 hpool)
  rw [hbelow, Bool.false_and]
  exact Bool.false_ne_true

section Walk
variable {k ctx va cmd : Nat} {write : Bool} {c : Ctx} {s : State} (hc : SMap.look s.ctxs ctx = some c) (hva : va < 2 ^ 48)
  (hpool : va < Config.poolBase)
include hc hva hpool

/-- Below the pool window, an address that the cluster's mirror holds is answered there. -/
theorem translationWalkEff_hit {e : MEnt} (hf : clusFind s k ctx va = some e) (hp : placeOf e va write ≠ .wait) :
    translationWalkEff k ctx va write cmd s =
      countXl k (fun n => { n with mirrorHits := n.mirrorHits + 1 }) (clusFill k e s) := by
  have hrange : ¬ 2 ^ 48 ≤ va := Nat.not_le.2 hva
  have hwindow : ¬ ((decide (Config.poolBase ≤ va) && SMap.has s.serve c.facet) = true) := belowWindow hpool _
  simp only [translationWalkEff, if_neg hrange, hc, if_neg hwindow, hf, if_neg hp]

/-- One that neither mirror holds starts a walk. -/
theorem translationWalkEff_miss (hf : clusFind s k ctx va = none) (hd : dieFind s ctx va = none) :
    translationWalkEff k ctx va write cmd s = startWalk ctx va ⟨k, cmd, write, 0, facetClass s c.facet⟩ s := by
  have hrange : ¬ 2 ^ 48 ≤ va := Nat.not_le.2 hva
  have hwindow : ¬ ((decide (Config.poolBase ≤ va) && SMap.has s.serve c.facet) = true) := belowWindow hpool _
  simp only [translationWalkEff, if_neg hrange, hc, if_neg hwindow, hf, hd]
  rfl

end Walk

/-- A walk that is not marked to start again ends with what the tables say. -/
theorem exec_walkComplete {x : Walk} {c : Ctx} {s : State} (hx : s.xl.walks = [x]) (hc : SMap.look s.ctxs x.ctx = some c)
    (hats : x.ats = none) (hr : x.restart = false) :
    exec (.walkComplete x.ctx x.vpage) s =
      .next (takeWalk x c (walkTables (x.waiters.head?.bind (·.cls)) c x.va s).1
        (walkTables (x.waiters.head?.bind (·.cls)) c x.va s).2) := by
  have hunmarked : ({ x with restart := false, ats := none } : Walk) = x := by rw [← hr, ← hats]
  refine (checked_ok rfl s _).trans (congrArg _ ?_)
  simp only [walkCompleteEff, find_walk hx, hc, hats, hunmarked, setWalk_self hx]
  rfl

/-- Settles O16: a request by which mirror holds the address, the end of a walk by what the tables say. -/
theorem mirrorsAndWalks : Obligations.MirrorsAndWalks := by
  unfold Obligations.MirrorsAndWalks
  intro ctx va c s hc hva
  refine ⟨fun k cmd write hk hpool => ⟨fun e hf hp => ?hit, fun hf hd hw => ?miss⟩, ?complete⟩
  case hit => exact (checked_ok (decide_eq_true hk) s _).trans (congrArg _ (translationWalkEff_hit hc hva hpool hf hp))
  case miss =>
    refine (checked_ok (decide_eq_true hk) s _).trans (congrArg _ ?_)
    rw [translationWalkEff_miss hc hva hpool hf hd, startWalk_of_noWalks hw]
  case complete =>
    rintro x fa size u hx rfl rfl hats hr hwalk
    rw [exec_walkComplete hx hc hats hr, hwalk]
    rfl

/-! ## ATS_TRANSLATION_COMPLETION (R269) -/

section Completion
variable {x : Walk} {c : Ctx} {entry hpa size : Nat} {s : State} (hx : s.xl.walks = [x])
  (hc : SMap.look s.ctxs x.ctx = some c) (hats : x.ats = some entry) (hr : x.restart = false)
include hx hc hats hr

/-- A translation with both permissions serves every waiter. -/
theorem exec_atsTranslationCompletion_success (hw : x.waiters ≠ []) (hz : 12 ≤ Nat.min size entry) :
    exec (.atsTranslationCompletion x.ctx x.vpage 0 hpa size true true) s = .next (fillFor
      ⟨x.ctx, x.va / 2 ^ Nat.min size entry * 2 ^ Nat.min size entry, Nat.min size entry, true,
        hpa / 2 ^ Nat.min size entry * 2 ^ Nat.min size entry, true, true⟩ x.waiters (endWalk x.ctx x.vpage s)) := by
  have hmax : Nat.max 12 (Nat.min size entry) = Nat.min size entry := Nat.max_eq_right hz
  have hgood : (x.waiters.filter fun q => if q.write then true else true) = x.waiters := by simp
  have hbad : (x.waiters.filter fun q => !if q.write then true else true) = [] := by simp
  have hsome : x.waiters.isEmpty = false := by simpa using hw
  refine (checked_ok rfl s _).trans (congrArg _ ?_)
  simp only [atsTranslationCompletionEff, find_walk hx, hc, hats, hr, hmax, hgood, hbad, hsome]
  rfl

/-- A failed one is told to PF0 and the owner, and every waiter meets UNMAPPED. -/
theorem exec_atsTranslationCompletion_failure :
    exec (.atsTranslationCompletion x.ctx x.vpage 1 hpa size true true) s = .next (failAll stUnmapped x.va x.waiters
      (raiseTo [0, c.fn] evAtsError c.fn x.ctx x.va none (confFacet s c.facet) (endWalk x.ctx x.vpage s))) := by
  refine (checked_ok rfl s _).trans (congrArg _ ?_)
  simp only [atsTranslationCompletionEff, find_walk hx, hc, hats, hr]
  rfl

end Completion

/-! ## Invalidations (R271 to R274) -/

/-- With none in progress, an invalidation begins when it arrives. -/
theorem takeInval_of_none {v : Inval} {s : State} (hv : s.xl.invals = []) : takeInval v s =
    beginInval { v with id := s.xl.nextInval } { s with xl := { s.xl with nextInval := s.xl.nextInval + 1 } } := by
  simp [takeInval, hv]

section OneInval
variable {v : Inval} {s : State} (hv : s.xl.invals = [v])
include hv

theorem find_inval : (s.xl.invals.find? fun y => y.id == v.id) = some v := by
  simp [hv]

/-- The last invalidation of a host ends with its completion message. -/
theorem completeInval_of_host (hw : s.xl.invWait = []) (hcmd : v.cmd = none) :
    completeInval v s = emit (.invalidateCompletion v.fn v.tag) { s with xl := { s.xl with invals := [] } } := by
  have hnone : (s.xl.invals.filter fun y => y.id != v.id) = [] := by simp [hv]
  simp [completeInval, hcmd, hnone, emit, hw]

theorem exec_invalidationDrained :
    exec (.invalidationDrained v.id) s = .next (completeInval v s) := by
  refine (checked_ok rfl s _).trans (congrArg _ ?_)
  simp only [invalidationDrainedEff, find_inval hv]

/-- Where the one recorded command has not drained, it is aborted, its context is told of, and the invalidation completes. -/
theorem exec_invalidationDrainTimeout {k i : Nat} {c : Cmd} (hrec : v.recorded = [i]) (hk : k < 32)
    (hi : cmdOf s i = some c) (hwhole : v.whole = true) {u : State}
    (hu : u = meetStatus i stInvalidationAbort v.base (countXl k (fun n => { n with aborted := n.aborted + 1 }) s)) :
    exec (.invalidationDrainTimeout v.id [(k, i)]) s = .next (completeInval v
      (raiseTo [0, v.fn] evInvalidationAborted v.fn c.desc.context v.base (some (0, 0))
        (((SMap.look u.ctxs c.desc.context).map fun x => confFacet u x.facet).getD false) u)) := by
  subst hu
  have hok : ([(k, i)].all fun x => okCluster x.1) = true := by simp [okCluster, hk]
  have hreqs : ([(k, i)].filter fun x => v.recorded.contains x.2) = [(k, i)] := by simp [hrec]
  have hids : NSet.ofList ([(k, i)].map (·.2)) = [i] := rfl
  have hctx : ([i].filterMap fun j => (cmdOf s j).map (·.desc.context)) = [c.desc.context] := by simp [hi]
  refine (checked_ok hok s _).trans (congrArg _ ?_)
  simp only [invalidationDrainTimeoutEff, find_inval hv, hreqs, hwhole, hids, hctx]
  rfl

end OneInval

/-! ## PRG_RESPONSE (R277) -/

theorem okPrg {fn idx : Nat} (hfn : fn < 64) (hidx : idx < 512) : (okFn fn && decide (idx < 512)) = true := by
  simp [okFn, hfn, hidx]

/-- A response to nothing is discarded and counted. -/
theorem exec_prgResponse_discarded {fn idx code : Nat} {s : State} (hfn : fn < 64) (hidx : idx < 512)
    (ht : s.xl.tracker = []) :
    exec (.prgResponse fn idx code) s =
      .next { s with reg := { s.reg with prgDiscards := s.reg.prgDiscards + 1 } } := by
  refine (checked_ok (okPrg hfn hidx) s _).trans (congrArg _ ?_)
  simp [prgResponseEff, ht]

section OneRequest
variable {p : PageReq} {s : State} (ht : s.xl.tracker = [p])
include ht

theorem find_pageReq : (s.xl.tracker.find? fun q => q.fn == p.fn && q.index == p.index) = some p := by
  simp [ht]

/-- The one request outstanding leaves the tracker with its response. -/
theorem tracker_without : (s.xl.tracker.filter fun q => !(q.fn == p.fn && q.index == p.index)) = [] := by
  simp [ht]

variable (hfn : p.fn < 64) (hidx : p.index < 512) (hw : s.xl.trackWait = [])
include hfn hidx hw

/-- Success starts the walk of the access that waited. -/
theorem exec_prgResponse_success {ctx : Nat} {w : Waiter} (hwaits : p.waiters = [(ctx, w)]) :
    exec (.prgResponse p.fn p.index 0) s =
      .next (startWalk ctx (p.vpage * 2 ^ 16) w { s with xl := { s.xl with tracker := [] } }) := by
  refine (checked_ok (okPrg hfn hidx) s _).trans (congrArg _ ?_)
  simp only [prgResponseEff, find_pageReq ht, tracker_without ht, hwaits]
  exact retryTrackWait_of_noneWaits ((startWalk_trackWait ..).trans hw)

/-- A Response Failure disables the page requests of the function. -/
theorem exec_prgResponse_failure (hwaits : p.waiters = []) :
    exec (.prgResponse p.fn p.index 2) s = .next (raiseTo [0, p.fn] evPriResponseFailure p.fn p.pasid 0 none false
      (updFn p.fn (fun r => { r with priFailed := true }) { s with xl := { s.xl with tracker := [] } })) := by
  refine (checked_ok (okPrg hfn hidx) s _).trans (congrArg _ ?_)
  simp only [prgResponseEff, find_pageReq ht, tracker_without ht, hwaits]
  exact retryTrackWait_of_noneWaits ((congrArg Xl.trackWait (raiseTo_xl ..)).trans hw)

end OneRequest

/-- Settles O17: a completion by its status, an invalidation by what has drained, a page response by the request that it
answers and its code. -/
theorem hostTranslation : Obligations.HostTranslation := by
  unfold Obligations.HostTranslation
  refine ⟨?completion, ⟨?request, ?drained, ?timeout⟩,
    fun fn idx code s => exec_prgResponse_discarded, ?success, ?failure⟩
  case completion =>
    rintro x c entry hpa size s u hx hc hats hr hw hz rfl
    rw [← endWalk_eq hx]
    exact ⟨exec_atsTranslationCompletion_success hx hc hats hr hw hz, exec_atsTranslationCompletion_failure hx hc hats hr⟩
  case request =>
    intro fn tag p base pages s hfn htag hv
    have hok : (okFn fn && decide (tag < 32)) = true := by simp [okFn, hfn, htag]
    exact (checked_ok hok s _).trans (congrArg _ (takeInval_of_none hv))
  case drained =>
    intro v s hv hw hcmd
    rw [exec_invalidationDrained hv, completeInval_of_host hv hw hcmd]
  case timeout =>
    intro v k i c s u hv _ _ hrec hk hi _ _ hwhole hu
    exact exec_invalidationDrainTimeout hv hrec hk hi hwhole hu
  case success =>
    rintro p ctx w s u hfn hidx ht hw hwaits rfl
    exact exec_prgResponse_success ht hfn hidx hw hwaits
  case failure =>
    rintro p s u hfn hidx ht hw hwaits rfl
    exact exec_prgResponse_failure ht hfn hidx hw hwaits

end Sys2Proof.Machine

/-! The doorbell of the mailbox and its responses, with what telling one function of an event leaves alone (R293, R296, R297, R303,
R305, R306). -/

namespace Sys2Proof.Machine

/-! ## What telling one function of an event leaves alone (R303, R305, R306) -/

/-- What the mailbox of a function shows of its last response (R296). -/
def mailboxOf (r : Fn) : Nat × Bool × Bool := (r.respSeq, r.done, r.outstanding)

/-- Function `n` alone has been told something: what left the module stands before what leaves it now, no other function's record
differs, and the mailbox of `n` is as it was. -/
def toldOnly (n : Nat) (s t : State) : Prop :=
  (∃ tl, t.out = s.out ++ tl) ∧ (∀ k, k ≠ n → fnOf t k = fnOf s k) ∧ mailboxOf (fnOf t n) = mailboxOf (fnOf s n)

theorem toldOnly_refl (n : Nat) (s : State) : toldOnly n s s := ⟨⟨[], by simp⟩, fun _ _ => rfl, rfl⟩

theorem toldOnly_trans {n : Nat} {a b c : State} (h : toldOnly n a b) (g : toldOnly n b c) : toldOnly n a c := by
  obtain ⟨⟨o1, ho1⟩, hk1, hm1⟩ := h
  obtain ⟨⟨o2, ho2⟩, hk2, hm2⟩ := g
  exact ⟨⟨o1 ++ o2, by rw [ho2, ho1, List.append_assoc]⟩, fun k hk => (hk2 k hk).trans (hk1 k hk), hm2.trans hm1⟩

theorem toldOnly_setFn {n : Nat} {r : Fn} {s : State} (h : mailboxOf r = mailboxOf (fnOf s n)) :
    toldOnly n s (setFn n r s) :=
  ⟨⟨[], by simp⟩, fun k hk => fnOf_setFn_ne s n k r hk, by rw [fnOf_setFn_self, h]⟩

theorem toldOnly_updFn {n : Nat} {g : Fn → Fn} (h : ∀ r, mailboxOf (g r) = mailboxOf r) (s : State) :
    toldOnly n s (updFn n g s) :=
  toldOnly_setFn (h (fnOf s n))

theorem toldOnly_emit (n : Nat) (e : Emit) (s : State) : toldOnly n s (emit e s) := ⟨⟨[e], rfl⟩, fun _ _ => rfl, rfl⟩

theorem toldOnly_foldl {α : Type} {n : Nat} {g : State → α → State} (h : ∀ a s, toldOnly n s (g s a)) (l : List α)
    (s : State) : toldOnly n s (l.foldl g s) := by
  induction l generalizing s with
  | nil => exact toldOnly_refl n s
  | cons a r ih => exact toldOnly_trans (h a s) (ih _)

theorem toldOnly_ringRecord (n : Nat) (b : List Byte) (s : State) : toldOnly n s (ringRecord n b s) :=
  toldOnly_trans (toldOnly_emit n _ s) (toldOnly_setFn rfl)

theorem toldOnly_ringWrite (n : Nat) (g : Glint) (s : State) : toldOnly n s (ringWrite n g s) := by
  have hrecs (l : List (List Byte)) : toldOnly n s (l.foldl (fun t b => ringRecord n b t) s) :=
    toldOnly_foldl (toldOnly_ringRecord n) l s
  unfold ringWrite
  dsimp only
  split
  · exact toldOnly_trans (hrecs _) (toldOnly_emit n _ _)
  · exact hrecs _

theorem mailboxOf_logGlint (g : Glint) (r : Fn) : mailboxOf (logGlint g r) = mailboxOf r := rfl

theorem toldOnly_noteDrops (n : Nat) (s : State) : toldOnly n s (noteDrops n s) := by
  refine toldOnly_updFn (fun r => ?_) s
  dsimp only
  split
  · rfl
  · rfl

theorem toldOnly_ringPush (n : Nat) (g : Glint) (s : State) : toldOnly n s (ringPush n g s) := by
  unfold ringPush
  dsimp only
  split
  · exact toldOnly_ringWrite n g s
  · split
    · split
      · exact toldOnly_setFn rfl
      · split
        · exact toldOnly_trans (toldOnly_noteDrops n s) (toldOnly_setFn (by rfl))
        · exact toldOnly_trans (toldOnly_noteDrops n s) (toldOnly_setFn (by rfl))
    · exact toldOnly_setFn rfl

theorem toldOnly_firePending (n src : Nat) (s : State) : toldOnly n s (firePending n src s) := by
  unfold firePending
  dsimp only
  split
  · exact toldOnly_trans (toldOnly_setFn (by rfl)) (toldOnly_emit n _ _)
  · exact toldOnly_setFn rfl

theorem toldOnly_deliver (g : Glint) (n : Nat) (s : State) : toldOnly n s (deliver g n s) := by
  have hlog : toldOnly n s (setFn n (logGlint g (fnOf s n)) s) := toldOnly_setFn (mailboxOf_logGlint g _)
  unfold deliver fireSource
  dsimp only
  split
  · exact toldOnly_refl n s
  · split
    · exact toldOnly_trans hlog (toldOnly_ringPush n g _)
    · exact toldOnly_trans hlog (toldOnly_firePending n g.kind _)

@[simp] theorem flightAdd_out (g : Glint) (s : State) : (flightAdd g s).out = s.out := by
  unfold flightAdd
  split
  · rfl
  · rfl

theorem toldOnly_flightAdd (n : Nat) (g : Glint) (s : State) : toldOnly n s (flightAdd g s) :=
  ⟨⟨[], by simp⟩, fun k _ => fnOf_flightAdd g s k, congrArg mailboxOf (fnOf_flightAdd g s n)⟩

/-- An event that goes to one function tells that function alone. -/
theorem toldOnly_raiseTo (n kind concerns subject detail : Nat) (second : Option (Nat × Nat)) (conf : Bool) (s : State) :
    toldOnly n s (raiseTo [n] kind concerns subject detail second conf s) :=
  toldOnly_trans (toldOnly_flightAdd n _ s) (toldOnly_deliver _ n _)

/-! ## Responses (R296 steps 4 and 5) -/

/-- The writes of a response: the body where there is one, then the header. -/
def responseWrites (f n a : Nat) (r : Reply) : List Emit :=
  (if r.body = [] then [] else [.hostWrite f (a + 16) r.body]) ++
    [.hostWrite f a (responseHeader n r.status r.body.length r.needed)]

/-- The state before MBX_DONE is raised: the response is written and the mailbox shows it. -/
def responded (f n a : Nat) (r : Reply) (s : State) : State :=
  updFn f (fun q => { q with respSeq := n, outstanding := false, done := true })
    { s with out := s.out ++ responseWrites f n a r }

theorem respond_eq (f n a : Nat) (r : Reply) (s : State) :
    respond f n a r s = raiseTo [f] evMbxDone f n r.status none false (responded f n a r s) := by
  unfold respond mbxDone responded responseWrites
  by_cases hb : r.body = []
  · simp [hb, emit]
  · simp [hb, emit, List.append_assoc]

theorem fnOf_responded_self (f n a : Nat) (r : Reply) (s : State) :
    fnOf (responded f n a r s) f = { fnOf s f with respSeq := n, outstanding := false, done := true } :=
  fnOf_setFn_self ..

theorem fnOf_responded_ne {f g : Nat} (h : g ≠ f) (n a : Nat) (r : Reply) (s : State) :
    fnOf (responded f n a r s) g = fnOf s g :=
  fnOf_setFn_ne _ _ _ _ h

theorem mailboxOf_respond (f n a : Nat) (r : Reply) (s : State) :
    mailboxOf (fnOf (respond f n a r s) f) = (n, true, false) := by
  obtain ⟨-, -, hm⟩ := toldOnly_raiseTo f evMbxDone f n r.status none false (responded f n a r s)
  rw [respond_eq, hm, fnOf_responded_self]
  rfl

theorem fnOf_respond_ne {f g : Nat} (h : g ≠ f) (n a : Nat) (r : Reply) (s : State) :
    fnOf (respond f n a r s) g = fnOf s g := by
  obtain ⟨-, hk, -⟩ := toldOnly_raiseTo f evMbxDone f n r.status none false (responded f n a r s)
  rw [respond_eq, hk g h, fnOf_responded_ne h]

theorem respond_out (f n a : Nat) (r : Reply) (s : State) :
    ∃ tl, (respond f n a r s).out = s.out ++ responseWrites f n a r ++ tl := by
  obtain ⟨ho, -, -⟩ := toldOnly_raiseTo f evMbxDone f n r.status none false (responded f n a r s)
  rw [respond_eq]
  exact ho

/-! ## MBX_DOORBELL (R293, R296, R297) -/

/-- The state in which the management block has taken a doorbell: its request is outstanding. -/
def rung (f n : Nat) (buf : List Byte) (s : State) : State :=
  setFn f { fnOf s f with
    outstanding := true, noResponse := false, curSeq := n, request := buf.take (32 + bodyLen buf) } s

section Doorbell
variable {f n : Nat} {buf : List Byte} {s : State} (hf : f < 64) (hn : n < 65536) (hu : hostUp s = true)
  (he : fnExists s f = true)
include hf hn hu he

theorem exec_mbxDoorbell_overrun (ho : (fnOf s f).outstanding = true) :
    exec (.mbxDoorbell f n buf) s = .next (setFn f { fnOf s f with overrun := true } s) := by
  have hok : (okFn f && decide (n < 65536)) = true := by simp [okFn, hf, hn]
  refine (checked_ok hok s _).trans (congrArg _ ?_)
  simp [mbxDoorbellEff, hu, he, ho]

variable (ho : (fnOf s f).outstanding = false)
include ho

/-- A doorbell of a function without a request outstanding, by the checks in their order. -/
theorem exec_mbxDoorbell_taken {op : Nat} {h : Req} (hop : op = field buf 0 2)
    (hh : h = ⟨f, n, respAddrOf buf, respLenOf buf, true⟩) : exec (.mbxDoorbell f n buf) s = .next (
    if headerUnusable buf then
      mbxDone f n syMalformed (updFn f (fun q => { q with noResponse := true }) (rung f n buf s))
    else if blockBusy s then respond f n (respAddrOf buf) { status := syBusy } (rung f n buf s)
    else if headerBad n buf then respond f n (respAddrOf buf) { status := syMalformed } (rung f n buf s)
    else if !requestCodes.contains op then respond f n (respAddrOf buf) { status := syUnsupported } (rung f n buf s)
    else if reservedSub op (bodyOf buf) then
      respond f n (respAddrOf buf)
        { status := (gate h op (needsCompute op) (rung f n buf s)).getD syMalformed } (rung f n buf s)
    else rung f n buf s) := by
  subst hop hh
  have hok : (okFn f && decide (n < 65536)) = true := by simp [okFn, hf, hn]
  refine (checked_ok hok s _).trans (congrArg _ ?_)
  simp only [mbxDoorbellEff, hu, he, ho, Bool.not_true, Bool.or_self, Bool.false_eq_true, if_false]
  rfl

end Doorbell

/-- Settles O27: a doorbell by the checks of the management block in their order, a response by its two writes and what MBX_DONE
leaves of the mailbox. -/
theorem mailboxProtocol : Obligations.MailboxProtocol := by
  unfold Obligations.MailboxProtocol
  refine ⟨fun f n buf s hf hn hu he => ⟨exec_mbxDoorbell_overrun hf hn hu he, ?taken⟩, ?response⟩
  case taken =>
    rintro ho t ht op _ h hop rfl hh
    obtain rfl : t = rung f n buf s := ht
    rw [exec_mbxDoorbell_taken hf hn hu he ho hop hh]
    refine ⟨fun h1 => ?_, fun h1 => ⟨fun h2 => ?_, fun h2 => ⟨fun h3 => ?_, fun h3 => ⟨fun h4 => ?_, fun h4 =>
      ⟨fun h5 => ?_, fun h5 => ?_⟩⟩⟩⟩⟩
    · rw [if_pos h1]
      rfl
    · simp [h1, h2]
    · simp [h1, h2, h3]
    · simp [h1, h2, h3, h4]
    · simp [h1, h2, h3, h4, h5]
    · simp [h1, h2, h3, h4, h5]
  case response =>
    intro f n a r s _
    have hbox := mailboxOf_respond f n a r s
    simp only [mailboxOf, Prod.mk.injEq] at hbox
    obtain ⟨hseq, hdone, hout⟩ := hbox
    exact ⟨hseq, hdone, hout, fun g hg => fnOf_respond_ne hg n a r s, respond_out f n a r s, by simp, by simp, by simp,
      by simp, by simp, by simp⟩

end Sys2Proof.Machine

/-! The event controller: its modes, ring head, pending words and status bits, and the kinds that are disabled (R302 to R307). -/

namespace Sys2Proof

theorem NSet.mem_add_self (m : NSet) (n : Nat) : n ∈ NSet.add m n := by
  induction m with
  | nil => simp [NSet.add]
  | cons k r ih =>
    unfold NSet.add
    split
    · simp [*]
    · split
      · simp
      · simp [ih]

end Sys2Proof

namespace Sys2Proof.Machine

/-! ## Registers of the event controller (R302, R305 to R307) -/

theorem evcMode_of_off {r : Fn} (h : evcOff r = true) : r.evcMode ≠ 1 ∧ r.evcMode ≠ 2 := by
  simpa [evcOff] using h

theorem okFn_and_okWord {f v : Nat} (hf : f < 64) (hv : v < 2 ^ 32) : (okFn f && okWord v) = true := by
  rw [okFn, okWord, decide_eq_true hf, decide_eq_true hv, Bool.and_self]

theorem exec_evcModeWrite {f v : Nat} (hf : f < 64) (hv : v < 2 ^ 32) (s : State) :
    exec (.evcModeWrite f v) s = .next (evcModeWriteEff f v s) :=
  checked_ok (okFn_and_okWord hf hv) s _

section Evc
variable {f v : Nat} {s : State} (hf : f < 64) (hu : hostUp s = true) (he : fnExists s f = true)
include hf hu he

section Mode
variable (hv : v < 2 ^ 32)
include hv

/-- PENDING and QUEUE do not follow one another: the write is an error (R302). -/
theorem exec_evcModeWrite_error (h : (fnOf s f).evcMode = 1 ∧ v % 4 = 2 ∨ (fnOf s f).evcMode = 2 ∧ v % 4 = 1) :
    exec (.evcModeWrite f v) s = .next (setFn f { fnOf s f with modeError := true } s) := by
  rw [exec_evcModeWrite hf hv]
  rcases h with ⟨hr, hm⟩ | ⟨hr, hm⟩
  · simp [evcModeWriteEff, hu, he, hr, hm]
  · simp [evcModeWriteEff, hu, he, hr, hm]

theorem exec_evcModeWrite_off {m : Nat} (hon : evcOff (fnOf s f) = false) (hm : m = 0 ∨ m = 3) (hvm : v % 4 = m) :
    exec (.evcModeWrite f v) s = .next (setFn f (enterOff m { fnOf s f with ringVector := bits v 14 8 })
      (setFn f { fnOf s f with ringVector := bits v 14 8 } s)) := by
  rw [exec_evcModeWrite hf hv]
  rcases hm with rfl | rfl
  · have hne : 0 ≠ (fnOf s f).evcMode := fun h => by simp [evcOff, ← h] at hon
    simp [evcModeWriteEff, updFn, hu, he, hvm, hne, hon]
  · have hne : 3 ≠ (fnOf s f).evcMode := fun h => by simp [evcOff, ← h] at hon
    simp [evcModeWriteEff, updFn, hu, he, hvm, hne, hon]

theorem exec_evcModeWrite_queue (hoff : evcOff (fnOf s f) = true) (hm : v % 4 = 2) :
    exec (.evcModeWrite f v) s = .next (enterQueue f (setFn f { fnOf s f with ringVector := bits v 14 8 } s)) := by
  obtain ⟨h1, h2⟩ := evcMode_of_off hoff
  rw [exec_evcModeWrite hf hv]
  simp [evcModeWriteEff, hu, he, hm, h1, h2.symm]

theorem exec_evcModeWrite_pending (hoff : evcOff (fnOf s f) = true) (hm : v % 4 = 1) :
    exec (.evcModeWrite f v) s = .next (enterPending f (setFn f { fnOf s f with ringVector := bits v 14 8 } s)) := by
  obtain ⟨h1, h2⟩ := evcMode_of_off hoff
  rw [exec_evcModeWrite hf hv]
  simp [evcModeWriteEff, hu, he, hm, h1.symm, h2]

end Mode

/-- A write of the ring head in QUEUE, by whether the head is valid and reaches the tail. -/
theorem exec_evcRingHeadWrite (hv : v < 65536) (hq : (fnOf s f).evcMode = 2) :
    exec (.evcRingHeadWrite f v) s = .next (
      if !headValid (fnOf s f) v then setFn f { fnOf s f with headError := true } s
      else flushRing f (if v = (fnOf s f).tail then setFn f { fnOf s f with head := v } s
        else sendVector f (fnOf s f).ringVector (setFn f { fnOf s f with head := v } s))) := by
  have hv32 : v < 2 ^ 32 := by omega
  refine (checked_ok (okFn_and_okWord hf hv32) s _).trans (congrArg _ ?_)
  simp [evcRingHeadWriteEff, hu, he, hq, Nat.mod_eq_of_lt hv]

/-- Outside PENDING an acknowledgement clears its bits and takes the group out of service, and no vector goes out. -/
theorem exec_evcPendingAck {w m : Nat} (hw : w < 128) (hm : m < 2 ^ 64) (hp : (fnOf s f).evcMode ≠ 1) :
    exec (.evcPendingAck f w m) s = .next (setFn f { fnOf s f with
      pendBits := (fnOf s f).pendBits.filter (fun n => !(n / 64 == w && bit m (n % 64) == 1))
      inService := NSet.del (fnOf s f).inService w } s) := by
  have hok : (okFn f && decide (w < 128) && decide (m < 2 ^ 64)) = true := by
    simp only [okFn, hf, hw, hm, decide_true, Bool.and_self]
  refine (checked_ok hok s _).trans (congrArg _ ?_)
  simp [evcPendingAckEff, updFn, hu, he, hp]

theorem exec_evcStatusWrite (hv : v < 2 ^ 32) :
    exec (.evcStatusWrite f v) s = .next (setFn f { fnOf s f with
      modeError := keepBit (fnOf s f).modeError v 31, lost := keepBit (fnOf s f).lost v 29
      lostCount := if bit v 29 = 1 then 0 else (fnOf s f).lostCount
      restored := keepBit (fnOf s f).restored v 28, headError := keepBit (fnOf s f).headError v 27 } s) := by
  refine (checked_ok (okFn_and_okWord hf hv) s _).trans (congrArg _ ?_)
  simp [evcStatusWriteEff, updFn, hu, he]

end Evc

/-! ## Events that reach a function (R303, R305) -/

theorem deliver_disabled {g : Glint} {f : Nat} {s : State} (h : g.kind ∈ (fnOf s f).disabled) : deliver g f s = s := by
  simp [deliver, h]

/-- A glint takes one place of the log for each of its records. -/
theorem logGlint_logCount (g : Glint) (r : Fn) : (logGlint g r).logCount = r.logCount + glintSize g := by
  unfold logGlint glintRecords glintSize
  cases g.second with
  | none => rfl
  | some p => rfl

/-- Setting a pending bit leaves the log alone. -/
theorem fnOf_firePending (f src : Nat) (s : State) : (fnOf (firePending f src s) f).logCount = (fnOf s f).logCount ∧
    src ∈ (fnOf (firePending f src s) f).pendBits := by
  unfold firePending
  dsimp only
  split
  · simp [sendVector, NSet.mem_add_self]
  · simp [NSet.mem_add_self]

/-- Outside QUEUE an enabled kind is logged and its pending bit set. -/
theorem fnOf_deliver_pending {g : Glint} {f : Nat} {s : State} (h : g.kind ∉ (fnOf s f).disabled)
    (hq : (fnOf s f).evcMode ≠ 2) :
    (fnOf (deliver g f s) f).logCount = (fnOf s f).logCount + glintSize g ∧
      g.kind ∈ (fnOf (deliver g f s) f).pendBits := by
  have hmode : (logGlint g (fnOf s f)).evcMode ≠ 2 := hq
  have hfire := fnOf_firePending f g.kind (setFn f (logGlint g (fnOf s f)) s)
  rw [fnOf_setFn_self, logGlint_logCount] at hfire
  simpa [deliver, fireSource, h, hmode] using hfire

/-- Settles O53: each register by its row's cases; an event tells no function but its own, and outside QUEUE it is a log entry
and a pending bit. -/
theorem eventControl : Obligations.EventControl := by
  unfold Obligations.EventControl
  refine ⟨?registers, fun g f s => ⟨deliver_disabled, (toldOnly_deliver g f s).2.1, fnOf_deliver_pending⟩⟩
  rintro f v s hf hu he _ rfl
  refine ⟨fun hv hr hm => exec_evcModeWrite_error hf hu he hv (.inl ⟨hr, hm⟩),
    fun hv hr hm => exec_evcModeWrite_error hf hu he hv (.inr ⟨hr, hm⟩),
    fun m hv => exec_evcModeWrite_off hf hu he hv, exec_evcModeWrite_queue hf hu he, exec_evcModeWrite_pending hf hu he,
    ?headInvalid, ?headAtTail, ?headBefore, fun w m => exec_evcPendingAck hf hu he, exec_evcStatusWrite hf hu he⟩
  case headInvalid =>
    intro hv hq hh
    rw [exec_evcRingHeadWrite hf hu he hv hq, if_pos (by simp [hh])]
  case headAtTail =>
    intro hv hq hh ht
    rw [exec_evcRingHeadWrite hf hu he hv hq, if_neg (by simp [hh]), if_pos ht]
  case headBefore =>
    intro hv hq hh ht
    rw [exec_evcRingHeadWrite hf hu he hv hq, if_neg (by simp [hh]), if_neg ht]

end Sys2Proof.Machine

/-! Live firmware update, from the request to the recorded image or back to the old one (R300, R370 to R372, R514 to R516). -/

namespace Sys2Proof.Machine

/-! ## FW_UPDATE (R370 step 1) -/

theorem fwUpdateReply_accepted {a : Nat} {i : FwImage} {s : State} (ha : a % 4096 = 0) (hl : i.length ≤ 16777216)
    (hu : s.fw.update = none) : fwUpdateReply a i s = { status := syAccepted } := by
  simp [fwUpdateReply, ha, hu, Nat.not_lt.2 hl]

theorem fwUpdateReply_malformed {a : Nat} {i : FwImage} (h : a % 4096 ≠ 0 ∨ 16777216 < i.length) (s : State) :
    fwUpdateReply a i s = { status := syMalformed } := by
  simp [fwUpdateReply, h]

theorem fwUpdateReply_busy {a : Nat} {i : FwImage} {s : State} (ha : a % 4096 = 0) (hl : i.length ≤ 16777216)
    (hu : s.fw.update ≠ none) : fwUpdateReply a i s = { status := syBusy } := by
  simp [fwUpdateReply, ha, Nat.not_lt.2 hl, Option.isSome_iff_ne_none.2 hu]

/-- An update that its checks turn away is answered with what they say, and nothing has changed. -/
theorem exec_fwUpdate_turned {fn : Nat} {h : Req} {b image : List Byte} {sigsOk : Bool} {s : State} {r : Reply}
    (ha : Asked fn layFwUpdate false h b s)
    (hr : fwUpdateReply (field b 0 8) (imageOf image (field b 8 4) sigsOk) s = r) (hst : r.status ≠ syAccepted) :
    exec (.fwUpdate fn image sigsOk) s = .next (answeredWith h r s) := by
  subst hr
  exact (checked_onRequest ha).trans (congrArg _ (serveJob_turned (served_of_asked ha) hst))

/-! ## The steps of an update (R370 to R372) -/

section Update
variable {u : FwUpdate} {s : State} (hu : s.fw.update = some u)
include hu

theorem exec_fwImageVerified (h1 : u.phase = 1) : exec .fwImageVerified s = .next (
    if imageAccepted s u.img then setUpdate (some { u with phase := 2 }) s
    else requestDone u.ticket syRejected (setUpdate none s)) := by
  refine (checked_ok rfl s _).trans (congrArg _ ?_)
  simp [fwImageVerifiedEff, hu, h1]

theorem exec_fwQuietPoint (hm : mayHandOver s u = true) : exec .fwQuietPoint s = .next { s with
    fw := { s.fw with handover := true, update := some { u with phase := if u.phase = 2 then 3 else 6 } } } := by
  refine (checked_ok rfl s _).trans (congrArg _ ?_)
  simp [fwQuietPointEff, hu, hm]

theorem exec_fwHandoverDone_new (h3 : u.phase = 3) : exec .fwHandoverDone s = .next (raiseHeld { s with fw := { s.fw with
    build := u.img.build, svn := u.img.svn, header := u.img.header, prev := ⟨s.fw.build, s.fw.svn, s.fw.header⟩
    ccUpdated := [], update := some { u with phase := 4, cluster := 0 } } }) := by
  refine (checked_ok rfl s _).trans (congrArg _ ?_)
  simp [fwHandoverDoneEff, hu, h3]

theorem exec_fwHandoverDone_old (h6 : u.phase = 6) : exec .fwHandoverDone s = .next
    (requestDone u.ticket syRejected (raiseHeld { s with fw := { s.fw with
      build := s.fw.prev.build, svn := s.fw.prev.svn, header := s.fw.prev.header, update := none } })) := by
  refine (checked_ok rfl s _).trans (congrArg _ ?_)
  simp [fwHandoverDoneEff, hu, h6]

theorem exec_clusterControllerUpdate_next (h4 : u.phase = 4) (hc : u.cluster < 31) :
    exec (.clusterControllerUpdate true) s = .next { s with fw := { s.fw with
      ccUpdated := NSet.add s.fw.ccUpdated u.cluster, update := some { u with cluster := u.cluster + 1 } } } := by
  have hmore : u.cluster + 1 < 32 := Nat.succ_lt_succ hc
  refine (checked_ok rfl s _).trans (congrArg _ ?_)
  simp only [clusterControllerUpdateEff, hu, h4, if_true]
  rw [if_pos hmore]

/-- The last cluster controller that passes ends the update. -/
theorem exec_clusterControllerUpdate_last (h4 : u.phase = 4) (hc : u.cluster = 31) :
    exec (.clusterControllerUpdate true) s = .next (finishUpdate u { s with fw := { s.fw with
      ccUpdated := [], update := some { u with cluster := 32 } } }) := by
  have hnone : ¬ u.cluster + 1 < 32 := by omega
  refine (checked_ok rfl s _).trans (congrArg _ ?_)
  simp only [clusterControllerUpdateEff, hu, h4, if_true]
  rw [if_neg hnone, hc]

theorem exec_clusterControllerUpdate_fails (h4 : u.phase = 4) : exec (.clusterControllerUpdate false) s = .next
    { s with fw := { s.fw with update := some { u with phase := 5 } } } := by
  refine (checked_ok rfl s _).trans (congrArg _ ?_)
  simp [clusterControllerUpdateEff, hu, h4]

theorem exec_clusterControllerUpdate_back (h5 : u.phase = 5) (ok : Bool) : exec (.clusterControllerUpdate ok) s = .next
    { s with fw := { s.fw with ccUpdated := s.fw.ccUpdated.drop 1 } } := by
  refine (checked_ok rfl s _).trans (congrArg _ ?_)
  simp [clusterControllerUpdateEff, hu, h5]

end Update

/-- Step 3 of R370 waits for the mailboxes and for a resize. -/
theorem mayHandOver_new {u : FwUpdate} {s : State} (h2 : u.phase = 2) (hq : quiet s = true)
    (hr : ∀ e ∈ s.facets, e.2.resize = none) : mayHandOver s u = true := by
  have hnone : (s.facets.any fun e => e.2.resize.isSome) = false := by
    simpa using fun n f hm => hr (n, f) hm
  simp [mayHandOver, h2, hq, hnone]

/-- The return to the old image waits for every cluster (R372). -/
theorem mayHandOver_old {u : FwUpdate} {s : State} (h5 : u.phase = 5) (hc : s.fw.ccUpdated = []) (hq : quiet s = true) :
    mayHandOver s u = true := by
  simp [mayHandOver, h5, hq, hc]

/-- Settles O34: the request by its own checks, then each step by the phase of the update. -/
theorem firmwareUpdate : Obligations.FirmwareUpdate := by
  unfold Obligations.FirmwareUpdate
  refine ⟨?request, ?steps, fun i s => ⟨rfl, rfl, rfl, rfl, rfl⟩⟩
  case request =>
    rintro fn h b image sigsOk s _ rfl
    refine ⟨fun ha halign hlen hu => ?_, fun ha _ hbad => ?_, fun ha _ halign hlen hu => ?_⟩
    · exact checked_accepted ha rfl (fwUpdateReply_accepted halign hlen hu) ha.2.1 rfl
    · exact exec_fwUpdate_turned ha (fwUpdateReply_malformed hbad s) (by decide)
    · exact exec_fwUpdate_turned ha (fwUpdateReply_busy halign hlen hu) (by decide)
  case steps =>
    intro u s hu
    refine ⟨fun h1 hi => ?_, fun h1 hi => ?_, fun h2 hq hr => ?_, exec_fwHandoverDone_new hu,
      exec_clusterControllerUpdate_next hu, exec_clusterControllerUpdate_last hu, exec_clusterControllerUpdate_fails hu,
      exec_clusterControllerUpdate_back hu, fun h5 hc hq => ?_, exec_fwHandoverDone_old hu⟩
    · rw [exec_fwImageVerified hu h1, if_pos hi]
    · rw [exec_fwImageVerified hu h1, if_neg (by simp [hi])]
    · rw [exec_fwQuietPoint hu (mayHandOver_new h2 hq hr), if_pos h2]
    · rw [exec_fwQuietPoint hu (mayHandOver_old h5 hc hq), if_neg (by simp [h5])]

end Sys2Proof.Machine

/-! A function reset burns nothing: each effect that it is made of leaves the fuses as they are (R378, R379, R513). -/

namespace Sys2Proof.Machine

theorem foldl_fuses {α : Type} {g : State → α → State} (h : ∀ t a, (g t a).fuses = t.fuses) (l : List α) (s : State) :
    (l.foldl g s).fuses = s.fuses :=
  foldl_frame State.fuses h l s

theorem forAll_fuses {g : Nat → State → State} (h : ∀ n t, (g n t).fuses = t.fuses) (l : List Nat) (s : State) :
    (forAll l g s).fuses = s.fuses :=
  foldl_fuses (fun t n => h n t) l s

/-! ## Records of one unit -/

@[simp] theorem updFn_fuses (f : Nat) (g : Fn → Fn) (s : State) : (updFn f g s).fuses = s.fuses := rfl
@[simp] theorem updCore_fuses (c : Nat) (g : Core → Core) (s : State) : (updCore c g s).fuses = s.fuses := rfl
@[simp] theorem updEngine_fuses (e : Nat) (g : Engine → Engine) (s : State) : (updEngine e g s).fuses = s.fuses := rfl
@[simp] theorem updChan_fuses (c : Nat) (g : Chan → Chan) (s : State) : (updChan c g s).fuses = s.fuses := rfl
theorem forAll_updChan_fuses (l : List Nat) (g : Chan → Chan) (s : State) :
    (forAll l (fun c t => updChan c g t) s).fuses = s.fuses :=
  forAll_fuses (fun c t => updChan_fuses c g t) l s

@[simp] theorem updCluster_fuses (k : Nat) (g : Cluster → Cluster) (s : State) : (updCluster k g s).fuses = s.fuses := rfl
@[simp] theorem updFacet_fuses (n : Nat) (g : Facet → Facet) (s : State) : (updFacet n g s).fuses = s.fuses := rfl
@[simp] theorem updPort_fuses (p : Nat) (g : Port → Port) (s : State) : (updPort p g s).fuses = s.fuses := rfl
@[simp] theorem setSec_fuses (g : Sec → Sec) (s : State) : (setSec g s).fuses = s.fuses := rfl
@[simp] theorem setUpdate_fuses (u : Option FwUpdate) (s : State) : (setUpdate u s).fuses = s.fuses := rfl

/-! ## The memory-side cache and the cluster caches (R200 to R212, R238 to R246) -/

@[simp] theorem mscWriteBack_fuses (l : MscLine) (s : State) : (mscWriteBack l s).fuses = s.fuses := by
  unfold mscWriteBack
  split <;> simp

@[simp] theorem mscPut_fuses (mru : Bool) (l : MscLine) (s : State) : (mscPut mru l s).fuses = s.fuses := by
  unfold mscPut
  dsimp only
  split
  · simp
  · split <;> simp

@[simp] theorem degradeChan_fuses (ch cause : Nat) (s : State) : (degradeChan ch cause s).fuses = s.fuses := by
  unfold degradeChan
  dsimp only
  split <;> simp

@[simp] theorem countParity_fuses (ch : Nat) (out : LineOutcome) (s : State) :
    (countParity ch out s).fuses = s.fuses := by
  unfold countParity
  split
  · split <;> simp
  · rfl

@[simp] theorem noteFix_fuses (gl : Nat) (s : State) : (noteFix gl s).fuses = s.fuses := rfl

@[simp] theorem dramFix_fuses (gl : Nat) (out : LineOutcome) (s : State) : (dramFix gl out s).fuses = s.fuses := by
  unfold dramFix
  dsimp only
  split <;> simp

@[simp] theorem baseWrite_fuses (cls : Option Nat) (gl hint off : Nat) (data : List Byte) (keySlot : Nat)
    (out : LineOutcome) (s : State) : (baseWrite cls gl hint off data keySlot out s).fuses = s.fuses := by
  unfold baseWrite
  dsimp only
  split
  · simp
  · split <;> simp

@[simp] theorem filterClear_fuses (k gl : Nat) (s : State) : (filterClear k gl s).fuses = s.fuses := rfl

@[simp] theorem cacheDrop_fuses (k gl : Nat) (s : State) : (cacheDrop k gl s).fuses = s.fuses := rfl

@[simp] theorem countCoh_fuses (k : Nat) (g : CohCount → CohCount) (s : State) : (countCoh k g s).fuses = s.fuses := by
  unfold countCoh
  split <;> rfl

@[simp] theorem countCe_fuses (k : Nat) (l : CLine) (s : State) : (countCe k l s).fuses = s.fuses := by
  unfold countCe
  split <;> simp

@[simp] theorem poisonBack_fuses (k : Nat) (l : CLine) (s : State) : (poisonBack k l s).fuses = s.fuses := by
  simp [poisonBack]

@[simp] theorem writeBackLine_fuses (k : Nat) (l : CLine) (s : State) : (writeBackLine k l s).fuses = s.fuses := by
  unfold writeBackLine
  split <;> simp

@[simp] theorem surrender_fuses (k gl : Nat) (s : State) : (surrender k gl s).fuses = s.fuses := by
  unfold surrender
  split
  · simp
  · split <;> simp

@[simp] theorem invalidateAll_fuses (gl : Nat) (s : State) : (invalidateAll gl s).fuses = s.fuses := by
  unfold invalidateAll
  split
  · rfl
  · simp [foldl_fuses]

@[simp] theorem flushCluster_fuses (k : Nat) (chans : NSet) (s : State) : (flushCluster k chans s).fuses = s.fuses := by
  simp [flushCluster, foldl_fuses]

@[simp] theorem flushChan_fuses (ch : Nat) (s : State) : (flushChan ch s).fuses = s.fuses := by
  simp [flushChan, foldl_fuses]

@[simp] theorem zeroChan_fuses (ch after : Nat) (s : State) : (zeroChan ch after s).fuses = s.fuses := by
  simp [zeroChan]

/-! ## Cores, prism trees and queues that a facet gives up (R158, R174, R315) -/

@[simp] theorem clearCore_fuses (c : Nat) (s : State) : (clearCore c s).fuses = s.fuses :=
  forAll_fuses (fun e t => updEngine_fuses e _ t) _ _

@[simp] theorem spoilWindows_fuses (l : List Nat) (s : State) : (spoilWindows l s).fuses = s.fuses := rfl

@[simp] theorem releaseCore_fuses (c : Nat) (s : State) : (releaseCore c s).fuses = s.fuses := by
  simp [releaseCore]

@[simp] theorem leaveClusters_fuses (gone keep chans : NSet) (s : State) :
    (leaveClusters gone keep chans s).fuses = s.fuses := by
  simp [leaveClusters, forAll_fuses]

@[simp] theorem eraseTree_fuses (i : Nat) (s : State) : (eraseTree i s).fuses = s.fuses := by
  refine forAll_fuses (fun k t => ?_) _ s
  split <;> rfl

@[simp] theorem freeTrees_fuses (p : PrismTree → Bool) (s : State) : (freeTrees p s).fuses = s.fuses := by
  simp [freeTrees, foldl_fuses]

@[simp] theorem clearContext_fuses (n : Nat) (s : State) : (clearContext n s).fuses = s.fuses := by
  unfold clearContext
  split <;> rfl

@[simp] theorem freeQueueNo_fuses (n : Nat) (s : State) : (freeQueueNo n s).fuses = s.fuses := by
  unfold freeQueueNo
  split <;> rfl

@[simp] theorem dropCmds_fuses (p : Nat → Cmd → Bool) (s : State) : (dropCmds p s).fuses = s.fuses := by
  unfold dropCmds
  dsimp only
  split <;> rfl

@[simp] theorem dropChunks_fuses (cores : NSet) (s : State) : (dropChunks cores s).fuses = s.fuses := by
  refine forAll_fuses (fun k t => ?_) _ s
  split
  · split <;> rfl
  · rfl

/-! ## Requests that end (R296, R310) -/

@[simp] theorem requestDone_fuses (t : Ticket) (status : Nat) (s : State) :
    (requestDone t status s).fuses = s.fuses :=
  requestDoneOpt_fuses (some t) status s

@[simp] theorem requestCut_fuses (t : Option Ticket) (s : State) : (requestCut t s).fuses = s.fuses := by
  unfold requestCut
  split
  · rfl
  · simp [draw]

/-! ## Channels that retire, cores that fail (R98, R213, R214) -/

@[simp] theorem retireFinish_fuses (ch : Nat) (conf : Bool) (s : State) : (retireFinish ch conf s).fuses = s.fuses := by
  simp [retireFinish]

@[simp] theorem retireBegin_fuses (ch : Nat) (t : Option Ticket) (s : State) : (retireBegin ch t s).fuses = s.fuses := by
  unfold retireBegin
  dsimp only
  split
  · simp
  · split
    · split <;> simp
    · simp

@[simp] theorem retryBlocked_fuses (s : State) : (retryBlocked s).fuses = s.fuses := by
  refine forAll_fuses (fun c t => ?_) _ s
  split <;> simp

@[simp] theorem degradeFacet_fuses (n : Nat) (s : State) : (degradeFacet n s).fuses = s.fuses := by
  unfold degradeFacet
  split <;> simp

@[simp] theorem takeSpare_fuses (n c : Nat) (s : State) : (takeSpare n c s).fuses = s.fuses := by
  unfold takeSpare
  dsimp only
  rw [updFacet_fuses, forAll_fuses (fun e t => updEngine_fuses e _ t), clearCore_fuses, updCluster_fuses]

@[simp] theorem startReplace_fuses (n c : Nat) (s : State) : (startReplace n c s).fuses = s.fuses := by
  unfold startReplace
  dsimp only
  split <;> simp

@[simp] theorem spareFails_fuses (n c : Nat) (s : State) : (spareFails n c s).fuses = s.fuses := by
  unfold spareFails
  dsimp only
  split
  · simp
  · split <;> simp

@[simp] theorem coreFails_fuses (n c : Nat) (s : State) : (coreFails n c s).fuses = s.fuses := by
  unfold coreFails
  split
  · simp
  · split
    · rfl
    · split
      · simp
      · split <;> simp

@[simp] theorem nextFailure_fuses (n : Nat) (s : State) : (nextFailure n s).fuses = s.fuses := by
  unfold nextFailure
  split
  · rfl
  · split
    · rfl
    · split
      · rfl
      · split <;> simp

/-! ## Facets that end, resizes that are abandoned (R360, R380 to R383) -/

@[simp] theorem dropRekey_fuses (n : Nat) (s : State) : (dropRekey n s).fuses = s.fuses := by
  unfold dropRekey
  split <;> rfl

@[simp] theorem freeWeightSlots_fuses (l : List Nat) (s : State) : (freeWeightSlots l s).fuses = s.fuses := rfl

@[simp] theorem unloadAll_fuses (n : Nat) (s : State) : (unloadAll n s).fuses = s.fuses := by
  unfold unloadAll
  split <;> simp

@[simp] theorem destroyFacet_fuses (n : Nat) (t : Option Ticket) (s : State) : (destroyFacet n t s).fuses = s.fuses := by
  unfold destroyFacet
  split
  · rfl
  · simp [forAll_fuses, foldl_fuses]

@[simp] theorem finishResize_fuses (n : Nat) (s : State) : (finishResize n s).fuses = s.fuses := by
  unfold finishResize
  split
  · rfl
  · split
    · rfl
    · split
      · dsimp only
        split <;> simp
      · rfl

@[simp] theorem resizeOldPlacementDrainedEff_fuses (n : Nat) (s : State) :
    (resizeOldPlacementDrainedEff n s).fuses = s.fuses := by
  unfold resizeOldPlacementDrainedEff
  split
  · rfl
  · split
    · rfl
    · split
      · rfl
      · simp [freeOldTrees, forAll_fuses]

@[simp] theorem hastenResize_fuses (n : Nat) (s : State) : (hastenResize n s).fuses = s.fuses := by
  unfold hastenResize
  dsimp only
  split <;> simp [forAll_fuses]

@[simp] theorem undoResize_fuses (n : Nat) (f : Facet) (r : Resize) (s : State) :
    (undoResize n f r s).fuses = s.fuses := by
  simp [undoResize, forAll_fuses, forAll_updChan_fuses]

@[simp] theorem abandonResize_fuses (n : Nat) (s : State) : (abandonResize n s).fuses = s.fuses := by
  unfold abandonResize
  split
  · rfl
  · split
    · rfl
    · split
      · simp
      · split
        · rfl
        · dsimp only
          split <;> simp

/-! ## What a reset empties (R283, R378, R525, R546) -/

@[simp] theorem drawMemKey_fuses (slot : Nat) (s : State) : (drawMemKey slot s).fuses = s.fuses := rfl

@[simp] theorem zeroBound_fuses (n c : Nat) (s : State) : (zeroBound n c s).fuses = s.fuses := by
  unfold zeroBound
  dsimp only
  split
  · simp
  · split <;> simp

@[simp] theorem clearBound_fuses (c : Nat) (s : State) : (clearBound c s).fuses = s.fuses := by
  simp [clearBound]

@[simp] theorem emptyFacet_fuses (n : Nat) (s : State) : (emptyFacet n s).fuses = s.fuses := by
  unfold emptyFacet
  dsimp only
  split
  · simp
  · split
    · simp
    · rw [forAll_fuses (zeroBound_fuses n), forAll_fuses clearBound_fuses]
      split <;> simp

@[simp] theorem countXl_fuses (k : Nat) (g : XlCount → XlCount) (s : State) : (countXl k g s).fuses = s.fuses := by
  unfold countXl
  split <;> rfl

@[simp] theorem loseContext_fuses (n : Nat) (s : State) : (loseContext n s).fuses = s.fuses := by
  unfold loseContext
  split <;> rfl

@[simp] theorem failWaiter_fuses (st va : Nat) (w : Waiter) (s : State) : (failWaiter st va w s).fuses = s.fuses := by
  unfold failWaiter meetStatus
  split
  · rfl
  · split
    · rfl
    · split
      · rfl
      · split
        · dsimp only
          split <;> simp
        · rfl

@[simp] theorem fault_fuses (ctx va : Nat) (w : Waiter) (s : State) : (fault ctx va w s).fuses = s.fuses := by
  unfold fault
  split
  · simp
  · dsimp only
    split
    · simp
    · split
      · simp
      · split
        · simp
        · split <;> simp

@[simp] theorem retryTrackWait_fuses (s : State) : (retryTrackWait s).fuses = s.fuses := by
  simp [retryTrackWait, foldl_fuses]

@[simp] theorem beginInval_fuses (v : Inval) (s : State) : (beginInval v s).fuses = s.fuses := by
  refine foldl_fuses (fun t g => ?_) _ s
  split <;> simp

@[simp] theorem dropTranslation_fuses (fn : Nat) (s : State) : (dropTranslation fn s).fuses = s.fuses := by
  simp [dropTranslation, foldl_fuses]

@[simp] theorem dropFnKeys_fuses (fn : Nat) (s : State) : (dropFnKeys fn s).fuses = s.fuses := rfl

@[simp] theorem resetFn_fuses (fn : Nat) (s : State) : (resetFn fn s).fuses = s.fuses := by
  simp [resetFn, forAll_fuses]

/-! ## The forced quiesce and the requests of the function (R310, R379) -/

@[simp] theorem transmit_fuses (p : Nat) (f : TxFlit) (s : State) : (transmit p f s).fuses = s.fuses := rfl

@[simp] theorem drainHeldFlits_fuses (p half k : Nat) (s : State) : (drainHeldFlits p half k s).fuses = s.fuses := by
  induction k generalizing s with
  | zero => rfl
  | succ k ih =>
    unfold drainHeldFlits
    dsimp only
    split
    · rfl
    · split
      · rfl
      · simp [ih]

@[simp] theorem drainPort_fuses (p : Nat) (s : State) : (drainPort p s).fuses = s.fuses := by
  unfold drainPort drainLink
  dsimp only
  split <;> simp

@[simp] theorem dropOut_fuses (tag : Nat) (s : State) : (dropOut tag s).fuses = s.fuses := by
  unfold dropOut
  split <;> simp

@[simp] theorem abandonOut_fuses (p : VOut → Bool) (s : State) : (abandonOut p s).fuses = s.fuses := by
  simp [abandonOut, forAll_fuses]

@[simp] theorem startEclipse_fuses (n cause : Nat) (tickets : List Ticket) (limited : List Nat) (s : State) :
    (startEclipse n cause tickets limited s).fuses = s.fuses := rfl

@[simp] theorem forcedQuiesce_fuses (fn : Nat) (s : State) : (forcedQuiesce fn s).fuses = s.fuses := by
  simp [forcedQuiesce, forAll_fuses fun f t => startEclipse_fuses f 3 [] [] t]

@[simp] theorem dropJoin_fuses (n : Nat) (s : State) : (dropJoin n s).fuses = s.fuses := rfl

@[simp] theorem undoRequests_fuses (fn : Nat) (s : State) : (undoRequests fn s).fuses = s.fuses := by
  unfold undoRequests
  dsimp only
  rw [forAll_fuses (by simp [forAll_fuses]), forAll_fuses abandonResize_fuses]
  dsimp only
  split
  · split <;> rfl
  · rfl

@[simp] theorem resetFunction_fuses (fn : Nat) (s : State) : (resetFunction fn s).fuses = s.fuses := by
  unfold resetFunction
  rw [resetFn_fuses, undoRequests_fuses]
  split <;> simp

end Sys2Proof.Machine

/-! Configuration accesses, function resets, the removal of functions, and the states of a TDISP interface (R286, R311, R378 to
R380, R536). -/

namespace Sys2Proof.Machine

section Function
variable {f : Nat} {s : State} (hf : f < 64) (hu : hostUp s = true)
include hf hu

/-! ## CONFIG_SPACE_ACCESS (R286, R311) -/

section Config
variable {o v : Nat} (ho : o < 4096) (ha : o % 4 = 0) (hv : v < 2 ^ 32)
include ho ha hv

theorem exec_configSpaceAccess (w : Bool) : exec (.configSpaceAccess f w o v) s = .next (
    if !configReady s then emit (.configRetry f) s
    else if !fnExists s f then (if w then s else emit (.completion none false) s)
    else if w then configWrite f o v s
    else emit (.completion (some (toLe 4 (configRead s f o))) false) s) := by
  have hok : (okFn f && decide (o < 4096) && o % 4 == 0 && okWord v) = true := by
    simp only [okFn, okWord, hf, ho, ha, hv, decide_true, beq_self_eq_true, Bool.and_self]
  refine (checked_ok hok s _).trans (congrArg _ ?_)
  rw [configSpaceAccessEff, hu, Bool.not_true, if_neg Bool.false_ne_true]

theorem exec_configSpaceAccess_retry (hr : configReady s = false) (w : Bool) :
    exec (.configSpaceAccess f w o v) s = .next (emit (.configRetry f) s) := by
  rw [exec_configSpaceAccess hf hu ho ha hv, if_pos (by simp [hr])]

theorem exec_configSpaceAccess_served (hr : configReady s = true) (he : fnExists s f = true) (w : Bool) :
    exec (.configSpaceAccess f w o v) s = .next (
      if w then configWrite f o v s else emit (.completion (some (toLe 4 (configRead s f o))) false) s) := by
  rw [exec_configSpaceAccess hf hu ho ha hv, if_neg (by simp [hr]), if_neg (by simp [he])]

end Config

/-! ## FUNCTION_LEVEL_RESET, NUMVFS_LOWER (R378 to R380) -/

theorem exec_functionLevelReset (he : fnExists s f = true) :
    exec (.functionLevelReset f) s = .next (resetFunction f s) := by
  refine (checked_ok (decide_eq_true hf) s _).trans (congrArg _ ?_)
  simp [functionLevelResetEff, hu, he]

omit hu in
theorem exec_numvfsLower_kept (h : s.reg.numVFs ≤ f) : exec (.numvfsLower f) s = .next s := by
  refine (checked_ok (decide_eq_true hf) s _).trans (congrArg _ ?_)
  simp [numvfsLowerEff, h]

theorem exec_numvfsLower_removes (h : f < s.reg.numVFs) :
    ∃ t, exec (.numvfsLower f) s = .next t ∧ t.reg.numVFs = f := by
  refine ⟨_, checked_ok (decide_eq_true hf) s _, ?_⟩
  simp [numvfsLowerEff, hu, Nat.not_le.2 h]

/-! ## TDISP (R536) -/

section Tdisp
variable (he : fnExists s f = true)
include he

theorem exec_tdispLockInterface : exec (.tdispLockInterface f) s = .next (
    if mayLock s f then tdispSend f tdLocked (setFn f { fnOf s f with tdi := 1 } s) else tdispSend f tdError s) := by
  refine (checked_ok (decide_eq_true hf) s _).trans (congrArg _ ?_)
  simp [tdispLockInterfaceEff, updFn, hu, he]

theorem exec_tdispStartInterface : exec (.tdispStartInterface f) s = .next (
    if (fnOf s f).tdi = 1 then tdispSend f tdStarted (setFn f { fnOf s f with tdi := 2 } s)
    else tdispSend f tdError s) := by
  refine (checked_ok (decide_eq_true hf) s _).trans (congrArg _ ?_)
  simp [tdispStartInterfaceEff, updFn, hu, he]

end Tdisp

end Function

/-- A reset leaves its function a fresh record but for what R474 and R377 keep. -/
theorem fnOf_resetFunction (f : Nat) (s : State) : ∃ r, fnOf (resetFunction f s) f = freshFn r :=
  ⟨_, fnOf_setFn_self ..⟩

/-- Settles O52: an access by whether the block is ready, a reset by the fresh record that it writes last, TDISP by the state of
the interface. -/
theorem functionControl : Obligations.FunctionControl := by
  unfold Obligations.FunctionControl
  intro f s hf hu
  refine ⟨fun w o v ho ha hv hr => exec_configSpaceAccess_retry hf hu ho ha hv hr w,
    fun o v ho ha hv hr he => ⟨exec_configSpaceAccess_served hf hu ho ha hv hr he false,
      exec_configSpaceAccess_served hf hu ho ha hv hr he true⟩,
    fun he => ?reset, exec_numvfsLower_kept hf, exec_numvfsLower_removes hf hu, fun he hl => ?locks, fun he hl => ?refused,
    fun he ht => ?starts, fun he ht => ?notLocked⟩
  case reset =>
    obtain ⟨r, hr⟩ := fnOf_resetFunction f s
    refine ⟨_, exec_functionLevelReset hf hu he, ?_⟩
    rw [hr]
    exact ⟨rfl, rfl, rfl, rfl, rfl, rfl, resetFunction_fuses f s⟩
  case locks => rw [exec_tdispLockInterface hf hu he, if_pos hl]
  case refused => rw [exec_tdispLockInterface hf hu he, if_neg (by simp [hl])]
  case starts => rw [exec_tdispStartInterface hf hu he, if_pos ht]
  case notLocked => rw [exec_tdispStartInterface hf hu he, if_neg ht]

end Sys2Proof.Machine

/-! Doorbells of queues and the assignment of resident slots (R320 to R324, R470). -/

namespace Sys2Proof.Machine

/-! ## DB_SUBMIT, DB_COMP_HEAD (R320 to R322, R324) -/

section Doorbell
variable {f n v : Nat} {q : Queue} {s : State} (hf : f < 64) (hn : n < 16384) (hv : v < 65536)
  (hq : SMap.look s.queues n = some q) (hfn : q.fn = f)

theorem checked_doorbell (hf : f < 64) (hn : n < 16384) (hv : v < 65536) (act : State → State) :
    checked (okFn f && decide (n < 16384) && decide (v < 65536)) s act = .next (act s) :=
  checked_ok (by simp [okFn, hf, hn, hv]) s act

include hf hn hv hq hfn

theorem exec_dbSubmit_taken (hd : q.destroying = none) (hroom : cnt v q.completed ≤ 2 ^ q.subLog2)
    (htail : cnt v q.tail ≤ cnt v q.completed) : exec (.dbSubmit f n v) s = .next (setQueue n { q with tail := v } s) :=
  (checked_doorbell hf hn hv _).trans (congrArg _ (by simp [dbSubmitEff, hq, hfn, hd, hroom, htail]))

theorem exec_dbSubmit_overrun (hd : q.destroying = none) (hover : 2 ^ q.subLog2 < cnt v q.completed) :
    exec (.dbSubmit f n v) s = .next (raiseTo [f] evQueueOverrun f n v none (confFacet s q.facet) s) := by
  have hroom : ¬ cnt v q.completed ≤ 2 ^ q.subLog2 := Nat.not_le.2 hover
  exact (checked_doorbell hf hn hv _).trans (congrArg _ (by simp [dbSubmitEff, hq, hfn, hd, hroom, queueOverrun, b2n]))

theorem exec_dbCompHead_taken (hhead : cnt v q.compHead ≤ cnt q.completed q.compHead) :
    exec (.dbCompHead f n v) s = .next (drainRecords n q.waiting (setQueue n { q with compHead := v } s)) :=
  (checked_doorbell hf hn hv _).trans (congrArg _ (by simp [dbCompHeadEff, hq, hfn, hhead]))

theorem exec_dbCompHead_overrun (hhead : cnt q.completed q.compHead < cnt v q.compHead) :
    exec (.dbCompHead f n v) s =
      .next (raiseTo [f] evQueueOverrun f n (v + 2 ^ 63) none (confFacet s q.facet) s) := by
  have hover : ¬ cnt v q.compHead ≤ cnt q.completed q.compHead := Nat.not_le.2 hhead
  exact (checked_doorbell hf hn hv _).trans (congrArg _ (by simp [dbCompHeadEff, hq, hfn, hover, queueOverrun, b2n]))

end Doorbell

/-! ## Resident slots (R323, R470) -/

section Slots
variable {n : Nat} {s : State}

theorem exec_residentSlotAssign_free (hw : n ∈ slotWaiters s) (hr : (residents s).length < Config.residentSlots) :
    exec (.residentSlotAssign n) s = .next (giveSlot n s) :=
  (checked_ok rfl s _).trans (congrArg _ (by simp [residentSlotAssignEff, hw, hr]))

theorem exec_residentSlotAssign_idle {m : Nat} (hw : n ∈ slotWaiters s) (hr : Config.residentSlots ≤ (residents s).length)
    (hm : idleResident s = some m) : exec (.residentSlotAssign n) s = .next (giveSlot n (takeSlot m s)) :=
  (checked_ok rfl s _).trans (congrArg _ (by simp [residentSlotAssignEff, hw, Nat.not_lt.2 hr, hm]))

theorem reviewLoop_nil (next : List (Nat × Nat)) (k : Nat) (s : State) : reviewLoop next k [] s = s := by
  cases k <;> simp [reviewLoop, lowestRank]

/-- A single queue that waits takes a free slot, privileged or not. -/
theorem reviewLoop_single (next : List (Nat × Nat)) (k : Nat) (hr : (residents s).length < Config.residentSlots) :
    reviewLoop next (k + 1) [n] s = giveSlot n s := by
  cases hp : isPrivileged s n <;> simp [reviewLoop, hr, hp, lowestRank, reviewLoop_nil]

theorem exec_slotReview (next : List (Nat × Nat)) : exec (.slotReview next) s = .next (reviewLoop next 8 (slotWaiters s) s) :=
  checked_ok rfl s _

end Slots

/-- Settles O37: a doorbell by the comparison of its counts, a slot by whether one is free. -/
theorem queuesAndSlots : Obligations.QueuesAndSlots := by
  unfold Obligations.QueuesAndSlots
  refine ⟨fun f n v q s hf hn hv hq hfn => ⟨?_, ?_, ?_, ?_⟩, fun n next s => ⟨?_, ?_, ?_, ?_⟩⟩
  · exact exec_dbSubmit_taken hf hn hv hq hfn
  · exact exec_dbSubmit_overrun hf hn hv hq hfn
  · exact exec_dbCompHead_taken hf hn hv hq hfn
  · exact exec_dbCompHead_overrun hf hn hv hq hfn
  · exact exec_residentSlotAssign_free
  · exact fun m => exec_residentSlotAssign_idle
  · intro hw hr
    rw [exec_slotReview, hw, reviewLoop_single next 7 hr]
  · intro hw
    rw [exec_slotReview, hw, reviewLoop_nil]

end Sys2Proof.Machine

/-! Fetch, waits, placement and completion of the commands of a queue (R324, R329 to R348, R437, R468, R469). -/

namespace Sys2Proof.Machine

@[simp] theorem cmdOf_setCmd_self (id : Nat) (c : Cmd) (s : State) : cmdOf (setCmd id c s) id = some c :=
  look_setCmd_self s id c

theorem cmdOf_updCmd_self (id : Nat) (g : Cmd → Cmd) (s : State) : cmdOf (updCmd id g s) id = (cmdOf s id).map g :=
  SMap.look_modify_self s.cmds id g

theorem cmdOf_congr {s t : State} (h : t.cmds = s.cmds) (id : Nat) : cmdOf t id = cmdOf s id := by
  rw [cmdOf, h, cmdOf]

/-! ## COMMAND_FETCH, FENCE_REREAD, COMMAND_DEADLINE_EXPIRY (R329, R336, R341, R348) -/

/-- The command that a fetch makes of a descriptor (R329 step 1). -/
def fetchedCmd (n : Nat) (d : Desc) (q : Queue) (f : Facet) (s : State) : Cmd :=
  { queue := n, index := q.fetched, fn := q.fn, facet := q.facet, report := q.report, desc := d, clk := f.master,
    acceptedAt := ltcOf s f.master }

/-- The state in which the fetched command has its number and its place in its queue. -/
def fetched (n : Nat) (d : Desc) (q : Queue) (f : Facet) (s : State) : State :=
  setCmd s.nextCmd (fetchedCmd n d q f s)
    (setQueue n { q with fetched := (q.fetched + 1) % 65536, current := some s.nextCmd }
      (undimFacet q.facet { s with nextCmd := s.nextCmd + 1 }))

/-- A queue from which the engine may fetch a command now (R323, R329). -/
structure MayFetch (n : Nat) (q : Queue) (f : Facet) (s : State) : Prop where
  queue : SMap.look s.queues n = some q
  resident : q.resident = true
  marked : q.marked = false
  destroying : q.destroying = none
  current : q.current = none
  unfetched : 0 < unfetched q
  computeUp : computeUp s = true
  fetchStop : s.pwr.fetchStop = false
  westParked : s.pwr.westParked = false
  facet : facetOf s q.facet = some f

theorem exec_commandFetch {n : Nat} {q : Queue} {f : Facet} {s : State} (h : MayFetch n q f s) (b : List Byte) :
    exec (.commandFetch n b) s = .next (match fetchStatus s q (descOf b) with
      | some x => endUnstarted s.nextCmd x.1 x.2 (fetched n (descOf b) q f s)
      | none => checkWaits s.nextCmd (fetched n (descOf b) q f s)) := by
  obtain ⟨hq, hr, hm, hd, hc, hu, hup, hs, hw, hf⟩ := h
  have hmay : (!q.resident || q.marked || q.destroying.isSome || q.current.isSome || unfetched q == 0 || !computeUp s ||
      s.pwr.fetchStop || s.pwr.westParked) = false := by
    simp [hr, hm, hd, hc, Nat.ne_of_gt hu, hup, hs, hw]
  refine (checked_ok rfl s _).trans (congrArg _ ?_)
  simp only [commandFetchEff, hq, hmay, hf]
  rfl

section Wait
variable {id : Nat} {c : Cmd} {q : Queue} {s : State} (hc : cmdOf s id = some c)
include hc

/-- A command that waits on one fence is ready once the fence has reached its value. -/
theorem checkWaits_single (hp : c.phase = .waiting) (hr : c.ready = false) (hq : SMap.look s.queues c.queue = some q)
    (hn : c.desc.payload = .nop) (hw : c.desc.waitEn = true) {n : Nat} {t : State}
    (hread : readFence q c.desc.waitFence s = (.inl n, t)) :
    checkWaits id s = if c.desc.waitValue ≤ n then markReady id t else t := by
  simp [checkWaits, hc, hp, hr, hq, ownWait, hw, readWaits, hread, listWait, hn]

theorem exec_commandDeadlineExpiry_waiting (hd : c.desc.deadline ≠ 0) (hr : c.remote = none) (hp : c.phase = .waiting) :
    exec (.commandDeadlineExpiry id) s = .next (endUnstarted id stDeadlineMissed 0 s) :=
  (checked_ok rfl s _).trans (congrArg _ (by simp [commandDeadlineExpiryEff, hc, hd, hr, hp]))

theorem exec_commandDeadlineExpiry_running (hd : c.desc.deadline ≠ 0) (hr : c.remote = none) (hp : c.phase = .running) :
    exec (.commandDeadlineExpiry id) s = .next (setCmd id { c with late := true } s) :=
  (checked_ok rfl s _).trans (congrArg _ (by simp [commandDeadlineExpiryEff, hc, hd, hr, hp]))

end Wait

/-! ## The placement (R330, R357, R468, R469) -/

theorem setFacet_of_put_eq {n : Nat} {f : Facet} {s : State} (h : s.facets = SMap.put s.facets n f) : setFacet n f s = s := by
  rw [setFacet, ← h]

theorem exec_placementSchedule {n c : Nat} {f : Facet} {s : State} (hn : n < 64) (hf : facetOf s n = some f)
    (hheld : placementHeld s n f = false) (hrej : rejectRuns n s = s) (hch : f.chosen = none)
    (hserve : SMap.look s.serve n = none) (hrun : chooseRun s n f = some c) (hsw : needsSwitch s f c = false)
    (hput : s.facets = SMap.put s.facets n f) :
    exec (.placementSchedule n) s = .next (setFacet n { f with chosen := some c } s) := by
  have hsame : ({ f with chosen := none } : Facet) = f := by rw [← hch]
  refine (checked_ok (decide_eq_true hn) s _).trans (congrArg _ ?_)
  simp [placementScheduleEff, hf, hheld, hrej, hch, hserve, hsame, setFacet_of_put_eq hput, hrun, pickRun, hsw]

section Run
variable {id : Nat} {c : Cmd} {f : Facet} {s : State} (hc : cmdOf s id = some c) (hf : facetOf s c.facet = some f)
  (hrun : isRun c.desc.payload = true) (hch : f.chosen = some id) (hheld : placementHeld s c.facet f = false)
  (hmay : mayStartRun s id = true)
include hc hf hrun hch hheld hmay

/-- The command that the placement has chosen ends where its ladder cannot run, waits for its weights, or starts. -/
theorem exec_runSegment : exec (.runSegment id) s = .next (match ladderStatus f (ladderOf c) with
    | some st => endUnstarted id st 0 (setFacet c.facet { f with chosen := none } s)
    | none => if needsSwitch s f id then beginSwitch c.facet id (ladderOf c) s else startRun id s) := by
  have hgo : (!isRun c.desc.payload || f.chosen != some id || placementHeld s c.facet f || !mayStartRun s id) = false := by
    simp [hrun, hch, hheld, hmay]
  refine (checked_ok rfl s _).trans (congrArg _ ?_)
  simp only [runSegmentEff, hc, hf, hgo]
  rfl

end Run

theorem exec_weightSwitchDone {n id set : Nat} {f : Facet} {s : State} (hn : n < 64) (hf : facetOf s n = some f)
    (hs : f.switching = some (id, set)) (hl : f.loads = []) (he : f.eclipse = none) (hr : f.resize = none)
    (hid : id < 2 ^ 32) : exec (.weightSwitchDone n) s = .next
      (runSegmentEff id (setFacet n (addLoads [] { f with switching := none, planesSet := some set }) s)) := by
  have hcmd : ¬ 4294967296 ≤ id := Nat.not_le.2 hid
  exact (checked_ok (decide_eq_true hn) s _).trans
    (congrArg _ (by simp [weightSwitchDoneEff, hf, hs, hl, he, hr, resizeReload, hcmd]))

/-! ## What a reply, a record and a release of cores leave alone: the commands -/

/-- What each effect over a list of numbers keeps, all of them together keep. -/
theorem forAll_frame {β : Type} (p : State → β) {g : Nat → State → State} (h : ∀ n t, p (g n t) = p t) (l : List Nat)
    (s : State) : p (forAll l g s) = p s :=
  foldl_frame p (fun t n => h n t) l s

@[simp] theorem updFacet_cmds (n : Nat) (g : Facet → Facet) (s : State) : (updFacet n g s).cmds = s.cmds := rfl
@[simp] theorem updCore_cmds (n : Nat) (g : Core → Core) (s : State) : (updCore n g s).cmds = s.cmds := rfl
@[simp] theorem updCtx_cmds (n : Nat) (g : Ctx → Ctx) (s : State) : (updCtx n g s).cmds = s.cmds := rfl
@[simp] theorem updQueue_cmds (n : Nat) (g : Queue → Queue) (s : State) : (updQueue n g s).cmds = s.cmds := rfl

@[simp] theorem voxEvent_cmds (k x : Nat) (facet : Option Nat) (s : State) : (voxEvent k x facet s).cmds = s.cmds :=
  raiseTo_cmds ..

@[simp] theorem addAcct_cmds (id : Nat) (g : Acct → Acct) (s : State) : (addAcct id g s).cmds = s.cmds := by
  unfold addAcct
  split
  · rfl
  · split
    · rfl
    · cases cmdOf s id <;> rfl

@[simp] theorem chargeTxn_cmds (facet : Option Nat) (o : Option VOut) (t : Txn) (s : State) :
    (chargeTxn facet o t s).cmds = s.cmds := by
  unfold chargeTxn
  split
  · rfl
  · split
    · split <;> rfl
    · split
      · rfl
      · split
        · rfl
        · exact addAcct_cmds ..

@[simp] theorem pushFlit_cmds (p : Nat) (f : TxFlit) (s : State) : (pushFlit p f s).cmds = s.cmds := by
  unfold pushFlit
  dsimp only
  split <;> rfl

@[simp] theorem sendTxn_cmds (m : Send) (s : State) : (sendTxn m s).2.cmds = s.cmds := by
  unfold sendTxn
  dsimp only
  repeat' split
  all_goals simp [sealTxn, setLinkKey]

@[simp] theorem answerDispatch_cmds (c : Cmd) (r : Remote) (s : State) : (answerDispatch c r s).cmds = s.cmds :=
  sendTxn_cmds ..

@[simp] theorem fireSource_cmds (f src : Nat) (g : Glint) (s : State) : (fireSource f src g s).cmds = s.cmds := by
  obtain ⟨_, _, h⟩ := eventsOnly_fireSource f src g s
  rw [h]

@[simp] theorem writeRecord_cmds (n : Nat) (r : List Byte) (s : State) : (writeRecord n r s).cmds = s.cmds := by
  unfold writeRecord
  split
  · rfl
  · dsimp only
    split
    · rfl
    · exact fireSource_cmds ..

@[simp] theorem putRecord_cmds (n : Nat) (r : List Byte) (s : State) : (putRecord n r s).cmds = s.cmds := by
  unfold putRecord
  split
  · rfl
  · split
    · exact writeRecord_cmds n r s
    · rfl

@[simp] theorem freeCores_cmds (id : Nat) (cs : List Nat) (s : State) : (freeCores id cs s).cmds = s.cmds :=
  forAll_frame State.cmds (fun _ _ => updCore_cmds ..) cs s

@[simp] theorem leavePlacement_cmds (id : Nat) (c : Cmd) (s : State) : (leavePlacement id c s).cmds = s.cmds :=
  freeCores_cmds ..

@[simp] theorem countCompletion_cmds (c : Cmd) (s : State) : (countCompletion c s).cmds = s.cmds := rfl

/-! ## COMMAND_COMPLETE and the completion record (R324, R329, R334) -/

theorem SMap.look_del_self {α : Type} (m : SMap α) (n : Nat) : SMap.look (SMap.del m n) n = none :=
  SMap.look_of_lists (SMap.lists_del_self m n)

/-- Step 8 takes the command out of the table, whatever its own fence did. -/
theorem cmdOf_completeCmd (id : Nat) (s : State) : cmdOf (completeCmd id s) id = none := by
  unfold completeCmd
  dsimp only
  split
  · assumption
  · split <;> simp [cmdOf, SMap.look_del_self]

theorem endRun_of_ended {id : Nat} {c : Cmd} {s : State} (hc : cmdOf s id = some c) (hp : c.phase = .ended) : endRun id s = s := by
  simp [endRun, hc, hp]

theorem exec_commandComplete {id : Nat} {c : Cmd} {s : State} (hc : cmdOf s id = some c) (hp : c.phase = .ended) :
    exec (.commandComplete id) s = .next (completeCmd id s) :=
  (checked_ok rfl s _).trans (congrArg _ (by simp [commandCompleteEff, endRun_of_ended hc hp, hc, hp]))

section Record
variable {n : Nat} {q : Queue} {s : State} (hq : SMap.look s.queues n = some q) (r : List Byte)
include hq

theorem putRecord_written (h0 : q.source = 0) (hr : compRoom q = true) (hw : q.waiting = []) :
    (putRecord n r s).out = s.out ++
        [.hostWrite q.fn (q.compBase + 32 * (q.completed % 2 ^ q.compLog2)) (withPhase (queuePhase q) r)] ∧
      SMap.look (putRecord n r s).queues n = some { q with completed := (q.completed + 1) % 65536 } := by
  simp [putRecord, writeRecord, hq, h0, hr, hw, updFacet, setQueue, emit]

theorem putRecord_kept (hr : compRoom q = false) : (putRecord n r s).out = s.out ∧
    SMap.look (putRecord n r s).queues n = some { q with waiting := q.waiting ++ [r] } := by
  simp [putRecord, hq, hr, setQueue]

end Record

theorem recordOf_length (c : Cmd) : (recordOf c).length = 32 := by
  simp [recordOf]

/-- Settles O38: a fetch and a start by the status that its checks give, a completion by what step 8 takes away. -/
theorem commandsInOrder : Obligations.CommandsInOrder := by
  unfold Obligations.CommandsInOrder
  refine ⟨⟨?fetch, ?reread, fun id c s hc hd hr => ⟨?_, ?_⟩⟩, ⟨?_, ?run, ?_⟩, ?_, ?record, recordOf_length⟩
  case fetch =>
    rintro n b _ q f s rfl hq hr hm hd hc hu hup hs hw hf _ _ rfl rfl
    have h : MayFetch n q f s := ⟨hq, hr, hm, hd, hc, hu, hup, hs, hw, hf⟩
    refine ⟨fun hst => ?_, fun st x hst => ?_⟩
    · rw [exec_commandFetch h, hst]; rfl
    · rw [exec_commandFetch h, hst]; rfl
  case reread =>
    intro id n c q s t hc hp hr hq hn hw hread
    have hexec : exec (.fenceReread id) s = .next (checkWaits id s) := checked_ok rfl s _
    rw [hexec, checkWaits_single hc hp hr hq hn hw hread]
    exact ⟨fun h => by rw [if_pos h], fun h => by rw [if_neg (Nat.not_le.2 h)]⟩
  · exact exec_commandDeadlineExpiry_waiting hc hd hr
  · exact exec_commandDeadlineExpiry_running hc hd hr
  · exact fun n c f s => exec_placementSchedule
  case run =>
    intro id c f s hc hf hrun hch hheld hmay
    rw [exec_runSegment hc hf hrun hch hheld hmay]
    exact ⟨fun hl hs => by rw [hl, hs]; rfl, fun hl hs => by rw [hl, hs]; rfl, fun st hl => by rw [hl]⟩
  · exact fun n id set f s => exec_weightSwitchDone
  · exact fun id c s hc hp _ => ⟨exec_commandComplete hc hp, cmdOf_completeCmd id s⟩
  case record =>
    exact fun n r q s hq h0 => ⟨putRecord_written hq r h0, putRecord_kept hq r⟩

end Sys2Proof.Machine

/-! The commands that the queue engine, the cluster DMA and the invalidation unit carry out (R328, R331 to R333, R340, R342). -/

namespace Sys2Proof.Machine

/-! ## A command that starts and ends at once (R329, R334, R347) -/

/-- The record of a command past step 7 of R329. -/
def startedCmd (s : State) (c : Cmd) : Cmd := { c with phase := .running, ran := true, startedAt := ltcOf s c.clk }

theorem cmdOf_startCmd {id : Nat} {c : Cmd} {s : State} (hc : cmdOf s id = some c) :
    cmdOf (startCmd id s) id = some (startedCmd s c) := by
  rw [startCmd, cmdOf_updCmd_self, hc]
  rfl

theorem lossOf_ok (c : Cmd) : lossOf c stOk stOk = false := by
  simp [lossOf, losesContext, stOk, stTimeLimit, stMalformed, stUnmapped, stPageRequestFailed, stInvalidationAbort, stDataPoisoned,
    stMemIfFail, stComputeReset, stFunctionReset, stUnreachable, stPeerTimeout, stDeadlineMissed]

/-- A command that has met nothing and is not late ends with OK. -/
theorem finishCmd_ok {id : Nat} {c : Cmd} {s : State} (hc : cmdOf s id = some c) (hp : c.phase = .running) (hm : c.met = [])
    (hl : c.late = false) : finishCmd id s = setCmd id (decideCmd s c stOk stOk 0 true) s := by
  simp [finishCmd, hc, hp, hm, hl, combineStatus, endCmd, lossOf_ok]

/-- A command that starts and ends with OK at once changes the table of commands, and nothing else. -/
theorem finishCmd_startCmd {id : Nat} {c : Cmd} {s : State} (hc : cmdOf s id = some c) (hm : c.met = []) (hl : c.late = false) :
    finishCmd id (startCmd id s) =
      setCmd id (decideCmd (startCmd id s) (startedCmd s c) stOk stOk 0 true) (startCmd id s) :=
  finishCmd_ok (cmdOf_startCmd hc) rfl hm hl

theorem startWith_starts {id : Nat} {p : Payload → Bool} {c : Cmd} {s : State} (hc : cmdOf s id = some c)
    (hp : p c.desc.payload = true) (hs : mayStart s id = true) (act : Cmd → State → State) :
    startWith id p act s = act c (startCmd id s) := by
  simp [startWith, hc, hp, hs]

theorem phase_of_mayStart {id : Nat} {c : Cmd} {s : State} (hc : cmdOf s id = some c) (hs : mayStart s id = true) :
    c.phase = .waiting := by
  simp only [mayStart, hc, Bool.and_eq_true, beq_iff_eq] at hs
  exact hs.1.1

section Start
variable {id : Nat} {c : Cmd} {s : State} (hc : cmdOf s id = some c) (hs : mayStart s id = true)
include hc hs

theorem exec_nop (hp : c.desc.payload = .nop) : exec (.nop id) s = .next (finishCmd id (startCmd id s)) :=
  (checked_ok rfl s _).trans (congrArg _ (startWith_starts hc (by rw [hp]; rfl) hs _))

theorem exec_fenceWait (hp : isFenceWait c.desc.payload = true) :
    exec (.fenceWait id) s = .next (finishCmd id (startCmd id s)) :=
  (checked_ok rfl s _).trans (congrArg _ (startWith_starts hc hp hs _))

theorem exec_fenceSignal {q : Queue} {l : List (Nat × Nat)} (hp : c.desc.payload = .fenceSignal l)
    (hq : SMap.look s.queues c.queue = some q) :
    exec (.fenceSignal id) s = .next (finishCmd id (signalList id q l (startCmd id s))) := by
  have hqt : SMap.look (startCmd id s).queues c.queue = some q := hq
  refine (checked_ok rfl s _).trans (congrArg _ ?_)
  rw [fenceSignalEff, startWith_starts hc (by rw [hp]; rfl) hs]
  simp only [hp, hqt]

/-! ## COPY and FILL (R331) -/

/-- The state in which a transfer that starts moves its bytes. -/
def transferStarts (id : Nat) (c : Cmd) (s : State) : State := startCmd id (dmaWorks (cmdMover s id c).cluster c.facet s)

theorem runTransfer_moved {p : Payload → Bool} {move : Cmd → State → Option Stop × State} {t : State}
    (hp : p c.desc.payload = true) (hm : move c (transferStarts id c s) = (none, t)) :
    runTransfer id p move s = finishCmd id t := by
  rw [transferStarts] at hm
  simp [runTransfer, hc, hp, hs, phase_of_mayStart hc hs, hm]

theorem runTransfer_failed {p : Payload → Bool} {move : Cmd → State → Option Stop × State} {t : State} {st d : Nat}
    (hp : p c.desc.payload = true) (hm : move c (transferStarts id c s) = (some (.fail st d), t)) :
    runTransfer id p move s = finishCmd id (takeStop id (.fail st d) t) := by
  rw [transferStarts] at hm
  simp [runTransfer, hc, hp, hs, phase_of_mayStart hc hs, hm]

/-! ## SHADOW_INVALIDATE (R333) -/

section Shadow
variable {target va pages : Nat} {all : Bool} {x : Ctx} (hp : c.desc.payload = .shadowInvalidate target all va pages)
  (hx : SMap.look s.ctxs target = some x)
include hp hx

theorem exec_shadowInvalidate_taken (hfn : x.fn = c.fn) (hr : all = true ∨ 0 < pages) :
    exec (.shadowInvalidate id) s = .next
      (takeInval ⟨0, some id, c.fn, [target], false, va, pages * 65536, all, 0, []⟩ (startCmd id s)) := by
  have hrange : (!all && pages == 0) = false := by
    rcases hr with rfl | hr
    · rfl
    · simp [Nat.ne_of_gt hr]
  have hgood : (x.fn == c.fn) = true := beq_iff_eq.2 hfn
  refine (checked_ok rfl s _).trans (congrArg _ ?_)
  simp only [shadowInvalidateEff, hc, hs, hp, hx, hgood, hrange]
  rfl

theorem exec_shadowInvalidate_foreign (hfn : x.fn ≠ c.fn) :
    exec (.shadowInvalidate id) s = .next (endUnstarted id stBadHandle 0 s) :=
  (checked_ok rfl s _).trans (congrArg _ (by simp [shadowInvalidateEff, hc, hs, hp, hx, hfn]))

end Shadow

end Start

/-! ## The signal of a fence (R340, R342) -/

section Signal
variable {q : Queue} {i v n : Nat} {s t : State} (hr : readFence q i s = (.inl n, t))
include hr

theorem signalFence_raises (h : n < v) : signalFence q i v s = (.inl false,
    recheckWaits q.facet (fenceAddr q i) (faWrite (facetVia s q.facet) q.facet 0 (fenceAddr q i) (toLe 8 v) t).2) := by
  simp [signalFence, hr, h]

theorem signalFence_regress (h : v ≤ n) : signalFence q i v s = (.inl true, recheckWaits q.facet (fenceAddr q i)
    (raiseTo [q.fn] evFenceRegress q.fn i v none (confFacet t q.facet) (countRegress t))) := by
  simp [signalFence, hr, Nat.not_lt.2 h]

end Signal

theorem fillBytes_length (p n : Nat) : (fillBytes p n).length = n := by
  simp [fillBytes]

theorem fillBytes_getElem? {p n k : Nat} (h : k < n) : (fillBytes p n)[k]? = (toLe 8 p)[k % 8]? := by
  have hk : k % 8 < (toLe 8 p).length := by
    rw [toLe_length]
    exact Nat.mod_lt k (by decide)
  simp [fillBytes, h, List.getElem?_eq_getElem hk]

/-- Settles O39: the command's own payload decides what its start does, the value read decides what a signal does. -/
theorem queueCommands : Obligations.QueueCommands := by
  unfold Obligations.QueueCommands
  refine ⟨⟨?ends, fun id c q l s hc hs hp hq => exec_fenceSignal hc hs hp hq,
    fun q i v n s t hr => ⟨signalFence_raises hr, signalFence_regress hr⟩⟩, ?moves,
    fun p n k hk => ⟨fillBytes_getElem? hk, fillBytes_length p n⟩⟩
  case ends =>
    intro id c s hc hs hm hl
    refine ⟨finishCmd id (startCmd id s), decideCmd (startCmd id s) (startedCmd s c) stOk stOk 0 true, ?_⟩
    rw [finishCmd_startCmd hc hm hl]
    refine ⟨cmdOf_setCmd_self .., rfl, rfl, rfl, rfl, rfl, rfl, rfl, rfl, rfl, fun hp => ?_, fun hp => ?_⟩
    · rw [exec_nop hc hs hp, finishCmd_startCmd hc hm hl]
    · rw [exec_fenceWait hc hs hp, finishCmd_startCmd hc hm hl]
  case moves =>
    rintro id host c s _ t hc hs rfl
    refine ⟨fun hp hm => ?_, fun hp hm => ?_, fun st d hp hm => ?_, fun target all va pages x hp hx => ⟨?_, ?_⟩⟩
    · exact (checked_ok rfl s _).trans (congrArg _ (runTransfer_moved hc hs hp hm))
    · exact (checked_ok rfl s _).trans (congrArg _ (runTransfer_moved hc hs hp hm))
    · exact (checked_ok rfl s _).trans (congrArg _ (runTransfer_failed hc hs hp hm))
    · exact exec_shadowInvalidate_taken hc hs hp hx
    · exact exec_shadowInvalidate_foreign hc hs hp hx

end Sys2Proof.Machine

/-! The end of a facet: what a flush of its channels, the release of its cores and the loss of its commands change, and what they
leave alone (R158, R174, R205, R246, R368). -/

namespace Sys2Proof

/-- A map whose records all change by one function. -/
theorem SMap.look_map {α β : Type} (g : α → β) (m : SMap α) (n : Nat) :
    SMap.look (m.map fun e => (e.1, g e.2)) n = (SMap.look m n).map g := by
  induction m with
  | nil => rfl
  | cons e r ih =>
    obtain ⟨k, v⟩ := e
    by_cases h : n = k
    · simp [SMap.look, h]
    · by_cases hl : n < k <;> simp [SMap.look, h, hl, ih]

theorem SMap.mem_of_look {α : Type} {m : SMap α} {n : Nat} {x : α} (h : SMap.look m n = some x) : ∃ e ∈ m, e.2 = x := by
  induction m with
  | nil => cases h
  | cons e r ih =>
    obtain ⟨k, v⟩ := e
    unfold SMap.look at h
    split at h
    · exact ⟨(k, v), List.mem_cons_self .., Option.some.inj h⟩
    · split at h
      · cases h
      · obtain ⟨e, he, hx⟩ := ih h
        exact ⟨e, List.mem_cons_of_mem _ he, hx⟩

theorem NSet.mem_add {m : NSet} {n k : Nat} : k ∈ NSet.add m n ↔ k = n ∨ k ∈ m := by
  induction m with
  | nil => simp [NSet.add]
  | cons j r ih =>
    unfold NSet.add
    split
    · next h => subst h; simp
    · split
      · simp
      · simp only [List.mem_cons, ih]
        tauto

theorem NSet.mem_union {a : NSet} {l : List Nat} {k : Nat} : k ∈ NSet.union a l ↔ k ∈ a ∨ k ∈ l := by
  unfold NSet.union
  induction l generalizing a with
  | nil => simp
  | cons j r ih =>
    rw [List.foldl_cons, ih, NSet.mem_add, List.mem_cons]
    tauto

theorem NSet.mem_ofList {l : List Nat} {k : Nat} : k ∈ NSet.ofList l ↔ k ∈ l := by
  have h := NSet.mem_union (a := []) (l := l) (k := k)
  rwa [NSet.union, ← NSet.ofList, or_iff_right List.not_mem_nil] at h

end Sys2Proof

namespace Sys2Proof.Machine

/-! ## A flush of lines (R200 to R205, R243 to R246) -/

/-- Only the memory, its caches, the records of functions, what left the module and the notes of events differ. -/
def flushOnly (s t : State) : Prop := ∃ fns out sec fw dram lineMeta msc coh,
  t = { s with fns := fns, out := out, sec := sec, fw := fw, dram := dram, lineMeta := lineMeta, msc := msc, coh := coh }

theorem flushOnly_trans {a b c : State} (h : flushOnly a b) (g : flushOnly b c) : flushOnly a c := by
  obtain ⟨_, _, _, _, _, _, _, _, rfl⟩ := h
  obtain ⟨_, _, _, _, _, _, _, _, rfl⟩ := g
  exact ⟨_, _, _, _, _, _, _, _, rfl⟩

/-- Only the memory and its caches differ. -/
def memoryOnly (s t : State) : Prop := ∃ dram lineMeta msc, t = { s with dram := dram, lineMeta := lineMeta, msc := msc }

theorem memoryOnly_refl (s : State) : memoryOnly s s := ⟨_, _, _, rfl⟩

theorem memoryOnly_mscWriteBack (l : MscLine) (s : State) : memoryOnly s (mscWriteBack l s) := by
  unfold mscWriteBack
  split <;> exact ⟨_, _, _, rfl⟩

theorem memoryOnly_setMscSet {s t : State} (h : memoryOnly s t) (k : Nat) (l : List MscLine) : memoryOnly s (setMscSet k l t) := by
  obtain ⟨_, _, _, rfl⟩ := h
  exact ⟨_, _, _, rfl⟩

theorem memoryOnly_mscPut (mru : Bool) (l : MscLine) (s : State) : memoryOnly s (mscPut mru l s) := by
  unfold mscPut
  dsimp only
  split
  · exact memoryOnly_setMscSet (memoryOnly_refl s) _ _
  · split
    · exact memoryOnly_setMscSet (memoryOnly_refl s) _ _
    · exact memoryOnly_setMscSet (memoryOnly_mscWriteBack _ s) _ _
    · exact memoryOnly_mscWriteBack _ s

/-- A write whose transfer meets no error. -/
theorem memoryOnly_baseWrite_clean (cls : Option Nat) (gl hint off : Nat) (d : List Byte) (key : Nat) (s : State) :
    memoryOnly s (baseWrite cls gl hint off d key .clean s) := by
  unfold baseWrite
  dsimp only
  split
  · exact memoryOnly_mscPut _ _ s
  · split
    · exact memoryOnly_mscPut _ _ s
    · exact memoryOnly_mscPut _ _ s

theorem flushOnly_of_memoryOnly {s t : State} (h : memoryOnly s t) : flushOnly s t := by
  obtain ⟨_, _, _, rfl⟩ := h
  exact ⟨_, _, _, _, _, _, _, _, rfl⟩

theorem flushOnly_refl (s : State) : flushOnly s s := flushOnly_of_memoryOnly (memoryOnly_refl s)

theorem flushOnly_coh (c : Coh) (s : State) : flushOnly s { s with coh := c } := ⟨_, _, _, _, _, _, _, _, rfl⟩

theorem flushOnly_countCoh (k : Nat) (g : CohCount → CohCount) (s : State) : flushOnly s (countCoh k g s) := by
  unfold countCoh
  split
  · exact flushOnly_coh _ s
  · exact flushOnly_refl s

theorem flushOnly_raisePf0 (k su d : Nat) (b : Bool) (s : State) : flushOnly s (raisePf0 k su d b s) := by
  obtain ⟨_, _, _, _, _, h⟩ := noticeOnly_raisePf0 k su d b s
  rw [h]
  exact ⟨_, _, _, _, _, _, _, _, rfl⟩

theorem flushOnly_writeBackLine (k : Nat) (l : CLine) (s : State) : flushOnly s (writeBackLine k l s) := by
  unfold writeBackLine
  split
  · exact flushOnly_trans (flushOnly_of_memoryOnly (memoryOnly_mscPut ..))
      (flushOnly_trans (flushOnly_coh _ _) (flushOnly_raisePf0 ..))
  · refine flushOnly_trans (b := countCe k l s) ?_ (flushOnly_of_memoryOnly (memoryOnly_baseWrite_clean ..))
    unfold countCe
    split
    · exact flushOnly_countCoh ..
    · exact flushOnly_refl s

theorem flushOnly_surrender (k gl : Nat) (s : State) : flushOnly s (surrender k gl s) := by
  unfold surrender
  split
  · exact flushOnly_coh _ s
  · refine flushOnly_trans ?_ (flushOnly_trans (flushOnly_coh _ _) (flushOnly_coh _ _))
    split
    · exact flushOnly_writeBackLine ..
    · exact flushOnly_refl s

theorem flushOnly_foldl {g : State → Nat → State} (h : ∀ t n, flushOnly t (g t n)) (l : List Nat) (s : State) :
    flushOnly s (l.foldl g s) := by
  induction l generalizing s with
  | nil => exact flushOnly_refl s
  | cons n r ih => exact flushOnly_trans (h s n) (ih _)

theorem flushOnly_invalidateAll (gl : Nat) (s : State) : flushOnly s (invalidateAll gl s) := by
  unfold invalidateAll
  split
  · exact flushOnly_refl s
  · exact flushOnly_trans (flushOnly_countCoh ..) (flushOnly_foldl (fun t k => flushOnly_surrender k gl t) ..)

theorem flushOnly_flushChan (ch : Nat) (s : State) : flushOnly s (flushChan ch s) :=
  flushOnly_foldl (fun t gl => flushOnly_invalidateAll gl t) ..

/-- Zeroing a channel changes the record of the channel and what a flush may change. -/
theorem zeroChan_eq (ch after : Nat) (s : State) : ∃ t, flushOnly s t ∧
    zeroChan ch after s = setChan ch { chanOf s ch with state := 6, facet := 0, after := after } t := by
  obtain ⟨_, _, _, _, _, _, _, _, h⟩ := flushOnly_flushChan ch s
  unfold zeroChan
  rw [h]
  exact ⟨_, ⟨_, _, _, _, _, _, _, _, rfl⟩, rfl⟩

@[simp] theorem zeroChan_facets (ch after : Nat) (s : State) : (zeroChan ch after s).facets = s.facets := by
  obtain ⟨_, ⟨_, _, _, _, _, _, _, _, rfl⟩, h⟩ := zeroChan_eq ch after s
  rw [h]
  rfl

/-- Every channel of a list that is zeroed is ZEROING, and takes `after` next. -/
theorem chanOf_zeroChan (ch after j : Nat) (s : State) : chanOf (zeroChan ch after s) j =
    if j = ch then { chanOf s ch with state := 6, facet := 0, after := after } else chanOf s j := by
  obtain ⟨_, ⟨_, _, _, _, _, _, _, _, rfl⟩, h⟩ := zeroChan_eq ch after s
  rw [h]
  split
  · next he => rw [he, chanOf_setChan_self]
  · next he => rw [chanOf_setChan_ne _ _ _ _ he]; rfl

theorem chanOf_forAll_zeroChan {l : List Nat} {after c : Nat} {s : State}
    (h : c ∈ l ∨ ((chanOf s c).state = 6 ∧ (chanOf s c).after = after)) :
    (chanOf (forAll l (fun c t => zeroChan c after t) s) c).state = 6 ∧
      (chanOf (forAll l (fun c t => zeroChan c after t) s) c).after = after := by
  induction l generalizing s with
  | nil => simpa [forAll] using h
  | cons a r ih =>
    refine ih ?_
    rw [chanOf_zeroChan]
    by_cases ha : c = a
    · exact .inr (by simp [ha])
    · simpa [ha] using h

/-! ## A flush with no line lost tells no function (R252) -/

/-- No line of the cluster caches reads uncorrectable. -/
def noLineLost (s : State) : Prop := ∀ e ∈ s.coh.lines, ∀ l ∈ e.2, l.bad ≠ 2

/-- No function hears of what happens, and no line is lost by it. -/
def quietFlush (s t : State) : Prop := t.fns = s.fns ∧ (noLineLost s → noLineLost t)

theorem quietFlush_of_lines {s t : State} (hf : t.fns = s.fns) (hl : t.coh.lines = s.coh.lines) : quietFlush s t :=
  ⟨hf, fun h => by unfold noLineLost; rw [hl]; exact h⟩

theorem quietFlush_cacheDrop (k gl : Nat) (s : State) : quietFlush s (cacheDrop k gl s) := by
  refine ⟨rfl, fun h e he l hl => ?_⟩
  have hset : ∀ l ∈ cacheSet s k gl, l.bad ≠ 2 := by
    intro l hl
    unfold cacheSet SMap.getD at hl
    cases hk : SMap.look s.coh.lines (cacheKey k gl) with
    | none => simp [hk] at hl
    | some w =>
      obtain ⟨e, he, rfl⟩ := SMap.mem_of_look hk
      exact h e he l (by simpa [hk] using hl)
  unfold cacheDrop setCacheSet at he
  dsimp only at he
  split at he
  · exact h e (List.mem_filter.1 he).1 l hl
  · rcases SMap.mem_put he with rfl | he
    · exact hset l (List.mem_filter.1 hl).1
    · exact h e he l hl

theorem quietFlush_countCoh (k : Nat) (g : CohCount → CohCount) (s : State) : quietFlush s (countCoh k g s) := by
  unfold countCoh
  split <;> exact quietFlush_of_lines rfl rfl

theorem quietFlush_trans {a b c : State} (h : quietFlush a b) (g : quietFlush b c) : quietFlush a c :=
  ⟨g.1.trans h.1, fun ha => g.2 (h.2 ha)⟩

theorem quietFlush_writeBackLine (k : Nat) {l : CLine} (hl : l.bad ≠ 2) (s : State) : quietFlush s (writeBackLine k l s) := by
  rw [writeBackLine, if_neg hl]
  have hce : quietFlush s (countCe k l s) := by
    unfold countCe
    split
    · exact quietFlush_countCoh ..
    · exact quietFlush_of_lines rfl rfl
  obtain ⟨_, _, _, h⟩ := memoryOnly_baseWrite_clean (lineClass s l.gl) l.gl 0 0 l.data l.keySlot (countCe k l s)
  rw [h]
  exact quietFlush_trans hce (quietFlush_of_lines rfl rfl)

theorem quietFlush_surrender (k gl : Nat) {s : State} (hs : noLineLost s) : quietFlush s (surrender k gl s) := by
  unfold surrender
  split
  · exact quietFlush_of_lines rfl rfl
  · next l hfind =>
    have hl : l.bad ≠ 2 := by
      have hmem := List.mem_of_find?_eq_some hfind
      unfold cacheSet SMap.getD at hmem
      cases hk : SMap.look s.coh.lines (cacheKey k gl) with
      | none => simp [hk] at hmem
      | some w =>
        obtain ⟨e, he, rfl⟩ := SMap.mem_of_look hk
        exact hs e he l (by simpa [hk] using hmem)
    have hback : quietFlush s (if l.m then writeBackLine k l s else s) := by
      split
      · exact quietFlush_writeBackLine k hl s
      · exact quietFlush_of_lines rfl rfl
    exact quietFlush_trans hback (quietFlush_trans (quietFlush_cacheDrop ..) (quietFlush_of_lines rfl rfl))

theorem quietFlush_foldl {g : State → Nat → State} (h : ∀ t n, noLineLost t → quietFlush t (g t n)) (l : List Nat) {s : State}
    (hs : noLineLost s) : quietFlush s (l.foldl g s) := by
  induction l generalizing s with
  | nil => exact quietFlush_of_lines rfl rfl
  | cons n r ih => exact quietFlush_trans (h s n hs) (ih ((h s n hs).2 hs))

theorem quietFlush_invalidateAll (gl : Nat) {s : State} (hs : noLineLost s) : quietFlush s (invalidateAll gl s) := by
  unfold invalidateAll
  split
  · exact quietFlush_of_lines rfl rfl
  · exact quietFlush_trans (quietFlush_countCoh ..)
      (quietFlush_foldl (fun _ k ht => quietFlush_surrender k gl ht) _ ((quietFlush_countCoh ..).2 hs))

theorem quietFlush_zeroChan (ch after : Nat) {s : State} (hs : noLineLost s) : quietFlush s (zeroChan ch after s) :=
  quietFlush_trans (quietFlush_foldl (fun _ gl ht => quietFlush_invalidateAll gl ht) _ hs) (quietFlush_of_lines rfl rfl)

theorem forAll_zeroChan_fns (l : List Nat) (after : Nat) {s : State} (hs : noLineLost s) :
    (forAll l (fun c t => zeroChan c after t) s).fns = s.fns :=
  (quietFlush_foldl (fun _ c ht => quietFlush_zeroChan c after ht) l hs).1

/-! ## Cores and prism trees that are given up (R158, R174) -/

/-- Only cores, engines, clusters, prism trees, spoiled windows and the security store differ. -/
def releaseOnly (s t : State) : Prop := ∃ cores engines clusters prisms reg sec,
  t = { s with cores := cores, engines := engines, clusters := clusters, prisms := prisms, reg := reg, sec := sec }

theorem releaseOnly_trans {a b c : State} (h : releaseOnly a b) (g : releaseOnly b c) : releaseOnly a c := by
  obtain ⟨_, _, _, _, _, _, rfl⟩ := h
  obtain ⟨_, _, _, _, _, _, rfl⟩ := g
  exact ⟨_, _, _, _, _, _, rfl⟩

theorem releaseOnly_refl (s : State) : releaseOnly s s := ⟨_, _, _, _, _, _, rfl⟩

theorem releaseOnly_foldl {α : Type} {g : State → α → State} (h : ∀ t a, releaseOnly t (g t a)) (l : List α) (s : State) :
    releaseOnly s (l.foldl g s) := by
  induction l generalizing s with
  | nil => exact releaseOnly_refl s
  | cons a r ih => exact releaseOnly_trans (h s a) (ih _)

theorem releaseOnly_spoilWindows (l : List Nat) (s : State) : releaseOnly s (spoilWindows l s) := ⟨_, _, _, _, _, _, rfl⟩

theorem releaseOnly_updCore (c : Nat) (g : Core → Core) (s : State) : releaseOnly s (updCore c g s) := ⟨_, _, _, _, _, _, rfl⟩

theorem releaseOnly_updEngine (e : Nat) (g : Engine → Engine) (s : State) : releaseOnly s (updEngine e g s) :=
  ⟨_, _, _, _, _, _, rfl⟩

theorem releaseOnly_clearCore (c : Nat) (s : State) : releaseOnly s (clearCore c s) :=
  releaseOnly_trans (releaseOnly_updCore ..) (releaseOnly_foldl (fun _ _ => releaseOnly_updEngine ..) ..)

theorem releaseOnly_releaseCore (c : Nat) (s : State) : releaseOnly s (releaseCore c s) :=
  releaseOnly_trans (releaseOnly_trans (releaseOnly_spoilWindows ..) (releaseOnly_clearCore ..)) (releaseOnly_updCore ..)

theorem releaseOnly_eraseTree (i : Nat) (s : State) : releaseOnly s (eraseTree i s) := by
  refine releaseOnly_foldl (fun t k => ?_) _ s
  dsimp only
  split
  · exact ⟨_, _, _, _, _, _, rfl⟩
  · exact releaseOnly_refl t

theorem releaseOnly_freeTrees (p : PrismTree → Bool) (s : State) : releaseOnly s (freeTrees p s) := by
  refine releaseOnly_foldl (fun t e => ?_) _ s
  have hdel : releaseOnly t { t with prisms := SMap.del t.prisms e.1 } := ⟨_, _, _, _, _, _, rfl⟩
  exact releaseOnly_trans hdel (releaseOnly_eraseTree ..)

/-! ## FACET_DESTROY, step by step (R368) -/

/-- The record of a facet without its ladders and weight sets. -/
def unloadedFacet (n : Nat) (f : Facet) (s : State) : Facet :=
  { f with ladders := [], sets := [], planesSet := none, switching := none, loads := [], chosen := none
           used := NSet.ofList ((s.queues.filter fun e => e.2.facet == n).map (·.2.frame)) }

/-- The record of a facet that has given up what it held. -/
def endingFacet (t : Option Ticket) (f : Facet) : Facet :=
  { f with state := 4, destroying := t, resize := none, replace := none, eclipse := none, failWait := [], cores := [], map := []
           halfPorts := [], running := none, chosen := none }

theorem releaseOnly_setFacet {s t : State} (h : releaseOnly s t) (n : Nat) (f : Facet) :
    releaseOnly (setFacet n f s) (setFacet n f t) := by
  obtain ⟨_, _, _, _, _, _, rfl⟩ := h
  exact ⟨_, _, _, _, _, _, rfl⟩

theorem unloadAll_eq {n : Nat} {f : Facet} {s : State} (hf : facetOf s n = some f) :
    ∃ u, releaseOnly s u ∧ unloadAll n s = setFacet n (unloadedFacet n f s) u := by
  have hslots : releaseOnly s (freeWeightSlots (sealedSlots f) s) := ⟨_, _, _, _, _, _, rfl⟩
  refine ⟨_, releaseOnly_trans hslots (releaseOnly_freeTrees (fun t => t.facet == n) _), ?_⟩
  simp only [unloadAll, hf]
  rfl

theorem dropRekey_of_none {n : Nat} {f : Facet} {s : State} (hf : facetOf s n = some f) (hr : f.rekey = none) :
    dropRekey n s = s := by
  simp [dropRekey, hf, hr]

/-- Without an eclipse and a re-key, the destruction is the release of what the facet holds, the loss of its commands and the
zero-fill of its channels. -/
theorem destroyFacet_eq {n : Nat} {f : Facet} {s : State} (t : Option Ticket) (hf : facetOf s n = some f)
    (he : f.eclipse = none) (hr : f.rekey = none) :
    ∃ u, releaseOnly (setFacet n (unloadedFacet n f s) s) u ∧
      destroyFacet n t s = forAll f.channels (fun c v => zeroChan c 1 v)
        (dropCmds (fun _ c => c.facet == n) (updFacet n (endingFacet t) { u with serve := SMap.del u.serve n })) := by
  obtain ⟨v, hv, hunload⟩ := unloadAll_eq hf
  have hu := releaseOnly_trans (releaseOnly_setFacet hv n (unloadedFacet n f s))
    (releaseOnly_trans (releaseOnly_spoilWindows (portMasters f.halfPorts) _)
      (releaseOnly_foldl (fun w c => releaseOnly_releaseCore c w) f.cores _))
  refine ⟨_, hu, ?_⟩
  obtain ⟨_, _, _, _, _, _, hw⟩ := hu
  have hkeeps : dropRekey n (forAll f.cores releaseCore (spoilWindows (portMasters f.halfPorts) (unloadAll n s))) =
      forAll f.cores releaseCore (spoilWindows (portMasters f.halfPorts) (unloadAll n s)) := by
    refine dropRekey_of_none (f := unloadedFacet n f s) ?_ hr
    rw [hunload, forAll, hw]
    exact look_setFacet_self ..
  simp only [destroyFacet, hf, he, Option.map_none, Option.getD_none, List.foldl_nil, hkeeps]
  rw [hunload]
  rfl

/-- The end of commands in a facet's record: a command that is gone is not chosen. -/
def unchosen (gone : List Nat) (f : Facet) : Facet :=
  match f.chosen with
  | some c => if gone.contains c then { f with chosen := none } else f
  | none => f

theorem dropCmds_facets (p : Nat → Cmd → Bool) (s : State) : (dropCmds p s).facets =
    s.facets.map fun e => (e.1, unchosen ((s.cmds.filter fun e => p e.1 e.2).map (·.1)) e.2) := by
  unfold dropCmds
  dsimp only
  split <;> rfl

theorem dropCmds_fns_coh (p : Nat → Cmd → Bool) (s : State) : (dropCmds p s).fns = s.fns ∧ (dropCmds p s).coh = s.coh := by
  unfold dropCmds
  dsimp only
  split <;> exact ⟨rfl, rfl⟩

section Destroyed
variable {n : Nat} {f : Facet} {s : State} (t : Option Ticket) (hf : facetOf s n = some f)
  (he : f.eclipse = none) (hr : f.rekey = none)
include hf he hr

theorem facetOf_destroyFacet : facetOf (destroyFacet n t s) n = some (endingFacet t (unloadedFacet n f s)) := by
  obtain ⟨u, ⟨_, _, _, _, _, _, rfl⟩, h⟩ := destroyFacet_eq t hf he hr
  rw [h, facetOf, forAll_frame State.facets (fun c v => zeroChan_facets c 1 v), dropCmds_facets, SMap.look_map, updFacet,
    SMap.look_modify_self, setFacet, SMap.look_put_self]
  rfl

theorem destroyFacet_fns (hlines : noLineLost s) : (destroyFacet n t s).fns = s.fns := by
  obtain ⟨u, ⟨_, _, _, _, _, _, rfl⟩, h⟩ := destroyFacet_eq t hf he hr
  obtain ⟨hfns, hcoh⟩ := dropCmds_fns_coh (fun _ c => c.facet == n) (updFacet n (endingFacet t)
    { setFacet n (unloadedFacet n f s) s with serve := SMap.del (setFacet n (unloadedFacet n f s) s).serve n })
  rw [h, forAll_zeroChan_fns]
  · exact (dropCmds_fns_coh ..).1
  · unfold noLineLost
    rw [(dropCmds_fns_coh ..).2]
    exact hlines

theorem chanOf_destroyFacet {c : Nat} (hc : c ∈ f.channels) :
    (chanOf (destroyFacet n t s) c).state = 6 ∧ (chanOf (destroyFacet n t s) c).after = 1 := by
  obtain ⟨u, -, h⟩ := destroyFacet_eq t hf he hr
  rw [h]
  exact chanOf_forAll_zeroChan (.inl hc)

end Destroyed

/-! ## Cores and channels that a facet takes (R350, R360) -/

/-- The records of a list of units that change in a way that may be repeated. -/
theorem coreOf_forAll_updCore {g : Nat → Core → Core} (hg : ∀ c x, g c (g c x) = g c x) (l : List Nat) (s : State) (c : Nat) :
    coreOf (forAll l (fun c t => updCore c (g c) t) s) c = if c ∈ l then g c (coreOf s c) else coreOf s c := by
  induction l generalizing s with
  | nil => rfl
  | cons a r ih =>
    refine (ih (updCore a (g a) s)).trans ?_
    by_cases ha : c = a
    · subst ha; simp [hg]
    · have hne : coreOf (updCore a (g a) s) c = coreOf s c := coreOf_setCore_ne _ _ _ _ ha
      simp [ha, hne]

theorem chanOf_forAll_updChan {g : Chan → Chan} (hg : ∀ x, g (g x) = g x) (l : List Nat) (s : State) (c : Nat) :
    chanOf (forAll l (fun c t => updChan c g t) s) c = if c ∈ l then g (chanOf s c) else chanOf s c := by
  induction l generalizing s with
  | nil => rfl
  | cons a r ih =>
    refine (ih (updChan a g s)).trans ?_
    by_cases ha : c = a
    · subst ha; simp [hg]
    · have hne : chanOf (updChan a g s) c = chanOf s c := chanOf_setChan_ne _ _ _ _ ha
      simp [ha, hne]

theorem coreOf_congr {s t : State} (hc : t.cores = s.cores) (hf : t.fuses = s.fuses) (c : Nat) : coreOf t c = coreOf s c := by
  unfold coreOf coreInit isReserve reserveSlot
  rw [hc, hf]

/-- The record of a core, and of a channel, that is bound to a facet. -/
def boundCore (n : Nat) (x : Core) : Core := { x with status := 2, facet := n }
def boundChan (n : Nat) (x : Chan) : Chan := { x with state := 2, facet := n }

/-- Only the channels differ. -/
theorem bindChans_eq (n : Nat) (l : List Nat) (s : State) : ∃ x, bindChans n l s = { s with chans := x } := by
  unfold bindChans
  induction l generalizing s with
  | nil => exact ⟨_, rfl⟩
  | cons a r ih =>
    obtain ⟨x, hx⟩ := ih (updChan a (fun x => { x with state := 2, facet := n }) s)
    exact ⟨x, hx⟩

theorem bindCores_eq (n : Nat) (l : List Nat) (s : State) :
    ∃ x, bindCores n l s = { s with cores := x, reg := (spoilWindows l s).reg } := by
  unfold bindCores
  suffices h : ∀ (l : List Nat) (t : State), ∃ x,
      forAll l (fun c t => updCore c (fun x => { x with status := 2, facet := n }) t) t = { t with cores := x } from
    h l (spoilWindows l s)
  intro l
  induction l with
  | nil => exact fun t => ⟨_, rfl⟩
  | cons a r ih =>
    intro t
    obtain ⟨x, hx⟩ := ih (updCore a (fun x => { x with status := 2, facet := n }) t)
    exact ⟨x, hx⟩

theorem coreOf_bindCores (n : Nat) (l : List Nat) (s : State) (c : Nat) : coreOf (bindCores n l s) c =
    if c ∈ l then boundCore n (coreOf s c) else coreOf s c :=
  coreOf_forAll_updCore (g := fun _ => boundCore n) (fun _ _ => rfl) l (spoilWindows l s) c

theorem chanOf_bindChans (n : Nat) (l : List Nat) (s : State) (c : Nat) : chanOf (bindChans n l s) c =
    if c ∈ l then boundChan n (chanOf s c) else chanOf s c :=
  chanOf_forAll_updChan (g := boundChan n) (fun _ => rfl) l s c

/-! ## FACET_CREATE (R359, R360) -/

/-- A master's facet without a pool waits for its members with its resources bound. -/
theorem createFacet_master {b : FacetBody} (t : Ticket) (s : State) (hconf : b.confidential = false) (hm : b.member = false)
    (hn : b.memberCount ≠ 0) (hkv : b.kvBlocks = 0) : createFacet b t s =
      bindChans (lowestFrom (s.facets.map (·.1)) 0) (NSet.ofList b.channels)
        (bindCores (lowestFrom (s.facets.map (·.1)) 0) (NSet.ofList b.cores)
          (setFacet (lowestFrom (s.facets.map (·.1)) 0) (facetOfBody b t 0) (spoilWindows (portMasters b.halfPorts) s))) := by
  simp [createFacet, hconf, hm, hn, hkv]

theorem createReply_accepted {b : FacetBody} {s : State}
    (hconf : b.confidential = true → s.fuses.lcState = 3 ∧ freeMemSlot s ≤ 255) (htdi : tdiLocked s b.function = false)
    (hok : facetBodyOk b = true) (hfn : fnExists s b.function = true)
    (hopen : resourcesClosed s b.cores b.channels b.halfPorts = false) (hupd : updateBusy s = false)
    (hn : lowestFrom (s.facets.map (·.1)) 0 < 64) (hfree : resourcesFree s b.cores b.channels b.halfPorts = true)
    (hfits : poolFits s b = true) :
    createReply b s = { status := syAccepted, body := toLe 1 (lowestFrom (s.facets.map (·.1)) 0) ++ List.replicate 7 0 } := by
  have hlc : (b.confidential && s.fuses.lcState != 3) = false := by
    cases hb : b.confidential with
    | false => rfl
    | true => simp [(hconf hb).1]
  have hmem : (b.confidential && decide (255 < freeMemSlot s)) = false := by
    cases hb : b.confidential with
    | false => rfl
    | true => simp [(hconf hb).2]
  simp [createReply, hlc, htdi, hok, hfn, hopen, hupd, Nat.not_le.2 hn, hfree, hfits, hmem]

theorem exec_memberJoinTimeout {n : Nat} {f : Facet} {s : State} (hn : n < 64) (hf : facetOf s n = some f)
    (hm : f.member = true) (hst : f.state = 1) (hj : f.joined = false) :
    exec (.memberJoinTimeout n) s = .next (destroyFacet n f.destroying
      (forAll (ctxsOfFacet s n) clearContext (requestDoneOpt f.creating syNotFound
        (updFacet n (fun x => { x with creating := none }) (dropJoin n s))))) :=
  (checked_ok (decide_eq_true hn) s _).trans (congrArg _ (by simp [memberJoinTimeoutEff, hf, hm, hst, hj]))

/-! ## FACET_DESTROY: the request (R351, R368, R382) -/

/-- The work of an accepted destruction: it waits its turn, or is carried out. -/
def startDestroy (n : Nat) (k : Ticket) (t : State) : State :=
  if inTurn t n then updFacet n (fun f => { f with destroying := some k }) t else destroyFacet n (some k) t

theorem facetDestroyEff_inTurn {n : Nat} {s : State} (hret : retiring s n = false) (h : Req) : facetDestroyEff h n s =
    serveJob h opFacetDestroy true (facetDestroyReply n) (startDestroy n (ticketOf h opFacetDestroy)) s :=
  if_neg (by simp [hret])

section Destroy
variable {fn n : Nat} {h : Req} {b : List Byte} {f : Facet} {s : State} (ha : AskedJob fn layFacetDestroy true h b s)
  (hn : n = field b 0 1) (hf : facetOf s n = some f) (hret : retiring s n = false) (htdi : tdiLocked s f.fn = false)
  (hq : ∀ e ∈ s.queues, e.2.facet ≠ n) (hctx : ctxsOfFacet s n = []) (hst : f.state ≠ 4) (hd : f.destroying = none)
  (hupd : updateBusy s = false)
include ha hn hf hret htdi hq hctx hst hd hupd

/-- A destruction that is accepted starts, or waits its turn behind a creation or a resize. -/
theorem exec_facetDestroy : exec (.facetDestroy fn) s = .next
    (if f.state = 1 ∨ f.resize ≠ none then
      updFacet n (fun g => { g with destroying := some (ticketOf h opFacetDestroy) }) (taken h opFacetDestroy [] s)
    else destroyFacet n (some (ticketOf h opFacetDestroy)) (taken h opFacetDestroy [] s)) := by
  subst hn
  have hreply : facetDestroyReply (field b 0 1) s = { status := syAccepted } := by
    have hnone : (s.queues.any fun e => e.2.facet == field b 0 1) = false := by simpa using hq
    simp [facetDestroyReply, hf, htdi, hnone, hctx, hst, hd, hupd]
  refine checked_accepted ha (facetDestroyEff_inTurn hret h) hreply ha.2.1 ?_
  have hturn : inTurn (taken h opFacetDestroy [] s) (field b 0 1) = (f.state == 1 || f.resize.isSome) := by
    have hft : facetOf (taken h opFacetDestroy [] s) (field b 0 1) = some f := (facetOf_respond ..).trans hf
    simp only [inTurn, hft]
  rw [show layFacetDestroy.op = opFacetDestroy from rfl, startDestroy, hturn]
  simp [Option.isSome_iff_ne_none]

end Destroy

/-- Settles O30: the reply by its checks, the states that follow by what binding and release change. -/
theorem facetCreation : Obligations.FacetCreation := by
  unfold Obligations.FacetCreation
  refine ⟨⟨?create, ?bound, fun n f s => exec_memberJoinTimeout⟩, ?destroy, fun n f t s hf he hr => ⟨?_, ?_, ?_, ?_⟩⟩
  case create =>
    rintro fn h body _ s ha hl b rfl hconf htdi hok hfn hopen hupd rfl hn hfree hfits
    exact checked_accepted ha rfl (createReply_accepted hconf htdi hok hfn hopen hupd hn hfree hfits) (by simpa using hl) rfl
  case bound =>
    rintro b t s hconf hm hc hkv _ rfl
    rw [createFacet_master t s hconf hm hc hkv]
    generalize hn : lowestFrom (s.facets.map (·.1)) 0 = n
    obtain ⟨x, hx⟩ := bindChans_eq n (NSet.ofList b.channels) (bindCores n (NSet.ofList b.cores)
      (setFacet n (facetOfBody b t 0) (spoilWindows (portMasters b.halfPorts) s)))
    obtain ⟨y, hy⟩ := bindCores_eq n (NSet.ofList b.cores)
      (setFacet n (facetOfBody b t 0) (spoilWindows (portMasters b.halfPorts) s))
    have hcore (c : Nat) : coreOf (bindChans n (NSet.ofList b.channels) (bindCores n (NSet.ofList b.cores)
        (setFacet n (facetOfBody b t 0) (spoilWindows (portMasters b.halfPorts) s)))) c =
        if c ∈ b.cores then boundCore n (coreOf s c) else coreOf s c := by
      refine (coreOf_congr (congrArg State.cores hx) (congrArg State.fuses hx) c).trans ?_
      refine (coreOf_bindCores ..).trans ?_
      simp only [NSet.mem_ofList]
      rfl
    have hchan (c : Nat) : chanOf (bindChans n (NSet.ofList b.channels) (bindCores n (NSet.ofList b.cores)
        (setFacet n (facetOfBody b t 0) (spoilWindows (portMasters b.halfPorts) s)))) c =
        if c ∈ b.channels then boundChan n (chanOf s c) else chanOf s c := by
      rw [chanOf_bindChans, hy]
      simp only [NSet.mem_ofList]
      rfl
    refine ⟨?_, fun c hc => (hcore c).trans (if_pos hc), fun c hc => (hcore c).trans (if_neg hc),
      fun c hc => (hchan c).trans (if_pos hc), fun c hc => (hchan c).trans (if_neg hc), ?_, ?_⟩
    · rw [hx, hy]
      exact look_setFacet_self ..
    · rw [hx, hy]; rfl
    · rw [hx, hy]; rfl
  case destroy =>
    rintro fn h b f s ha n hn hf hret htdi hq hctx hst hd hupd
    rw [exec_facetDestroy ha hn hf hret htdi hq hctx hst hd hupd]
    exact ⟨fun h1 hr => by rw [if_neg (by simp [h1, hr])], fun hw => by rw [if_pos hw]⟩
  · exact ⟨_, facetOf_destroyFacet t hf he hr, rfl, rfl, rfl, rfl, rfl, rfl, rfl⟩
  · exact fun c => chanOf_destroyFacet t hf he hr
  · exact destroyFacet_fns t hf he hr
  · exact destroyFacet_fuses n t s

end Sys2Proof.Machine

/-! A resize: the request, the switch at a command boundary, the drain of the old placement and the slot moves (R362 to R366). -/

namespace Sys2Proof.Machine

/-! ## FACET_RESIZE (R362, R363) -/

/-- The units that a resize would add to a facet are not in a closed half. -/
def addsOpen (f : Facet) (b : ResizeBody) (s : State) : Prop :=
  resourcesClosed s ((NSet.ofList b.cores).filter fun c => !f.cores.contains c)
    ((NSet.ofList b.channels).filter fun c => !f.channels.contains c)
    ((NSet.ofList b.halfPorts).filter fun p => !f.halfPorts.contains p) = false

/-- They are FREE. -/
def addsFree (f : Facet) (b : ResizeBody) (s : State) : Prop :=
  resourcesFree s ((NSet.ofList b.cores).filter fun c => !f.cores.contains c)
    ((NSet.ofList b.channels).filter fun c => !f.channels.contains c)
    ((NSet.ofList b.halfPorts).filter fun p => !f.halfPorts.contains p) = true

section Reply
variable {b : ResizeBody} {f : Facet} {s : State} (hf : facetOf s b.facet = some f) (htdi : tdiLocked s f.fn = false)
  (hok : resizeOk f b = true) (hst : f.state = 2) (hr : f.resize = none) (hd : f.destroying = none)
  (hupd : updateBusy s = false) (hopen : addsOpen f b s)
include hf htdi hok hst hr hd hupd hopen

theorem resizeReply_settings (hset : settingsOnly f b = true) : resizeReply b s = { status := syOk } := by
  unfold addsOpen at hopen
  simp only [resizeReply, hf, hopen]
  simp [htdi, hok, hst, hr, hd, hupd, hset]

theorem resizeReply_accepted (hset : settingsOnly f b = false)
    (hseg : ∀ e ∈ f.ladders, SMap.has e.2.rungs (NSet.ofList b.cores).length = true) (hfree : addsFree f b s) :
    resizeReply b s = { status := syAccepted } := by
  unfold addsOpen at hopen
  unfold addsFree at hfree
  have hladders : (f.ladders.any fun e => !SMap.has e.2.rungs (NSet.ofList b.cores).length) = false := by
    simpa using hseg
  simp only [resizeReply, hf, hopen, hladders, hfree]
  simp [htdi, hok, hst, hr, hd, hupd, hset]

end Reply

section Request
variable {fn : Nat} {h : Req} {body : List Byte} {s : State} (hret : retiring s (resizeBody body).facet = false)
include hret

/-- A request that changes only settings has changed them when it is answered. -/
theorem exec_facetResize_settings (ha : Asked fn layFacetResize true h body s) (hl : 16 ≤ h.respLen)
    (hr : resizeReply (resizeBody body) s = { status := syOk }) : exec (.facetResize fn) s = .next
      (answeredWith h { status := syOk }
        (updFacet (resizeBody body).facet (applyLimits (resizeBody body)) s)) := by
  obtain ⟨hfn, hin, hgate⟩ := served_of_asked ha
  have hdue : (inHand h s && (gate h opFacetResize true s).isNone && decide (16 ≤ h.respLen) &&
      (resizeReply (resizeBody body) s).status == syOk) = true := by
    rw [show gate h opFacetResize true s = none from hgate]
    simp [hin, hl, hr]
  have hserved : Served h opFacetResize true (settleResize (resizeBody body) s) := ⟨hfn, hin, hgate⟩
  refine (checked_onRequest ha).trans (congrArg _ ?_)
  simp only [facetResizeEff, hret, hdue, Bool.false_eq_true, if_false, if_true]
  rw [serveJob_turned hserved (by simp [hr, syOk, syAccepted]), hr]
  rfl

theorem exec_facetResize_accepted (ha : AskedJob fn layFacetResize true h body s)
    (hr : resizeReply (resizeBody body) s = { status := syAccepted }) : exec (.facetResize fn) s = .next
      (beginResize (resizeBody body) (ticketOf h opFacetResize) (taken h opFacetResize [] s)) := by
  have hdue : (inHand h s && (gate h opFacetResize true s).isNone && decide (16 ≤ h.respLen) &&
      (resizeReply (resizeBody body) s).status == syOk) = false := by
    simp [hr, syOk, syAccepted]
  have heff : facetResizeEff h (resizeBody body) s = serveJob h opFacetResize true (fun _ => resizeReply (resizeBody body) s)
      (beginResize (resizeBody body) (ticketOf h opFacetResize)) s := by
    simp only [facetResizeEff, hret, hdue, Bool.false_eq_true, if_false]
  exact checked_accepted ha heff hr ha.2.1 rfl

end Request

/-! ## The steps of a resize (R363, R365, R366, R382) -/

section Steps
variable {n : Nat} {f : Facet} {r : Resize} {s : State} (hn : n < 64) (hf : facetOf s n = some f) (hr : f.resize = some r)
include hn hf hr

theorem exec_placementSwitch (hsw : r.switched = false) (hclear : uncleared s r.cores = false) (hl : f.loads = [])
    (hws : f.switching = none) (hrun : f.running = none) (he : f.eclipse = none) (hstep : stepRunning s n = false)
    (hrep : f.replace = none) : exec (.placementSwitch n) s = .next (switchPlacement n f r s) :=
  (checked_ok (decide_eq_true hn) s _).trans
    (congrArg _ (by simp [placementSwitchEff, hf, hr, hsw, hclear, hl, hws, hrun, he, hstep, hrep]))

theorem exec_resizeOldPlacementDrained (hsw : r.switched = true) (hd : r.drained = false) :
    exec (.resizeOldPlacementDrained n) s = .next (finishResize n
      (forAll r.oldChannels (fun c t => zeroChan c 1 t)
        (freeOldTrees n (setFacet n { f with
            resize := some { r with drained := true }, channels := NSet.diff f.channels r.oldChannels
            halfPorts := r.halfPorts, map := f.map.filter fun e => !r.oldChannels.contains e.2.channel }
          (forAll r.oldCores releaseCore (leaveClusters r.oldCores f.cores f.channels
            (spoilWindows (portMasters (NSet.diff f.halfPorts r.halfPorts)) s))))))) :=
  (checked_ok (decide_eq_true hn) s _).trans
    (congrArg _ (by simp [resizeOldPlacementDrainedEff, hf, hr, hsw, hd]))

theorem exec_slotMoveDone {source : Nat} (hs : source < 256) (hm : ∃ m ∈ r.moves, m.1 = source)
    (hend : moveEnded s source = true) : exec (.slotMoveDone n source) s = .next (finishResize n (zeroChan source 1
      (updFacet n (fun g => { g with
          channels := NSet.del g.channels source
          resize := some { r with moves := r.moves.filter fun m => m.1 != source } })
        (updChan source (fun c => { c with copy := none }) s)))) := by
  have hmove : (r.moves.any fun m => m.1 == source) = true := by simpa using hm
  have hres : (facetOf s n).bind (·.resize) = some r := by rw [hf]; exact hr
  refine (checked_ok (by simp [okFacet, okChan, hn, hs]) s _).trans (congrArg _ ?_)
  simp only [slotMoveDoneEff, hres, hmove, hend, Bool.and_self, if_true]

end Steps

/-- Settles O31: the request by the answer that its checks give, each step by its guard. -/
theorem facetResizing : Obligations.FacetResizing := by
  unfold Obligations.FacetResizing
  refine ⟨?request, fun n f r s => exec_placementSwitch, fun n f r s => exec_resizeOldPlacementDrained,
    fun n source f r s hn hs hf hr => exec_slotMoveDone hn hf hr hs⟩
  rintro fn h body f s ha hl _ rfl hf hret htdi hok hst hr hd hupd _ _ _ rfl rfl rfl hopen
  refine ⟨fun hset => ?_, fun hset hseg hfree hroom => ?_⟩
  · exact exec_facetResize_settings hret ha hl (resizeReply_settings hf htdi hok hst hr hd hupd hopen hset)
  · exact exec_facetResize_accepted hret ⟨ha, hl, hroom⟩
      (resizeReply_accepted hf htdi hok hst hr hd hupd hopen hset hseg hfree)

end Sys2Proof.Machine

/-! What the firmware watches in a facet: its spare core, its accounts, its slowdown and overload, and its hangs (R367, R471 to R479,
R506). -/

namespace Sys2Proof.Machine

/-! ## CORE_REPLACEMENT_DONE (R367) -/

theorem exec_coreReplacementDone {n c : Nat} {f : Facet} {r : Replace} {s : State} (hn : n < 64) (hc : c < 544)
    (hf : facetOf s n = some f) (hr : f.replace = some r) (hfail : r.failed = c) (hclear : (coreOf s r.spare).cleared = true)
    (hserv : coreInService s r.spare = true) (hloads : ∀ e ∈ f.loads, coreOfEngine (e.1 / 2) ≠ r.spare)
    (hrun : f.running = none) (hstep : stepRunning s n = false) :
    exec (.coreReplacementDone n c) s = .next (nextFailure n
      (raiseFw [0, f.fn] evFacetCoreReplaced f.fn n (c + r.spare * 2 ^ 16) none f.confidential
        (rebuildTrees n (setFacet n { substLadders c r.spare f with replace := none } s)))) := by
  have hdue : (f.loads.any fun e => coreOfEngine (e.1 / 2) == r.spare) = false := by simpa using hloads
  refine (checked_ok (by simp [okFacet, okCore, hn, hc]) s _).trans (congrArg _ ?_)
  simp only [coreReplacementDoneEff, hf, hr, hfail, hclear, hserv, hdue, hrun, hstep]
  rfl

/-! ## ACCOUNTING_PUBLISH (R471, R474) -/

/-- Show the totals of a function. -/
def publishFn (now n : Nat) (s : State) : State := updFn n (fun r => { r with published := some (fnTotals s n, now) }) s

/-- The totals of a function do not rest on what has been published of the functions. -/
theorem fnTotals_publishFn (now n m : Nat) (s : State) : fnTotals (publishFn now n s) m = fnTotals s m := by
  by_cases h : m = n
  · subst h; simp [fnTotals, publishFn, updFn]
  · simp [fnTotals, publishFn, updFn, fnOf_setFn_ne _ _ _ _ h]

theorem forAll_publishFn_frame (now : Nat) (l : List Nat) (s : State) : ∃ x, forAll l (publishFn now) s = { s with fns := x } := by
  induction l generalizing s with
  | nil => exact ⟨_, rfl⟩
  | cons a r ih =>
    obtain ⟨x, hx⟩ := ih (publishFn now a s)
    exact ⟨x, hx⟩

theorem fnTotals_forAll_publishFn (now : Nat) (l : List Nat) (m : Nat) (s : State) :
    fnTotals (forAll l (publishFn now) s) m = fnTotals s m :=
  forAll_frame (fun t => fnTotals t m) (fun n t => fnTotals_publishFn now n m t) l s

theorem published_forAll_publishFn {now f : Nat} {l : List Nat} {x : List Nat × Nat} {s : State} (hx : x = (fnTotals s f, now))
    (h : f ∈ l ∨ (fnOf s f).published = some x) : (fnOf (forAll l (publishFn now) s) f).published = some x := by
  induction l generalizing s with
  | nil => simpa [forAll] using h
  | cons a r ih =>
    refine ih (s := publishFn now a s) (by rw [fnTotals_publishFn, hx]) ?_
    by_cases ha : f = a
    · subst ha
      exact .inr (by simp [publishFn, updFn, hx])
    · have hkeep : fnOf (publishFn now a s) f = fnOf s f := fnOf_setFn_ne _ _ _ _ ha
      rw [hkeep]
      simpa [ha] using h

/-- The contexts of one kind show what they have counted. -/
def publishCtxs (conf : Bool) (s : State) : State :=
  { s with ctxs := s.ctxs.map fun e =>
      (e.1, if confFacet s e.2.facet = conf then { e.2 with published := some (e.2.acct, mcNow s) } else e.2) }

theorem exec_accountingPublish (conf : Bool) {s : State} (hd : s.pwr.dusk = false) :
    exec (.accountingPublish conf) s = .next (forAll (List.range 64) (publishFn (mcNow s)) (publishCtxs conf s)) := by
  refine (checked_ok rfl s _).trans (congrArg _ ?_)
  simp only [accountingPublishEff, hd]
  rfl

/-! ## ENERGY_RECONCILE (R506) -/

/-- Energy that the module's contexts and functions are modelled to have used in the window. -/
def modelledTotal (s : State) : Nat :=
  s.ctxs.foldl (fun a e => a + e.2.acct.modelled) (s.fns.foldl (fun a e => a + e.2.modelled) 0)

/-- A context with its part of the measured energy. -/
def reconciledCtx (measured total : Nat) (c : Ctx) : Ctx :=
  { c with acct := { c.acct with energy := c.acct.energy + attributed measured total c.acct.modelled, modelled := 0 } }

theorem look_ctxs_energyReconcileEff (m n : Nat) (s : State) : SMap.look (energyReconcileEff m s).ctxs n =
    (SMap.look s.ctxs n).map (reconciledCtx m (modelledTotal s)) :=
  SMap.look_map (reconciledCtx m (modelledTotal s)) s.ctxs n

/-! ## SLOWDOWN_WINDOW, OVERLOAD_WINDOW (R475, R477) -/

section Windows
variable {n : Nat} {f : Facet} {s : State} (hn : n < 64) (hf : facetOf s n = some f)
include hn hf

theorem exec_slowdownWindow_few (h : f.slowN < 4) : exec (.slowdownWindow n) s =
    .next (setFacet n { f with slowDur := 0, slowEst := 0, slowN := 0 } s) :=
  (checked_ok (decide_eq_true hn) s _).trans (congrArg _ (by simp [slowdownWindowEff, hf, h]))

theorem exec_slowdownWindow_fast (h : 4 ≤ f.slowN) (hr : f.slowDur * 256 ≤ s.reg.slowThr * f.slowEst) :
    exec (.slowdownWindow n) s =
      .next (setFacet n { f with slowDur := 0, slowEst := 0, slowN := 0, slowArmed := true } s) :=
  (checked_ok (decide_eq_true hn) s _).trans
    (congrArg _ (by simp [slowdownWindowEff, hf, Nat.not_lt.2 h, hr]))

theorem exec_slowdownWindow_raises (h : 4 ≤ f.slowN) (hr : s.reg.slowThr * f.slowEst < f.slowDur * 256)
    (hen : s.reg.slowEn = true) (ha : f.slowArmed = true) : exec (.slowdownWindow n) s =
      .next (raiseTo [0, f.fn] evSlowdown f.fn n
        (Nat.min 65535 (f.slowDur * 256 / Nat.max 1 f.slowEst) + Nat.min 65535 f.slowN * 2 ^ 16) none f.confidential
        (setFacet n { f with slowDur := 0, slowEst := 0, slowN := 0, slowArmed := false } s)) :=
  (checked_ok (decide_eq_true hn) s _).trans
    (congrArg _ (by simp [slowdownWindowEff, hf, Nat.not_lt.2 h, Nat.not_le.2 hr, hen, ha]))

theorem exec_slowdownWindow_told (h : 4 ≤ f.slowN) (hr : s.reg.slowThr * f.slowEst < f.slowDur * 256)
    (ha : f.slowArmed = false) : exec (.slowdownWindow n) s =
      .next (setFacet n { f with slowDur := 0, slowEst := 0, slowN := 0 } s) :=
  (checked_ok (decide_eq_true hn) s _).trans
    (congrArg _ (by simp [slowdownWindowEff, hf, Nat.not_lt.2 h, Nat.not_le.2 hr, ha]))

theorem exec_overloadWindow_within (h : f.missed * 1000 ≤ s.reg.overThr * f.checked) : exec (.overloadWindow n) s =
    .next (setFacet n { f with checked := 0, missed := 0, overRun := 0, overArmed := true } s) :=
  (checked_ok (decide_eq_true hn) s _).trans (congrArg _ (by simp [overloadWindowEff, hf, h]))

theorem exec_overloadWindow_counts (h : s.reg.overThr * f.checked < f.missed * 1000) (hr : f.overRun < 9) :
    exec (.overloadWindow n) s =
      .next (setFacet n { f with checked := 0, missed := 0, overRun := f.overRun + 1 } s) := by
  have hfew : ¬ 9 ≤ f.overRun := Nat.not_le.2 hr
  exact (checked_ok (decide_eq_true hn) s _).trans
    (congrArg _ (by simp [overloadWindowEff, hf, Nat.not_le.2 h, hfew]))

theorem exec_overloadWindow_raises (h : s.reg.overThr * f.checked < f.missed * 1000) (hr : 9 ≤ f.overRun)
    (hen : s.reg.overEn = true) (ha : f.overArmed = true) : exec (.overloadWindow n) s =
      .next (raiseTo [0, f.fn] evOverload f.fn n (f.missed * 1000 / Nat.max 1 f.checked % 65536) none f.confidential
        (setFacet n { f with checked := 0, missed := 0, overRun := f.overRun + 1, overArmed := false } s)) :=
  (checked_ok (decide_eq_true hn) s _).trans
    (congrArg _ (by simp [overloadWindowEff, hf, Nat.not_le.2 h, hr, hen, ha]))

/-! ## HANG_DETECT (R478, R479) -/

theorem exec_hangDetect_cycle {l : List Nat} (hen : s.reg.detectEn = true) (he : f.eclipse = none)
    (hl : hangCycle s f l = true) : exec (.hangDetect n l) s =
      .next (if s.reg.hangEclipse then startEclipse n 0 [] []
          (raiseTo [0, f.fn] evHang f.fn n (l.headD 0 + l.length * 2 ^ 16) none f.confidential s)
        else raiseTo [0, f.fn] evHang f.fn n (l.headD 0 + l.length * 2 ^ 16) none f.confidential s) := by
  refine (checked_ok (decide_eq_true hn) s _).trans (congrArg _ ?_)
  simp only [hangDetectEff, hf, hen, he, hl]
  rfl

theorem exec_hangDetect_none {l : List Nat} (hl : hangCycle s f l = false) : exec (.hangDetect n l) s = .next s :=
  (checked_ok (decide_eq_true hn) s _).trans (congrArg _ (by simp [hangDetectEff, hf, hl]))

end Windows

/-! ## WAIT_FOR_SNAPSHOT (R478) -/

/-- A core with what it waits on recorded. -/
def snapCore (s : State) (c : Nat) (x : Core) : Core := { x with snap := x.waitFor.map fun w => (w, waitsOn s c w) }

theorem mem_coresOfCluster {c k : Nat} : c ∈ (List.range 17).map (· + k * 17) ↔ c / 17 = k := by
  simp only [List.mem_map, List.mem_range]
  constructor
  · rintro ⟨i, hi, rfl⟩
    omega
  · rintro rfl
    exact ⟨c % 17, Nat.mod_lt _ (by decide), by omega⟩

theorem coreOf_waitForSnapshotEff (k c : Nat) (s : State) :
    coreOf (waitForSnapshotEff k s) c = if c / 17 = k then snapCore s c (coreOf s c) else coreOf s c := by
  rw [← if_congr mem_coresOfCluster rfl rfl]
  exact coreOf_forAll_updCore (g := snapCore s) (fun _ _ => rfl) _ s c

/-- Settles O44: each monitor by the comparison that it makes, the snapshot core by core. -/
theorem facetWatch : Obligations.FacetWatch := by
  unfold Obligations.FacetWatch
  refine ⟨fun n c f r s => exec_coreReplacementDone, ⟨?publish, ?dusk, ?reconcile⟩, ⟨?slow, ?overload⟩, ?snapshot, fun n l f s hn hf => exec_hangDetect_cycle hn hf,
    fun n l f s hn hf => exec_hangDetect_none hn hf⟩
  case publish =>
    intro conf s hd
    obtain ⟨x, hx⟩ := forAll_publishFn_frame (mcNow s) (List.range 64) (publishCtxs conf s)
    refine ⟨_, exec_accountingPublish conf hd, fun n c hc => ?_, fun f hf => ?_, ?_, ?_⟩
    · rw [hx]
      refine (SMap.look_map (fun x : Ctx => if confFacet s x.facet = conf then
        { x with published := some (x.acct, mcNow s) } else x) s.ctxs n).trans ?_
      rw [hc]
      rfl
    · rw [fnTotals_forAll_publishFn]
      exact published_forAll_publishFn rfl (.inl (List.mem_range.2 hf))
    · rw [hx]; rfl
    · rw [hx]; rfl
  case dusk =>
    exact fun s hd conf => (checked_ok rfl s _).trans (congrArg _ (by simp [accountingPublishEff, hd]))
  case reconcile =>
    refine fun m s => ⟨_, checked_ok rfl s _, ?_⟩
    rintro _ rfl
    refine ⟨fun n c hc => ?_, fun h0 => ?_, fun hpos hle => ?_⟩
    · rw [look_ctxs_energyReconcileEff, hc]
      rfl
    · simp only [energyReconcileEff, h0, if_true]
    · simp only [energyReconcileEff, Nat.ne_of_gt hpos, Nat.not_lt.2 hle, if_false, Nat.add_zero]
  case slow =>
    rintro n f s hn hf _ rfl
    exact ⟨exec_slowdownWindow_few hn hf, exec_slowdownWindow_fast hn hf, exec_slowdownWindow_raises hn hf,
      exec_slowdownWindow_told hn hf⟩
  case overload =>
    rintro n f s hn hf _ rfl
    exact ⟨exec_overloadWindow_within hn hf, exec_overloadWindow_counts hn hf, exec_overloadWindow_raises hn hf⟩
  case snapshot =>
    refine fun k c s hk => ⟨_, checked_ok (decide_eq_true hk) s _, fun hc => ?_, fun hc => ?_, ?_, ?_⟩
    · rw [coreOf_waitForSnapshotEff, if_pos hc]; rfl
    · rw [coreOf_waitForSnapshotEff, if_neg hc]
    · exact forAll_frame State.facets (fun c t => setCore_facets t c _) _ s
    · exact forAll_frame State.cmds (fun c t => setCore_cmds t c _) _ s

end Sys2Proof.Machine

/-! Nonces of a link key position (R405), the drafts that a step accepts (R443), and the attributed parts of a window (R506). -/

namespace Sys2Proof.Machine

/-! ## Nonces (R405) -/

/-- A nonce is spent under a key position: it has been seen, or lies beyond the receive window. -/
def nonceSpent (q : LinkPos) (n : Nat) : Prop := n ∈ q.seen ∨ n + 4096 ≤ q.high

theorem nonceOk_eq_false_iff {q : LinkPos} {n : Nat} : nonceOk q n = false ↔ nonceSpent q n := by
  simp only [nonceOk, nonceSpent, Bool.and_eq_false_iff, Bool.not_eq_false', decide_eq_false_iff_not, List.contains_iff_mem,
    Nat.not_lt]

theorem high_takeNonce (k : Nat) (q : LinkPos) : (takeNonce k q).high = Nat.max q.high k := rfl

theorem mem_seen_takeNonce {k n : Nat} {q : LinkPos} :
    n ∈ (takeNonce k q).seen ↔ (n = k ∨ n ∈ q.seen) ∧ Nat.max q.high k < n + 4096 := by
  simp [takeNonce, NSet.mem_add]

/-- The nonce that is accepted is spent from then on. -/
theorem nonceSpent_takeNonce_self (n : Nat) (q : LinkPos) : nonceSpent (takeNonce n q) n := by
  unfold nonceSpent
  rw [mem_seen_takeNonce, high_takeNonce]
  have h := Nat.lt_or_ge (Nat.max q.high n) (n + 4096)
  tauto

/-- What has been spent stays spent: the window only moves up. -/
theorem nonceSpent_takeNonce {n : Nat} {q : LinkPos} (k : Nat) (h : nonceSpent q n) : nonceSpent (takeNonce k q) n := by
  unfold nonceSpent at h ⊢
  rw [mem_seen_takeNonce, high_takeNonce]
  have hup : q.high ≤ Nat.max q.high k := Nat.le_max_left ..
  rcases h with hseen | hhigh
  · have hw := Nat.lt_or_ge (Nat.max q.high k) (n + 4096)
    tauto
  · exact .inr (Nat.le_trans hhigh hup)

/-- Taking each nonce of a list that is acceptable keeps what is spent. -/
theorem nonceSpent_foldl {n : Nat} {q : LinkPos} (l : List Nat) (h : nonceSpent q n) :
    nonceSpent (l.foldl (fun r k => if nonceOk r k then takeNonce k r else r) q) n := by
  induction l generalizing q with
  | nil => exact h
  | cons k l ih =>
    refine ih ?_
    dsimp only
    split
    · exact nonceSpent_takeNonce k h
    · exact h

/-- Settles O48: an accepted nonce is spent, and what is spent stays so. -/
theorem nonceOnce : Obligations.NonceOnce := by
  unfold Obligations.NonceOnce
  intro q n l _
  exact nonceOk_eq_false_iff.2 (nonceSpent_foldl l (nonceSpent_takeNonce_self n q))

/-! ## The walk through the draft tree (R443) -/

/-- The node at which a path of the draft tree has arrived: its last draft, or the root. -/
def pathEnd (path : List Nat) : Nat := path.getLastD 0

/-- A path of accepted drafts with the tokens emitted on it, one for each draft: every draft is a node whose parent is the draft
before it and whose token is the one emitted there. -/
structure DraftPath (nodes acc : List (Nat × Nat)) (path : List Nat) : Prop where
  length_eq : acc.length = path.length
  draft : ∀ i k, path[i]? = some k → 1 ≤ k ∧ k ≤ nodes.length ∧
    (nodes.getD (k - 1) (0, 0)).2 = (if i = 0 then 0 else path.getD (i - 1) 0) ∧
    acc[i]?.map (·.1) = some (nodes.getD (k - 1) (0, 0)).1

theorem draftPath_nil (nodes : List (Nat × Nat)) : DraftPath nodes [] [] := ⟨rfl, by simp⟩

/-- The node before the next draft of a path. -/
theorem pathEnd_eq (path : List Nat) : pathEnd path = if path.length = 0 then 0 else path.getD (path.length - 1) 0 := by
  cases path with
  | nil => rfl
  | cons a r => simp [pathEnd, List.getLastD_eq_getLast?, List.getLast?_eq_getElem?]

/-- A child of the last node that has the emitted token goes on the path. -/
theorem DraftPath.snoc {nodes acc : List (Nat × Nat)} {path : List Nat} (h : DraftPath nodes acc path) {j : Nat} {t : Nat × Nat}
    (hj : j < nodes.length) (hparent : (nodes.getD j (0, 0)).2 = pathEnd path) (htoken : (nodes.getD j (0, 0)).1 = t.1) :
    DraftPath nodes (acc ++ [t]) (path ++ [j + 1]) := by
  refine ⟨by simp [h.length_eq], fun i k hk => ?_⟩
  rcases Nat.lt_or_ge i path.length with hi | hi
  · have hold : path[i]? = some k := by rwa [List.getElem?_append_left hi] at hk
    obtain ⟨h1, h2, h3, h4⟩ := h.draft i k hold
    have hpred : (path ++ [j + 1]).getD (i - 1) 0 = path.getD (i - 1) 0 := by
      rw [List.getD_append _ _ _ _ (by omega)]
    refine ⟨h1, h2, by rw [hpred]; exact h3, ?_⟩
    rw [List.getElem?_append_left (by rw [h.length_eq]; exact hi)]
    exact h4
  · have hlen : i < (path ++ [j + 1]).length := (List.getElem?_eq_some_iff.1 hk).1
    have hi' : i = path.length := by simp at hlen; omega
    subst hi'
    have hkj : j + 1 = k := by simpa using hk
    subst hkj
    refine ⟨by omega, by omega, ?_, ?_⟩
    · rw [Nat.add_sub_cancel, hparent, pathEnd_eq]
      split
      · rfl
      · rw [List.getD_append _ _ _ _ (by omega)]
    · rw [← h.length_eq, List.getElem?_concat_length, Nat.add_sub_cancel, htoken]
      rfl

/-- What a walk gives: one token more than drafts, no more drafts than the limit, and every draft on a path from the root. -/
structure WalkResult (nodes : List (Nat × Nat)) (limit : Nat) (r : List (Nat × Nat) × List Nat) : Prop where
  length_eq : r.1.length = r.2.length + 1
  length_le : r.2.length ≤ limit
  draft : ∀ i k, r.2[i]? = some k → 1 ≤ k ∧ k ≤ nodes.length ∧
    (nodes.getD (k - 1) (0, 0)).2 = (if i = 0 then 0 else r.2.getD (i - 1) 0) ∧
    r.1[i]?.map (·.1) = some (nodes.getD (k - 1) (0, 0)).1

/-- A walk that ends emits one token after the last draft. -/
theorem DraftPath.ends {nodes acc : List (Nat × Nat)} {path : List Nat} {limit : Nat} (h : DraftPath nodes acc path)
    (hl : path.length ≤ limit) (t : Nat × Nat) : WalkResult nodes limit (acc ++ [t], path) := by
  refine ⟨by simp [h.length_eq], hl, fun i k hk => ?_⟩
  obtain ⟨h1, h2, h3, h4⟩ := h.draft i k hk
  have hi : i < acc.length := by rw [h.length_eq]; exact (List.getElem?_eq_some_iff.1 hk).1
  exact ⟨h1, h2, h3, by rw [List.getElem?_append_left hi]; exact h4⟩

theorem walkTree_result (res nodes : List (Nat × Nat)) {limit : Nat} (fuel : Nat) {acc : List (Nat × Nat)} {path : List Nat}
    (h : DraftPath nodes acc path) (hl : path.length ≤ limit) :
    WalkResult nodes limit (walkTree res nodes limit fuel (pathEnd path) acc path) := by
  induction fuel generalizing acc path with
  | zero => exact h.ends hl _
  | succ fuel ih =>
    unfold walkTree
    dsimp only
    split
    · exact h.ends hl _
    · next j hfind =>
      split
      · exact h.ends hl _
      · next hne =>
        have hj : j < nodes.length := List.mem_range.1 (List.mem_of_find?_eq_some hfind)
        have hchild := List.find?_some hfind
        simp only [Bool.and_eq_true, beq_iff_eq] at hchild
        have hnext : pathEnd (path ++ [j + 1]) = j + 1 := by simp [pathEnd]
        have hresult := ih (h.snoc hj hchild.1 hchild.2) (by simp; omega)
        rwa [hnext] at hresult

/-- Settles O41: the walk starts at the root with an empty path and keeps it a path of the draft tree. -/
theorem emittedTokens : Obligations.EmittedTokens := by
  unfold Obligations.EmittedTokens
  intro res nodes limit fuel
  obtain ⟨h1, h2, h3⟩ := walkTree_result res nodes fuel (draftPath_nil nodes) (Nat.zero_le limit)
  exact ⟨h1, h2, h3⟩

/-! ## The attributed parts of a window (R506) -/

/-- Parts rounded down are together no more than the whole rounded down. -/
theorem sum_map_mul_div_le (m t : Nat) (l : List Nat) : (l.map fun x => x * m / t).sum ≤ l.sum * m / t := by
  induction l with
  | nil => simp
  | cons x r ih =>
    calc ((x :: r).map fun x => x * m / t).sum = x * m / t + (r.map fun x => x * m / t).sum := by simp
      _ ≤ x * m / t + r.sum * m / t := Nat.add_le_add_left ih _
      _ ≤ (x * m + r.sum * m) / t := Nat.div_add_div_le_add_div ..
      _ = (x :: r).sum * m / t := by rw [List.sum_cons, Nat.add_mul]

/-- Settles O45: parts that are the modelled energies where little was modelled, and shares rounded down elsewhere. -/
theorem attributionBounded : Obligations.AttributionBounded := by
  unfold Obligations.AttributionBounded
  intro m l
  by_cases h : l.sum * 20 < m
  · have hown : attributed m l.sum = id := by
      funext x
      rw [attributed, if_pos h, id]
    rw [hown, List.map_id]
    omega
  · have hshare : attributed m l.sum = fun x => x * m / Nat.max 1 l.sum := by
      funext x
      rw [attributed, if_neg h]
    rw [hshare]
    refine (sum_map_mul_div_le m _ l).trans (Nat.div_le_of_le_mul ?_)
    exact Nat.mul_le_mul_right m (Nat.le_max_right ..)

end Sys2Proof.Machine

/-! The governor of R494: the levels that a sample leaves, and the set-points, which never stand above vmax (R494, R500). -/

namespace Sys2Proof.Machine

/-! ## Set-points within vmax -/

/-- Each half's set-point is within its vmax, and vmax is no lower than the floor of 0.60 V. -/
def mvWithin (p : Pwr) : Prop := ∀ east, halfMv p east ≤ halfVmax p east ∧ 600 ≤ halfVmax p east

theorem mvWithin_clampMv {p : Pwr} (hw : 600 ≤ p.vmaxW) (he : 600 ≤ p.vmaxE) : mvWithin (clampMv p)
  | false => ⟨Nat.min_le_right _ _, hw⟩
  | true => ⟨Nat.min_le_right _ _, he⟩

/-- Only the set-points and the two vmax count. -/
theorem mvWithin_congr {p q : Pwr} (h : mvWithin p) (hm : ∀ east, halfMv q east = halfMv p east)
    (hv : ∀ east, halfVmax q east = halfVmax p east) : mvWithin q := fun east => by
  rw [hm, hv]
  exact h east

@[simp] theorem halfMv_setHalfN (east e : Bool) (n : Nat) (p : Pwr) : halfMv (setHalfN e n p) east = halfMv p east := by
  cases e <;> rfl

@[simp] theorem halfVmax_setHalfN (east e : Bool) (n : Nat) (p : Pwr) : halfVmax (setHalfN e n p) east = halfVmax p east := by
  cases e <;> rfl

theorem mvWithin_setHalfN {p : Pwr} (h : mvWithin p) (e : Bool) (n : Nat) : mvWithin (setHalfN e n p) :=
  mvWithin_congr h (by simp) (by simp)

theorem mvWithin_setHalfMv {p : Pwr} {e : Bool} {v : Nat} (h : mvWithin p) (hv : v ≤ halfVmax p e) :
    mvWithin (setHalfMv e v p) := fun east => by
  cases e <;> cases east
  · exact ⟨hv, (h false).2⟩
  · exact h true
  · exact h false
  · exact ⟨hv, (h true).2⟩

theorem mvWithin_lowerHalf {p : Pwr} (s : State) (east : Bool) (h : mvWithin p) : mvWithin (lowerHalf s east p) := by
  obtain ⟨hle, hfloor⟩ := h east
  have hv : Nat.max 600 (halfMv p east - 25) ≤ halfVmax p east := Nat.max_le.2 ⟨hfloor, by omega⟩
  unfold lowerHalf
  split
  · exact mvWithin_setHalfMv h hv
  · exact h

/-- A half's own level goes down by one where the half is above t_soft. -/
def thermalN (s : State) (east : Bool) (p : Pwr) : Pwr :=
  if overSoft s east then setHalfN east (Nat.max 1 (halfN p east - 1)) p else p

/-- The governor's own level goes down by one where an average exceeds 97 % of its limit. -/
def lowerIssue (p : Pwr) : Pwr := { p with issue := if overPower p then Nat.max 1 (p.issue - 1) else p.issue }

theorem lowerN_eq (s : State) : lowerN s = setPwr (fun p => thermalN s true (thermalN s false (lowerIssue p))) s := rfl

theorem mvWithin_thermalN {p : Pwr} (s : State) (east : Bool) (h : mvWithin p) : mvWithin (thermalN s east p) := by
  unfold thermalN
  split
  · exact mvWithin_setHalfN h _ _
  · exact h

theorem mvWithin_lowerN {s : State} (h : mvWithin s.pwr) : mvWithin (lowerN s).pwr :=
  mvWithin_thermalN s true (mvWithin_thermalN s false (p := lowerIssue s.pwr) h)

@[simp] theorem throttleEvent_pwr (p : Pwr) (s : State) : (throttleEvent p s).pwr = s.pwr := by
  unfold throttleEvent
  dsimp only
  split
  · exact raiseFw_pwr ..
  · rfl

theorem mvWithin_lowerRails {s : State} (h : mvWithin s.pwr) : mvWithin (lowerRails s).pwr := by
  unfold lowerRails
  dsimp only
  split
  · exact h
  · split
    · exact h
    · split
      · exact h
      · exact mvWithin_lowerHalf s true (mvWithin_lowerHalf s false h)

/-- A half's own level goes up by one where its thermal row has been left. -/
def backN (east : Bool) (p : Pwr) : Pwr :=
  if halfRow p east = 0 then setHalfN east (Nat.min 16 (halfN p east + 1)) p else p

/-- The governor's own level goes up by one where both averages have been low for long enough. -/
def raiseIssue (calm : Bool) (p : Pwr) : Pwr := { p with issue := if calm then Nat.min 16 (p.issue + 1) else p.issue }

theorem raiseN_eq (calm : Bool) (p : Pwr) : raiseN calm p = backN true (backN false (raiseIssue calm p)) := rfl

theorem mvWithin_backN {p : Pwr} (east : Bool) (h : mvWithin p) : mvWithin (backN east p) := by
  unfold backN
  split
  · exact mvWithin_setHalfN h _ _
  · exact h

theorem mvWithin_raiseN {p : Pwr} (calm : Bool) (h : mvWithin p) : mvWithin (raiseN calm p) :=
  mvWithin_backN true (mvWithin_backN false (p := raiseIssue calm p) h)

/-- A half's set-point goes up by 25 mV, to vmax at most, where nothing holds the half back. -/
def upMv (s : State) (east : Bool) (p : Pwr) : Pwr :=
  if halfOn s east && !isDim p east && halfN p east = 16 then setHalfMv east (Nat.min (halfVmax p east) (halfMv p east + 25)) p
  else p

theorem raiseRails_eq (s : State) :
    raiseRails s = setPwr (fun p => upMv s true (upMv s false { p with raiseAt := mcNow s })) s := rfl

theorem mvWithin_upMv {p : Pwr} (s : State) (east : Bool) (h : mvWithin p) : mvWithin (upMv s east p) := by
  unfold upMv
  split
  · exact mvWithin_setHalfMv h (Nat.min_le_left _ _)
  · exact h

theorem mvWithin_raiseRails {s : State} (h : mvWithin s.pwr) : mvWithin (raiseRails s).pwr :=
  mvWithin_upMv s true (mvWithin_upMv s false (p := { s.pwr with raiseAt := mcNow s }) h)

theorem mvWithin_recover {s : State} (h : mvWithin s.pwr) : mvWithin (recover s).pwr := by
  unfold recover
  dsimp only
  split
  · exact mvWithin_raiseN false h
  · split
    · exact mvWithin_raiseN false h
    · split
      · exact mvWithin_raiseN false h
      · split
        · exact mvWithin_raiseRails (mvWithin_raiseN true h)
        · exact mvWithin_raiseN true h

/-- The check of the floor sets its own two fields. -/
theorem floorCheck_pwr (s : State) :
    ∃ o b, (floorCheck s).pwr = { s.pwr with overSince := o, floor := b } := by
  unfold floorCheck
  dsimp only
  split
  · exact ⟨none, s.pwr.floor, rfl⟩
  · split
    · exact ⟨some (mcNow s), s.pwr.floor, rfl⟩
    · split
      · exact ⟨s.pwr.overSince, s.pwr.floor, rfl⟩
      · exact ⟨s.pwr.overSince, true, raiseFw_pwr ..⟩

theorem mvWithin_floorCheck {s : State} (h : mvWithin s.pwr) : mvWithin (floorCheck s).pwr := by
  obtain ⟨o, b, heq⟩ := floorCheck_pwr s
  rw [heq]
  exact h

/-! ## A sample -/

theorem exec_governorSample (peak sust : Nat) (s : State) :
    exec (.governorSample peak sust) s = .next (governorSampleEff peak sust s) := rfl

/-- What a sample starts from: the averages kept, the set-points within vmax, dim ended where there is work. -/
def sampleTaken (peak sust : Nat) (s : State) : State :=
  setPwr (fun p => { clampMv p with peakAvg := peak, sustAvg := sust }) (undimBusy s)

/-- Step 2 of a sample and its event. -/
def sampleLowered (peak sust : Nat) (s : State) : State :=
  throttleEvent (sampleTaken peak sust s).pwr
    (setPwr (fun p => { p with limiting := limitingNow (sampleTaken peak sust s) }) (lowerN (sampleTaken peak sust s)))

/-- The end of a sample from the state that its steps leave: what limits now. -/
def sampleLimits (s : State) : State := setPwr (fun p => { p with limiting := limitingNow s }) s

theorem governorSampleEff_samples {s : State} (peak sust : Nat) (hm : s.pwr.mcRunning = true) (hg : s.pwr.stage = 5)
    (h2 : s.pwr.state ≠ 2) (h4 : s.pwr.state ≠ 4) (hh : s.pwr.halt = none) :
    governorSampleEff peak sust s =
      sampleLimits (floorCheck (recover (lowerRails (sampleLowered peak sust s)))) := by
  have hruns : (!s.pwr.mcRunning || s.pwr.stage != 5 || s.pwr.state == 2 || s.pwr.state == 4 || s.pwr.halt.isSome) = false := by
    simp [hm, hg, h2, h4, hh]
  simp only [governorSampleEff, hruns]
  rfl

theorem mvWithin_sampleLimits {s : State} (h : mvWithin s.pwr) : mvWithin (sampleLimits s).pwr := h

/-- Settles O36: the sample first bounds the set-points by vmax, and no step of it leaves that bound. -/
theorem setPointsWithinVmax : Obligations.SetPointsWithinVmax := by
  unfold Obligations.SetPointsWithinVmax
  intro peak sust s t hm hg h2 h4 hh hw he hex
  rw [exec_governorSample, governorSampleEff_samples peak sust hm hg h2 h4 hh] at hex
  obtain rfl := Host.Outcome.next.inj hex
  have htaken : mvWithin (sampleTaken peak sust s).pwr := mvWithin_clampMv (p := (undimBusy s).pwr) hw he
  have hlowered : mvWithin (sampleLowered peak sust s).pwr := by
    rw [sampleLowered, throttleEvent_pwr]
    exact mvWithin_lowerN htaken
  have hend := mvWithin_sampleLimits (mvWithin_floorCheck (mvWithin_recover (mvWithin_lowerRails hlowered)))
  exact ⟨(hend false).1, (hend true).1⟩

end Sys2Proof.Machine

/-! Power limits, dim, the governor, die temperatures, halts and the filter of COOL_OK (R492 to R504, R509, R550). -/

namespace Sys2Proof.Machine

/-! ## POWER_LIMITS SET and READ, and dim (R497, R509) -/

section Limits
variable {fn : Nat} {h : Req} {d : List Byte} {s : State}

theorem exec_powerLimitsSet_ok (ha : Asked fn (layPower 0) false h d s) (hl : 30 ≤ h.respLen)
    (hb : powerBodyOk (powerBody d) = true) :
    exec (.powerLimitsSet fn) s = .next (answeredWith h { status := syOk, body := limitsBody (setLimits (powerBody d) s.pwr) }
      (setPwr (setLimits (powerBody d)) s)) := by
  refine (checked_onRequest ha).trans (congrArg _ ((serve_next (served_of_asked ha) ?_).trans ?_))
  · simpa [hb] using hl
  · simp only [hb, if_true, setPwr_pwr]

theorem exec_powerLimitsSet_malformed (ha : Asked fn (layPower 0) false h d s) (hl : 30 ≤ h.respLen)
    (hb : powerBodyOk (powerBody d) = false) :
    exec (.powerLimitsSet fn) s = .next (answeredWith h { status := syMalformed } s) := by
  refine (checked_onRequest ha).trans (congrArg _ ((serve_next (served_of_asked ha) ?_).trans ?_))
  · simpa [hb] using Nat.le_trans (by decide) hl
  · simp only [hb, Bool.false_eq_true, if_false]

theorem exec_powerLimitsRead (hfn : fn < 64) (ha : askedBy s fn (layPower 1) = some (h, d))
    (hg : gate (ignoreBody h) opPowerLimits false s = none) (hl : 30 ≤ h.respLen) :
    exec (.powerLimitsRead fn) s = .next (answeredWith h { status := syOk, body := limitsBody s.pwr } s) :=
  checked_powerRequest hfn hg ha rfl rfl (by simpa using hl)

end Limits

section Dim
variable {half : Nat} {s : State} (hn : half < 2)
include hn

theorem exec_dimDelayExpiry_dims (h0 : s.pwr.state = 0) (h5 : s.pwr.stage = 5) (hd : s.pwr.dimDisable = false)
    (ho : halfOn s (half == 1) = true) (hw : halfWorks s (half == 1) = false) :
    exec (.dimDelayExpiry half) s = .next (setPwr (setDim (half == 1)) s) :=
  (checked_ok (decide_eq_true hn) s _).trans (congrArg _ (if_pos (by simp [h0, h5, hd, ho, hw])))

theorem exec_dimDelayExpiry_stays (h : s.pwr.dimDisable = true ∨ halfWorks s (half == 1) = true) :
    exec (.dimDelayExpiry half) s = .next s :=
  (checked_ok (decide_eq_true hn) s _).trans (congrArg _ (if_neg (by
    rcases h with h | h
    · simp [h]
    · simp [h])))

end Dim

/-! ## The levels that a sample leaves (R494) -/

/-- Two power states differ at most in what belongs to a half, in the instants of the set-points and in what limits. -/
def halvesOnly (p q : Pwr) : Prop :=
  q = { p with westN := q.westN, eastN := q.eastN, westMv := q.westMv, eastMv := q.eastMv, settling := q.settling
               lowSince := q.lowSince, raiseAt := q.raiseAt, limiting := q.limiting }

theorem halvesOnly_trans {p q r : Pwr} (h : halvesOnly p q) (g : halvesOnly q r) : halvesOnly p r := by
  unfold halvesOnly at h g ⊢
  rw [h] at g
  exact g

theorem halvesOnly_setHalfN (e : Bool) (n : Nat) (p : Pwr) : halvesOnly p (setHalfN e n p) := by
  cases e <;> rfl

theorem halvesOnly_setHalfMv (e : Bool) (v : Nat) (p : Pwr) : halvesOnly p (setHalfMv e v p) := by
  cases e <;> rfl

theorem halvesOnly_limiting (n : Nat) (p : Pwr) : halvesOnly p { p with limiting := n } := rfl

theorem halvesOnly_thermalN (s : State) (e : Bool) (p : Pwr) : halvesOnly p (thermalN s e p) := by
  unfold thermalN
  split
  · exact halvesOnly_setHalfN ..
  · rfl

theorem halvesOnly_backN (e : Bool) (p : Pwr) : halvesOnly p (backN e p) := by
  unfold backN
  split
  · exact halvesOnly_setHalfN ..
  · rfl

theorem halvesOnly_upMv (s : State) (e : Bool) (p : Pwr) : halvesOnly p (upMv s e p) := by
  unfold upMv
  split
  · exact halvesOnly_setHalfMv ..
  · rfl

theorem halvesOnly_lowerHalf (s : State) (e : Bool) (p : Pwr) : halvesOnly p (lowerHalf s e p) := by
  unfold lowerHalf
  split
  · exact halvesOnly_trans (halvesOnly_setHalfMv e _ p) rfl
  · rfl

/-- Two states differ at most in power and in events. -/
def powerOnly (s t : State) : Prop := t.facets = s.facets ∧ t.dram = s.dram ∧ t.time = s.time

theorem powerOnly_trans {a b c : State} (h : powerOnly a b) (g : powerOnly b c) : powerOnly a c := by
  obtain ⟨hf, hd, ht⟩ := h
  obtain ⟨gf, gd, gt⟩ := g
  exact ⟨gf.trans hf, gd.trans hd, gt.trans ht⟩

theorem powerOnly_setPwr (g : Pwr → Pwr) (s : State) : powerOnly s (setPwr g s) := ⟨rfl, rfl, rfl⟩

theorem powerOnly_raiseFw (tos : List Nat) (k c su d : Nat) (x : Option (Nat × Nat)) (b : Bool) (s : State) :
    powerOnly s (raiseFw tos k c su d x b s) := by
  simp [powerOnly]

theorem powerOnly_throttleEvent (p : Pwr) (s : State) : powerOnly s (throttleEvent p s) := by
  unfold throttleEvent
  dsimp only
  split
  · exact powerOnly_raiseFw ..
  · exact ⟨rfl, rfl, rfl⟩

theorem powerOnly_lowerRails (s : State) : powerOnly s (lowerRails s) := by
  unfold lowerRails
  dsimp only
  split
  · exact powerOnly_setPwr ..
  · split
    · exact powerOnly_setPwr ..
    · split
      · exact ⟨rfl, rfl, rfl⟩
      · exact powerOnly_setPwr ..

theorem halvesOnly_lowerRails (s : State) : halvesOnly s.pwr (lowerRails s).pwr := by
  unfold lowerRails
  dsimp only
  split
  · rfl
  · split
    · rfl
    · split
      · rfl
      · exact halvesOnly_trans (halvesOnly_lowerHalf s false { s.pwr with lowSince := some (mcNow s) }) (halvesOnly_lowerHalf s true _)

theorem powerOnly_recover (s : State) : powerOnly s (recover s) := by
  unfold recover
  dsimp only
  split
  · exact powerOnly_setPwr ..
  · split
    · exact powerOnly_setPwr ..
    · split
      · exact powerOnly_setPwr ..
      · split
        · exact powerOnly_setPwr ..
        · exact powerOnly_setPwr ..

theorem powerOnly_floorCheck (s : State) : powerOnly s (floorCheck s) := by
  unfold floorCheck
  dsimp only
  split
  · exact powerOnly_setPwr ..
  · split
    · exact powerOnly_setPwr ..
    · split
      · exact ⟨rfl, rfl, rfl⟩
      · exact powerOnly_trans (powerOnly_setPwr _ s) (powerOnly_raiseFw ..)

/-- The level that the governor has chosen and the averages that it has measured. -/
def levels (p : Pwr) : Nat × Nat × Nat := (p.issue, p.peakAvg, p.sustAvg)

theorem levels_of_halvesOnly {p q : Pwr} (h : halvesOnly p q) : levels q = levels p :=
  (congrArg levels h :)

theorem calmPower_of_halvesOnly {p q : Pwr} (h : halvesOnly p q) : calmPower q = calmPower p :=
  (congrArg calmPower h :)

theorem calmSince_of_halvesOnly {p q : Pwr} (h : halvesOnly p q) : q.calmSince = p.calmSince :=
  (congrArg Pwr.calmSince h :)

theorem levels_raiseN (calm : Bool) (p : Pwr) :
    levels (raiseN calm p) = (if calm then Nat.min 16 (p.issue + 1) else p.issue, p.peakAvg, p.sustAvg) :=
  levels_of_halvesOnly (halvesOnly_trans (halvesOnly_backN false (raiseIssue calm p)) (halvesOnly_backN true _))

theorem levels_recover_busy {s : State} (h : calmPower s.pwr = false) : levels (recover s).pwr = levels s.pwr := by
  have heff : recover s = setPwr (fun q => { raiseN false q with calmSince := none }) s := by
    simp [recover, h]
  rw [heff]
  exact levels_raiseN false s.pwr

theorem levels_raiseRails (s : State) : levels (raiseRails s).pwr = levels s.pwr :=
  levels_of_halvesOnly (halvesOnly_trans (halvesOnly_upMv s false { s.pwr with raiseAt := mcNow s }) (halvesOnly_upMv s true _))

theorem levels_recover_calm {s : State} {since : Nat} (h : calmPower s.pwr = true) (hs : s.pwr.calmSince = some since)
    (ht : since + 1000000 ≤ mcNow s) :
    levels (recover s).pwr = (Nat.min 16 (s.pwr.issue + 1), s.pwr.peakAvg, s.pwr.sustAvg) := by
  have hlate : ¬ mcNow s < since + 1000000 := by omega
  have hup : levels (setPwr (fun q => { raiseN true q with floor := false }) s).pwr =
      (Nat.min 16 (s.pwr.issue + 1), s.pwr.peakAvg, s.pwr.sustAvg) := levels_raiseN true s.pwr
  simp only [recover, h, hs, hlate, Bool.not_true, Bool.false_eq_true, if_false]
  split
  · rw [levels_raiseRails, hup]
  · exact hup

theorem levels_floorCheck (s : State) : levels (floorCheck s).pwr = levels s.pwr := by
  obtain ⟨o, b, heq⟩ := floorCheck_pwr s
  rw [heq]
  rfl

theorem powerOnly_sampleLimits (s : State) : powerOnly s (sampleLimits s) := powerOnly_setPwr _ s

theorem levels_sampleLimits (s : State) : levels (sampleLimits s).pwr = levels s.pwr := rfl

section Sample
variable (peak sust : Nat) (s : State)

theorem powerOnly_sampleTaken : powerOnly s (sampleTaken peak sust s) :=
  powerOnly_trans (powerOnly_setPwr _ s) (powerOnly_setPwr _ (undimBusy s))

/-- The state that the recovery of a sample starts from: the levels are lowered and the averages are those measured. -/
def sampleRails : State := lowerRails (sampleLowered peak sust s)

theorem powerOnly_sampleRails : powerOnly s (sampleRails peak sust s) := by
  have hlow : powerOnly s (lowerN (sampleTaken peak sust s)) :=
    powerOnly_trans (powerOnly_sampleTaken peak sust s) (powerOnly_setPwr _ _)
  exact powerOnly_trans (powerOnly_trans hlow (powerOnly_setPwr _ _))
    (powerOnly_trans (powerOnly_throttleEvent _ _) (powerOnly_lowerRails _))

/-- Step 2 sets the governor's level, and otherwise what belongs to a half. -/
theorem halvesOnly_lowerN : halvesOnly (lowerIssue s.pwr) (lowerN s).pwr :=
  halvesOnly_trans (halvesOnly_thermalN s false (lowerIssue s.pwr)) (halvesOnly_thermalN s true _)

theorem halvesOnly_sampleRails :
    halvesOnly (lowerIssue (sampleTaken peak sust s).pwr) (sampleRails peak sust s).pwr := by
  have hevent : halvesOnly (lowerN (sampleTaken peak sust s)).pwr (sampleLowered peak sust s).pwr := by
    rw [sampleLowered, throttleEvent_pwr]
    exact halvesOnly_limiting _ _
  exact halvesOnly_trans (halvesOnly_lowerN _) (halvesOnly_trans hevent (halvesOnly_lowerRails _))

variable {peak sust s}

@[simp] theorem sampleTaken_peakAvg : (sampleTaken peak sust s).pwr.peakAvg = peak := rfl
@[simp] theorem sampleTaken_sustAvg : (sampleTaken peak sust s).pwr.sustAvg = sust := rfl
@[simp] theorem sampleTaken_peakW : (sampleTaken peak sust s).pwr.peakW = s.pwr.peakW := rfl
@[simp] theorem sampleTaken_sustW : (sampleTaken peak sust s).pwr.sustW = s.pwr.sustW := rfl
@[simp] theorem sampleTaken_issue : (sampleTaken peak sust s).pwr.issue = s.pwr.issue := rfl
@[simp] theorem sampleTaken_calmSince : (sampleTaken peak sust s).pwr.calmSince = s.pwr.calmSince := rfl

/-- What a sample reads of the averages and the limits once the levels are lowered. -/
theorem calmPower_sampleRails :
    calmPower (sampleRails peak sust s).pwr = true ↔ peak * 100 < s.pwr.peakW * 90 ∧ sust * 100 < s.pwr.sustW * 90 := by
  rw [calmPower_of_halvesOnly (halvesOnly_sampleRails peak sust s), calmPower, Bool.and_eq_true, decide_eq_true_iff,
    decide_eq_true_iff]
  simp only [lowerIssue, sampleTaken_peakAvg, sampleTaken_sustAvg, sampleTaken_peakW, sampleTaken_sustW]

theorem overPower_sampleTaken :
    overPower (sampleTaken peak sust s).pwr = true ↔ s.pwr.peakW * 97 < peak * 100 ∨ s.pwr.sustW * 97 < sust * 100 := by
  rw [overPower, Bool.or_eq_true, decide_eq_true_iff, decide_eq_true_iff]
  rfl

theorem levels_sampleRails :
    levels (sampleRails peak sust s).pwr = ((lowerIssue (sampleTaken peak sust s).pwr).issue, peak, sust) := by
  rw [levels_of_halvesOnly (halvesOnly_sampleRails peak sust s)]
  simp only [levels, lowerIssue, sampleTaken_peakAvg, sampleTaken_sustAvg]

theorem calmSince_sampleRails : (sampleRails peak sust s).pwr.calmSince = s.pwr.calmSince :=
  (calmSince_of_halvesOnly (halvesOnly_sampleRails peak sust s)).trans (sampleTaken_calmSince (peak := peak) (sust := sust))

theorem issue_lowerIssue_over (h : s.pwr.peakW * 97 < peak * 100 ∨ s.pwr.sustW * 97 < sust * 100) :
    (lowerIssue (sampleTaken peak sust s).pwr).issue = Nat.max 1 (s.pwr.issue - 1) := by
  simp only [lowerIssue, overPower_sampleTaken.2 h, if_true, sampleTaken_issue]

theorem issue_lowerIssue_under (hp : peak * 100 < s.pwr.peakW * 90) (hs : sust * 100 < s.pwr.sustW * 90) :
    (lowerIssue (sampleTaken peak sust s).pwr).issue = s.pwr.issue := by
  have hover : ¬ overPower (sampleTaken peak sust s).pwr = true := by
    rw [overPower_sampleTaken]
    omega
  simp [lowerIssue, hover]

variable (hm : s.pwr.mcRunning = true) (hg : s.pwr.stage = 5) (h0 : s.pwr.state = 0) (hh : s.pwr.halt = none)
include hm hg h0 hh

/-- A sample ends with the levels that its recovery leaves, and beyond power and events with nothing changed. -/
theorem exec_governorSample_levels : ∃ t, exec (.governorSample peak sust) s = .next t ∧
    levels t.pwr = levels (recover (sampleRails peak sust s)).pwr ∧ t.facets = s.facets ∧ t.dram = s.dram := by
  obtain ⟨hf, hd, -⟩ := powerOnly_trans (powerOnly_sampleRails peak sust s)
    (powerOnly_trans (powerOnly_recover _) (powerOnly_trans (powerOnly_floorCheck _) (powerOnly_sampleLimits _)))
  have heff : governorSampleEff peak sust s = sampleLimits (floorCheck (recover (sampleRails peak sust s))) :=
    governorSampleEff_samples peak sust hm hg (by simp [h0]) (by simp [h0]) hh
  exact ⟨_, (exec_governorSample peak sust s).trans (congrArg _ heff),
    (levels_sampleLimits _).trans (levels_floorCheck _), hf, hd⟩

theorem exec_governorSample_over (h : s.pwr.peakW * 97 < peak * 100 ∨ s.pwr.sustW * 97 < sust * 100) :
    ∃ t, exec (.governorSample peak sust) s = .next t ∧ t.pwr.issue = Nat.max 1 (s.pwr.issue - 1) ∧
      t.pwr.peakAvg = peak ∧ t.pwr.sustAvg = sust ∧ t.facets = s.facets ∧ t.dram = s.dram := by
  obtain ⟨t, hex, hlev, hf, hd⟩ := exec_governorSample_levels (peak := peak) (sust := sust) hm hg h0 hh
  have hbusy : calmPower (sampleRails peak sust s).pwr = false := by
    rw [Bool.eq_false_iff, Ne, calmPower_sampleRails]
    omega
  rw [levels_recover_busy hbusy, levels_sampleRails, issue_lowerIssue_over h] at hlev
  obtain ⟨hi, hp, hs⟩ : _ ∧ _ ∧ _ := by simpa [levels] using hlev
  exact ⟨t, hex, hi, hp, hs, hf, hd⟩

theorem exec_governorSample_calm {since : Nat} (hp : peak * 100 < s.pwr.peakW * 90) (hs : sust * 100 < s.pwr.sustW * 90)
    (hc : s.pwr.calmSince = some since) (ht : since + 1000000 ≤ mcNow s) :
    ∃ t, exec (.governorSample peak sust) s = .next t ∧ t.pwr.issue = Nat.min 16 (s.pwr.issue + 1) ∧
      t.pwr.peakAvg = peak ∧ t.pwr.sustAvg = sust ∧ t.facets = s.facets ∧ t.dram = s.dram := by
  obtain ⟨t, hex, hlev, hf, hd⟩ := exec_governorSample_levels (peak := peak) (sust := sust) hm hg h0 hh
  have hcalm : calmPower (sampleRails peak sust s).pwr = true := calmPower_sampleRails.2 ⟨hp, hs⟩
  have hnow : mcNow (sampleRails peak sust s) = mcNow s := by
    obtain ⟨-, -, htime⟩ := powerOnly_sampleRails peak sust s
    simp only [mcNow, ltcOf, htime]
  obtain ⟨hi, hpa, hsa⟩ : _ ∧ _ ∧ _ := by
    simpa [levels, issue_lowerIssue_under hp hs] using levels_sampleRails (peak := peak) (sust := sust) (s := s)
  rw [levels_recover_calm hcalm (calmSince_sampleRails.trans hc) (hnow ▸ ht), hi, hpa, hsa] at hlev
  obtain ⟨ti, tp, ts⟩ : _ ∧ _ ∧ _ := by simpa [levels] using hlev
  exact ⟨t, hex, ti, tp, ts, hf, hd⟩

end Sample

/-! ## The rails settle (R494 step 3) -/

section Settled
variable {half : Nat} {s : State} (hn : half < 2) (hs : s.pwr.settling = true)
include hn hs

theorem exec_governorRailSettled_issue (hi : s.pwr.issue < 16) :
    exec (.governorRailSettled half) s = .next (setPwr (fun p => { p with settling := false, issue := p.issue + 1 }) s) :=
  (checked_ok (decide_eq_true hn) s _).trans (congrArg _ (by simp [governorRailSettledEff, hs, setPwr, hi]))

theorem exec_governorRailSettled_half (hi : 16 ≤ s.pwr.issue) (hr : halfRow s.pwr (half == 1) < 2)
    (hh : halfN s.pwr (half == 1) < 16) :
    exec (.governorRailSettled half) s = .next
      (setPwr (fun p => setHalfN (half == 1) (halfN p (half == 1) + 1) { p with settling := false }) s) := by
  have hlow : ¬ s.pwr.issue < 16 := by omega
  have hraise : (decide (halfRow s.pwr (half == 1) < 2) && decide (halfN s.pwr (half == 1) < 16)) = true := by simp [hr, hh]
  refine (checked_ok (decide_eq_true hn) s _).trans (congrArg _ ?_)
  obtain rfl | rfl : half = 0 ∨ half = 1 := by omega
  · simp only [governorRailSettledEff, hs, setPwr, hlow, if_false]
    exact congrArg (fun p => { s with pwr := p }) (if_pos hraise)
  · simp only [governorRailSettledEff, hs, setPwr, hlow, if_false]
    exact congrArg (fun p => { s with pwr := p }) (if_pos hraise)

end Settled

/-! ## The sensors of a cluster (R500) -/

theorem le_foldl_max (l : List Int) (a : Int) :
    a ≤ l.foldl (fun a b => if a < b then b else a) a ∧ ∀ x ∈ l, x ≤ l.foldl (fun a b => if a < b then b else a) a := by
  induction l generalizing a with
  | nil => simp
  | cons b l ih =>
    obtain ⟨hacc, hall⟩ := ih (if a < b then b else a)
    have hstep : a ≤ (if a < b then b else a) ∧ b ≤ (if a < b then b else a) := by split <;> omega
    refine ⟨hstep.1.trans hacc, fun x hx => ?_⟩
    rcases List.mem_cons.1 hx with rfl | hx
    · exact hstep.2.trans hacc
    · exact hall x hx

theorem le_maxInt {l : List Int} {x : Int} (h : x ∈ l) : x ≤ maxInt l := by
  cases l with
  | nil => cases h
  | cons a l =>
    obtain ⟨hacc, hall⟩ := le_foldl_max l a
    rcases List.mem_cons.1 h with rfl | h
    · exact hacc
    · exact hall x h

/-- A reading of a half's cluster is no higher than the half's junction temperature. -/
theorem le_halfTemp {s : State} {k i : Nat} {x : Int} (hk : k < 32) (hi : i < 8)
    (hx : SMap.look s.pwr.dieTemp (k * 8 + i) = some x) : x ≤ halfTemp s (eastCluster k) := by
  refine le_maxInt (List.mem_flatMap.2 ⟨k, by simp [hk], List.mem_map.2 ⟨i, List.mem_range.2 hi, ?_⟩⟩)
  simp [SMap.getD, hx]

@[simp] theorem tempCall_pwr (t : Int) (e : Nat) (s : State) : (tempCall t e s).pwr = s.pwr := by
  unfold tempCall
  dsimp only
  split <;> rfl

@[simp] theorem slewEvent_pwr (t : Int) (e : Nat) (s : State) : (slewEvent t e s).pwr = s.pwr := by
  unfold slewEvent
  split
  · exact raiseFw_pwr ..
  · rfl

/-- Two power states differ at most in what the sensors have read. -/
def readingsOnly (p q : Pwr) : Prop := q = { p with dieTemp := q.dieTemp, tempRef := q.tempRef, slewing := q.slewing }

theorem readingsOnly_trans {p q r : Pwr} (h : readingsOnly p q) (g : readingsOnly q r) : readingsOnly p r := by
  unfold readingsOnly at h g ⊢
  rw [h] at g
  exact g

theorem slewCheck_pwr (i : Nat) (t : Int) (s : State) :
    ∃ r l, (slewCheck i t s).pwr = { s.pwr with tempRef := r, slewing := l } := by
  unfold slewCheck
  dsimp only
  split
  · exact ⟨_, _, forAll_pwr (slewEvent_pwr t) _ _⟩
  · exact ⟨_, _, rfl⟩

theorem sensorRead_pwr (i : Nat) (t : Int) (s : State) :
    (sensorRead i t s).pwr.dieTemp = SMap.put s.pwr.dieTemp i t ∧ readingsOnly s.pwr (sensorRead i t s).pwr := by
  obtain ⟨r, l, h⟩ := slewCheck_pwr i t (setPwr (fun p => { p with dieTemp := SMap.put p.dieTemp i t }) s)
  have heq : (sensorRead i t s).pwr = _ := (forAll_pwr (tempCall_pwr t) _ _).trans h
  rw [heq]
  exact ⟨rfl, rfl⟩

/-- The readings of a cluster from a sensor on. -/
def readSensors (a : Nat) (l : List Int) (n : Nat) (s : State) : State :=
  (l.zipIdx n).foldl (fun t x => sensorRead (a + x.2) x.1 t) s

theorem readSensors_cons (a : Nat) (x : Int) (l : List Int) (n : Nat) (s : State) :
    readSensors a (x :: l) n s = readSensors a l (n + 1) (sensorRead (a + n) x s) := by
  simp [readSensors]

theorem readingsOnly_readSensors (a : Nat) (l : List Int) (n : Nat) (s : State) :
    readingsOnly s.pwr (readSensors a l n s).pwr := by
  induction l generalizing n s with
  | nil => rfl
  | cons x l ih =>
    rw [readSensors_cons]
    exact readingsOnly_trans (sensorRead_pwr (a + n) x s).2 (ih (n + 1) _)

theorem look_readSensors_lt (a j : Nat) (l : List Int) (n : Nat) (s : State) (hj : j < a + n) :
    SMap.look (readSensors a l n s).pwr.dieTemp j = SMap.look s.pwr.dieTemp j := by
  induction l generalizing n s with
  | nil => rfl
  | cons x l ih =>
    rw [readSensors_cons, ih (n + 1) _ (by omega), (sensorRead_pwr (a + n) x s).1, SMap.look_put_ne _ _ _ _ (by omega)]

theorem look_readSensors {a i : Nat} {l : List Int} {x : Int} (n : Nat) (s : State) (h : l[i]? = some x) :
    SMap.look (readSensors a l n s).pwr.dieTemp (a + n + i) = some x := by
  induction l generalizing n s i with
  | nil => simp at h
  | cons y l ih =>
    rw [readSensors_cons]
    cases i with
    | zero =>
      obtain rfl : y = x := by simpa using h
      rw [look_readSensors_lt a _ l (n + 1) _ (by omega), (sensorRead_pwr (a + n) y s).1]
      exact SMap.look_put_self ..
    | succ i =>
      have hrest := ih (n + 1) (sensorRead (a + n) y s) (by simpa using h)
      rwa [show a + n + (i + 1) = a + (n + 1) + i by omega]

/-! ## The thermal response of a half (R500) -/

@[simp] theorem setRow_dieTemp (e : Bool) (r : Nat) (p : Pwr) : (setRow e r p).dieTemp = p.dieTemp := by cases e <;> rfl
@[simp] theorem setHalfN_dieTemp (e : Bool) (n : Nat) (p : Pwr) : (setHalfN e n p).dieTemp = p.dieTemp := by cases e <;> rfl
@[simp] theorem setHalfMv_dieTemp (e : Bool) (v : Nat) (p : Pwr) : (setHalfMv e v p).dieTemp = p.dieTemp := by cases e <;> rfl
@[simp] theorem halfRow_setRow (e : Bool) (r : Nat) (p : Pwr) : halfRow (setRow e r p) e = r := by cases e <;> rfl
@[simp] theorem halfRow_setHalfN (e : Bool) (n : Nat) (p : Pwr) : halfRow (setHalfN e n p) e = halfRow p e := by cases e <;> rfl
@[simp] theorem halfRow_setHalfMv (e : Bool) (v : Nat) (p : Pwr) : halfRow (setHalfMv e v p) e = halfRow p e := by
  cases e <;> rfl
@[simp] theorem halfN_setHalfN (e : Bool) (n : Nat) (p : Pwr) : halfN (setHalfN e n p) e = n := by cases e <;> rfl
@[simp] theorem halfN_setHalfMv (e : Bool) (v : Nat) (p : Pwr) : halfN (setHalfMv e v p) e = halfN p e := by cases e <;> rfl
@[simp] theorem halfMv_setHalfMv (e : Bool) (v : Nat) (p : Pwr) : halfMv (setHalfMv e v p) e = v := by cases e <;> rfl

/-- Row of R500 that a half takes. -/
def rowOf (e : Bool) (s : State) : Nat := dieRow s.pwr.tSoft (halfRow s.pwr e) (halfTemp s e)

theorem thermalResponse_pwr (e : Bool) (s : State) :
    (thermalResponse e s).pwr =
      if rowOf e s = 2 then setHalfMv e 600 (setHalfN e 1 (setRow e (rowOf e s) s.pwr)) else setRow e (rowOf e s) s.pwr := by
  have hpwr : (thermalResponse e s).pwr = (if rowOf e s = 2 then
      setPwr (fun p => setHalfMv e 600 (setHalfN e 1 p)) (setPwr (setRow e (rowOf e s)) s)
    else setPwr (setRow e (rowOf e s)) s).pwr := by
    unfold thermalResponse
    dsimp only
    split
    · exact raiseFw_pwr ..
    · rfl
  rw [hpwr]
  split
  · rfl
  · rfl

theorem dieTemp_thermalResponse (e : Bool) (s : State) : (thermalResponse e s).pwr.dieTemp = s.pwr.dieTemp := by
  rw [thermalResponse_pwr]
  split <;> simp

theorem halfRow_thermalResponse (e : Bool) (s : State) : halfRow (thermalResponse e s).pwr e = rowOf e s := by
  rw [thermalResponse_pwr]
  split <;> simp

theorem thermalResponse_hot {e : Bool} {s : State} (h : rowOf e s = 2) :
    halfN (thermalResponse e s).pwr e = 1 ∧ halfMv (thermalResponse e s).pwr e = 600 := by
  rw [thermalResponse_pwr, if_pos h]
  simp

theorem dieRow_hot {soft cur : Nat} {temp : Int} (h : 1050 < temp) : dieRow soft cur temp = 2 := by
  simp [dieRow, h]

theorem halfTemp_congr {s t : State} (h : t.pwr.dieTemp = s.pwr.dieTemp) (e : Bool) : halfTemp t e = halfTemp s e := by
  have hk (k : Nat) : clusterTemps t k = clusterTemps s k := by simp only [clusterTemps, h]
  simp only [halfTemp, funext hk]

section Sample
variable {k : Nat} {l : List Int} {s : State} (hk : k < 32) (hl : l.length = 8)
include hk hl

theorem exec_dieSensorSample : exec (.dieSensorSample k l) s = .next (dieSensorSampleEff k l s) :=
  checked_ok (by simp [okCluster, hk, hl]) s _

theorem exec_dieSensorSample_off (ho : halfOn s (eastCluster k) = false) : exec (.dieSensorSample k l) s = .next s :=
  (exec_dieSensorSample hk hl).trans (congrArg _ (by simp [dieSensorSampleEff, ho]))

/-- A sample of a half that is powered: its readings are kept, and its half answers to the hottest of its sensors. -/
theorem exec_dieSensorSample_on (ho : halfOn s (eastCluster k) = true) :
    ∃ t, exec (.dieSensorSample k l) s = .next t ∧
      (∀ i x, l[i]? = some x → SMap.look t.pwr.dieTemp (k * 8 + i) = some x) ∧
      halfRow t.pwr (eastCluster k) = dieRow s.pwr.tSoft (halfRow s.pwr (eastCluster k)) (halfTemp t (eastCluster k)) ∧
      ((∃ x ∈ l, 1050 < x) →
        halfN t.pwr (eastCluster k) = 1 ∧ halfMv t.pwr (eastCluster k) = 600 ∧ halfRow t.pwr (eastCluster k) = 2) := by
  have heff : dieSensorSampleEff k l s = thermalResponse (eastCluster k) (readSensors (k * 8) l 0 s) := by
    simp [dieSensorSampleEff, ho, readSensors, List.take_of_length_le (Nat.le_of_eq hl)]
  have hread := readingsOnly_readSensors (k * 8) l 0 s
  have hlook {i : Nat} {x : Int} (h : l[i]? = some x) :
      SMap.look (readSensors (k * 8) l 0 s).pwr.dieTemp (k * 8 + i) = some x := look_readSensors 0 s h
  generalize readSensors (k * 8) l 0 s = u at heff hread hlook
  have hsoft : u.pwr.tSoft = s.pwr.tSoft := (congrArg Pwr.tSoft hread :)
  have hcur : halfRow u.pwr (eastCluster k) = halfRow s.pwr (eastCluster k) :=
    (congrArg (halfRow · (eastCluster k)) hread :)
  refine ⟨_, (exec_dieSensorSample hk hl).trans (congrArg _ heff), fun i x h => ?_, ?_, ?_⟩
  · rw [dieTemp_thermalResponse]
    exact hlook h
  · rw [halfRow_thermalResponse, rowOf, hsoft, hcur, halfTemp_congr (dieTemp_thermalResponse _ u)]
  · rintro ⟨x, hx, hhot⟩
    obtain ⟨i, hi, rfl⟩ := List.mem_iff_getElem.1 hx
    have hle := le_halfTemp hk (hl ▸ hi) (hlook (List.getElem?_eq_getElem hi))
    have hrow : rowOf (eastCluster k) u = 2 := dieRow_hot (by omega)
    obtain ⟨hn, hmv⟩ := thermalResponse_hot hrow
    exact ⟨hn, hmv, (halfRow_thermalResponse _ u).trans hrow⟩

end Sample

end Sys2Proof.Machine

/-! Thermal trips, loss of coolant, halts and the filter of COOL_OK (R500, R502 to R504, R550). A halt ends commands and steps; none
of that is power state. -/

namespace Sys2Proof.Machine

/-! ## Reads leave the power state alone -/

@[simp] theorem downgradeOwner_pwr (gl : Nat) (s : State) : (downgradeOwner gl s).pwr = s.pwr := by
  unfold downgradeOwner
  split
  · rfl
  · split
    · rfl
    · simp

@[simp] theorem homeRead_pwr (cls : Option Nat) (gl hint : Nat) (s : State) : (homeRead cls gl hint s).2.pwr = s.pwr := by
  unfold homeRead
  split
  · split <;> simp
  · simp

@[simp] theorem clusterFetch_pwr (cls : Option Nat) (k gl hint : Nat) (s : State) :
    (clusterFetch cls k gl hint s).2.pwr = s.pwr := by
  unfold clusterFetch
  split
  · simp
  · dsimp only
    split
    · simp
    · split <;> simp

@[simp] theorem clusterRead_pwr (cls : Option Nat) (k gl hint : Nat) (s : State) : (clusterRead cls k gl hint s).2.pwr = s.pwr := by
  unfold clusterRead
  dsimp only
  split <;> simp

@[simp] theorem readLine_pwr (via : Via) (gl hint : Nat) (s : State) : (readLine via gl hint s).2.pwr = s.pwr := by
  unfold readLine
  split <;> simp

theorem faReadAux_pwr (via : Via) (facet hint : Nat) (l : List (Nat × Nat)) (acc : List Byte) (s : State) :
    (faReadAux via facet hint l acc s).2.pwr = s.pwr := by
  induction l generalizing acc s with
  | nil => rfl
  | cons p rest ih =>
    unfold faReadAux
    split
    · rfl
    · dsimp only
      split
      · simp
      · simp [ih]

@[simp] theorem readFence_pwr (q : Queue) (i : Nat) (s : State) : (readFence q i s).2.pwr = s.pwr := by
  have h : (faRead (facetVia s q.facet) q.facet 0 (fenceAddr q i) 8 s).2.pwr = s.pwr := faReadAux_pwr ..
  unfold readFence
  dsimp only
  split <;> exact h

/-! ## The end of a command leaves the power state alone -/

theorem readWaits_pwr (q : Queue) (l : List (Nat × Nat)) (acc : List Bool) (s : State) :
    (readWaits q l acc s).2.pwr = s.pwr := by
  induction l generalizing acc s with
  | nil => rfl
  | cons x l ih =>
    unfold readWaits
    dsimp only
    split
    · simp
    · simp [ih]

@[simp] theorem markReady_pwr (id : Nat) (s : State) : (markReady id s).pwr = s.pwr := by
  unfold markReady
  split
  · rfl
  · dsimp only
    split
    · rfl
    · split
      · rfl
      · split <;> rfl

@[simp] theorem checkWaits_pwr (id : Nat) (s : State) : (checkWaits id s).pwr = s.pwr := by
  unfold checkWaits
  split
  · rfl
  · split
    · rfl
    · split
      · rfl
      · dsimp only
        split
        · simp [endUnstarted, readWaits_pwr]
        · split
          · simp [endUnstarted, readWaits_pwr]
          · split
            · split <;> simp [readWaits_pwr]
            · split <;> simp [readWaits_pwr]

@[simp] theorem recheckWaits_pwr (facet addr : Nat) (s : State) : (recheckWaits facet addr s).pwr = s.pwr :=
  forAll_pwr checkWaits_pwr _ s

@[simp] theorem signalFence_pwr (q : Queue) (i v : Nat) (s : State) : (signalFence q i v s).2.pwr = s.pwr := by
  unfold signalFence
  dsimp only
  split
  · simp
  · split
    · simp
    · simp [countRegress]

@[simp] theorem updCmd_pwr (id : Nat) (g : Cmd → Cmd) (s : State) : (updCmd id g s).pwr = s.pwr := rfl

@[simp] theorem signalOwn_pwr (id : Nat) (s : State) : (signalOwn id s).pwr = s.pwr := by
  unfold signalOwn
  split
  · rfl
  · dsimp only
    split
    · rfl
    · split
      · rfl
      · split
        · simp
        · simp only [apply_ite State.pwr, signalFence_pwr, loseContext_pwr, setCmd_pwr, ite_self]

@[simp] theorem updCtx_pwr (n : Nat) (g : Ctx → Ctx) (s : State) : (updCtx n g s).pwr = s.pwr := rfl

@[simp] theorem updQueue_pwr (n : Nat) (g : Queue → Queue) (s : State) : (updQueue n g s).pwr = s.pwr := rfl

@[simp] theorem freeCores_pwr (id : Nat) (cs : List Nat) (s : State) : (freeCores id cs s).pwr = s.pwr :=
  forAll_frame State.pwr (fun _ _ => (updCore_pwr_serve _ _ _).1) cs s

@[simp] theorem leavePlacement_pwr (id : Nat) (c : Cmd) (s : State) : (leavePlacement id c s).pwr = s.pwr :=
  (updFacet_pwr _ _ _).trans (freeCores_pwr id c.cores s)

@[simp] theorem countCompletion_pwr (c : Cmd) (s : State) : (countCompletion c s).pwr = s.pwr := rfl

@[simp] theorem fireSource_pwr (n src : Nat) (g : Glint) (s : State) : (fireSource n src g s).pwr = s.pwr := by
  obtain ⟨_, _, h⟩ := eventsOnly_fireSource n src g s
  rw [h]

@[simp] theorem writeRecord_pwr (n : Nat) (r : List Byte) (s : State) : (writeRecord n r s).pwr = s.pwr := by
  unfold writeRecord
  split
  · rfl
  · dsimp only
    split <;> simp

@[simp] theorem putRecord_pwr (n : Nat) (r : List Byte) (s : State) : (putRecord n r s).pwr = s.pwr := by
  unfold putRecord
  split
  · rfl
  · split <;> simp

@[simp] theorem pushFlit_pwr (p : Nat) (f : TxFlit) (s : State) : (pushFlit p f s).pwr = s.pwr := by
  unfold pushFlit
  dsimp only
  split <;> rfl

@[simp] theorem addAcct_pwr (id : Nat) (g : Acct → Acct) (s : State) : (addAcct id g s).pwr = s.pwr := by
  unfold addAcct
  split
  · rfl
  · split
    · rfl
    · cases cmdOf s id <;> rfl

@[simp] theorem chargeTxn_pwr (facet : Option Nat) (o : Option VOut) (t : Txn) (s : State) :
    (chargeTxn facet o t s).pwr = s.pwr := by
  unfold chargeTxn
  split
  · rfl
  · split
    · split <;> rfl
    · split
      · rfl
      · split
        · rfl
        · exact addAcct_pwr ..

@[simp] theorem voxEvent_pwr (kind subject : Nat) (facet : Option Nat) (s : State) :
    (voxEvent kind subject facet s).pwr = s.pwr := raiseTo_pwr ..

@[simp] theorem sendTxn_pwr (m : Send) (s : State) : (sendTxn m s).2.pwr = s.pwr := by
  unfold sendTxn
  dsimp only
  repeat' split
  all_goals simp [sealTxn, setLinkKey]

@[simp] theorem answerDispatch_pwr (c : Cmd) (r : Remote) (s : State) : (answerDispatch c r s).pwr = s.pwr :=
  sendTxn_pwr _ s

@[simp] theorem completeCmd_pwr (id : Nat) (s : State) : (completeCmd id s).pwr = s.pwr := by
  unfold completeCmd
  dsimp only
  split
  · simp
  · split <;> simp

/-! ## The steps of a halt (R502, R503) -/

/-- One command that a halt ends. -/
def haltOne (id : Nat) (s : State) : State :=
  completeCmd id (finishCmd id (meetStatus id stComputeReset 0 (dropWaiters (fun w => w == id) s)))

@[simp] theorem haltOne_pwr (id : Nat) (s : State) : (haltOne id s).pwr = s.pwr := by
  rw [haltOne, completeCmd_pwr, finishCmd_pwr, meetStatus_pwr]
  rfl

@[simp] theorem haltCommands_pwr (s : State) : (haltCommands s).pwr = s.pwr :=
  forAll_pwr (g := haltOne) haltOne_pwr _ s

@[simp] theorem endStep_pwr (n st : Nat) (s : State) : (endStep n st s).pwr = s.pwr := by
  unfold endStep
  split
  · rfl
  · split
    · rfl
    · refine foldl_pwr (fun t slot => ?_) _ s
      split
      · exact leaveNow_pwr ..
      · rfl

@[simp] theorem haltSteps_pwr (s : State) : (haltSteps s).pwr = s.pwr := by
  refine forAll_pwr (fun n t => ?_) _ s
  split
  · exact synced_pwr (endStep_pwr n stComputeReset) n t
  · rfl

@[simp] theorem haltRecord_pwr (trip : Bool) (subject : Nat) (temp : Int) (s : State) :
    (haltRecord trip subject temp s).pwr = { stopOrder s.pwr with
      state := 4, halt := none, alert := true, coolHalt := s.pwr.coolHalt || !trip, tripHalt := s.pwr.tripHalt || trip } := by
  unfold haltRecord
  dsimp only
  split <;> simp

/-- Commands that a loss of coolant ends. -/
def haltedCount (s : State) : Nat := (cmdsWhere s fun c => c.phase == .running && !c.late).length

/-- A halt of a module that has something to stop stops the fetch, ends what runs, and waits for its tables. -/
theorem startHalt_pwr {trip : Bool} {subject : Nat} {temp : Int} {s : State} (hh : s.pwr.halt = none) (h4 : s.pwr.state ≠ 4)
    (h2 : s.pwr.state ≠ 2) (hc : computeOn s = true) :
    ∃ hot, (startHalt trip subject temp s).pwr = { s.pwr with
      fetchStop := true, hotTrip := hot, thermTripN := s.pwr.thermTripN || trip
      halt := some ⟨trip, 2, false, if trip then subject else haltedCount s, temp⟩ } := by
  have hbusy : (s.pwr.halt.isSome || s.pwr.state == 4) = false := by simp [hh, h4]
  refine ⟨trip && s.pwr.dieTemp.any fun e => decide (950 < e.2), ?_⟩
  simp only [startHalt, hbusy, beq_false_of_ne h2, hc, Bool.not_true, Bool.false_eq_true, if_false, setPwr_pwr,
    haltSteps_pwr, haltCommands_pwr]
  rfl

/-- In dusk a halt is only recorded. -/
theorem startHalt_dusk {trip : Bool} {subject : Nat} {temp : Int} {s : State} (hh : s.pwr.halt = none)
    (h2 : s.pwr.state = 2) : startHalt trip subject temp s = haltRecord trip subject temp s := by
  simp [startHalt, hh, h2]

/-! ## The end of a halt (R502 steps 2 to 4) -/

@[simp] theorem stopOrder_railsOn (p : Pwr) : (stopOrder p).railsOn = p.railsOn := by
  unfold stopOrder
  split <;> rfl

@[simp] theorem stopOrder_tablesLost (p : Pwr) : (stopOrder p).tablesLost = p.tablesLost := by
  unfold stopOrder
  split <;> rfl

@[simp] theorem railsDown_tablesLost (s : State) : (railsDown s).pwr.tablesLost = s.pwr.tablesLost := by
  simp [railsDown]

/-- What a halt leaves: the module HALTED, the core rails and VDD_AN off, ALERT_N asserted. -/
theorem finishHalt_pwr (x : Halt) (s : State) :
    (finishHalt x s).pwr.state = 4 ∧ (finishHalt x s).pwr.halt = none ∧ (finishHalt x s).pwr.alert = true ∧
      (finishHalt x s).pwr.tablesLost = s.pwr.tablesLost ∧ 0 ∉ (finishHalt x s).pwr.railsOn ∧
      1 ∉ (finishHalt x s).pwr.railsOn ∧ 2 ∉ (finishHalt x s).pwr.railsOn := by
  have hidle : (idleFabric s).pwr = s.pwr := (idleFabric_pwr_serve s).1
  have hoff (k : Nat) (hk : k ∈ [0, 1, 2, 5]) : k ∉ NSet.diff s.pwr.railsOn [0, 1, 2, 5] := notMem_diff hk
  simp only [finishHalt, haltRecord_pwr, stopOrder_railsOn, stopOrder_tablesLost, railsDown_railsOn, railsDown_tablesLost,
    hidle, true_and]
  exact ⟨hoff 0 (by simp), hoff 1 (by simp), hoff 2 (by simp)⟩

theorem exec_haltTablesSaved {x : Halt} {s : State} (hx : s.pwr.halt = some x) (hh : s.fw.handover = false) :
    exec .haltTablesSaved s = .next (finishHalt x (flushAllM (saveTables s))) :=
  (checked_ok rfl s _).trans (congrArg _ (by simp [haltTablesSavedEff, hx, hh]))

theorem exec_haltSaveTimeout {x : Halt} {s : State} (hx : s.pwr.halt = some x) :
    exec .haltSaveTimeout s = .next (finishHalt x (setPwr (fun p => { p with tablesLost := true }) s)) :=
  (checked_ok rfl s _).trans (congrArg _ (by simp [haltSaveTimeoutEff, hx]))

theorem flushAllM_saveTables_pwr (s : State) : (flushAllM (saveTables s)).pwr = s.pwr :=
  (flushAllM_pwr_serve (saveTables s)).1

/-! ## THERMTRIP and COOL_LOSS (R500, R502) -/

section Trip
variable {n : Nat} {temp : Int} {s : State}

theorem exec_thermtrip (ho : okTrip n = true) : exec (.thermtrip n temp) s = .next (startHalt true n temp s) :=
  checked_ok ho s _

theorem exec_thermtrip_on (ho : okTrip n = true) (hh : s.pwr.halt = none) (h4 : s.pwr.state ≠ 4) (h2 : s.pwr.state ≠ 2)
    (hc : computeOn s = true) : ∃ t, exec (.thermtrip n temp) s = .next t ∧ t.pwr.fetchStop = true ∧
      t.pwr.thermTripN = true ∧ t.pwr.halt = some ⟨true, 2, false, n, temp⟩ := by
  obtain ⟨hot, hp⟩ := startHalt_pwr (trip := true) (subject := n) (temp := temp) hh h4 h2 hc
  refine ⟨_, exec_thermtrip ho, ?_⟩
  rw [hp]
  simp

theorem exec_thermtrip_dusk (ho : okTrip n = true) (hh : s.pwr.halt = none) (h2 : s.pwr.state = 2) :
    ∃ t, exec (.thermtrip n temp) s = .next t ∧ t.pwr.state = 4 ∧ t.pwr.alert = true ∧ t.pwr.tripHalt = true ∧
      t.pwr.halt = none :=
  ⟨_, exec_thermtrip ho, by simp [startHalt_dusk hh h2]⟩

theorem exec_coolLoss (hc : s.pwr.coolOk = false) (ht : s.pwr.coolTimer = true) :
    exec .coolLoss s = .next (startHalt false 0 0 (setPwr (fun p => { p with coolTimer := false }) s)) :=
  congrArg Host.Outcome.next (if_neg (by simp [hc, ht]))

theorem exec_coolLoss_on (hk : s.pwr.coolOk = false) (ht : s.pwr.coolTimer = true) (hh : s.pwr.halt = none)
    (h4 : s.pwr.state ≠ 4) (h2 : s.pwr.state ≠ 2) (hc : computeOn s = true) :
    ∃ t x, exec .coolLoss s = .next t ∧ t.pwr.fetchStop = true ∧ t.pwr.coolTimer = false ∧ t.pwr.halt = some x ∧
      x.trip = false ∧ x.step = 2 := by
  obtain ⟨hot, hp⟩ := startHalt_pwr (trip := false) (subject := 0) (temp := 0)
    (s := setPwr (fun p => { p with coolTimer := false }) s) hh h4 h2 hc
  refine ⟨_, ⟨false, 2, false, haltedCount s, 0⟩, exec_coolLoss hk ht, ?_⟩
  rw [hp]
  exact ⟨rfl, rfl, rfl, rfl, rfl⟩

theorem exec_coolLoss_dusk (hk : s.pwr.coolOk = false) (ht : s.pwr.coolTimer = true) (hh : s.pwr.halt = none)
    (h2 : s.pwr.state = 2) : ∃ t, exec .coolLoss s = .next t ∧ t.pwr.state = 4 ∧ t.pwr.alert = true ∧
      t.pwr.coolHalt = true ∧ t.pwr.halt = none := by
  refine ⟨_, exec_coolLoss hk ht, ?_⟩
  rw [startHalt_dusk (s := setPwr (fun p => { p with coolTimer := false }) s) hh h2]
  simp

end Trip

/-! ## The filter of COOL_OK (R502, R504, R550) -/

section CoolOk
variable {s : State}

theorem exec_coolOkDeassert (h : s.pwr.coolOk = true) : exec .coolOkDeassert s = .next
    { s with pwr := { s.pwr with coolOk := false, coolTimer := true, coolStable := false } } :=
  (checked_ok rfl s _).trans (congrArg _ (if_pos h))

theorem exec_coolOkAssert (h : s.pwr.coolOk = false) : exec .coolOkAssert s = .next
    { s with pwr := { s.pwr with coolOk := true, coolTimer := false, coolDips := s.pwr.coolDips + b2n s.pwr.coolTimer } } :=
  congrArg Host.Outcome.next (if_neg (by simp [h]))

theorem exec_coolOkAssert_dip (h : s.pwr.coolOk = false) (ht : s.pwr.coolTimer = true) : exec .coolOkAssert s = .next
    { s with pwr := { s.pwr with coolOk := true, coolTimer := false, coolDips := s.pwr.coolDips + 1 } } := by
  rw [exec_coolOkAssert h, ht]
  rfl

theorem exec_coolOkAssert_quiet (h : s.pwr.coolOk = false) (ht : s.pwr.coolTimer = false) : exec .coolOkAssert s = .next
    { s with pwr := { s.pwr with coolOk := true } } := by
  rw [exec_coolOkAssert h, ht]
  simp [b2n, ← ht]

theorem exec_coolOkStable (h : s.pwr.coolOk = true) (ho : s.pwr.order ≠ 3) : exec .coolOkStable s = .next
    { s with pwr := { s.pwr with coolStable := true } } :=
  congrArg Host.Outcome.next ((if_neg (by simp [h])).trans (if_neg ho))

theorem exec_coolOkStable_order (h : s.pwr.coolOk = true) (ho : s.pwr.order = 3) : exec .coolOkStable s = .next
    (runOrder { s with pwr := { s.pwr with coolStable := true } }) :=
  congrArg Host.Outcome.next ((if_neg (by simp [h])).trans (if_pos ho))

end CoolOk

/-- Settles O35: each of these commands is exactly its effect, and neither the end of the running commands nor that of the steps
touches the power state that a halt sets. -/
theorem powerAndHeat : Obligations.PowerAndHeat := by
  unfold Obligations.PowerAndHeat
  refine ⟨⟨?_, ?_, ?_⟩, ⟨?_, ?_⟩, ⟨?_, ?_⟩, ⟨?_, ?_, ?_, ?_⟩, ?_, ?_, ?_, ?_, ?_⟩
  · rintro fn h d s ha hl b rfl
    exact ⟨exec_powerLimitsSet_ok ha hl, exec_powerLimitsSet_malformed ha hl⟩
  · exact fun fn h d s hfn ha hg hl => exec_powerLimitsRead hfn ha hg hl
  · exact fun half s hn => ⟨exec_dimDelayExpiry_dims hn, exec_dimDelayExpiry_stays hn⟩
  · exact fun peak sust s hm hg h0 hh => ⟨exec_governorSample_over hm hg h0 hh,
      fun since hp hs hc ht => exec_governorSample_calm hm hg h0 hh hp hs hc ht⟩
  · exact fun half s hn hs => ⟨exec_governorRailSettled_issue hn hs, exec_governorRailSettled_half hn hs⟩
  · exact fun k l s hk hl => exec_dieSensorSample_off hk hl
  · exact fun k l s hk hl => exec_dieSensorSample_on hk hl
  · exact fun n temp s ho hh h4 => ⟨exec_thermtrip_on ho hh h4, exec_thermtrip_dusk ho hh⟩
  · exact fun s hk ht hh h4 => ⟨exec_coolLoss_on hk ht hh h4, exec_coolLoss_dusk hk ht hh⟩
  · intro x s hx hh
    obtain ⟨h4, hn, ha, hl, hr⟩ := finishHalt_pwr x (flushAllM (saveTables s))
    exact ⟨_, exec_haltTablesSaved hx hh, h4, hn, ha, by rw [hl, flushAllM_saveTables_pwr], hr⟩
  · intro x s hx
    obtain ⟨h4, hn, ha, hl, hr⟩ := finishHalt_pwr x (setPwr (fun p => { p with tablesLost := true }) s)
    exact ⟨_, exec_haltSaveTimeout hx, h4, hn, ha, hl, hr⟩
  · exact fun s => exec_coolOkDeassert
  · exact fun s => exec_coolOkAssert_dip
  · exact fun s => exec_coolOkAssert_quiet
  · exact fun s => exec_coolOkStable
  · exact fun s => exec_coolOkStable_order

end Sys2Proof.Machine

/-! The Voxlink ports: training, lanes, echo, credits, identities and the two registers of a port (R390 to R397, R404, R409 to
R412). -/

namespace Sys2Proof.Machine

/-! ## A port after a write -/

@[simp] theorem portOf_setPort_self (p : Nat) (x : Port) (s : State) : portOf (setPort p x s) p = x := by
  simp [portOf, setPort, SMap.getD]

/-- A write of what a port is made into. -/
theorem updPort_eq {p : Nat} {x : Port} {s : State} (hx : x = portOf s p) (g : Port → Port) : updPort p g s = setPort p (g x) s := by
  rw [hx]
  rfl

theorem okPort_of_lt {p : Nat} (hp : p < 6) : okPort p = true := decide_eq_true hp

theorem okPort_okTwo {p half : Nat} (hp : p < 6) (hh : half < 2) : (okPort p && okTwo half) = true := by
  simp [okPort, okTwo, hp, hh]

section Port
variable {p : Nat} {x : Port} {s : State} (hp : p < 6) (hx : x = portOf s p)
include hp hx

/-! ## Enable, disable, training (R397, R409) -/

theorem exec_vxlPortEnable (he : x.enable = false) (hw : portPowered s p = true) :
    exec (.vxlPortEnable p) s = .next (startTraining p (setPort p { x with enable := true } s)) :=
  (checked_ok (okPort_of_lt hp) s _).trans (congrArg _ (by simp [vxlPortEnableEff, ← hx, he, hw, updPort_eq hx]))

theorem exec_vxlPortDisable (he : x.enable = true) (h5 : x.state ≠ 5) : exec (.vxlPortDisable p) s = .next
    (linkDown p (idleState x) 2 (setPort p { x with enable := false } s)) :=
  (checked_ok (okPort_of_lt hp) s _).trans (congrArg _ (by simp [vxlPortDisableEff, ← hx, he, h5, updPort_eq hx]))

omit hp in
theorem startRetrain_up (h3 : x.state = 3) : startRetrain p s = setPort p { x with state := 4 } s := by
  rw [startRetrain, ← hx, if_pos h3, updPort_eq hx]

theorem exec_vxlRetrain (h3 : x.state = 3) : exec (.vxlRetrain p) s = .next (setPort p { x with state := 4 } s) :=
  (checked_ok (okPort_of_lt hp) s _).trans (congrArg _ (by simp [vxlRetrainEff, ← hx, h3, startRetrain_up hx h3]))

theorem exec_vxlTrainRetry (he : x.enable = true) (h5 : x.state = 5) (hw : portPowered s p = true) :
    exec (.vxlTrainRetry p) s = .next (startTraining p s) :=
  (checked_ok (okPort_of_lt hp) s _).trans (congrArg _ (if_pos (by simp [← hx, he, h5, hw])))

section Training
variable (l : List Nat) (id role : Nat) (valid : Bool) (h1 : x.state = 1)
include h1

theorem exec_vxlTrainingDone_up (hw : anyWidth (portWidths (failLanes l x)) = true) :
    exec (.vxlTrainingDone p true l id role valid) s = .next (linkUp p id role valid (setPort p (failLanes l x) s)) := by
  have hst : (failLanes l x).state = 1 := h1
  exact (checked_ok (okPort_of_lt hp) s _).trans (congrArg _ (by simp [vxlTrainingDoneEff, ← hx, hst, hw]))

theorem exec_vxlTrainingDone_down :
    exec (.vxlTrainingDone p false l id role valid) s = .next (linkDown p 5 0 (setPort p (failLanes l x) s)) := by
  have hst : (failLanes l x).state = 1 := h1
  exact (checked_ok (okPort_of_lt hp) s _).trans (congrArg _ (by simp [vxlTrainingDoneEff, ← hx, hst]))

end Training

/-! ## Retraining, lanes (R394 to R396) -/

section Retraining
variable {a b : Nat} (l : List Nat) (ha : a < 4096) (hb : b < 4096) (h4 : x.state = 4)
include ha hb h4

theorem exec_vxlRetrainDone : exec (.vxlRetrainDone p true l a b) s = .next
    (if anyWidth (portWidths (failLanes l x)) then retrained p a b (failLanes l x) s
      else linkDown p 5 1 (setPort p (failLanes l x) s)) := by
  have hst : (failLanes l x).state = 4 := h4
  exact (checked_ok (by simp [okPort, hp, ha, hb]) s _).trans (congrArg _ (by simp [vxlRetrainDoneEff, ← hx, hst]))

theorem exec_vxlRetrainDone_up (hw : anyWidth (portWidths (failLanes l x)) = true) :
    exec (.vxlRetrainDone p true l a b) s = .next (retrained p a b (failLanes l x) s) :=
  (exec_vxlRetrainDone hp hx l ha hb h4).trans (congrArg _ (if_pos hw))

theorem exec_vxlRetrainDone_down (hw : anyWidth (portWidths (failLanes l x)) = false) :
    exec (.vxlRetrainDone p true l a b) s = .next (linkDown p 5 1 (setPort p (failLanes l x) s)) :=
  (exec_vxlRetrainDone hp hx l ha hb h4).trans (congrArg _ (if_neg (by simp [hw])))

end Retraining

section Lane
variable {k : Nat} (hk : k < 16) (h3 : x.state = 3)
include hk h3

omit hp hk in
theorem laneFails_up : laneFails p k s = setPort p { failLanes [k] x with state := 4 } (setPort p (failLanes [k] x) s) := by
  have hst : (failLanes [k] x).state = 3 := h3
  have hport : failLanes [k] x = portOf (setPort p (failLanes [k] x) s) p := by simp
  simp [laneFails, ← hx, h3, updPort_eq hx, startRetrain_up hport hst]

theorem exec_vxlLaneLockLoss : exec (.vxlLaneLockLoss p k) s = .next
    (setPort p { failLanes [k] x with state := 4 } (setPort p (failLanes [k] x) s)) :=
  (checked_ok (by simp [okPort, hp, hk]) s _).trans (congrArg _ (laneFails_up hx h3))

theorem exec_vxlLaneErrorWindow_fails {n : Nat} (hn : 1600 < n) : exec (.vxlLaneErrorWindow p k n) s = .next
    (setPort p { failLanes [k] x with state := 4 } (setPort p (failLanes [k] x) s)) :=
  (checked_ok (by simp [okPort, hp, hk]) s _).trans (congrArg _ ((if_pos hn).trans (laneFails_up hx h3)))

omit hx h3 in
theorem exec_vxlLaneErrorWindow_whole {n : Nat} (hn : n ≤ 1600) : exec (.vxlLaneErrorWindow p k n) s = .next s :=
  (checked_ok (by simp [okPort, hp, hk]) s _).trans (congrArg _ (if_neg (by omega)))

end Lane

/-! ## Echo, credits and identities (R390 to R393, R412) -/

section Half
variable {half : Nat} (hh : half < 2)
include hh

theorem exec_vxlReplayLimit (h3 : x.state = 3) (hl : limitReached (linkOf x half) = true) :
    exec (.vxlReplayLimit p half) s = .next (setPort p { x with state := 4 } s) :=
  (checked_ok (okPort_okTwo hp hh) s _).trans (congrArg _ ((if_pos (by rw [← hx, hl])).trans (startRetrain_up hx h3)))

theorem exec_vxlReplayLimit_below (hl : limitReached (linkOf x half) = false) : exec (.vxlReplayLimit p half) s = .next s :=
  (checked_ok (okPort_okTwo hp hh) s _).trans (congrArg _ (if_neg (by rw [← hx, hl]; simp)))

theorem exec_vxlNakReceive {a : Nat} (ha : a < 4096) (h3 : x.state = 3) :
    exec (.vxlNakReceive p half a) s = .next (drainPort p (resendAll p half
      (setPort p { setLink half { ackBuf a (linkOf x half) with
          buf := (ackBuf a (linkOf x half)).buf.map fun f => { f with replays := f.replays + 1 } } x with
        echo := satAdd 32 x.echo 1 } s))) :=
  (checked_ok (by simp [okPort, okTwo, hp, hh, ha]) s _).trans (congrArg _ (by simp [nakReceived, ← hx, h3]))

theorem exec_vxlIdleTimer (h3 : x.state = 3) (hw : linkWidth x half ≠ 3) : exec (.vxlIdleTimer p half) s = .next
    (sendWire p half 0 0 (ackOf (linkOf x half)) false 0 0 0 none s) :=
  (checked_ok (okPort_okTwo hp hh) s _).trans (congrArg _ (if_pos (by simp [← hx, h3, hw])) |>.trans (by rw [hx]))

theorem exec_vxlCredit (a b c : Nat) : exec (.vxlCredit p half a b c) s = .next (drainPort p (setPort p
    (setLink half { linkOf x half with
      credReq := (linkOf x half).credReq + a, credRsp := (linkOf x half).credRsp + b
      credMsg := (linkOf x half).credMsg + c } x) s)) :=
  (checked_ok (okPort_okTwo hp hh) s _).trans (congrArg _ (congrArg (drainPort p) (updPort_eq hx _)))

theorem exec_vxlIdent (id role : Nat) (valid : Bool) (hu : useHigh x half = false) :
    exec (.vxlIdent p half id role valid) s = .next
      (setPort p { x with peerId := id, peerRole := role, peerValid := valid } s) :=
  (checked_ok (okPort_okTwo hp hh) s _).trans (congrArg _ (by simp [vxlIdentEff, updPort_eq hx, hu]))

section Flit
variable {f : Flit} (hl : f.link < 2) (hr : rxHalf s p f = half) (h3 : x.state = 3) (hw : linkWidth x half ≠ 3)
include hl hr h3 hw

omit hh in
/-- A flit that reaches a link that is up is counted with what the link corrected; the rest turns on whether it is good. -/
theorem exec_vxlFlitReceive : exec (.vxlFlitReceive p f) s = .next
    (if !f.good then sendNak p half (setPort p { x with corr := satAdd 32 x.corr f.corrected } s)
    else if f.kind = 0 then takeAck p f (setPort p { x with corr := satAdd 32 x.corr f.corrected } s)
    else takeSequenced p f (takeAck p f (setPort p { x with corr := satAdd 32 x.corr f.corrected } s))) :=
  (checked_ok (okPort_okTwo hp hl) s _).trans (congrArg _ (by simp [vxlFlitReceiveEff, ← hx, hr, h3, hw, updPort_eq hx]))

end Flit

end Half

/-! ## The registers of a port (R404, R412) -/

section Prbs
variable {v : Nat} (hv : v < 2 ^ 32)
include hv

theorem exec_vxlPrbsCtrlWrite_runs (he : x.enable = true) (hc : x.check = true) : exec (.vxlPrbsCtrlWrite p v) s = .next
    (setPort p { x with gen := bit v 31 == 1, check := bit v 30 == 1, pattern := bits v 29 28 } s) := by
  refine (checked_ok (by simpa [okPort, okWord, hp] using hv) s _).trans (congrArg _ ?_)
  simp only [vxlPrbsCtrlWriteEff, ← hx, hc, Bool.not_true, Bool.false_and, Bool.false_eq_true, if_false]
  exact (updPort_eq hx _).trans (by simp [he])

theorem exec_vxlPrbsCtrlWrite_starts (he : x.enable = false) (hc : x.check = false) (hb : bit v 30 = 1) :
    exec (.vxlPrbsCtrlWrite p v) s = .next
      (setPort p { x with gen := bit v 31 == 1, check := true, pattern := bits v 29 28, prbsFrom := some s.freeCtr, state := 6 }
        { s with freeCtr := s.freeCtr + 16 }) := by
  refine (checked_ok (by simpa [okPort, okWord, hp] using hv) s _).trans (congrArg _ ?_)
  have hport : x = portOf { s with freeCtr := s.freeCtr + 16 } p := hx
  simp [vxlPrbsCtrlWriteEff, ← hx, hc, hb, updPort_eq hport, he, idleState]

end Prbs

end Port

theorem exec_vxlDeviceIdWrite {v : Nat} {s : State} (hv : v < 2 ^ 32) (hb : ∀ e ∈ s.facets, e.2.halfPorts = []) :
    exec (.vxlDeviceIdWrite v) s = .next { s with vxl := { s.vxl with idValid := bit v 31 == 1, id := v % 65536 } } := by
  have hfree : (s.facets.any fun e => !e.2.halfPorts.isEmpty) = false := by
    simpa using fun n f => hb (n, f)
  exact (checked_ok (decide_eq_true hv) s _).trans (congrArg _ (by simp [vxlDeviceIdWriteEff, hfree]))

/-! ## The statements -/

/-- Settles O7: the limit is reached exactly where some flit of the replay buffer has been replayed 8 times. -/
theorem replayLimit_retrains : Obligations.ReplayLimit := by
  unfold Obligations.ReplayLimit
  intro p half s hp hh h3
  refine ⟨fun ⟨f, hf, hr⟩ => ?_, fun hr => ?_⟩
  · exact exec_vxlReplayLimit hp rfl hh h3 (List.any_eq_true.2 ⟨f, hf, decide_eq_true hr⟩)
  · refine exec_vxlReplayLimit_below hp rfl hh (List.any_eq_false.2 fun f hf => ?_)
    rw [decide_eq_true_iff]
    exact Nat.not_le.2 (hr f hf)

/-- Settles O46: each event of training, retraining and the lanes is exactly its effect on the port as it stands. -/
theorem voxlinkTraining : Obligations.VoxlinkTraining := by
  unfold Obligations.VoxlinkTraining
  intro p s hp x hx
  refine ⟨exec_vxlPortEnable hp hx, exec_vxlPortDisable hp hx, exec_vxlRetrain hp hx, exec_vxlTrainRetry hp hx, ?_, ?_, ?_, ?_, ?_⟩
  · exact exec_vxlTrainingDone_up hp hx
  · exact exec_vxlTrainingDone_down hp hx
  · exact fun l a b ha hb h4 => exec_vxlRetrainDone_up hp hx l ha hb h4
  · exact fun l a b ha hb h4 => exec_vxlRetrainDone_down hp hx l ha hb h4
  · exact fun k n hk h3 => ⟨exec_vxlLaneLockLoss hp hx hk h3, exec_vxlLaneErrorWindow_fails hp hx hk h3,
      exec_vxlLaneErrorWindow_whole hp hk⟩

/-- Settles O47: a flit by whether it is good and whether it carries a number, every other event by its effect on the port. -/
theorem voxlinkEcho : Obligations.VoxlinkEcho := by
  unfold Obligations.VoxlinkEcho
  intro p half s hp hh x hx
  refine ⟨fun f hl hr h3 hw => ⟨fun hg => ?_, fun hg hk => ?_, fun hg hk => ?_⟩, ?_, ?_, ?_, ?_, ?_, ?_, ?_, ?_⟩
  · exact (exec_vxlFlitReceive hp hx hl hr h3 hw).trans (congrArg _ (by simp [hg]))
  · exact (exec_vxlFlitReceive hp hx hl hr h3 hw).trans (congrArg _ (by simp [hg, hk]))
  · exact (exec_vxlFlitReceive hp hx hl hr h3 hw).trans (congrArg _ (by simp [hg, hk]))
  · exact fun a ha h3 => exec_vxlNakReceive hp hx hh ha h3
  · exact exec_vxlReplayLimit hp hx hh
  · exact exec_vxlIdleTimer hp hx hh
  · exact exec_vxlCredit hp hx hh
  · exact exec_vxlIdent hp hx hh
  · exact fun v hv hb => exec_vxlDeviceIdWrite hv hb
  · exact fun v hv he hc => exec_vxlPrbsCtrlWrite_runs hp hx hv he hc
  · exact fun v hv he hc hb => exec_vxlPrbsCtrlWrite_starts hp hx hv he hc hb

end Sys2Proof.Machine

/-! Memory requests of other modules (R399 to R401): the checks that come first, and the access of a request that is admitted. -/

namespace Sys2Proof.Machine

section Request
variable {p src n : Nat} {t : Txn} {s : State}

/-! ## How a request ends -/

theorem serveRemote_refused {e : Nat} (h : admitReq t s = .inr e) (ok : Bool)
    (act : Nat → Mover → State → Option Stop × State) : serveRemote p src t ok act s =
      answerError (facetByGlobal s t.masterDevice t.masterFacet) src t e s := by
  simp [serveRemote, h]

theorem remoteWrite_refused {e : Nat} (h : admitReq t s = .inr e) :
    remoteWrite p src t s = answerError (facetByGlobal s t.masterDevice t.masterFacet) src t e s := by
  unfold remoteWrite
  exact serveRemote_refused h _ _

/-- An admitted request that its access does not stop leaves what the access leaves. -/
theorem serveRemote_done {act : Nat → Mover → State → Option Stop × State} {w : State} (h : admitReq t s = .inl n)
    (hf : t.context ≠ 0 → SMap.look s.vxl.failed (remoteMover p src n t s).cmd = none)
    (ha : act n (remoteMover p src n t s) (chargeTxn (some n) none t s) = (none, w)) : serveRemote p src t true act s = w := by
  have hfree : (if t.context = 0 then none else SMap.look s.vxl.failed (remoteMover p src n t s).cmd) = none := by
    split
    · rfl
    · next hc => exact hf hc
  simp [serveRemote, h, hfree, ha]

section Admitted
variable (h : admitReq t s = .inl n)
  (hf : t.context ≠ 0 → SMap.look s.vxl.failed (remoteMover p src n t s).cmd = none)
include h hf

theorem remoteWrite_done {v : State} (hl : t.data.length ≤ if t.encrypted then 200 else 224)
    (hw : moverWrite (remoteMover p src n t s) 0 0 t.addr t.data (chargeTxn (some n) none t s) = (none, v)) :
    remoteWrite p src t s = answer (some n) src t 0x04 0 [] false v := by
  rw [remoteWrite, decide_eq_true hl]
  exact serveRemote_done h hf (by simp [hw])

theorem vxlReadEff_done {d : List Byte × List Byte} {u v : State} (hu : u = chargeTxn (some n) none t s)
    (h2 : 2 ≤ t.data.length) (h1 : 1 ≤ readLen t) (h4 : readLen t ≤ 4096)
    (hr : moverRead (remoteMover p src n t s) 0 0 t.addr (readLen t) (drawBytes (readLen t) u).1 (drawBytes (readLen t) u).2 =
      (.inl d, v)) : vxlReadEff p src t s =
        sendData n src t (flitData v n) (ceilDiv (readLen t) (flitData v n)) t.addr d.1 v := by
  subst hu
  have hok : (decide (2 ≤ t.data.length) && decide (1 ≤ readLen t) && decide (readLen t ≤ 4096)) = true := by
    simp [h2, h1, h4]
  rw [vxlReadEff, hok]
  exact serveRemote_done h hf (by simp [hr])

/-- An atomic at the home of its line answers with the old value. -/
theorem remoteAtomic_done {len fa old : Nat} {g : Nat → Nat} {v w : State} (op : Nat) (ha : t.addr % 8 = 0)
    (hl : len ≤ t.data.length)
    (ht : translate (remoteMover p src n t s).cluster (remoteMover p src n t s).via.cls (remoteMover p src n t s).ctx t.addr true
      (remoteMover p src n t s).cmd (chargeTxn (some n) none t s) = (.device fa, v))
    (hg : atomicAt (remoteMover p src n t s) n fa g v = (.inl old, w)) :
    remoteAtomic p src t len op g s = answer (some n) src t 0x07 0 (toLe 8 old) false w := by
  have hok : (t.addr % 8 == 0 && decide (len ≤ t.data.length)) = true := by simp [ha, hl]
  rw [remoteAtomic, hok]
  exact serveRemote_done h hf (by simp [ht, hg])

end Admitted

end Request

/-- Settles O49: a request that is not admitted is answered before its access; one that is, by what its access leaves. -/
theorem voxlinkMemoryRequests : Obligations.VoxlinkMemoryRequests := by
  unfold Obligations.VoxlinkMemoryRequests
  intro p src n t s hp hsrc
  refine ⟨?_, ?_⟩
  · rintro e he _ rfl
    exact ⟨(checked_message hp hsrc _).trans (congrArg _ (serveRemote_refused he _ _)),
      (checked_message hp hsrc _).trans (congrArg _ (remoteWrite_refused he)),
      (checked_message hp hsrc _).trans (congrArg _ (remoteWrite_refused he)),
      (checked_message hp hsrc _).trans (congrArg _ (serveRemote_refused he _ _)),
      (checked_message hp hsrc _).trans (congrArg _ (serveRemote_refused he _ _))⟩
  · rintro h _ _ rfl rfl hf
    refine ⟨fun v hl hw => ?_, fun d v h2 h1 h4 hr => ?_, fun fa v old w ha ht => ⟨fun hl hg => ?_, fun hl hg => ?_⟩⟩
    · exact ⟨(checked_message hp hsrc _).trans (congrArg _ (remoteWrite_done h hf hl hw)),
        (checked_message hp hsrc _).trans (congrArg _ (remoteWrite_done h hf hl hw))⟩
    · exact (checked_message hp hsrc _).trans (congrArg _ (vxlReadEff_done h hf rfl h2 h1 h4 hr))
    · exact (checked_message hp hsrc _).trans (congrArg _ (remoteAtomic_done h hf 2 ha hl ht hg))
    · exact (checked_message hp hsrc _).trans (congrArg _ (remoteAtomic_done h hf 3 ha hl ht hg))

end Sys2Proof.Machine

/-! Sequence serving: the commands of the table, the build and the run of a step, and the deadlines of its sequences (R418 to R439,
R450). -/

namespace Sys2Proof.Machine

/-! ## SEQ_CONFIGURE, SEQ_ADMIT, SEQ_CANCEL (R418 to R433) -/

section Command
variable {id : Nat} {c : Cmd} {f : Facet} {v : Serve} {s : State} (hc : cmdOf s id = some c) (hs : mayStart s id = true)
  (hf : facetOf s c.facet = some f) (hv : SMap.look s.serve c.facet = some v)
include hc hs

section Table
include hf hv

theorem exec_seqConfigure_sets {a : CfgArgs} (hp : c.desc.payload = .configure a) (hok : configureOk f v a = true) :
    exec (.seqConfigure id) s = .next (finishCmd id (setServe c.facet { v with
      configured := true, ladder := a.ladder, draftLadder := a.draftLadder, budget := a.budget, draftLen := a.draftLen
      kvLow := a.kvLow, kvArmed := v.kvArmed || v.kvLow != a.kvLow } (startCmd id s))) :=
  (checked_ok rfl s _).trans (congrArg _ (by simp [seqConfigureEff, hc, hp, hf, hs, hv, hok]))

theorem exec_seqConfigure_refused {a : CfgArgs} (hp : c.desc.payload = .configure a) (hok : configureOk f v a = false) :
    exec (.seqConfigure id) s = .next (endUnstarted id stBadHandle 0 s) :=
  (checked_ok rfl s _).trans (congrArg _ (by simp [seqConfigureEff, hc, hp, hf, hs, hv, hok]))

theorem exec_seqAdmit_enters {a : AdmitArgs} {image : List Byte} {slot : Nat} {d : List Byte × List Byte} {t : State}
    (hp : c.desc.payload = .seqAdmit a) (hcfg : v.configured = true) (hl : a.ladder = v.ladder)
    (hslot : freeSlot s c.facet v = some slot)
    (hread : moverRead (cmdMover (startCmd id s) id c) 0 0 a.record 256 image (startCmd id s) = (.inl d, t))
    (hst : admitStatus t c.facet f v a d.1 = none) :
    exec (.seqAdmit id image) s = .next (finishCmd id (synced c.facet (setServe c.facet
      (enterSeq slot c (recordOfBytes d.1) f v a)) t)) := by
  have hwait : ¬ c.phase = .running := by simp [phase_of_mayStart hc hs]
  refine (checked_ok rfl s _).trans (congrArg _ ?_)
  simp [seqAdmitEff, hc, hp, hf, hs, hv, hcfg, hl, hslot, hwait, hread, hst]

end Table

section Cancel
include hv
variable {x k : Nat} {q : Seq} (hp : c.desc.payload = .seqCancel x) (hk : slotOfSeq v x = some k)
  (hq : SMap.look v.seqs k = some q)
include hp hk hq

theorem exec_seqCancel_cancels (ho : q.context = c.desc.context) :
    exec (.seqCancel id) s = .next (finishCmd id (synced c.facet (cancelSeq c.facet k q) (startCmd id s))) :=
  (checked_ok rfl s _).trans (congrArg _ (by simp [seqCancelEff, hc, hp, hs, hv, hk, hq, ho]))

theorem exec_seqCancel_foreign (ho : q.context ≠ c.desc.context) :
    exec (.seqCancel id) s = .next (endUnstarted id stBadHandle 0 s) :=
  (checked_ok rfl s _).trans (congrArg _ (by simp [seqCancelEff, hc, hp, hs, hv, hk, hq, ho]))

end Cancel

end Command

/-! ## The build and the run of a step (R426, R434 to R439) -/

section Step
variable {n : Nat} {s : State} (hn : n < 64)
include hn

theorem exec_stepBuild (rings : List RingRead) :
    exec (.stepBuild n rings) s = .next (if mayBuild s n then synced n (buildStep n rings) s else s) :=
  checked_ok (decide_eq_true hn) s _

variable {v : Serve} {p : Step} (hv : SMap.look s.serve n = some v) (hp : v.step = some p)
include hv hp

theorem exec_stepCopiesDone (hd : p.copiesDone = false) : exec (.stepCopiesDone n) s = .next
    (tryStartStep n (updStep n (fun q => { q with copiesDone := true }) (p.copies.foldl (fun t x => copyBlock n x t) s))) :=
  (checked_ok (decide_eq_true hn) s _).trans (congrArg _ (by simp [stepCopiesDoneEff, hv, hp, hd]))

/-- The target run that has met nothing ends its step with its results in. -/
theorem exec_stepRunComplete {f g : Facet} {t : State} (hf : facetOf s n = some f) (hst : p.started = true)
    (hdone : p.done = false) (hrun : p.run = 0) (hdue : p.due = 0) (hsw : f.switching = none) (he : f.eclipse = none)
    (hend : coresEnded s (stepRun n) f.cores f.stepMet = true) (ht : t = freeCores (stepRun n) f.cores (checkCores f.cores s))
    (hg : facetOf t n = some g) (hmet : g.stepMet = []) :
    exec (.stepRunComplete n) s = .next (updServe n (fun w => { w with
      steps := w.steps + 1, step := some { p with done := true, started := false } })
      (divideAcct n v p (countRun n f v p true t))) := by
  have hgo : (!p.started || p.done || f.switching.isSome || f.eclipse.isSome || p.due != 0 ||
      !coresEnded s (stepRun n) f.cores f.stepMet) = false := by
    simp [hst, hdone, hsw, he, hdue, hend]
  have hgood : (combineStatus (((facetOf t n).map (·.stepMet)).getD [])).1 = stOk := by
    simp [hg, hmet, combineStatus]
  refine (checked_ok (decide_eq_true hn) s _).trans (congrArg _ ?_)
  simp only [stepRunCompleteEff, hf, hv, hp, hgo, ← ht, hgood, advanceStep, hrun]
  rfl

end Step

/-! ## Deadlines of sequences (R450) -/

section Deadline
variable {n x k : Nat} {v : Serve} {q : Seq} {s : State} (hn : n < 64) (hv : SMap.look s.serve n = some v)
  (hk : slotOfSeq v x = some k) (hq : SMap.look v.seqs k = some q)
include hn hv hk hq

theorem exec_seqDeadlineExpiry (hl : q.leave = none) (hst : q.state = 1 ∨ q.state = 2) :
    exec (.seqDeadlineExpiry n x false) s = .next (if q.firstDeadline = 0 then s else missDeadline n k q false s) := by
  refine (checked_ok (decide_eq_true hn) s _).trans (congrArg _ ?_)
  have hseq : seqAt s n k = some q := by simp [seqAt, hv, hq]
  by_cases h0 : q.firstDeadline = 0
  · simp [seqDeadlineExpiryEff, hv, hk, hseq, h0]
  · simp [seqDeadlineExpiryEff, hv, hk, hseq, hl, hst, h0]

end Deadline

/-- Settles O40: each command and each event of a step by what its checks, which the conditions meet, let through. -/
theorem serving : Obligations.Serving := by
  unfold Obligations.Serving
  refine ⟨fun id c f v s hc hs hf hv => ⟨?_, ?_, ?_, ?_⟩, ⟨?_, ?_, ?_, ?_⟩⟩
  · exact fun a => exec_seqConfigure_sets hc hs hf hv
  · exact fun a => exec_seqConfigure_refused hc hs hf hv
  · exact fun a image slot d t => exec_seqAdmit_enters hc hs hf hv
  · exact fun x k q hp hk hq => ⟨exec_seqCancel_cancels hc hs hv hp hk hq, exec_seqCancel_foreign hc hs hv hp hk hq⟩
  · exact fun n rings s hn => ⟨fun hb => (exec_stepBuild hn rings).trans (congrArg _ (if_pos hb)),
      fun hb => (exec_stepBuild hn rings).trans (congrArg _ (if_neg (by simp [hb])))⟩
  · exact fun n v p s hn hv hp => exec_stepCopiesDone hn hv hp
  · rintro n f v p s t hn hf hv hp hst hdone hrun hdue hsw he hend ht ⟨g, hg, hmet⟩
    exact exec_stepRunComplete hn hv hp hf hst hdone hrun hdue hsw he hend ht hg hmet
  · exact fun n x k v q s hn hv hk hq hl hst =>
      ⟨fun h => (exec_seqDeadlineExpiry hn hv hk hq hl hst).trans (congrArg _ (if_neg h)),
        fun h => (exec_seqDeadlineExpiry hn hv hk hq hl hst).trans (congrArg _ (if_pos h))⟩

end Sys2Proof.Machine

/-! State handoff through the pooled tier: the steps of an export (R454, R455, R458, R459) and of an import (R456, R457). -/

namespace Sys2Proof.Machine

/-! ## Exports (R454, R455, R458, R459) -/

/-- An export of a RUNNING sequence waits for the end of the sequence's last step. -/
theorem exec_stateExport {id k : Nat} {c : Cmd} {f : Facet} {a : ExportArgs} {v : Serve} {q : Seq} {s : State}
    (hc : cmdOf s id = some c) (hs : mayStart s id = true) (hp : c.desc.payload = .stateExport a)
    (hf : facetOf s c.facet = some f) (ht : f.tier.kind ≠ 0) (hv : SMap.look s.serve c.facet = some v)
    (hk : slotOfSeq v a.seqId = some k) (hq : SMap.look v.seqs k = some q) (hok : exportOk q c a = true) (h2 : q.state = 2) :
    exec (.stateExport id) s = .next (updSeq c.facet k
      (fun y => { y with exp := some ⟨1, some id, a.device, a.facet, 0, none, false⟩ }) (startCmd id s)) :=
  (checked_ok rfl s _).trans (congrArg _ (by simp [stateExportEff, hc, hp, hf, hs, hv, hk, hq, ht, hok, h2]))

section Export
variable {n x k : Nat} {v : Serve} {q : Seq} {e : Export} {s : State} (hn : n < 64) (hv : SMap.look s.serve n = some v)
  (hk : slotOfSeq v x = some k) (hq : SMap.look v.seqs k = some q) (he : q.exp = some e)
include hn hv hk hq he

/-- An event of an export that stands at one of the steps which take it has its effect. -/
theorem checked_withExp {steps : List Nat} (hs : e.step ∈ steps) (act : Nat → Seq → Export → State → State) :
    checked (okFacet n) s (withExp n x steps act) = .next (synced n (act k q e) s) := by
  refine (checked_ok (decide_eq_true hn) s _).trans (congrArg _ ?_)
  simp [withExp, seqAt, hv, hk, hq, he, hs]

/-- The effect of such an event, as it is for the export as it stands. -/
theorem checked_withExp_eq {steps : List Nat} {act : Nat → Seq → Export → State → State} {g : State → State}
    (hs : e.step ∈ steps) (hg : act k q e = g) : checked (okFacet n) s (withExp n x steps act) = .next (synced n g s) :=
  hg ▸ checked_withExp hn hv hk hq he hs act

theorem exec_exportLastPassDone (h1 : e.step = 1) (h3 : q.state = 3) :
    exec (.exportLastPassDone n x) s = .next (synced n (readWord n k x q.rec_.tier 2) s) :=
  checked_withExp_eq hn hv hk hq he (by simp [h1]) (by simp [h3])

section Word
variable (h2 : e.step = 2)
include h2

theorem exec_exportWordRead_failed :
    exec (.exportWordRead n x .failed) s = .next (synced n (exportLost n k q e false) s) :=
  checked_withExp_eq hn hv hk hq he (by simp [h2]) rfl

theorem exec_exportWordRead (w : Nat) : exec (.exportWordRead n x (.word w)) s = .next (synced n (fun t =>
    if acceptWord (globalOf t n) w then exportWrites n k q e w t else exportLost n k q e false t) s) :=
  checked_withExp_eq hn hv hk hq he (by simp [h2]) (by simp [h2])

end Word

theorem exec_exportWritesAcked (h3 : e.step = 3) (ok : Bool) : exec (.exportWritesAcked n x ok) s = .next (synced n (fun t =>
    if ok then sendOffer n k q e e.word t else exportLost n k q e false t) s) :=
  checked_withExp hn hv hk hq he (by simp [h3]) _

theorem exec_exportCasAnswer (h4 : e.step = 4) (a : CasAnswer) :
    exec (.exportCasAnswer n x a) s = .next (synced n (casAnswered n k q e a) s) :=
  checked_withExp hn hv hk hq he (by simp [h4]) _

/-- A poll that finds the word which the offeree writes. -/
theorem exec_exportPoll_owned (h5 : e.step = 5) {w : Nat} (hw : w = ownWord (q.rec_.offeredEpoch + 1) e.device e.facet 2) :
    exec (.exportPoll n x (.word w)) s = .next (synced n (fun t => handedOff n k q e (tierRead n x q.rec_.tier 8 t)) s) :=
  checked_withExp_eq hn hv hk hq he (by simp [h5]) (by simp [hw])

theorem exec_exportOfferDeadline (h5 : e.step = 5) (hd : e.deadline ≠ none)
    (hw : e.word = ownWord q.rec_.offeredEpoch e.device e.facet 1) :
    exec (.exportOfferDeadline n x) s = .next (synced n (beginReclaim n k) s) := by
  have hdue : e.deadline.isSome = true := Option.isSome_iff_ne_none.2 hd
  exact checked_withExp_eq hn hv hk hq he (by simp [h5]) (by simp [hdue, hw])

theorem exec_exportReclaimAnswer (h8 : e.step = 8) (a : CasAnswer) :
    exec (.exportReclaimAnswer n x a) s = .next (synced n (reclaimAnswered n k q e a) s) :=
  checked_withExp hn hv hk hq he (by simp [h8]) _

end Export

/-- A step on a table reads the table as it stands. -/
theorem synced_congr {n : Nat} {g h : State → State} {s : State} (hg : g s = h s) : synced n g s = synced n h s := by
  simp only [synced, hg]

/-! ## Imports (R456, R457) -/

section Import
variable {id : Nat} {c : Cmd} {f : Facet} {a : ImportArgs} {v : Serve} {s : State} (hc : cmdOf s id = some c)
  (hp : c.desc.payload = .stateImport a) (hf : facetOf s c.facet = some f) (hv : SMap.look s.serve c.facet = some v)
include hc hp hf hv

theorem exec_stateImport (hs : mayStart s id = true) (ht : f.tier.kind ≠ 0) (hcfg : v.configured = true)
    (hid : idTaken s c.facet v a.seqId = false) :
    exec (.stateImport id) s = .next (updCmd id (fun x => { x with stage := 1 }) (startCmd id s)) :=
  (checked_ok rfl s _).trans (congrArg _ (by simp [stateImportEff, hc, hp, hf, hv, hs, ht, hcfg, hid]))

section Stage
variable {stage : Nat} (hr : c.phase = .running) (hst : c.stage = stage)
include hr hst

/-- An event of a running import at the stage that takes it has its effect. -/
theorem withImport_acts (act : Cmd → ImportArgs → Facet → Serve → State → State) :
    withImport id stage act s = act c a f v s := by
  simp [withImport, hc, hp, hf, hv, hr, hst]

end Stage

theorem exec_importSlotReserved {k : Nat} (hr : c.phase = .running) (h1 : c.stage = 1) (hk : freeSlot s c.facet v = some k) :
    exec (.importSlotReserved id) s = .next (tierRead c.facet a.seqId (a.tier + 0x100) 256
      (tierRead c.facet a.seqId a.tier 8 (updCmd id (fun x => { x with stage := 2, slot := k }) s))) := by
  refine (checked_ok rfl s _).trans (congrArg _ ((withImport_acts hc hp hf hv hr h1 _).trans ?_))
  simp only [hk]

section Word
variable (hr : c.phase = .running) (h2 : c.stage = 2)
include hr h2

theorem exec_importWordRead_failed (b : List Byte) :
    exec (.importWordRead id .failed b) s = .next (importFails id stStateLost s) :=
  (checked_ok rfl s _).trans (congrArg _ (withImport_acts hc hp hf hv hr h2 _))

/-- The word of a record that fits decides between the CAS of step I2 and the loss of the handoff. -/
theorem exec_importWordRead {b : List Byte} {r : SeqRecord} {me : Nat × Nat} (hb : r = recordOfBytes b) (hres : a.resolve = false)
    (hfit : importFits f v r = true) (hme : me = globalOf s c.facet) (w : Nat) :
    exec (.importWordRead id (.word w) b) s = .next (if w = ownWord (w / 2 ^ 32) me.1 me.2 1 then
        tierCas c.facet a.seqId a.tier w (ownWord (w / 2 ^ 32 + 1) me.1 me.2 2)
          (updCmd id (fun x => { x with stage := 3, word := w, image := some r }) s)
      else importFails id stHandoffLost s) := by
  subst hb hme
  refine (checked_ok rfl s _).trans (congrArg _ ?_)
  unfold importWordReadEff
  rw [withImport_acts hc hp hf hv hr h2]
  simp only [hfit, hres, Bool.not_true, Bool.false_and, Bool.false_eq_true, if_false]

end Word

section Cas
variable (hr : c.phase = .running) (h3 : c.stage = 3)
include hr h3

theorem exec_importCasAnswer_won {r : SeqRecord} (hi : c.image = some r) :
    exec (.importCasAnswer id .won) s = .next (enterImport id c a v r (c.word / 2 ^ 32 + 1) s) := by
  refine (checked_ok rfl s _).trans (congrArg _ ((withImport_acts hc hp hf hv hr h3 _).trans ?_))
  simp only [hi]

theorem exec_importCasAnswer_lost :
    exec (.importCasAnswer id .compareFailed) s = .next (importFails id stHandoffLost s) :=
  (checked_ok rfl s _).trans (congrArg _ (withImport_acts hc hp hf hv hr h3 _))

end Cas

end Import

section Blocks
variable {n x k : Nat} {v : Serve} {q : Seq} {s : State} (d : List Byte) (hn : n < 64) (hv : SMap.look s.serve n = some v)
  (hk : slotOfSeq v x = some k) (hq : SMap.look v.seqs k = some q) (hr : q.reading = true)
include hn hv hk hq hr

theorem exec_importBlockReadsDone_ok : exec (.importBlockReadsDone n x true d) s = .next
    (tierCas n x q.rec_.tier (ownWord q.importEpoch (globalOf s n).1 (globalOf s n).2 2)
      (ownWord q.importEpoch (globalOf s n).1 (globalOf s n).2 3)
      (updServe n (fun w => { w with imports := w.imports + 1, releases := w.releases ++ [x] })
        (updSeq n k (fun y => { y with reading := false, ready := true }) (importBlocks n v q.blocks d s)))) :=
  (checked_ok (decide_eq_true hn) s _).trans (congrArg _ (by simp [importBlockReadsDoneEff, hv, hk, hq, hr]))

theorem exec_importBlockReadsDone_lost : exec (.importBlockReadsDone n x false d) s = .next
    (synced n (leaveNow n k 5 stStateLost false) s) :=
  (checked_ok (decide_eq_true hn) s _).trans (congrArg _ (by simp [importBlockReadsDoneEff, hv, hk, hq, hr]))

end Blocks

theorem exec_importReleaseAnswer {n x : Nat} {v : Serve} {s : State} (a : CasAnswer) (hn : n < 64)
    (hv : SMap.look s.serve n = some v) (hx : x ∈ v.releases) : exec (.importReleaseAnswer n x a) s = .next
      (if a = .won then setServe n { v with releases := v.releases.erase x } s
      else raiseServe evTierReleaseFail n x (setServe n { v with releases := v.releases.erase x } s)) :=
  (checked_ok (decide_eq_true hn) s _).trans (congrArg _ (by simp [importReleaseAnswerEff, hv, hx]))

/-- Settles O42: each event by the step at which the export, or the import, stands, and by what it answers. -/
theorem handoffs : Obligations.Handoffs := by
  unfold Obligations.Handoffs
  refine ⟨⟨?command, ?exporting⟩, ?importing, ?blocks, ?release⟩
  case command => exact fun id k c f a v q s hc hs hp hf ht hv => exec_stateExport hc hs hp hf ht hv
  case exporting =>
    intro n x k v q e s hn hv hk hq he
    refine ⟨exec_exportLastPassDone hn hv hk hq he, ?_, ?_, exec_exportWordRead_failed hn hv hk hq he, ?_, ?_, ?_, ?_, ?_,
      exec_exportOfferDeadline hn hv hk hq he, ?_⟩
    · exact fun w h2 hw => (exec_exportWordRead hn hv hk hq he h2 w).trans (congrArg _ (synced_congr (if_pos hw)))
    · exact fun w h2 hw => (exec_exportWordRead hn hv hk hq he h2 w).trans (congrArg _ (synced_congr (if_neg (by simp [hw]))))
    · exact fun h3 => exec_exportWritesAcked hn hv hk hq he h3 true
    · exact fun h3 => exec_exportWritesAcked hn hv hk hq he h3 false
    · exact fun h4 hev => (exec_exportCasAnswer hn hv hk hq he h4 .won).trans
        (congrArg _ (synced_congr (if_neg (by simp [hev]))))
    · exact fun h4 => exec_exportCasAnswer hn hv hk hq he h4 .failed
    · exact fun w h5 hw => exec_exportPoll_owned hn hv hk hq he h5 hw
    · exact fun h8 => exec_exportReclaimAnswer hn hv hk hq he h8 .won
  case importing =>
    intro id c f a v s hc hp hf hv
    refine ⟨exec_stateImport hc hp hf hv, fun k => exec_importSlotReserved hc hp hf hv, ?_, ?_, ?_⟩
    · intro b r w me hb hr h2 hres hfit hme
      have hword := exec_importWordRead hc hp hf hv hr h2 hb hres hfit hme w
      exact ⟨fun hw => hword.trans (congrArg _ (if_pos hw)), fun hw => hword.trans (congrArg _ (if_neg hw)),
        exec_importWordRead_failed hc hp hf hv hr h2 b⟩
    · exact fun r hr h3 hi => exec_importCasAnswer_won hc hp hf hv hr h3 hi
    · exact exec_importCasAnswer_lost hc hp hf hv
  case blocks =>
    exact fun n x k v q d s hn hv hk hq hr =>
      ⟨exec_importBlockReadsDone_ok d hn hv hk hq hr, exec_importBlockReadsDone_lost d hn hv hk hq hr⟩
  case release =>
    exact fun n x v s hn hv hx => ⟨exec_importReleaseAnswer .won hn hv hx, exec_importReleaseAnswer .failed hn hv hx⟩

end Sys2Proof.Machine

/-! SPDM over a function's DOE mailbox, its sessions, and the vendor-defined ops (R518 to R521). -/

namespace Sys2Proof.Machine

section Mailbox
variable {f : Nat} {s : State}

/-- A function that exists answers while the functions answer. -/
theorem doeAsk_up (hu : hostUp s = true) (he : fnExists s f = true) (ok : Bool) (e : Nat) (act : State → State) :
    doeAsk f ok e act s = if ok then act s else doeError f e s := by
  simp [doeAsk, hu, he]

/-- A vendor-defined op that acts answers OK with its data. -/
theorem vendorOp_acts (hu : hostUp s = true) (he : fnExists s f = true) {act : State → (Nat × List Byte) × State} {d : List Byte}
    {t : State} (h : act s = acceptWith d t) : vendorOp f act s = vendorSend f syOk d t := by
  simp [vendorOp, doeAsk, hu, he, h, acceptWith]

/-- One that is refused answers its status, and changes nothing. -/
theorem vendorOp_refuses (hu : hostUp s = true) (he : fnExists s f = true) {act : State → (Nat × List Byte) × State} {st : Nat}
    (h : act s = refuse st s) : vendorOp f act s = vendorSend f st [] s := by
  simp [vendorOp, doeAsk, hu, he, h, refuse]

variable (hf : f < 64) (hu : hostUp s = true) (he : fnExists s f = true)
include hf hu he

/-- A request on a function's mailbox. -/
theorem checked_doeAsk (ok : Bool) (e : Nat) (act : State → State) :
    checked (okFn f) s (doeAsk f ok e act) = .next (if ok then act s else doeError f e s) :=
  (checked_ok (decide_eq_true hf) s _).trans (congrArg _ (doeAsk_up hu he ok e act))

theorem checked_vendorOp_acts {act : State → (Nat × List Byte) × State} {d : List Byte} {t : State} (h : act s = acceptWith d t) :
    checked (okFn f) s (vendorOp f act) = .next (vendorSend f syOk d t) :=
  (checked_ok (decide_eq_true hf) s _).trans (congrArg _ (vendorOp_acts hu he h))

theorem checked_vendorOp_refuses {act : State → (Nat × List Byte) × State} {st : Nat} (h : act s = refuse st s) :
    checked (okFn f) s (vendorOp f act) = .next (vendorSend f st [] s) :=
  (checked_ok (decide_eq_true hf) s _).trans (congrArg _ (vendorOp_refuses hu he h))

/-! ## The exchange of a connection (R519) -/

theorem exec_spdmGetVersion :
    exec (.spdmGetVersion f) s = .next (doeSend f dmVersion [0x12, 0x13] (setSpdm f { version := true } s)) :=
  checked_doeAsk hf hu he true 0 _

theorem exec_spdmGetCapabilities : exec (.spdmGetCapabilities f) s = .next (if (spdmOf s f).version then
      doeSend f dmCapabilities [] (setSpdm f { spdmOf s f with caps := true } s) else doeError f deUnexpected s) :=
  (checked_ok (decide_eq_true hf) s _).trans (congrArg _ (doeAsk_up hu he _ _ _))

theorem exec_spdmNegotiateAlgorithms (b : Bool) : exec (.spdmNegotiateAlgorithms f b) s = .next (if (spdmOf s f).caps then
      if b then doeSend f dmAlgorithms [] (setSpdm f { spdmOf s f with algs := true } s) else doeError f deInvalid s
    else doeError f deUnexpected s) :=
  (checked_ok (decide_eq_true hf) s _).trans (congrArg _ ((doeAsk_up hu he _ _ _).trans (by rw [doeAsk_up hu he])))

section Agreed
variable (ha : (spdmOf s f).algs = true)
include ha

omit hf in
theorem withIdentity_up (act : State → State) :
    withIdentity f act s = if s.fuses.identityKeys then act s else doeError f deUnspecified s := by
  simp only [withIdentity, doeAsk_up hu he, agreed, ha, if_true]

theorem exec_spdmGetDigests : exec (.spdmGetDigests f) s = .next
    (if s.fuses.identityKeys then doeSend f dmDigests [0x01] s else doeError f deUnspecified s) :=
  (checked_ok (decide_eq_true hf) s _).trans (congrArg _ (withIdentity_up hu he ha _))

theorem exec_spdmGetCertificate (k o l : Nat) : exec (.spdmGetCertificate f k o l) s = .next (if s.fuses.identityKeys then
      if k == 0 then doeSend f dmCertificate (toLe 1 k ++ (Config.rsaChain.drop o).take l) s else doeError f deInvalid s
    else doeError f deUnspecified s) :=
  (checked_ok (decide_eq_true hf) s _).trans
    (congrArg _ ((withIdentity_up hu he ha _).trans (by rw [doeAsk_up hu he])))

theorem exec_spdmChallenge (k : Nat) : exec (.spdmChallenge f k) s = .next (if s.fuses.identityKeys then
      if k == 0 then doeSend f dmChallengeAuth (toLe 1 k) (setSpdm f { spdmOf s f with challenged := true } s)
      else doeError f deInvalid s
    else doeError f deUnspecified s) :=
  (checked_ok (decide_eq_true hf) s _).trans
    (congrArg _ ((withIdentity_up hu he ha _).trans (by rw [doeAsk_up hu he])))

theorem exec_spdmKeyExchange : exec (.spdmKeyExchange f) s = .next (if s.fuses.identityKeys then
      if decide ((sessionsOf s f).length < 2) then openSession f s else doeError f deSessionLimit s
    else doeError f deUnspecified s) :=
  (checked_ok (decide_eq_true hf) s _).trans
    (congrArg _ ((withIdentity_up hu he ha _).trans (by rw [doeAsk_up hu he])))

theorem exec_spdmGetMeasurements {i : Nat} {signed : Bool} (hi : i ≤ 6 ∨ i = 0xFF)
    (hs : signed = false ∨ s.fuses.identityKeys = true) : exec (.spdmGetMeasurements f i signed) s = .next
      (doeSend f dmMeasurements (measureBlocks s f i) (setSpdm f { spdmOf s f with measured := signed } s)) := by
  have hindex : (decide (i ≤ 6) || i == 0xFF) = true := by simpa using hi
  have hsign : (!signed || s.fuses.identityKeys) = true := by simpa using hs
  refine (checked_ok (decide_eq_true hf) s _).trans (congrArg _ ?_)
  have hagreed : agreed s f = true := ha
  simp only [spdmGetMeasurementsEff, doeAsk_up hu he, hagreed, hindex, hsign, if_true]
  rfl

end Agreed

/-! ## Sessions (R519) -/

theorem exec_spdmFinish {id : Nat} {x : Session} (hx : sessionOf s f id = some x) (h : x.established = false) (ok : Bool) :
    exec (.spdmFinish f id ok) s = .next (finishSession f id ok s) := by
  have hopen : ((sessionOf s f id).map fun x => !x.established).getD false = true := by simp [hx, h]
  exact (checked_ok (decide_eq_true hf) s _).trans (congrArg _ ((doeAsk_up hu he _ _ _).trans (if_pos hopen)))

/-- A request of a session: answered where the session stands, and an error where it does not. -/
theorem checked_inSession (id : Nat) (act : State → State) : checked (okFn f) s
    (fun t => doeAsk f (inSession t f id) deUnexpected act t) = .next (if inSession s f id then act s else doeError f deUnexpected s) :=
  (checked_ok (decide_eq_true hf) s _).trans (congrArg _ (doeAsk_up hu he _ _ _))

theorem exec_spdmHeartbeat (id : Nat) : exec (.spdmHeartbeat f id) s = .next
    (if inSession s f id then doeSend f dmHeartbeat [] s else doeError f deUnexpected s) :=
  checked_inSession hf hu he id _

theorem exec_spdmKeyUpdate (id : Nat) : exec (.spdmKeyUpdate f id) s = .next
    (if inSession s f id then doeSend f dmKeyUpdate [] s else doeError f deUnexpected s) :=
  checked_inSession hf hu he id _

theorem exec_spdmEndSession (id : Nat) : exec (.spdmEndSession f id) s = .next (if inSession s f id then
    doeSend f dmEndSession [] (dropSessions (fun x => x.fn == f && x.id == id) s) else doeError f deUnexpected s) :=
  checked_inSession hf hu he id _

/-! ## GET_PQ_CHAIN, PQ_SIGN, GET_NONCE (R521) -/

theorem exec_getPqChain (hk : s.fuses.identityKeys = true) :
    exec (.getPqChain f) s = .next (vendorSend f syOk Config.pqChain s) :=
  checked_vendorOp_acts hf hu he (if_pos hk)

theorem exec_getPqChain_none (hk : s.fuses.identityKeys = false) :
    exec (.getPqChain f) s = .next (vendorSend f syNotFound [] s) :=
  checked_vendorOp_refuses hf hu he (if_neg (by simp [hk]))

theorem exec_pqSign_none (hk : s.fuses.identityKeys = false) (w : Option Nat) {k : Nat} (h2 : k ≤ 2) :
    exec (.pqSign f w k) s = .next (vendorSend f syNotFound [] s) :=
  checked_vendorOp_refuses hf hu he (by simp [Nat.not_lt.2 h2, hk])

section Signed
variable (hk : s.fuses.identityKeys = true)
include hk

/-- A signature of the exchange of a session opens the session to the key ops. -/
theorem exec_pqSign_session {id : Nat} (hin : inSession s f id = true) : exec (.pqSign f (some id) 2) s = .next
    (vendorSend f syOk (Config.pqSignature (Config.freeNat s.freeCtr))
      (updSession f id (fun x => { x with pq := true }) { s with freeCtr := s.freeCtr + 1 })) := by
  refine checked_vendorOp_acts hf hu he ?_
  simp only [hk, pqTarget, hin, Bool.not_true, Bool.or_self, Bool.false_eq_true, Nat.lt_irrefl, if_true, if_false]
  rfl

theorem exec_pqSign_answer (w : Option Nat) {k : Nat}
    (hr : (k = 0 ∧ (spdmOf s f).challenged = true) ∨ (k = 1 ∧ (spdmOf s f).measured = true)) :
    exec (.pqSign f w k) s = .next
      (vendorSend f syOk (Config.pqSignature (Config.freeNat s.freeCtr)) { s with freeCtr := s.freeCtr + 1 }) := by
  refine checked_vendorOp_acts hf hu he ?_
  rcases hr with ⟨rfl, h⟩ | ⟨rfl, h⟩
  · simp [hk, pqTarget, h, signAnswer, draw]
  · simp [hk, pqTarget, h, signAnswer, draw]

end Signed

theorem exec_getNonce (h0 : f = 0) : exec (.getNonce f) s = .next (vendorSend 0 syOk (toLe 32 (Config.freeNat s.freeCtr))
    { s with freeCtr := s.freeCtr + 1, sec := { s.sec with nonce := some (Config.freeNat s.freeCtr % 2 ^ 256) } }) := by
  subst h0
  exact checked_vendorOp_acts hf hu he rfl

theorem exec_getNonce_denied (h0 : f ≠ 0) : exec (.getNonce f) s = .next (vendorSend f syDenied [] s) :=
  checked_vendorOp_refuses hf hu he (if_pos (by simpa using h0))

end Mailbox

/-- Settles O55: every request by what it needs of the connection, of the identity keys and of its session. -/
theorem spdmAndSessions : Obligations.SpdmAndSessions := by
  unfold Obligations.SpdmAndSessions
  refine ⟨fun f s hf hu he => ⟨exec_spdmGetVersion hf hu he, ?capabilities, ?_, ?algorithms, ?_, ?identity, ?noIdentity, ?_⟩,
    fun f id s hf hu he => ⟨?finish, ?inside, ?outside, exec_getPqChain hf hu he, ?_, ?_, ?_, exec_getNonce hf hu he,
      exec_getNonce_denied hf hu he, rfl⟩⟩
  case capabilities => exact fun h => (exec_spdmGetCapabilities hf hu he).trans (congrArg _ (if_pos h))
  · exact fun h => (exec_spdmGetCapabilities hf hu he).trans (congrArg _ (if_neg (by simp [h])))
  case algorithms =>
    exact fun h => ⟨(exec_spdmNegotiateAlgorithms hf hu he true).trans (congrArg _ (if_pos h)),
      (exec_spdmNegotiateAlgorithms hf hu he false).trans (congrArg _ (if_pos h))⟩
  · exact fun h b => (exec_spdmNegotiateAlgorithms hf hu he b).trans (congrArg _ (if_neg (by simp [h])))
  case identity =>
    intro ha hk
    refine ⟨(exec_spdmGetDigests hf hu he ha).trans (congrArg _ (if_pos hk)), fun o l => ?_, fun k o l h0 => ?_, ?_,
      fun h => ?_, fun h => ?_⟩
    · exact (exec_spdmGetCertificate hf hu he ha 0 o l).trans (congrArg _ (if_pos hk))
    · exact (exec_spdmGetCertificate hf hu he ha k o l).trans (congrArg _ ((if_pos hk).trans (if_neg (by simpa using h0))))
    · exact (exec_spdmChallenge hf hu he ha 0).trans (congrArg _ (if_pos hk))
    · exact (exec_spdmKeyExchange hf hu he ha).trans (congrArg _ ((if_pos hk).trans (if_pos (decide_eq_true h))))
    · exact (exec_spdmKeyExchange hf hu he ha).trans
        (congrArg _ ((if_pos hk).trans (if_neg (by simp only [decide_eq_true_iff]; omega))))
  case noIdentity =>
    rintro ha hk k o l _ rfl
    have hno : ¬ s.fuses.identityKeys = true := by simp [hk]
    exact ⟨(exec_spdmGetDigests hf hu he ha).trans (congrArg _ (if_neg hno)),
      (exec_spdmGetCertificate hf hu he ha k o l).trans (congrArg _ (if_neg hno)),
      (exec_spdmChallenge hf hu he ha k).trans (congrArg _ (if_neg hno)),
      (exec_spdmKeyExchange hf hu he ha).trans (congrArg _ (if_neg hno))⟩
  · exact fun ha i signed hi hs => exec_spdmGetMeasurements hf hu he ha hi hs
  case finish => exact fun x hx h => ⟨exec_spdmFinish hf hu he hx h true, exec_spdmFinish hf hu he hx h false⟩
  case inside =>
    exact fun h => ⟨(exec_spdmHeartbeat hf hu he id).trans (congrArg _ (if_pos h)),
      (exec_spdmKeyUpdate hf hu he id).trans (congrArg _ (if_pos h)),
      (exec_spdmEndSession hf hu he id).trans (congrArg _ (if_pos h))⟩
  case outside =>
    rintro h _ rfl
    have hno : ¬ inSession s f id = true := by simp [h]
    exact ⟨(exec_spdmHeartbeat hf hu he id).trans (congrArg _ (if_neg hno)),
      (exec_spdmKeyUpdate hf hu he id).trans (congrArg _ (if_neg hno)),
      (exec_spdmEndSession hf hu he id).trans (congrArg _ (if_neg hno))⟩
  · exact fun hk hin => exec_pqSign_session hf hu he hk hin
  · exact fun hk k w hr => exec_pqSign_answer hf hu he hk w hr
  · exact fun hk => ⟨exec_getPqChain_none hf hu he hk, fun w k h2 => exec_pqSign_none hf hu he hk w h2⟩

end Sys2Proof.Machine

/-! The key ops of a session: KEY_SET, KEY_CLEAR, BINDING_SET, and the end of a key rotation (R522 to R528, R534). -/

namespace Sys2Proof.Machine

section Session
variable {f id : Nat} {b : List Byte} {s : State}

/-! ## The checks that every key op makes first (R522, R524) -/

variable (hu : hostUp s = true) (he : fnExists s f = true)
include hu he

theorem keyOp_closed (ho : keyOpsOpen s f id = false) (rsv : Bool) (act : State → (Nat × List Byte) × State) :
    keyOp f id rsv act s = vendorSend f syDenied [] s :=
  vendorOp_refuses hu he (if_pos (by simp [ho]))

variable (ho : keyOpsOpen s f id = true)
include ho

theorem keyOp_malformed {rsv : Bool} (hr : rsv = true) (act : State → (Nat × List Byte) × State) :
    keyOp f id rsv act s = vendorSend f syMalformed [] s :=
  vendorOp_refuses hu he (by simp [ho, hr])

/-- A well-formed op of a session that takes it acts. -/
theorem keyOp_acts {rsv : Bool} {act : State → (Nat × List Byte) × State} {d : List Byte} {t : State} (hr : rsv = false)
    (h : act s = acceptWith d t) : keyOp f id rsv act s = vendorSend f syOk d t :=
  vendorOp_acts hu he (by simp [ho, hr, h])

theorem keyOp_refuses {rsv : Bool} {act : State → (Nat × List Byte) × State} {st : Nat} (hr : rsv = false)
    (h : act s = refuse st s) : keyOp f id rsv act s = vendorSend f st [] s :=
  vendorOp_refuses hu he (by simp [ho, hr, h])

end Session

theorem keySetOp_kind {kind : Nat} {b : List Byte} (h0 : field b 0 1 = 0x10) (hk : kind = field b 1 1) (f id : Nat)
    (act : State → (Nat × List Byte) × State) (s : State) :
    keySetOp kind f id b act s = keyOp f id (keySetBad kind b) act s :=
  if_pos (by simp [keyKind, h0, hk])

/-! ## What each key op does (R526 to R528, R534) -/

section Act
variable {f : Nat} {s : State}

/-- A new memory key waits for the re-key pass of the facet's channels. -/
theorem setMemoryKey_accepts {n m : Nat} {g : Facet} (hg : facetOf s n = some g) (hfn : g.fn = f) (hc : g.confidential = true)
    (hr : g.rekey = none) (h4 : g.state ≠ 4) (hm : m = freeMemSlot s) (h255 : m ≤ 255) (key : List Byte) :
    setMemoryKey f n key s = accept m (setFacet n { g with memSlot := m, rekey := some ⟨g.memSlot, g.channels⟩ }
      { s with sec := { s.sec with memSlots := SMap.put s.sec.memSlots m key } }) := by
  subst hm
  simp [setMemoryKey, hg, hfn, hc, hr, h4, Nat.not_lt.2 h255, setSec]

/-- A load without flags for a peer without keys fills position 0. -/
theorem setLinkKeyOp_loads {p : Nat} (hp : SMap.look s.sec.linkKeys p = none) (hl : s.sec.linkKeys.length < 4096) (salt : Nat)
    (key : List Byte) : setLinkKeyOp f p false false salt key s =
      accept 0 (setLinkKey p { fn := f, salt := salt, pos0 := freshPos key } s) := by
  simp [setLinkKeyOp, hp, Nat.not_le.2 hl, changeLink, setKeyPos]

theorem setWeightKey_accepts {n : Nat} (hn : n = lowestFrom (s.sec.weightSlots.map (·.1)) 0) (h64 : n < 64) (key : List Byte) :
    setWeightKey f key s =
      accept n { s with sec := { s.sec with weightSlots := SMap.put s.sec.weightSlots n ⟨f, key⟩ } } := by
  subst hn
  simp [setWeightKey, Nat.not_le.2 h64, setSec]

section Weight
variable {n : Nat} {x : WeightKey} (hx : SMap.look s.sec.weightSlots n = some x) (hown : x.owner = f)
include hx hown

theorem clearWeightKey_busy (hu : slotInUse s n = true) : clearWeightKey f n s = refuse syBusy s := by
  simp [clearWeightKey, hx, hown, hu]

theorem clearWeightKey_clears (hu : slotInUse s n = false) : clearWeightKey f n s =
    accept 0 { s with sec := { s.sec with weightSlots := SMap.del s.sec.weightSlots n } } := by
  simp [clearWeightKey, hx, hown, hu, setSec]

end Weight

theorem clearLinkKey_clears {p : Nat} {x : LinkKey} (hx : SMap.look s.sec.linkKeys p = some x) (hfn : x.fn = f) :
    clearLinkKey f p false s = accept 0 { s with sec := { s.sec with linkKeys := SMap.del s.sec.linkKeys p } } := by
  simp [clearLinkKey, hx, hfn, setSec]

theorem setBinding_binds {b : List Byte} (ht : s.fuses.identityTag ∈ bindingTags b) (hl : s.sec.bindings.length < 16) :
    setBinding b s = acceptWith [] { s with sec := { s.sec with
      bindings := SMap.put s.sec.bindings (field b 4 4) ⟨slice b 8 32, Config.sha384 (slice b 48 (16 * bindingCount b))⟩ } } := by
  have hroom : ¬ 16 ≤ s.sec.bindings.length := Nat.not_le.2 hl
  simp [setBinding, ht, hroom, setSec]

end Act

/-- The re-key pass of a facet with no frame copy in progress ends. -/
theorem exec_keyRotated {n : Nat} {g : Facet} {r : Rekey} {s : State} (hn : n < 64) (hg : facetOf s n = some g)
    (hr : g.rekey = some r) (hret : retiring s n = false) : exec (.keyRotated n) s = .next
      (raiseTo [0, g.fn] evKeyRotated g.fn n g.memSlot none g.confidential
        (dropRekey n (retagAll g.channels r.oldSlot g.memSlot s))) :=
  (checked_ok (decide_eq_true hn) s _).trans (congrArg _ (by simp [keyRotatedEff, hg, hr, hret]))

/-! ## The rows -/

section Row
variable {f id : Nat} {b : List Byte} {s : State} (hf : f < 64)
include hf

section Set
variable (h0 : field b 0 1 = 0x10)
include h0

theorem exec_keySetMemory (hk : 0 = field b 1 1) : exec (.keySetMemory f id b) s =
    .next (keyOp f id (keySetBad 0 b) (setMemoryKey f (field b 3 1) (slice b 0x10 64)) s) :=
  (checked_ok (decide_eq_true hf) s _).trans (congrArg _ (keySetOp_kind h0 hk f id _ s))

theorem exec_keySetLink (hk : 1 = field b 1 1) : exec (.keySetLink f id b) s = .next (keyOp f id (keySetBad 1 b)
    (setLinkKeyOp f (bodyPeer b) (keyFlag b 0) (keyFlag b 1) (field b 8 4) (slice b 0x10 32)) s) :=
  (checked_ok (decide_eq_true hf) s _).trans (congrArg _ (keySetOp_kind h0 hk f id _ s))

theorem exec_keySetWeight (hk : 2 = field b 1 1) : exec (.keySetWeight f id b) s =
    .next (keyOp f id (keySetBad 2 b) (setWeightKey f (slice b 0x10 32)) s) :=
  (checked_ok (decide_eq_true hf) s _).trans (congrArg _ (keySetOp_kind h0 hk f id _ s))

end Set

/-- The key that a KEY_CLEAR body names. -/
def clearKey (f : Nat) (b : List Byte) (s : State) : (Nat × List Byte) × State :=
  match field b 1 1 with
  | 1 => clearLinkKey f (bodyPeer b) (keyFlag b 0) s
  | 2 => clearWeightKey f (field b 4 2) s
  | _ => clearBinding f (field b 4 4) s

theorem exec_keyClear (h0 : field b 0 1 = 0x11) :
    exec (.keyClear f id b) s = .next (keyOp f id (keyClearBad b) (clearKey f b) s) :=
  (checked_ok (decide_eq_true hf) s _).trans (congrArg _ (if_pos h0))

end Row

theorem clearKey_link {b : List Byte} (hk : 1 = field b 1 1) (f : Nat) (s : State) :
    clearKey f b s = clearLinkKey f (bodyPeer b) (keyFlag b 0) s := by
  simp [clearKey, ← hk]

theorem clearKey_weight {b : List Byte} (hk : 2 = field b 1 1) (f : Nat) (s : State) :
    clearKey f b s = clearWeightKey f (field b 4 2) s := by
  simp [clearKey, ← hk]

theorem exec_bindingSet {b : List Byte} (h0 : field b 0 1 = 0x12) (id : Nat) (s : State) :
    exec (.bindingSet id b) s = .next (keyOp 0 id (bindingBad b) (setBinding b) s) :=
  (checked_ok rfl s _).trans (congrArg _ (if_pos h0))

/-- Settles O56: each op by the checks of its session and of its body, and then by what it does to the keys. -/
theorem keyOps : Obligations.KeyOps := by
  unfold Obligations.KeyOps
  rintro f id b s hf hu he k rfl
  refine ⟨?denied, ?malformed, fun ho h0 => ⟨?memory, ?link, ?weight⟩, fun ho h0 => ⟨?_, ?clearWeight, ?clearLink⟩, ?binding, ?_⟩
  case denied =>
    rintro ho _ rfl
    exact ⟨fun h0 hk => (exec_keySetMemory hf h0 hk.symm).trans (congrArg _ (keyOp_closed hu he ho _ _)),
      fun h0 hk => (exec_keySetLink hf h0 hk.symm).trans (congrArg _ (keyOp_closed hu he ho _ _)),
      fun h0 hk => (exec_keySetWeight hf h0 hk.symm).trans (congrArg _ (keyOp_closed hu he ho _ _)),
      fun h0 => (exec_keyClear hf h0).trans (congrArg _ (keyOp_closed hu he ho _ _))⟩
  case malformed =>
    rintro ho h0 _ rfl
    exact ⟨fun hk hb => (exec_keySetMemory hf h0 hk.symm).trans (congrArg _ (keyOp_malformed hu he ho hb _)),
      fun hk hb => (exec_keySetLink hf h0 hk.symm).trans (congrArg _ (keyOp_malformed hu he ho hb _)),
      fun hk hb => (exec_keySetWeight hf h0 hk.symm).trans (congrArg _ (keyOp_malformed hu he ho hb _))⟩
  case memory =>
    rintro n g m hk hb rfl hg hfn hc hr h4 hm h255
    exact (exec_keySetMemory hf h0 hk.symm).trans
      (congrArg _ (keyOp_acts hu he ho hb (setMemoryKey_accepts hg hfn hc hr h4 hm h255 _)))
  case link =>
    rintro p hk hb rfl hp hl h0f h1f
    refine (exec_keySetLink hf h0 hk.symm).trans (congrArg _ (keyOp_acts hu he ho hb ?_))
    rw [h0f, h1f]
    exact setLinkKeyOp_loads hp hl _ _
  case weight =>
    intro n hk hb hn h64
    exact (exec_keySetWeight hf h0 hk.symm).trans (congrArg _ (keyOp_acts hu he ho hb (setWeightKey_accepts hn h64 _)))
  · exact fun hb => (exec_keyClear hf h0).trans (congrArg _ (keyOp_malformed hu he ho hb _))
  case clearWeight =>
    rintro n x hb hk rfl hx hown
    have hact := clearKey_weight hk.symm f s
    exact ⟨fun hin => (exec_keyClear hf h0).trans
        (congrArg _ (keyOp_refuses hu he ho hb (hact.trans (clearWeightKey_busy hx hown hin)))),
      fun hin => (exec_keyClear hf h0).trans
        (congrArg _ (keyOp_acts hu he ho hb (hact.trans (clearWeightKey_clears hx hown hin))))⟩
  case clearLink =>
    intro x hb hk hst hx hfn
    have hact := clearKey_link hk.symm f s
    rw [hst] at hact
    exact (exec_keyClear hf h0).trans (congrArg _ (keyOp_acts hu he ho hb (hact.trans (clearLinkKey_clears hx hfn))))
  case binding =>
    rintro ho rfl h0 hb ht hl
    exact (exec_bindingSet h0 id s).trans (congrArg _ (keyOp_acts hu he ho hb (setBinding_binds ht hl)))
  · exact fun n g r hn hg hr hret => exec_keyRotated hn hg hr hret

end Sys2Proof.Machine

/-! Rails, PERST# and the loss of VDD_AON: the order of the rails, a rail failure, the boot bank and the start of the MC (R513, R517,
R547 to R554). -/

namespace Sys2Proof.Machine

/-! ## The order of the rails (R550, R551) -/

section Rail
variable {r : Nat} {s : State} (hr : r < 7)

theorem exec_aonGood {k : Nat} (hk : k < 8) (h : s.pwr.aonGood = false) : exec (.aonGood k) s = .next
    (runOrder { s with side := {}, pwr := { s.pwr with aonGood := true, slotId := k, order := 2 } }) :=
  (checked_ok (decide_eq_true hk) s _).trans (congrArg _ (if_neg (by simp [h])))

theorem exec_aonGood_again {k : Nat} (hk : k < 8) (h : s.pwr.aonGood = true) : exec (.aonGood k) s = .next s :=
  (checked_ok (decide_eq_true hk) s _).trans (congrArg _ (if_pos h))

include hr

theorem exec_railRaiseDone (hc : railCommanded s.pwr r = true) (h6 : s.pwr.stage ≠ 6) : exec (.railRaiseDone r) s = .next
    (runOrder (coreRailUp r (setPwr (fun p => { p with railsOn := NSet.add p.railsOn r }) s))) :=
  (checked_ok (decide_eq_true hr) s _).trans (congrArg _ (if_pos (by simp [hc, h6])))

theorem exec_railRaiseDone_ignored (h : railCommanded s.pwr r = false ∨ s.pwr.stage = 6) :
    exec (.railRaiseDone r) s = .next s := by
  refine (checked_ok (decide_eq_true hr) s _).trans (congrArg _ (if_neg ?_))
  rcases h with h | h
  · simp [h]
  · simp [h]

theorem exec_railFailure (ha : s.pwr.aonGood = true) (h : r ∈ s.pwr.railsOn ∨ railCommanded s.pwr r = true) :
    exec (.railFailure r) s = .next (failRail r s) :=
  (checked_ok (decide_eq_true hr) s _).trans (congrArg _ (if_pos (by simpa [ha] using h)))

end Rail

@[simp] theorem powerDownHalf_fuses (east : Bool) (s : State) : (powerDownHalf east s).fuses = s.fuses := by
  unfold powerDownHalf
  refine (forAll_fuses (fun c t => ?_) _ _).trans rfl
  exact (forAll_fuses (fun e u => updEngine_fuses e _ u) _ _).trans (updCore_fuses c _ t)

@[simp] theorem railsDown_fuses (s : State) : (railsDown s).fuses = s.fuses := by
  simp [railsDown]

/-- What a rail failure does once every rail is down. -/
def railsFailed (r : Nat) (s : State) : State :=
  railRecord (setPwr (fun p => { p with
    railsOn := [], railFail := NSet.add p.railFail r, stage := 6, order := 0, alert := true, fetchStop := true }) { s with msc := [] })

theorem failRail_eq (r : Nat) (s : State) :
    failRail r s = railsFailed r (railsDown (dropHalfCaches true (dropHalfCaches false s))) := rfl

/-- What a rail failure leaves: no rail on, the failure recorded, ALERT_N asserted, and the fuses as they were. -/
theorem railsFailed_keeps (r : Nat) (s : State) : (railsFailed r s).pwr.railsOn = [] ∧ r ∈ (railsFailed r s).pwr.railFail ∧
    (railsFailed r s).pwr.stage = 6 ∧ (railsFailed r s).pwr.alert = true ∧ (railsFailed r s).pwr.fetchStop = true ∧
    (railsFailed r s).msc = [] ∧ (railsFailed r s).fuses = s.fuses :=
  ⟨rfl, NSet.mem_add.2 (.inl rfl), rfl, rfl, rfl, rfl, rfl⟩

theorem failRail_keeps (r : Nat) (s : State) : (failRail r s).pwr.railsOn = [] ∧ r ∈ (failRail r s).pwr.railFail ∧
    (failRail r s).pwr.stage = 6 ∧ (failRail r s).pwr.alert = true ∧ (failRail r s).pwr.fetchStop = true ∧
    (failRail r s).msc = [] ∧ (failRail r s).fuses = s.fuses := by
  obtain ⟨hon, hfail, hstage, halert, hfetch, hmsc, hfuses⟩ :=
    railsFailed_keeps r (railsDown (dropHalfCaches true (dropHalfCaches false s)))
  rw [failRail_eq]
  exact ⟨hon, hfail, hstage, halert, hfetch, hmsc, hfuses.trans (railsDown_fuses _)⟩

/-! ## PERST# and VDD_AON (R552, R554) -/

/-- Passing over the steps that are done moves the order on, and nothing else. -/
theorem advanceOrder_order (n : Nat) (p : Pwr) : advanceOrder n p = { p with order := (advanceOrder n p).order } := by
  induction n generalizing p with
  | zero => rfl
  | succ n ih =>
    unfold advanceOrder
    split
    · exact ih { p with order := p.order + 1 }
    · rfl

theorem exec_vddAonLoss (s : State) : exec .vddAonLoss s = .next (coldState s) := rfl

/-- The module under PERST#. -/
def underPerst (s : State) : State :=
  setPwr (fun p => orderStage (advanceOrder 6 p))
    { coldState s with pwr := perstPwr s.pwr, side := s.side, time := { (coldState s).time with refclkOk := s.time.refclkOk } }

theorem exec_perstAssert {s : State} (h : s.pwr.perst = false) : exec .perstAssert s = .next (underPerst s) :=
  congrArg Host.Outcome.next (if_neg (by simp [h]))

theorem underPerst_pwr (s : State) :
    (underPerst s).pwr.perst = true ∧ (underPerst s).pwr.railsOn = s.pwr.railsOn ∧ (underPerst s).pwr.mcRunning = false := by
  have hpwr : (underPerst s).pwr = orderStage (advanceOrder 6 (perstPwr s.pwr)) := rfl
  rw [hpwr, advanceOrder_order]
  exact ⟨rfl, rfl, rfl⟩

/-- The module as PERST# goes, with its boot bank chosen. -/
def perstGone (a b : Bool) (s : State) : State :=
  firstPowerUp (setSec (chooseBank a b s.fuses.svnFloor) (setPwr (fun p => { p with perst := false, pcie := s.time.refclkOk }) s))

section Deassert
variable {s : State} (a b : Bool) (hp : s.pwr.perst = true) (hg : s.pwr.aonGood = true) (h6 : s.pwr.stage ≠ 6)
include hp hg h6

theorem exec_perstDeassert : exec (.perstDeassert a b) s = .next (if s.pwr.order = 7 then
      if railsMissing s.pwr then runOrder (setPwr (fun p => { p with order := 2 }) (perstGone a b s))
      else startMilestones (perstGone a b s)
    else perstGone a b s) :=
  congrArg Host.Outcome.next ((if_neg (by simp [hp, hg])).trans (if_neg h6))

theorem exec_perstDeassert_waits (h7 : s.pwr.order ≠ 7) : exec (.perstDeassert a b) s = .next (perstGone a b s) :=
  (exec_perstDeassert a b hp hg h6).trans (congrArg _ (if_neg h7))

theorem exec_perstDeassert_boots (h7 : s.pwr.order = 7) : exec (.perstDeassert a b) s = .next
    (if railsMissing s.pwr then runOrder (setPwr (fun p => { p with order := 2 }) (perstGone a b s))
      else startMilestones (perstGone a b s)) :=
  (exec_perstDeassert a b hp hg h6).trans (congrArg _ (if_pos h7))

end Deassert

/-! ## The boot bank (R517) -/

/-- A bank that passes its check. -/
def bankGood (a b : Bool) (floor : Nat) (c : Sec) (k : Nat) : Bool :=
  if k = 0 then a && decide (floor ≤ c.bank0.svn) else b && decide (floor ≤ c.bank1.svn)

theorem svn_of_bankGood {a b : Bool} {floor : Nat} {c : Sec} {k : Nat} (h : bankGood a b floor c k = true) :
    floor ≤ (if k = 0 then c.bank0 else c.bank1).svn := by
  unfold bankGood at h
  split at h
  · next h0 =>
    rw [Bool.and_eq_true, decide_eq_true_iff] at h
    rw [if_pos h0]
    exact h.2
  · next h0 =>
    rw [Bool.and_eq_true, decide_eq_true_iff] at h
    rw [if_neg h0]
    exact h.2

/-- An image that boots comes from a bank that passed its check. -/
theorem bankGood_chosen {a b : Bool} {floor : Nat} {c : Sec} (h : (chooseBank a b floor c).imageOk = true) :
    bankGood a b floor c (chooseBank a b floor c).bootBank = true := by
  have hchoose : chooseBank a b floor c =
      if bankGood a b floor c c.recordedBank then { c with bootBank := c.recordedBank, fallback := false, imageOk := true }
      else if bankGood a b floor c (1 - c.recordedBank) then
        { c with bootBank := 1 - c.recordedBank, fallback := true, imageOk := true }
      else { c with fallback := true, imageOk := false } := rfl
  rw [hchoose] at h ⊢
  split
  · assumption
  · next h1 =>
    rw [if_neg h1] at h
    split
    · assumption
    · next h2 =>
      rw [if_neg h2] at h
      cases h

/-! ## The start of the MC (R517, R554) -/

theorem clearCore_frame {β : Type} (q : State → β) (hc : ∀ n g t, q (updCore n g t) = q t)
    (he : ∀ n g t, q (updEngine n g t) = q t) (c : Nat) (s : State) : q (clearCore c s) = q s :=
  (forAll_frame q (fun e u => he e _ u) _ _).trans (hc c _ s)

theorem clearPowered_frame {β : Type} (q : State → β) (hc : ∀ n g t, q (updCore n g t) = q t)
    (he : ∀ n g t, q (updEngine n g t) = q t) (s : State) : q (clearPowered s) = q s := by
  refine forAll_frame q (fun c t => ?_) _ s
  split
  · rfl
  · exact (forAll_frame q (fun e u => he e _ u) _ _).trans (clearCore_frame q hc he c t)

/-- The MC's image and state as the start leaves them. -/
def mcStarted (s : State) : State :=
  clearPowered { s with
    fw := { build := (bootedBank s).build, svn := (bootedBank s).svn, header := (bootedBank s).header, prev := bootedBank s }
    pwr := { s.pwr with mcRunning := true, mbxReady := true, stage := 4, mbxMs := bootMs s } }

theorem mcStarted_pwr (s : State) :
    (mcStarted s).pwr = { s.pwr with mcRunning := true, mbxReady := true, stage := 4, mbxMs := bootMs s } :=
  clearPowered_frame State.pwr (fun _ _ _ => rfl) (fun _ _ _ => rfl) _

theorem mcStarted_build (s : State) : (mcStarted s).fw.build = (bootedBank s).build := by
  have hfw : (mcStarted s).fw = _ := clearPowered_frame State.fw (fun _ _ _ => rfl) (fun _ _ _ => rfl) _
  rw [hfw]

theorem build_raisePf0 (k su d : Nat) (b : Bool) (s : State) : (raisePf0 k su d b s).fw.build = s.fw.build := by
  obtain ⟨_, _, _, _, _, h⟩ := noticeOnly_raisePf0 k su d b s
  rw [h]

theorem exec_mcStart {s : State} (h2 : s.pwr.stage = 2) (hp : s.pwr.perst = false) (hi : s.sec.imageOk = true)
    (hl : s.fuses.lcState ≠ 5) : ∃ t, exec .mcStart s = .next t ∧ t.pwr.mcRunning = true ∧ t.pwr.mbxReady = true ∧
      t.pwr.stage = 4 ∧ t.fw.build = (bootedBank s).build := by
  have heff : mcStartEff s =
      if s.sec.fallback then raisePf0 evBootFallback s.sec.bootBank 0 false (mcStarted s) else mcStarted s :=
    if_neg (by simp [h2, hp, hi, hl])
  refine ⟨_, (checked_ok rfl s _).trans (congrArg _ heff), ?_⟩
  split
  · rw [raisePf0_pwr, build_raisePf0, mcStarted_pwr, mcStarted_build]
    exact ⟨rfl, rfl, rfl, rfl⟩
  · rw [mcStarted_pwr, mcStarted_build]
    exact ⟨rfl, rfl, rfl, rfl⟩

/-- Settles O58: the rails by whether they were commanded, PERST# and VDD_AON by what the store keeps, and the boot bank by the
checks that it has passed. -/
theorem railsAndReset : Obligations.RailsAndReset := by
  unfold Obligations.RailsAndReset
  refine ⟨⟨fun k s => exec_aonGood, fun r s => exec_railRaiseDone, fun k s => exec_aonGood_again,
    fun r s => exec_railRaiseDone_ignored, ?_⟩, ?_, ?_, ?_, ?_, ?_, fun s => exec_mcStart⟩
  · exact fun r s hr ha h => ⟨_, exec_railFailure hr ha h, failRail_keeps r s⟩
  · exact fun s => ⟨_, exec_vddAonLoss s, rfl, rfl, rfl, rfl, rfl, rfl, rfl, rfl, rfl, rfl, rfl, rfl⟩
  · exact fun s h => ⟨_, exec_perstAssert h, rfl, rfl, rfl, rfl, rfl, rfl, rfl, rfl, rfl, rfl, rfl, underPerst_pwr s⟩
  · exact fun a b s hp hg h6 h7 => exec_perstDeassert_waits a b hp hg h6 h7
  · rintro a b s hp hg h6 h7 _ rfl
    exact exec_perstDeassert_boots a b hp hg h6 h7
  · exact fun a b s h => ⟨_, rfl, svn_of_bankGood (bankGood_chosen h)⟩

end Sys2Proof.Machine

/-! Each command of update, power, heat, SPDM, rails, sideband and test port completes where its rule has it act (R370 to R372, R492
to R504, R518 to R521, R550 to R554, R559 to R561). -/

namespace Sys2Proof.Machine

/-! ## Firmware update (R370 to R372) -/

/-- The events held in a handover change no firmware state but their own queue, and the handover ends. -/
theorem raiseHeld_fw (s : State) : (raiseHeld s).fw = { s.fw with held := [], handover := false } := by
  refine (foldl_frame State.fw (fun t e => ?_) s.fw.held { s with fw := { s.fw with held := [], handover := false } }).trans rfl
  obtain ⟨_, _, h⟩ := eventsOnly_deliverAll e.2 e.1 t
  rw [h]

theorem exec_fwUpdate_begins {fn : Nat} {h : Req} {b image : List Byte} {ok : Bool} {s : State}
    (ha : AskedJob fn layFwUpdate false h b s) (halign : field b 0 8 % 4096 = 0) (hlen : field b 8 4 ≤ 16777216)
    (hu : s.fw.update = none) : exec (.fwUpdate fn image ok) s = .next (setUpdate
      (some { phase := 1, img := imageOf image (field b 8 4) ok, ticket := ticketOf h opFwUpdate }) (taken h opFwUpdate [] s)) :=
  checked_accepted ha rfl (fwUpdateReply_accepted halign hlen hu) ha.2.1 rfl

/-- The new firmware takes over, and the handover is over. -/
theorem fwHandoverDone_completes {u : FwUpdate} {s : State} (hu : s.fw.update = some u) (h3 : u.phase = 3) :
    ∃ t, exec .fwHandoverDone s = .next t ∧ t.fw.build = u.img.build ∧ t.fw.handover = false := by
  refine ⟨_, exec_fwHandoverDone_new hu h3, ?_⟩
  rw [raiseHeld_fw]
  exact ⟨rfl, rfl⟩

/-! ## POWER_LIMITS (R509) -/

/-- A request that passes the gate passes it with its body ignored. -/
theorem gate_ignoreBody {h : Req} {op : Nat} {c : Bool} {s : State} (hg : gate h op c s = none) :
    gate (ignoreBody h) op c s = none := by
  dsimp only [gate, ignoreBody] at hg ⊢
  split at hg
  · cases hg
  · next h1 =>
    rw [if_neg h1]
    split at hg
    · cases hg
    · next h2 =>
      rw [if_neg h2]
      split at hg
      · cases hg
      · next h3 => rw [if_neg h3, if_neg Bool.false_ne_true]

theorem halfMv_setDim (east : Bool) (p : Pwr) : halfMv (setDim east p) east = 600 := by
  cases east <;> rfl

/-! ## Sessions (R519, R521) -/

@[simp] theorem spdmOf_setSpdm (f : Nat) (x : Spdm) (s : State) : spdmOf (setSpdm f x s) f = x := by
  simp [spdmOf, setSpdm, setSec, SMap.getD]

theorem sessionsOf_openSession (f : Nat) (s : State) :
    (sessionsOf (openSession f s) f).length = (sessionsOf s f).length + 1 := by
  simp [sessionsOf, openSession, doeSend, setSec, emit]

/-- A change of a session's own record is what is found of it. -/
theorem sessionOf_updSession {f id : Nat} {g : Session → Session} (hg : ∀ x, (g x).fn = x.fn ∧ (g x).id = x.id) (s : State) :
    sessionOf (updSession f id g s) f id = (sessionOf s f id).map g := by
  simp only [sessionOf, updSession, setSec]
  induction s.sec.sessions with
  | nil => rfl
  | cons x l ih =>
    by_cases hx : (x.fn == f && x.id == id) = true
    · simp only [List.map_cons, hx, if_true, List.find?_cons, hg, Option.map_some]
    · simp only [List.map_cons, hx, if_false, List.find?_cons, Bool.false_eq_true]
      exact ih

theorem sessionOf_dropSessions (f id : Nat) (s : State) :
    sessionOf (dropSessions (fun x => x.fn == f && x.id == id) s) f id = none := by
  refine List.find?_eq_none.2 fun x hx hsame => ?_
  have hkept := (List.mem_filter.1 hx).2
  simp [hsame] at hkept

theorem inSession_iff {f id : Nat} {s : State} :
    inSession s f id = true ↔ ∃ x, sessionOf s f id = some x ∧ x.established = true := by
  cases h : sessionOf s f id with
  | none => simp [inSession, h]
  | some x => simp [inSession, h]

theorem spdmFinish_completes {f id : Nat} {x : Session} {s : State} (hx : sessionOf s f id = some x) :
    inSession (finishSession f id true s) f id = true := by
  have hfound := sessionOf_updSession (f := f) (id := id) (g := fun x => { x with established := true }) (fun _ => ⟨rfl, rfl⟩) s
  rw [hx] at hfound
  exact inSession_iff.2 ⟨_, hfound, rfl⟩

/-! ## Rails (R550) -/

@[simp] theorem powerUpHalf_pwr (east : Bool) (s : State) : (powerUpHalf east s).pwr = s.pwr := by
  unfold powerUpHalf
  refine (forAll_pwr (fun c t => ?_) _ _).trans rfl
  split
  · rfl
  · exact (forAll_frame State.pwr (fun e u => (updEngine_pwr_serve e _ u).1) _ _).trans
      (clearCore_frame State.pwr (fun _ _ _ => rfl) (fun _ _ _ => rfl) c t)

@[simp] theorem coreRailUp_pwr (r : Nat) (s : State) : (coreRailUp r s).pwr = s.pwr := by
  unfold coreRailUp
  split
  · exact powerUpHalf_pwr ..
  · split
    · exact powerUpHalf_pwr ..
    · rfl

/-- What the pins and the rails say. -/
def pinsOf (p : Pwr) : NSet × Bool × Nat := (p.railsOn, p.aonGood, p.slotId)

theorem pinsOf_startMilestones (s : State) : pinsOf (startMilestones s).pwr = pinsOf s.pwr := by
  unfold startMilestones
  split <;> rfl

/-- The order goes on, and milestones may start; what is known of the pins and the rails stands. -/
theorem pinsOf_runOrder (s : State) : pinsOf (runOrder s).pwr = pinsOf s.pwr := by
  unfold runOrder
  rw [advanceOrder_order]
  dsimp only
  split
  · exact pinsOf_startMilestones _
  · rfl

/-! ## The statement -/

/-- Settles O60: each command by the rule of its own section, read for the effect that the statement names. -/
theorem servicesComplete : Obligations.ServicesComplete := by
  unfold Obligations.ServicesComplete
  refine ⟨?update, ?updateSteps, ?limitsSet, ?limitsRead, ?heat, ?haltEnds, ?coolOk, ?coolAssert, ?spdm, ?nonceExpiry, ?aon, ?rail,
    ?aonLoss, ?perstAssert, ?perstGone, ?mcStart, ?sideband, ?testPort⟩
  case update =>
    exact fun fn h b image ok s ha halign hlen hu => ⟨_, _, exec_fwUpdate_begins ha halign hlen hu, rfl, rfl⟩
  case updateSteps =>
    refine fun u s hu => ⟨fun h1 hi => ?_, fun h2 hq hr => ?_, fwHandoverDone_completes hu⟩
    · exact ⟨_, (exec_fwImageVerified hu h1).trans (congrArg _ (if_pos hi)), rfl⟩
    · exact ⟨_, exec_fwQuietPoint hu (mayHandOver_new h2 hq hr), rfl⟩
  case limitsSet =>
    exact fun fn h d s ha hl hb => ⟨_, exec_powerLimitsSet_ok ha hl hb, by simp [answeredWith], by simp [answeredWith]⟩
  case limitsRead =>
    intro fn h d s ha hl
    obtain ⟨hfn, hask, hg⟩ := ha
    exact ⟨_, exec_powerLimitsRead hfn hask (gate_ignoreBody hg) hl, by simp [answeredWith], by simp [answeredWith]⟩
  case heat =>
    intro s hm hg h0 hh
    have h2 : s.pwr.state ≠ 2 := by simp [h0]
    have h4 : s.pwr.state ≠ 4 := by simp [h0]
    refine ⟨fun half hn hd ho hw => ?_, fun p w hp => ?_, fun half hn hs hi => ?_, fun k l hk hl ho => ?_, fun n x ho hc => ?_,
      fun hk ht hc => ?_⟩
    · exact ⟨_, exec_dimDelayExpiry_dims hn h0 hg hd ho hw, halfMv_setDim _ _⟩
    · obtain ⟨t, hex, hi, hpeak, -⟩ := exec_governorSample_over (sust := w) hm hg h0 hh (.inl hp)
      exact ⟨t, hex, hi, hpeak⟩
    · exact ⟨_, exec_governorRailSettled_issue hn hs hi, rfl⟩
    · obtain ⟨t, hex, hread, -⟩ := exec_dieSensorSample_on hk hl ho
      exact ⟨t, hex, hread⟩
    · obtain ⟨t, hex, hfetch, htrip, -⟩ := exec_thermtrip_on (temp := x) ho hh h4 h2 hc
      exact ⟨t, hex, hfetch, htrip⟩
    · obtain ⟨t, x, hex, hfetch, htimer, -⟩ := exec_coolLoss_on hk ht hh h4 h2 hc
      exact ⟨t, hex, hfetch, htimer⟩
  case haltEnds =>
    intro x s hx hh
    obtain ⟨h4, -, ha, -⟩ := finishHalt_pwr x (flushAllM (saveTables s))
    obtain ⟨h4t, -, hat, hlost, -⟩ := finishHalt_pwr x (setPwr (fun p => { p with tablesLost := true }) s)
    exact ⟨⟨_, exec_haltTablesSaved hx hh, h4, ha⟩, _, exec_haltSaveTimeout hx, h4t, hat, hlost⟩
  case coolOk =>
    exact fun s h => ⟨⟨_, exec_coolOkDeassert h, rfl, rfl⟩, fun ho => ⟨_, exec_coolOkStable h ho, rfl⟩⟩
  case coolAssert => exact fun s h => ⟨_, exec_coolOkAssert h, rfl, rfl⟩
  case spdm =>
    intro f s hf hu he
    refine ⟨⟨_, exec_spdmGetVersion hf hu he, spdmOf_setSpdm f _ s⟩, fun h => ?_, fun h => ?_, fun ha hk => ?identity,
      fun i x hx h => ?_, fun i hin => ?session, exec_getPqChain hf hu he, fun h0 => ?_⟩
    · exact ⟨_, (exec_spdmGetCapabilities hf hu he).trans (congrArg _ (if_pos h)), congrArg Spdm.caps (spdmOf_setSpdm f _ s)⟩
    · exact ⟨_, (exec_spdmNegotiateAlgorithms hf hu he true).trans (congrArg _ (if_pos h)),
        congrArg Spdm.algs (spdmOf_setSpdm f _ s)⟩
    case identity =>
      refine ⟨(exec_spdmGetDigests hf hu he ha).trans (congrArg _ (if_pos hk)), fun o l => ?_, ?_, fun i g hi => ?_, fun h => ?_⟩
      · exact (exec_spdmGetCertificate hf hu he ha 0 o l).trans (congrArg _ (if_pos hk))
      · exact ⟨_, (exec_spdmChallenge hf hu he ha 0).trans (congrArg _ (if_pos hk)),
          congrArg Spdm.challenged (spdmOf_setSpdm f _ s)⟩
      · exact ⟨_, exec_spdmGetMeasurements hf hu he ha hi (.inr hk), congrArg Spdm.measured (spdmOf_setSpdm f _ s)⟩
      · exact ⟨_, (exec_spdmKeyExchange hf hu he ha).trans (congrArg _ ((if_pos hk).trans (if_pos (decide_eq_true h)))),
          sessionsOf_openSession f s⟩
    · exact ⟨_, exec_spdmFinish hf hu he hx h true, spdmFinish_completes hx⟩
    case session =>
      refine ⟨⟨_, (exec_spdmHeartbeat hf hu he i).trans (congrArg _ (if_pos hin)), rfl⟩,
        ⟨_, (exec_spdmKeyUpdate hf hu he i).trans (congrArg _ (if_pos hin)), rfl⟩,
        ⟨_, (exec_spdmEndSession hf hu he i).trans (congrArg _ (if_pos hin)), sessionOf_dropSessions f i s⟩, fun hk => ?_⟩
      obtain ⟨x, hx, -⟩ := inSession_iff.1 hin
      have hfound := sessionOf_updSession (f := f) (id := i) (g := fun x => { x with pq := true }) (fun _ => ⟨rfl, rfl⟩)
        { s with freeCtr := s.freeCtr + 1 }
      exact ⟨_, { x with pq := true }, exec_pqSign_session hf hu he hk hin, hfound.trans (congrArg _ hx), rfl⟩
    · exact ⟨_, _, exec_getNonce hf hu he h0, rfl⟩
  case nonceExpiry => exact fun s => ⟨_, rfl, rfl⟩
  case aon =>
    intro k s hk h
    obtain ⟨-, hgood, hslot⟩ : _ ∧ _ ∧ _ := by
      simpa [pinsOf] using pinsOf_runOrder { s with side := {}, pwr := { s.pwr with aonGood := true, slotId := k, order := 2 } }
    exact ⟨_, exec_aonGood hk h, hgood, hslot⟩
  case rail =>
    refine fun r s hr => ⟨fun hc h6 => ⟨_, exec_railRaiseDone hr hc h6, ?_⟩, fun ha hon => ?_⟩
    · have hpins := pinsOf_runOrder (coreRailUp r (setPwr (fun p => { p with railsOn := NSet.add p.railsOn r }) s))
      rw [coreRailUp_pwr] at hpins
      have hrails : (runOrder (coreRailUp r (setPwr (fun p => { p with railsOn := NSet.add p.railsOn r }) s))).pwr.railsOn =
          NSet.add s.pwr.railsOn r := congrArg Prod.fst hpins
      rw [hrails]
      exact NSet.mem_add.2 (.inl rfl)
    · obtain ⟨hoff, -, -, halert, -⟩ := failRail_keeps r s
      exact ⟨_, exec_railFailure hr ha (.inl hon), hoff, halert⟩
  case aonLoss => exact fun s => ⟨_, exec_vddAonLoss s, rfl, rfl, rfl⟩
  case perstAssert => exact fun s h => ⟨_, exec_perstAssert h, (underPerst_pwr s).1, rfl⟩
  case perstGone => exact fun a b s hp hg h6 h7 => ⟨_, exec_perstDeassert_waits a b hp hg h6 h7, rfl, rfl⟩
  case mcStart =>
    intro s h2 hp hi hl
    obtain ⟨t, hex, -, hready, -, hbuild⟩ := exec_mcStart h2 hp hi hl
    exact ⟨t, hex, hready, hbuild⟩
  case sideband =>
    refine fun s hg => ⟨fun a ha hfree => ⟨?_, ?_⟩, fun e h0 h1 => ⟨?_, ?_⟩, fun k h1 h25 => ?_, fun k h26 h29 => ?_, fun e he => ?_,
      ?_, fun m hh => ?_⟩
    · exact ⟨_, checked_onSideband (decide_eq_true ha) hg (takeAddress_free hfree a), rfl⟩
    · exact ⟨_, checked_onSideband (decide_eq_true ha) hg (takeAddress_free hfree a), rfl⟩
    · exact ⟨_, checked_onSideband (decide_eq_true (by omega)) hg (mctpControlEff_setEid h0 h1 s), rfl⟩
    · exact ⟨_, checked_onSideband rfl hg (pldmDiscoveryEff_setTid h0 h1 s), rfl⟩
    · exact checked_onSideband rfl hg (readSensor_inRange h1 h25 _ s)
    · exact checked_onSideband rfl hg (readSensor_inRange h26 h29 _ s)
    · exact ⟨_, checked_onSideband (decide_eq_true he) hg rfl, rfl⟩
    · exact ⟨_, checked_onSideband rfl hg rfl, rfl, rfl⟩
    · obtain ⟨t, hex, hpwr, -, hread⟩ := exec_sensorRefresh hg m hh
      exact ⟨t, hex, hpwr, hread⟩
  case testPort =>
    intro c o d s hc ho hl hr hp hconf
    have hbound : o + d.length ≤ 2 ^ 21 := Nat.le_trans ho (by decide)
    exact exec_testAccessPortAccess_served hc hbound hl hr hp hconf ho

end Sys2Proof.Machine

/-! Life-cycle transitions and the tamper response (R538 to R541). Both halt the module, and a halt ends commands and steps, cuts
links and takes rails down: none of that writes a fuse, stages an update or brings back a wiped key. -/

namespace Sys2Proof.Machine

/-! ## The vault: what a halt does not touch -/

/-- The fuses, the staged update and the keys; of the link keys, whose counters move as flits are sealed, whether there are any. -/
structure Vault where
  fuses : Fuses
  update : Option FwUpdate
  memSlots : SMap (List Byte)
  memKey0 : List Byte
  linkEmpty : Bool
  weightSlots : SMap WeightKey
  bindings : SMap Binding
  sessions : List Session

def vault (s : State) : Vault :=
  ⟨s.fuses, s.fw.update, s.sec.memSlots, s.sec.memKey0, s.sec.linkKeys.isEmpty, s.sec.weightSlots, s.sec.bindings,
    s.sec.sessions⟩

theorem foldl_vault {α : Type} {g : State → α → State} (h : ∀ t a, vault (g t a) = vault t) (l : List α) (s : State) :
    vault (l.foldl g s) = vault s :=
  foldl_frame vault h l s

theorem forAll_vault {g : Nat → State → State} (h : ∀ n t, vault (g n t) = vault t) (l : List Nat) (s : State) :
    vault (forAll l g s) = vault s :=
  foldl_vault (fun t n => h n t) l s

theorem vault_of_events {s t : State} (h : eventsOnly s t) : vault t = vault s := by
  obtain ⟨_, _, rfl⟩ := h
  rfl

theorem vault_of_notice {s t : State} (h : noticeOnly s t) : vault t = vault s := by
  obtain ⟨_, _, _, _, _, rfl⟩ := h
  rfl

@[simp] theorem raiseTo_vault (fns : List Nat) (k c su d : Nat) (x : Option (Nat × Nat)) (b : Bool) (s : State) :
    vault (raiseTo fns k c su d x b s) = vault s :=
  vault_of_notice (noticeOnly_raiseTo ..)

@[simp] theorem raisePf0_vault (k su d : Nat) (b : Bool) (s : State) : vault (raisePf0 k su d b s) = vault s :=
  vault_of_notice (noticeOnly_raisePf0 ..)

/-! ## Records of one unit -/

@[simp] theorem setChan_vault (n : Nat) (r : Chan) (s : State) : vault (setChan n r s) = vault s := rfl
@[simp] theorem setQueue_vault (n : Nat) (r : Queue) (s : State) : vault (setQueue n r s) = vault s := rfl
@[simp] theorem setCmd_vault (n : Nat) (r : Cmd) (s : State) : vault (setCmd n r s) = vault s := rfl
@[simp] theorem emit_vault (e : Emit) (s : State) : vault (emit e s) = vault s := rfl
@[simp] theorem setMeta_vault (gl : Nat) (m : LineMeta) (s : State) : vault (setMeta gl m s) = vault s := rfl
@[simp] theorem dramWrite_vault (gl : Nat) (d : List Byte) (s : State) : vault (dramWrite gl d s) = vault s := rfl
@[simp] theorem setMscSet_vault (q : Nat) (l : List MscLine) (s : State) : vault (setMscSet q l s) = vault s := rfl
@[simp] theorem setPwr_vault (g : Pwr → Pwr) (s : State) : vault (setPwr g s) = vault s := rfl
@[simp] theorem updServe_vault (n : Nat) (g : Serve → Serve) (s : State) : vault (updServe n g s) = vault s := rfl
@[simp] theorem updSeq_vault (n slot : Nat) (g : Seq → Seq) (s : State) : vault (updSeq n slot g s) = vault s := rfl
@[simp] theorem updFacet_vault (n : Nat) (g : Facet → Facet) (s : State) : vault (updFacet n g s) = vault s := rfl
@[simp] theorem updCmd_vault (n : Nat) (g : Cmd → Cmd) (s : State) : vault (updCmd n g s) = vault s := rfl
@[simp] theorem updQueue_vault (n : Nat) (g : Queue → Queue) (s : State) : vault (updQueue n g s) = vault s := rfl

@[simp] theorem updChan_vault (c : Nat) (g : Chan → Chan) (s : State) : vault (updChan c g s) = vault s := rfl

@[simp] theorem updCore_vault (c : Nat) (g : Core → Core) (s : State) : vault (updCore c g s) = vault s := rfl

@[simp] theorem updEngine_vault (e : Nat) (g : Engine → Engine) (s : State) : vault (updEngine e g s) = vault s := rfl

@[simp] theorem updPort_vault (p : Nat) (g : Port → Port) (s : State) : vault (updPort p g s) = vault s := rfl

/-! ## DRAM and the memory-side cache (R200 to R212) -/

@[simp] theorem mscWriteBack_vault (l : MscLine) (s : State) : vault (mscWriteBack l s) = vault s := by
  unfold mscWriteBack
  split <;> simp

@[simp] theorem mscPut_vault (mru : Bool) (l : MscLine) (s : State) : vault (mscPut mru l s) = vault s := by
  unfold mscPut
  dsimp only
  split
  · simp
  · split <;> simp

@[simp] theorem mscDrop_vault (gl : Nat) (s : State) : vault (mscDrop gl s) = vault s := by
  simp [mscDrop]

@[simp] theorem mscFlushStack_vault (k : Nat) (s : State) : vault (mscFlushStack k s) = vault s :=
  foldl_vault (g := fun t (e : Nat × List MscLine) => e.2.foldl (fun u l => mscWriteBack l u) t)
    (fun t e => foldl_vault (fun u l => mscWriteBack_vault l u) e.2 t) (s.msc.filter fun e => e.1 / 32768 == k) s

@[simp] theorem degradeChan_vault (ch cause : Nat) (s : State) : vault (degradeChan ch cause s) = vault s := by
  unfold degradeChan
  dsimp only
  split <;> simp

@[simp] theorem countParity_vault (ch : Nat) (out : LineOutcome) (s : State) : vault (countParity ch out s) = vault s := by
  unfold countParity
  split
  · split <;> simp
  · simp

@[simp] theorem noteFix_vault (gl : Nat) (s : State) : vault (noteFix gl s) = vault s := by
  simp [noteFix]

@[simp] theorem dramFix_vault (gl : Nat) (out : LineOutcome) (s : State) : vault (dramFix gl out s) = vault s := by
  unfold dramFix
  dsimp only
  split <;> simp

@[simp] theorem baseRead_vault (cls : Option Nat) (gl hint : Nat) (out : LineOutcome) (s : State) :
    vault (baseRead cls gl hint out s).2 = vault s := by
  unfold baseRead
  split
  · dsimp only
    split
    · simp
    · split <;> simp
  · dsimp only
    split
    · simp
    · dsimp only
      split
      · simp
      · split <;> simp

@[simp] theorem baseWrite_vault (cls : Option Nat) (gl hint off : Nat) (d : List Byte) (key : Nat) (out : LineOutcome)
    (s : State) : vault (baseWrite cls gl hint off d key out s) = vault s := by
  unfold baseWrite
  dsimp only
  split
  · simp
  · split <;> simp

/-! ## Cluster caches and snoop filters (R238 to R246) -/

@[simp] theorem setCacheSet_vault (k : Nat) (l : List CLine) (s : State) : vault (setCacheSet k l s) = vault s := rfl

@[simp] theorem setFilterSet_vault (k : Nat) (l : List FEntry) (s : State) : vault (setFilterSet k l s) = vault s := rfl

@[simp] theorem countCoh_vault (k : Nat) (g : CohCount → CohCount) (s : State) : vault (countCoh k g s) = vault s := by
  unfold countCoh
  split <;> rfl

@[simp] theorem cacheDrop_vault (k gl : Nat) (s : State) : vault (cacheDrop k gl s) = vault s := rfl

@[simp] theorem filterClear_vault (k gl : Nat) (s : State) : vault (filterClear k gl s) = vault s := rfl

@[simp] theorem countCe_vault (k : Nat) (l : CLine) (s : State) : vault (countCe k l s) = vault s := by
  unfold countCe
  split <;> simp

@[simp] theorem poisonBack_vault (k : Nat) (l : CLine) (s : State) : vault (poisonBack k l s) = vault s :=
  (raisePf0_vault ..).trans (mscPut_vault true ⟨l.gl, l.data, true, true, l.keySlot, lineClass s l.gl⟩ s)

@[simp] theorem writeBackLine_vault (k : Nat) (l : CLine) (s : State) : vault (writeBackLine k l s) = vault s := by
  unfold writeBackLine
  split <;> simp

@[simp] theorem surrender_vault (k gl : Nat) (s : State) : vault (surrender k gl s) = vault s := by
  unfold surrender
  split
  · simp
  · split <;> simp

@[simp] theorem invalidateAll_vault (gl : Nat) (s : State) : vault (invalidateAll gl s) = vault s := by
  unfold invalidateAll
  split <;> simp [foldl_vault]

@[simp] theorem filterRoom_vault (gl : Nat) (s : State) : vault (filterRoom gl s) = vault s := by
  unfold filterRoom
  split
  · simp
  · split <;> simp

@[simp] theorem filterRecord_vault (gl : Nat) (m : Bool) (pres : NSet) (s : State) :
    vault (filterRecord gl m pres s) = vault s := by
  unfold filterRecord
  dsimp only
  split <;> simp

@[simp] theorem cacheFill_vault (k : Nat) (l : CLine) (s : State) : vault (cacheFill k l s) = vault s := by
  simp [cacheFill, foldl_vault]

/-! ## Accesses carried out at once (R239 to R252, R263) -/

@[simp] theorem homeWrite_vault (cls : Option Nat) (gl hint off : Nat) (d : List Byte) (s : State) :
    vault (homeWrite cls gl hint off d s) = vault s := by
  unfold homeWrite
  dsimp only
  split <;> simp

@[simp] theorem homeOwn_vault (cls : Option Nat) (gl : Nat) (whole : Bool) (s : State) :
    vault (homeOwn cls gl whole s).2 = vault s := by
  unfold homeOwn
  dsimp only
  split
  · split
    · split <;> simp
    · simp
  · split <;> simp

@[simp] theorem cacheCheck_vault (k gl : Nat) (s : State) : vault (cacheCheck k gl s).2 = vault s := by
  unfold cacheCheck
  split
  · simp
  · split
    · simp
    · split
      · simp
      · split <;> simp

@[simp] theorem clusterStore_vault (cls : Option Nat) (k gl hint off : Nat) (d : List Byte) (s : State) :
    vault (clusterStore cls k gl hint off d s).2 = vault s := by
  unfold clusterStore
  dsimp only
  split
  · split
    · simp
    · split <;> simp [foldl_vault]
  · split
    · simp
    · split <;> simp

@[simp] theorem writeLine_vault (via : Via) (gl hint off : Nat) (d : List Byte) (s : State) :
    vault (writeLine via gl hint off d s).2 = vault s := by
  unfold writeLine
  split
  · unfold clusterWrite
    dsimp only
    split <;> simp
  · simp

theorem faWriteAux_vault (via : Via) (facet hint : Nat) (l : List (Nat × Nat)) (d : List Byte) (s : State) :
    vault (faWriteAux via facet hint l d s).2 = vault s := by
  induction l generalizing d s with
  | nil => rfl
  | cons p rest ih =>
    unfold faWriteAux
    split
    · simp
    · dsimp only
      split
      · simp
      · simp [ih]

@[simp] theorem faWrite_vault (via : Via) (facet hint fa : Nat) (d : List Byte) (s : State) :
    vault (faWrite via facet hint fa d s).2 = vault s :=
  faWriteAux_vault _ _ _ _ _ _

/-! ## Ports, stacks and cores that lose power (R56, R96, R205) -/

@[simp] theorem portsDown_vault (l : List Nat) (s : State) : vault (portsDown l s) = vault s := by
  refine forAll_vault (fun p t => ?_) l s
  split <;> simp

@[simp] theorem selfRefreshHalf_vault (east b : Bool) (s : State) : vault (selfRefreshHalf east b s) = vault s := by
  refine (forAll_vault (fun c t => updChan_vault c _ t) _ _).trans ?_
  split
  · exact forAll_vault mscFlushStack_vault _ s
  · rfl

@[simp] theorem idleFabric_vault (s : State) : vault (idleFabric s) = vault s := by
  simp [idleFabric]

@[simp] theorem powerDownHalf_vault (east : Bool) (s : State) : vault (powerDownHalf east s) = vault s :=
  forAll_vault (fun c t => (forAll_vault (fun e u => updEngine_vault e _ u) _ _).trans (updCore_vault c _ t)) _ _

@[simp] theorem dropJob_vault (k : Nat) (j : ChunkJob) (s : State) : vault (dropJob k j s) = vault s := rfl

@[simp] theorem dropChunks_vault (cores : NSet) (s : State) : vault (dropChunks cores s) = vault s := by
  refine forAll_vault (fun k t => ?_) _ s
  split
  · split <;> simp
  · rfl

@[simp] theorem railsDown_vault (s : State) : vault (railsDown s) = vault s := by
  have h : vault (railsDown s) = vault (powerDownHalf true (powerDownHalf false (dropChunks (List.range 544) s))) := by
    simp [railsDown, vault]
  rw [h, powerDownHalf_vault, powerDownHalf_vault, dropChunks_vault]

/-! ## Sequences that end (R430, R439, R502) -/

@[simp] theorem loseContext_vault (n : Nat) (s : State) : vault (loseContext n s) = vault s := by
  unfold loseContext
  split <;> rfl

@[simp] theorem endCmd_vault (id st run detail : Nat) (ran : Bool) (s : State) :
    vault (endCmd id st run detail ran s) = vault s := by
  unfold endCmd
  split
  · rfl
  · split
    · rfl
    · dsimp only
      split <;> simp

@[simp] theorem meetStatus_vault (id st detail : Nat) (s : State) : vault (meetStatus id st detail s) = vault s := by
  unfold meetStatus
  split
  · rfl
  · split
    · rfl
    · split
      · rfl
      · split
        · dsimp only
          split <;> simp
        · rfl

@[simp] theorem finishCmd_vault (id : Nat) (s : State) : vault (finishCmd id s) = vault s := by
  unfold finishCmd
  split
  · rfl
  · split
    · dsimp only
      split <;> simp
    · rfl

@[simp] theorem endExportCmd_vault (x : Option Export) (st : Nat) (s : State) : vault (endExportCmd x st s) = vault s := by
  unfold endExportCmd
  split
  · split <;> simp
  · rfl

@[simp] theorem leaveSeq_vault (n slot reason status : Nat) (keep : Bool) (s : State) :
    vault (leaveSeq n slot reason status keep s) = vault s := by
  unfold leaveSeq
  split
  · rfl
  · dsimp only
    split <;> simp

@[simp] theorem writeToken_vault (n slot : Nat) (r : List Byte) (s : State) : vault (writeToken n slot r s) = vault s := by
  unfold writeToken
  split
  · rfl
  · dsimp only [countDeadline]
    split <;> split <;> simp

@[simp] theorem writeTokens_vault (n slot : Nat) (l : List (List Byte)) (s : State) :
    vault (writeTokens n slot l s) = vault s := by
  induction l generalizing s with
  | nil => rfl
  | cons r rest ih =>
    unfold writeTokens
    split
    · rfl
    · split <;> simp [ih]

@[simp] theorem writeEnd_vault (n slot : Nat) (s : State) : vault (writeEnd n slot s) = vault s := by
  unfold writeEnd
  split
  · rfl
  · split
    · rfl
    · split
      · rfl
      · dsimp only
        split <;> simp

@[simp] theorem fireOut_vault (n : Nat) (q : Seq) (tail : Nat) (s : State) : vault (fireOut n q tail s) = vault s := by
  unfold fireOut
  split
  · rfl
  · exact vault_of_events (eventsOnly_fireSource ..)

@[simp] theorem flushSeq_vault (n slot : Nat) (s : State) : vault (flushSeq n slot s) = vault s := by
  unfold flushSeq
  split
  · rfl
  · dsimp only
    split
    · split <;> simp
    · simp

@[simp] theorem leaveNow_vault (n slot reason status : Nat) (keep : Bool) (s : State) :
    vault (leaveNow n slot reason status keep s) = vault s := by
  simp [leaveNow]

theorem winPutAux_vault (n : Nat) (v : Serve) (l : List (Nat × Nat)) (d : List Byte) (s : State) :
    vault (winPutAux n v l d s) = vault s := by
  induction l generalizing d s with
  | nil => rfl
  | cons p r ih => simp [winPutAux, ih]

@[simp] theorem winPut_vault (n : Nat) (v : Serve) (off : Nat) (d : List Byte) (s : State) :
    vault (winPut n v off d s) = vault s :=
  winPutAux_vault _ _ _ _ _

@[simp] theorem syncRefs_vault (n : Nat) (old new : Serve) (s : State) : vault (syncRefs n old new s) = vault s := by
  simp [syncRefs, forAll_vault]

@[simp] theorem syncSlot_vault (n : Nat) (old new : Serve) (slot : Nat) (q : Seq) (s : State) :
    vault (syncSlot n old new slot q s) = vault s := by
  unfold syncSlot
  dsimp only
  split <;> split <;> simp

@[simp] theorem syncServe_vault (n : Nat) (old : Serve) (s : State) : vault (syncServe n old s) = vault s := by
  unfold syncServe
  split <;> simp [foldl_vault]

theorem synced_vault {g : State → State} (h : ∀ t, vault (g t) = vault t) (n : Nat) (s : State) :
    vault (synced n g s) = vault s := by
  unfold synced
  split <;> simp [h]

/-! ## Reads leave the power state alone -/

@[simp] theorem downgradeOwner_vault (gl : Nat) (s : State) : vault (downgradeOwner gl s) = vault s := by
  unfold downgradeOwner
  split
  · rfl
  · split
    · rfl
    · simp

@[simp] theorem homeRead_vault (cls : Option Nat) (gl hint : Nat) (s : State) : vault (homeRead cls gl hint s).2 = vault s := by
  unfold homeRead
  split
  · split <;> simp
  · simp

@[simp] theorem clusterFetch_vault (cls : Option Nat) (k gl hint : Nat) (s : State) :
    vault (clusterFetch cls k gl hint s).2 = vault s := by
  unfold clusterFetch
  split
  · simp
  · dsimp only
    split
    · simp
    · split <;> simp

@[simp] theorem clusterRead_vault (cls : Option Nat) (k gl hint : Nat) (s : State) :
    vault (clusterRead cls k gl hint s).2 = vault s := by
  unfold clusterRead
  dsimp only
  split <;> simp

@[simp] theorem readLine_vault (via : Via) (gl hint : Nat) (s : State) : vault (readLine via gl hint s).2 = vault s := by
  unfold readLine
  split <;> simp

theorem faReadAux_vault (via : Via) (facet hint : Nat) (l : List (Nat × Nat)) (acc : List Byte) (s : State) :
    vault (faReadAux via facet hint l acc s).2 = vault s := by
  induction l generalizing acc s with
  | nil => rfl
  | cons p rest ih =>
    unfold faReadAux
    split
    · rfl
    · dsimp only
      split
      · simp
      · simp [ih]

@[simp] theorem readFence_vault (q : Queue) (i : Nat) (s : State) : vault (readFence q i s).2 = vault s := by
  have h : vault (faRead (facetVia s q.facet) q.facet 0 (fenceAddr q i) 8 s).2 = vault s := faReadAux_vault ..
  unfold readFence
  dsimp only
  split <;> exact h

/-! ## The end of a command leaves the power state alone -/

theorem readWaits_vault (q : Queue) (l : List (Nat × Nat)) (acc : List Bool) (s : State) :
    vault (readWaits q l acc s).2 = vault s := by
  induction l generalizing acc s with
  | nil => rfl
  | cons x l ih =>
    unfold readWaits
    dsimp only
    split
    · simp
    · simp [ih]

@[simp] theorem markReady_vault (id : Nat) (s : State) : vault (markReady id s) = vault s := by
  unfold markReady
  split
  · rfl
  · dsimp only
    split
    · rfl
    · split
      · rfl
      · split <;> rfl

@[simp] theorem checkWaits_vault (id : Nat) (s : State) : vault (checkWaits id s) = vault s := by
  unfold checkWaits
  split
  · rfl
  · split
    · rfl
    · split
      · rfl
      · dsimp only
        split
        · simp [endUnstarted, readWaits_vault]
        · split
          · simp [endUnstarted, readWaits_vault]
          · split
            · split <;> simp [readWaits_vault]
            · split <;> simp [readWaits_vault]

@[simp] theorem recheckWaits_vault (facet addr : Nat) (s : State) : vault (recheckWaits facet addr s) = vault s :=
  forAll_vault checkWaits_vault _ s

@[simp] theorem countRegress_vault (s : State) : vault (countRegress s) = vault s := rfl

@[simp] theorem signalFence_vault (q : Queue) (i v : Nat) (s : State) : vault (signalFence q i v s).2 = vault s := by
  unfold signalFence
  dsimp only
  split
  · simp
  · split
    · simp
    · simp

@[simp] theorem signalOwn_vault (id : Nat) (s : State) : vault (signalOwn id s) = vault s := by
  unfold signalOwn
  split
  · rfl
  · dsimp only
    split
    · rfl
    · split
      · rfl
      · split
        · simp
        · simp only [apply_ite vault, signalFence_vault, loseContext_vault, setCmd_vault, ite_self]

@[simp] theorem freeCores_vault (id : Nat) (cs : List Nat) (s : State) : vault (freeCores id cs s) = vault s :=
  forAll_vault (fun _ _ => updCore_vault _ _ _) cs s

@[simp] theorem leavePlacement_vault (id : Nat) (c : Cmd) (s : State) : vault (leavePlacement id c s) = vault s :=
  (updFacet_vault _ _ _).trans (freeCores_vault id c.cores s)

@[simp] theorem countCompletion_vault (c : Cmd) (s : State) : vault (countCompletion c s) = vault s := rfl

@[simp] theorem fireSource_vault (n src : Nat) (g : Glint) (s : State) : vault (fireSource n src g s) = vault s :=
  vault_of_events (eventsOnly_fireSource n src g s)

@[simp] theorem writeRecord_vault (n : Nat) (r : List Byte) (s : State) : vault (writeRecord n r s) = vault s := by
  unfold writeRecord
  split
  · rfl
  · dsimp only
    split <;> simp

@[simp] theorem putRecord_vault (n : Nat) (r : List Byte) (s : State) : vault (putRecord n r s) = vault s := by
  unfold putRecord
  split
  · rfl
  · split <;> simp

@[simp] theorem pushFlit_vault (p : Nat) (f : TxFlit) (s : State) : vault (pushFlit p f s) = vault s := by
  unfold pushFlit
  dsimp only
  split <;> rfl

@[simp] theorem addAcct_vault (id : Nat) (g : Acct → Acct) (s : State) : vault (addAcct id g s) = vault s := by
  unfold addAcct
  split
  · rfl
  · split
    · rfl
    · cases cmdOf s id <;> rfl

@[simp] theorem chargeTxn_vault (facet : Option Nat) (o : Option VOut) (t : Txn) (s : State) :
    vault (chargeTxn facet o t s) = vault s := by
  unfold chargeTxn
  split
  · rfl
  · split
    · split <;> rfl
    · split
      · rfl
      · split
        · rfl
        · exact addAcct_vault ..

@[simp] theorem voxEvent_vault (kind subject : Nat) (facet : Option Nat) (s : State) :
    vault (voxEvent kind subject facet s) = vault s := raiseTo_vault ..

theorem sendKey_nonempty {s : State} {n peer : Nat} {ep : Bool} {k : LinkKey} (h : sendKey s n ep peer = some k) :
    s.sec.linkKeys.isEmpty = false := by
  unfold sendKey at h
  rcases hl : s.sec.linkKeys with _ | ⟨e, l⟩
  · simp [hl] at h
  · rfl

theorem SMap.put_isEmpty {α : Type} (m : SMap α) (n : Nat) (x : α) : (SMap.put m n x).isEmpty = false := by
  rcases hp : SMap.put m n x with _ | ⟨e, l⟩
  · simpa [hp] using SMap.look_put_self m n x
  · rfl

/-- Sealing a flit moves the counter of a key that is there. -/
theorem sealTxn_vault {s : State} (h : s.sec.linkKeys.isEmpty = false) (k : LinkKey) (peer : Nat) (t : Txn) :
    vault (sealTxn k peer t s).2 = vault s := by
  simp [sealTxn, setLinkKey, vault, SMap.put_isEmpty, h]

@[simp] theorem sendTxn_vault (m : Send) (s : State) : vault (sendTxn m s).2 = vault s := by
  have hseal (key : Option LinkKey) (hk : ∀ k, key = some k → s.sec.linkKeys.isEmpty = false) (peer : Nat) (t : Txn) :
      vault (match key with | some k => sealTxn k peer t s | none => ((t, 0), s)).2 = vault s := by
    cases key with
    | none => rfl
    | some k => exact sealTxn_vault (hk k rfl) k peer t
  have hkey (c : Bool) (n peer : Nat) (ep : Bool) (k : LinkKey) (h : (if c then sendKey s n ep peer else none) = some k) :
      s.sec.linkKeys.isEmpty = false := by
    cases c with
    | false => simp at h
    | true => exact sendKey_nonempty h
  unfold sendTxn
  dsimp only
  split
  · rfl
  · split
    case h_1 n _ =>
      generalize hg : (if confFacet s n then sendKey s (m.facet.getD 0) (m.kind == 4) m.dest else none) = key
      split
      · simp
      · split
        · simp
        · rw [pushFlit_vault, chargeTxn_vault]
          cases m.out with
          | none => exact hseal key (fun k hk => hkey _ _ _ _ k (hg.trans hk)) _ _
          | some o => exact hseal key (fun k hk => hkey _ _ _ _ k (hg.trans hk)) _ _
    case h_2 =>
      simp only [Bool.false_and, Bool.false_eq_true, if_false]
      split
      · simp
      · rw [pushFlit_vault, chargeTxn_vault]
        cases m.out <;> rfl

@[simp] theorem answerDispatch_vault (c : Cmd) (r : Remote) (s : State) : vault (answerDispatch c r s) = vault s :=
  sendTxn_vault _ s

@[simp] theorem completeCmd_vault (id : Nat) (s : State) : vault (completeCmd id s) = vault s := by
  have hs := signalOwn_vault id s
  unfold completeCmd
  generalize signalOwn id s = t at hs ⊢
  dsimp only
  split
  · exact hs
  next c _ =>
    have hc : vault (countCompletion c (leavePlacement id c { t with cmds := SMap.del t.cmds id })) = vault s :=
      (countCompletion_vault ..).trans ((leavePlacement_vault ..).trans hs)
    split <;> simp [hc]

/-! ## The steps of a halt (R502, R503) -/

@[simp] theorem haltOne_vault (id : Nat) (s : State) : vault (haltOne id s) = vault s := by
  rw [haltOne, completeCmd_vault, finishCmd_vault, meetStatus_vault]
  rfl

@[simp] theorem haltCommands_vault (s : State) : vault (haltCommands s) = vault s :=
  forAll_vault (g := haltOne) haltOne_vault _ s

@[simp] theorem endStep_vault (n st : Nat) (s : State) : vault (endStep n st s) = vault s := by
  unfold endStep
  split
  · rfl
  · split
    · rfl
    · refine foldl_vault (fun t slot => ?_) _ s
      split
      · exact leaveNow_vault ..
      · rfl

@[simp] theorem haltSteps_vault (s : State) : vault (haltSteps s) = vault s := by
  refine forAll_vault (fun n t => ?_) _ s
  split
  · exact synced_vault (endStep_vault n stComputeReset) n t
  · rfl

/-! ## The halt of R539 and R540, and the keys it wipes -/

@[simp] theorem hardHalt_vault (s : State) : vault (hardHalt s) = vault s := by
  unfold hardHalt
  dsimp only
  rw [setPwr_vault]
  split
  · simp
  · rfl

@[simp] theorem wipeCore_vault (c : Nat) (s : State) : vault (wipeCore c s) = vault s := by
  unfold wipeCore
  split
  · exact (forAll_vault (fun e t => updEngine_vault e _ t) _ _).trans (updCore_vault c _ s)
  · rfl

/-- A wiped vault: no key of any kind is left. -/
def Vault.wiped (v : Vault) : Vault :=
  { v with memSlots := [], memKey0 := [], linkEmpty := true, weightSlots := [], bindings := [], sessions := [] }

theorem wipe_vault (s : State) : vault (wipe s) = (vault s).wiped :=
  forAll_vault wipeCore_vault (List.range 544) _

theorem wipeCore_pwr (c : Nat) (s : State) : (wipeCore c s).pwr = s.pwr := by
  unfold wipeCore
  split
  · exact (forAll_pwr (fun e t => (updEngine_pwr_serve e _ t).1) _ _).trans (updCore_pwr_serve c _ s).1
  · rfl

@[simp] theorem wipe_pwr (s : State) : (wipe s).pwr = s.pwr :=
  forAll_pwr wipeCore_pwr (List.range 544) _

theorem raiseHeld_vault (s : State) : vault (raiseHeld s) = vault s :=
  foldl_vault (g := fun t (e : List Nat × Glint) => deliverAll e.2 e.1 t)
    (fun t e => vault_of_events (eventsOnly_deliverAll e.2 e.1 t)) s.fw.held _

theorem abandonUpdate_vault (s : State) : vault (abandonUpdate s) = { vault s with update := none } :=
  raiseHeld_vault (setUpdate none s)

theorem hardHalt_pwr (s : State) : (hardHalt s).pwr.state = 4 ∧ (hardHalt s).pwr.alert = true ∧
    (hardHalt s).pwr.lockedUntilPerst = true := by
  unfold hardHalt
  dsimp only
  rw [setPwr_pwr]
  exact ⟨rfl, rfl, rfl⟩

/-- What a state holds whose vault is a wiped one. -/
theorem of_vault_wiped {s : State} {v : Vault} (h : vault s = v.wiped) :
    s.fuses = v.fuses ∧ s.fw.update = v.update ∧ s.sec.memSlots = [] ∧ s.sec.memKey0 = [] ∧ s.sec.linkKeys = [] ∧
      s.sec.weightSlots = [] ∧ s.sec.bindings = [] ∧ s.sec.sessions = [] := by
  simpa [vault, Vault.wiped] using h

theorem raisePf0_tampered (k su d : Nat) (b : Bool) (s : State) : (raisePf0 k su d b s).sec.tampered = s.sec.tampered := by
  obtain ⟨_, _, _, _, _, h⟩ := noticeOnly_raisePf0 k su d b s
  rw [h]

theorem raisePf0_lcDone (k su d : Nat) (b : Bool) (s : State) : (raisePf0 k su d b s).sec.lcDone = s.sec.lcDone := by
  obtain ⟨_, _, _, _, _, h⟩ := noticeOnly_raisePf0 k su d b s
  rw [h]

/-! ## Tamper (R540, R541) -/

/-- What a tamper marks on the module that it has wiped and halted. -/
def markTamper (s : State) : State :=
  setSec (fun c => { c with tampered := true }) (setPwr (fun p => { p with stage := if p.stage = 5 then 5 else 6 }) s)

theorem markTamper_vault (s : State) : vault (markTamper s) = vault s := rfl

theorem markTamper_pwr (s : State) : (markTamper s).pwr.state = s.pwr.state ∧ (markTamper s).pwr.alert = s.pwr.alert ∧
    (markTamper s).pwr.lockedUntilPerst = s.pwr.lockedUntilPerst := ⟨rfl, rfl, rfl⟩

/-- The module as a tamper leaves it, before the event is raised. -/
def tampered (s : State) : State := markTamper (hardHalt (wipe (abandonUpdate s)))

theorem tampered_vault (s : State) : vault (tampered s) = ({ vault s with update := none } : Vault).wiped := by
  rw [tampered, markTamper_vault, hardHalt_vault, wipe_vault, abandonUpdate_vault]

theorem tampered_pwr (s : State) : (tampered s).pwr.state = 4 ∧ (tampered s).pwr.alert = true ∧
    (tampered s).pwr.lockedUntilPerst = true := by
  obtain ⟨h4, halert, hlock⟩ := markTamper_pwr (hardHalt (wipe (abandonUpdate s)))
  rw [tampered, h4, halert, hlock]
  exact hardHalt_pwr _

section Tamper
variable {k : Nat} {s : State} (hk : k < 4)
include hk

theorem exec_tamper_blank (h0 : s.fuses.lcState = 0) : exec (.tamper k) s = .next s :=
  (checked_ok (decide_eq_true hk) s _).trans (congrArg _ (if_pos (by simp [h0])))

theorem exec_tamper (ha : s.pwr.aonGood = true) (h0 : s.fuses.lcState ≠ 0) :
    exec (.tamper k) s = .next (raisePf0 evTamper k (mcNow s) false (tampered s)) :=
  (checked_ok (decide_eq_true hk) s _).trans (congrArg _ (if_neg (by simp [ha, h0])))

end Tamper

theorem raised_tampered (k : Nat) (s : State) {u : State} (hu : u = raisePf0 evTamper k (mcNow s) false (tampered s)) :
    u.sec.tampered = true ∧ u.sec.memSlots = [] ∧ u.sec.memKey0 = [] ∧ u.sec.linkKeys = [] ∧ u.sec.weightSlots = [] ∧
      u.sec.bindings = [] ∧ u.sec.sessions = [] ∧ u.pwr.state = 4 ∧ u.pwr.alert = true ∧ u.pwr.lockedUntilPerst = true ∧
      u.fw.update = none ∧ u.fuses = s.fuses := by
  have hv : vault u = _ := (congrArg vault hu).trans ((raisePf0_vault ..).trans (tampered_vault s))
  have ht : u.sec.tampered = true := (congrArg (·.sec.tampered) hu).trans (raisePf0_tampered ..)
  have hp : u.pwr = (tampered s).pwr := (congrArg State.pwr hu).trans (raisePf0_pwr ..)
  obtain ⟨hfuses, hupdate, hslots, hkey0, hlinks, hweights, hbind, hsess⟩ := of_vault_wiped hv
  obtain ⟨h4, halert, hlock⟩ := tampered_pwr s
  rw [hp]
  exact ⟨ht, hslots, hkey0, hlinks, hweights, hbind, hsess, h4, halert, hlock, hupdate, hfuses⟩

/-! ## Life-cycle transitions (R538, R539) -/

/-- What a life-cycle transition answers, and what it does where it is accepted. -/
def lcAnswer (fn : Nat) (w : Option Nat) (b : List Byte) (c d : Bool) (t : State) : (Nat × List Byte) × State :=
  if fn != 0 then refuse syDenied t
  else match lcAuthority t.fuses.lcState (lcTarget b) with
  | none => refuse syDenied t
  | some need =>
    if t.sec.nonce != some (lcNonce b) || !lcAuthorised t need w c d then refuse syRejected t
    else acceptWith [] (lcAct (lcTarget b) (claimHash b) t)

section Transition
variable {w : Option Nat} {b : List Byte} {c d : Bool} {s : State} (hb : field b 0 1 = 0x21)

include hb in
theorem exec_lcTransition (f : Nat) :
    exec (.lcTransition f w b c d) s = checked (okFn f) s (vendorOp f (lcAnswer f w b c d)) := by
  have hop : lcTransitionEff f w b c d = vendorOp f (lcAnswer f w b c d) := funext fun _ => if_neg (by simp [hb])
  exact congrArg (checked (okFn f) s) hop

variable (hu : hostUp s = true)
include hb hu

theorem exec_lcTransition_denied {f : Nat} (hf : f < 64) (h0 : f ≠ 0) (he : fnExists s f = true) :
    exec (.lcTransition f w b c d) s = .next (vendorSend f syDenied [] s) :=
  (exec_lcTransition hb f).trans (checked_vendorOp_refuses hf hu he (if_pos (by simpa using h0)))

theorem exec_lcTransition_unlisted (h : lcAuthority s.fuses.lcState (lcTarget b) = none) :
    exec (.lcTransition 0 w b c d) s = .next (vendorSend 0 syDenied [] s) :=
  (exec_lcTransition hb 0).trans (checked_vendorOp_refuses (by decide) hu rfl (by simp [lcAnswer, h]))

variable {need : Nat} (h : lcAuthority s.fuses.lcState (lcTarget b) = some need)
include h

theorem exec_lcTransition_rejected (hr : s.sec.nonce ≠ some (lcNonce b) ∨ lcAuthorised s need w c d = false) :
    exec (.lcTransition 0 w b c d) s = .next (vendorSend 0 syRejected [] s) := by
  have hbad : (s.sec.nonce != some (lcNonce b) || !lcAuthorised s need w c d) = true := by simpa using hr
  exact (exec_lcTransition hb 0).trans (checked_vendorOp_refuses (by decide) hu rfl (by simp [lcAnswer, h, hbad]))

theorem exec_lcTransition_done (hn : s.sec.nonce = some (lcNonce b)) (hl : lcAuthorised s need w c d = true) :
    exec (.lcTransition 0 w b c d) s = .next (vendorSend 0 syOk [] (lcAct (lcTarget b) (claimHash b) s)) :=
  (exec_lcTransition hb 0).trans (checked_vendorOp_acts (by decide) hu rfl (by simp [lcAnswer, h, hn, hl]))

end Transition

/-- What a transition burns: the state, on the claim the owner's key hash, and whether the identity keys are there. -/
def lcFuses (source target ownerKey : Nat) (u : Fuses) : Fuses :=
  { u with
    lcState := target, ownerKey := if source = 2 && target = 3 then ownerKey else u.ownerKey
    identityKeys := if target = 5 then false else if target = 2 then true else u.identityKeys }

theorem lcFuses_claim (source target ownerKey : Nat) (u : Fuses) (hs : source = 2) (ht : target = 3) :
    (lcFuses source target ownerKey u).ownerKey = ownerKey :=
  if_pos (by simp [hs, ht])

theorem lcFuses_keeps {source target : Nat} (ownerKey : Nat) (u : Fuses) (h : source ≠ 2 ∨ target ≠ 3) :
    (lcFuses source target ownerKey u).ownerKey = u.ownerKey :=
  if_neg (by simp; omega)

/-- The marks and the fuses of a transition, on the module that it has halted and wiped. -/
def burn (source target ownerKey : Nat) (s : State) : State :=
  let s1 := setSec (fun c => { c with lcDone := true }) s
  { s1 with fuses := lcFuses source target ownerKey s1.fuses }

theorem burn_vault (source target ownerKey : Nat) (s : State) : vault (burn source target ownerKey s) =
    { vault s with fuses := lcFuses source target ownerKey s.fuses } := rfl

theorem burn_pwr (source target ownerKey : Nat) (s : State) : (burn source target ownerKey s).pwr = s.pwr := rfl

theorem burn_lcDone (source target ownerKey : Nat) (s : State) : (burn source target ownerKey s).sec.lcDone = true := rfl

theorem lcAct_eq (target ownerKey : Nat) (s : State) : lcAct target ownerKey s =
    raisePf0 evLcChanged target 0 false (burn s.fuses.lcState target ownerKey (wipe (hardHalt s))) := rfl

theorem lcAct_vault (target ownerKey : Nat) (s : State) : vault (lcAct target ownerKey s) =
    ({ vault s with fuses := lcFuses s.fuses.lcState target ownerKey s.fuses } : Vault).wiped := by
  have hv : vault (wipe (hardHalt s)) = (vault s).wiped := by rw [wipe_vault, hardHalt_vault]
  have hfuses : (wipe (hardHalt s)).fuses = s.fuses := (of_vault_wiped hv).1
  rw [lcAct_eq, raisePf0_vault, burn_vault, hv, hfuses]
  rfl

theorem lcAct_lcDone (target ownerKey : Nat) (s : State) : (lcAct target ownerKey s).sec.lcDone = true := by
  rw [lcAct_eq, raisePf0_lcDone, burn_lcDone]

theorem lcAct_pwr (target ownerKey : Nat) (s : State) : (lcAct target ownerKey s).pwr = (hardHalt s).pwr := by
  rw [lcAct_eq, raisePf0_pwr, burn_pwr, wipe_pwr]

theorem vendorSend_pwr_sec (f st : Nat) (d : List Byte) (s : State) :
    (vendorSend f st d s).pwr = s.pwr ∧ (vendorSend f st d s).sec = s.sec := ⟨rfl, rfl⟩

theorem vendorSend_vault (f st : Nat) (d : List Byte) (s : State) : vault (vendorSend f st d s) = vault s := rfl

/-- A transition that is carried out, with its answer sent. -/
theorem lcAct_leaves (target ownerKey : Nat) (s : State) {u : State} (hu : u = vendorSend 0 syOk [] (lcAct target ownerKey s)) :
    u.fuses = lcFuses s.fuses.lcState target ownerKey s.fuses ∧ u.sec.lcDone = true ∧ u.sec.memSlots = [] ∧ u.sec.memKey0 = [] ∧
      u.sec.linkKeys = [] ∧ u.sec.weightSlots = [] ∧ u.sec.bindings = [] ∧ u.pwr.state = 4 ∧ u.pwr.lockedUntilPerst = true := by
  have hv : vault u = ({ vault s with fuses := lcFuses s.fuses.lcState target ownerKey s.fuses } : Vault).wiped := by
    rw [hu, vendorSend_vault, lcAct_vault]
  have hd : u.sec.lcDone = true := by rw [hu, (vendorSend_pwr_sec ..).2, lcAct_lcDone]
  have hp : u.pwr = (hardHalt s).pwr := by rw [hu, (vendorSend_pwr_sec ..).1, lcAct_pwr]
  obtain ⟨hfuses, -, hslots, hkey0, hlinks, hweights, hbind, -⟩ := of_vault_wiped hv
  obtain ⟨h4, -, hlock⟩ := hardHalt_pwr s
  rw [hp]
  exact ⟨hfuses, hd, hslots, hkey0, hlinks, hweights, hbind, h4, hlock⟩

theorem lcTransition_leaves {target ownerKey : Nat} {s u : State} (hu : u = vendorSend 0 syOk [] (lcAct target ownerKey s)) :
    u.fuses.lcState = target ∧ u.sec.lcDone = true ∧ (s.fuses.lcState = 2 → target = 3 → u.fuses.ownerKey = ownerKey) ∧
      (s.fuses.lcState ≠ 2 ∨ target ≠ 3 → u.fuses.ownerKey = s.fuses.ownerKey) ∧
      u.sec.memSlots = [] ∧ u.sec.memKey0 = [] ∧ u.sec.linkKeys = [] ∧ u.sec.weightSlots = [] ∧ u.sec.bindings = [] ∧
      u.pwr.state = 4 ∧ u.pwr.lockedUntilPerst = true := by
  obtain ⟨hfuses, hdone, hkeys⟩ := lcAct_leaves target ownerKey s hu
  rw [hfuses]
  exact ⟨rfl, hdone, lcFuses_claim _ _ _ _, lcFuses_keeps _ _, hkeys⟩

/-- Settles O57: a transition that R538 lists halts and wipes before it burns its fuses, and a tamper wipes before it halts; nothing
in a halt brings back a key. -/
theorem lifeCycleAndTamper : Obligations.LifeCycleAndTamper := by
  unfold Obligations.LifeCycleAndTamper
  refine ⟨?_, fun k s hk ha => ⟨exec_tamper_blank hk, fun h0 => ⟨_, exec_tamper hk ha h0, raised_tampered k s rfl⟩⟩⟩
  rintro w b c d s hu hb _ rfl
  exact ⟨fun f hf h0 he => exec_lcTransition_denied hb hu hf h0 he, exec_lcTransition_unlisted hb hu, fun need h =>
    ⟨exec_lcTransition_rejected hb hu h, fun hn hl => ⟨_, exec_lcTransition_done hb hu h hn hl, lcTransition_leaves rfl⟩⟩⟩

end Sys2Proof.Machine
